-- ==== Sys2Proof/Word.lean ====
section
/-! DEFINITION. The word types of the part: bytes of memory, the 32-bit registers of a thread, and
the 64-bit values of counters and addresses. -/
namespace Sys2Proof

/-- A byte of memory (R7 stores every multi-byte field little-endian over these). -/
abbrev Byte := BitVec 8

/-- A thread register x0–x63 (32 bits; *Thread Groups and the Instruction List*, Mechanism). -/
abbrev Word := BitVec 32

/-- A 64-bit value: addresses, object values, times and sequence pairs. -/
abbrev DWord := BitVec 64

/-- The authority an access carries: the port it arrives on (R12, Table 0-4). -/
inductive Authority where
  | host
  | tray
  | debug
  | self_
  | tenant (vf : Nat)
  | peer
  deriving DecidableEq, Repr

/-- What MEMORY finds of one stack: whether it trained (or its restored training held), its serial and its
temperature in units of 0.125 °C (R59, R72). -/
structure StackResult where
  stack : Nat
  trained : Bool
  serial : Nat
  temp : Int
  deriving DecidableEq, Repr

/-- What ADMIT finds of one core: the first failing pattern of each of its two runs, and the failing DSA
data rows and columns (R70, R71). -/
structure AdmitResult where
  core : Nat
  firstRun : Option Nat
  secondRun : Option Nat
  badRows : List Nat
  badCols : List Nat
  deriving DecidableEq, Repr

/-- How a pattern of a test fails on a core: the entry of the pack, the pass of the pattern, the errors of failing cells in
that pass, and whether the signature of a ROM pattern differs (R409). -/
structure PatFault where
  core : Nat
  entry : Nat
  pass : Nat
  cells : List (Nat × Int)
  rom : Bool
  deriving DecidableEq, Repr

/-- A Neleraelm flit or negotiation frame as it arrives at a port: its class code and its bytes. -/
structure Flit where
  bytes : List Byte
  deriving DecidableEq, Repr

end Sys2Proof
end

