-- ==== Sys2Proof/Config.lean ====
section
/-! DEFINITION. What the spec leaves to the part or gives no value for: the free values, and the
constants of one part. -/
namespace Sys2Proof.Config

/-- The n-th draw of the part: a value nothing in the model can see. It stands for the boot nonce (R50),
the session start, the screening draws and every other value the spec leaves open (log 10). -/
opaque free : Nat → Nat

/-- The public keys of Chanter's ROM, as points of P-384: for firmware (0), test packs (1) and vendor tokens (2). The spec
gives no key, so they are free (log 11). -/
opaque publicKey (key : Nat) : Nat × Nat

/-- The word that FRCP, FRSQ, FEXP2 and FLOG2 return where it lies within the bound of R208, which fixes no value (log 12). -/
opaque floatPick (op : Nat) (x : BitVec 32) : BitVec 32

/-- Whether a core fetches a line of its instruction cache again: R203 leaves it to the part (log 171). -/
opaque refetches (core line n : Nat) : Bool

/-- The result of FRCP, FRSQ, FEXP2 or FLOG2 on an input for which R208 states none: a zero, an infinity,
a negative number under a root or a logarithm, or a result outside the format (log 12). -/
opaque floatOpen (op : Nat) (x : BitVec 32) : BitVec 32

/-- MIN_MARGIN of the ROM pack, for which the spec gives no value (log 56). -/
opaque romMargin : Nat

/-- A value that a transfer which lost its data leaves behind, per address (log 10). -/
opaque freeByte (draw addr : Nat) : Byte

end Sys2Proof.Config
end

