-- ==== Sys2Proof/Machine/SMap.lean ====
section
/-! DEFINITION. Sparse maps: lists of key and value pairs with strictly rising keys. The register
file, the contexts and every other table of the part that is addressed by number are held this way,
and memory is the same thing over bytes, with the extra rule that no listed byte is 0. -/
namespace Sys2Proof.Machine

/-- A sparse map from numbers to values. -/
abbrev SMap (α : Type) := List (Nat × α)

/-- The value listed at key `k`. -/
def SMap.find {α : Type} : List (Nat × α) → Nat → Option α
  | [], _ => none
  | (j, v) :: r, k => if j = k then some v else SMap.find r k

/-- The value at key `k`, or `d` where none is listed. -/
def SMap.get {α : Type} (m : List (Nat × α)) (k : Nat) (d : α) : α := (SMap.find m k).getD d

/-- The map with `v` at key `k`. -/
def SMap.put {α : Type} : List (Nat × α) → Nat → α → List (Nat × α)
  | [], k, v => [(k, v)]
  | (j, w) :: r, k, v =>
    if k < j then (k, v) :: (j, w) :: r
    else if k = j then (k, v) :: r
    else (j, w) :: SMap.put r k v

/-- The map with nothing at key `k`. -/
def SMap.drop {α : Type} : List (Nat × α) → Nat → List (Nat × α)
  | [], _ => []
  | (j, w) :: r, k => if j = k then SMap.drop r k else (j, w) :: SMap.drop r k

/-- The keys of `m` rise strictly and all lie above `b`. -/
def SMap.above {α : Type} : Nat → List (Nat × α) → Bool
  | _, [] => true
  | b, (j, _) :: r => b < j && SMap.above j r

/-- The canonical form of a sparse map: keys strictly rising. -/
def SMap.wf {α : Type} : List (Nat × α) → Bool
  | [] => true
  | (j, _) :: r => SMap.above j r

/-- What a byte that nothing has written reads as (DESIGN CHOICE, log 3). -/
def Memory.blank : Byte := 0#8

/-- The byte of a memory at an address. -/
def Memory.read (m : List Host.Cell) (a : Nat) : Byte := SMap.get m a Memory.blank

/-- The memory with byte `b` at address `a`; writing the blank byte removes the entry. -/
def Memory.write (m : List Host.Cell) (a : Nat) (b : Byte) : List Host.Cell :=
  if b = Memory.blank then SMap.drop m a else SMap.put m a b

/-- The canonical form of a memory: addresses strictly rising, no blank byte listed. -/
def Memory.wf (m : List Host.Cell) : Bool := SMap.wf m && m.all (fun c => c.2 != Memory.blank)

/-- The memory with the bytes `bs` from address `a` up. -/
def Memory.writeBytes (m : List Host.Cell) (a : Nat) : List Byte → List Host.Cell
  | [] => m
  | b :: bs => Memory.writeBytes (Memory.write m a b) (a + 1) bs

/-- The `n` bytes from address `a` up. -/
def Memory.readBytes (m : List Host.Cell) (a : Nat) : Nat → List Byte
  | 0 => []
  | n + 1 => Memory.read m a :: Memory.readBytes m (a + 1) n

/-- The memory with every byte of `[lo, hi)` blank (zeroing with a valid code, R227, R238). -/
def Memory.clear (m : List Host.Cell) (lo hi : Nat) : List Host.Cell :=
  m.filter (fun c => c.1 < lo || hi ≤ c.1)

/-- The `n` bytes of `f 0, f 1, …` written from address `a` up. -/
def Memory.writeFn (m : List Host.Cell) (a : Nat) (f : Nat → Byte) : Nat → List Host.Cell
  | 0 => m
  | n + 1 => Memory.write (Memory.writeFn m a f n) (a + n) (f n)

end Sys2Proof.Machine
end

