-- ==== Sys2Proof/Machine/Bits.lean ====
section
/-! DEFINITION. Bit fields, byte order, serial arithmetic, and the check codes of the spec: the
CRC-16 of the descriptors, the CRC-32 of flits and records, the CRC-64 of the Serac signatures and the
SHA-256 of FIPS 180-4. -/
namespace Sys2Proof.Machine

/-- Bits [hi:lo] of a number (R6). -/
def bits (x hi lo : Nat) : Nat := (x / 2 ^ lo) % 2 ^ (hi + 1 - lo)

/-- Bit k of a number. -/
def bit (x k : Nat) : Bool := (x / 2 ^ k) % 2 = 1

/-- The number with bits [hi:lo] replaced by v. -/
def setBits (x hi lo v : Nat) : Nat :=
  x - bits x hi lo * 2 ^ lo + (v % 2 ^ (hi + 1 - lo)) * 2 ^ lo

/-- The number with bit k set. -/
def setBit (x k : Nat) : Nat := if bit x k then x else x + 2 ^ k

/-- The number with bit k clear. -/
def clearBit (x k : Nat) : Nat := if bit x k then x - 2 ^ k else x

/-- 1 for true, 0 for false. -/
def b2n (b : Bool) : Nat := if b then 1 else 0

/-- The number of bits set among the low n bits. -/
def popcount (x : Nat) : Nat → Nat
  | 0 => 0
  | n + 1 => popcount x n + b2n (bit x n)

/-- The lowest k < n for which p holds. -/
def lowest (p : Nat → Bool) (n : Nat) : Option Nat := (List.range n).find? p

/-- `x` as a two's complement number of `w` bits. -/
def toInt (w x : Nat) : Int := if x % 2 ^ w < 2 ^ (w - 1) then (x % 2 ^ w : Nat) else (x % 2 ^ w : Nat) - (2 ^ w : Nat)

/-- The `w`-bit two's complement code of an integer. -/
def ofInt (w : Nat) (z : Int) : Nat := (z % (2 ^ w : Nat)).toNat

/-- `x + 1`, held at `hi` (a saturating counter). -/
def satInc (hi x : Nat) : Nat := if x < hi then x + 1 else hi

/-- `a before b` in 32-bit serial arithmetic (*Contexts, Queues and Sequence Numbers*, Mechanism). -/
def before32 (a b : Nat) : Bool :=
  let d := (b + 2 ^ 32 - a % 2 ^ 32) % 2 ^ 32
  1 ≤ d && d < 2 ^ 31

/-- The distance from a up to b modulo 2^32. -/
def dist32 (a b : Nat) : Nat := (b % 2 ^ 32 + 2 ^ 32 - a % 2 ^ 32) % 2 ^ 32

/-- The `n` little-endian bytes of a number (R7). -/
def toLE (x : Nat) : Nat → List Byte
  | 0 => []
  | n + 1 => BitVec.ofNat 8 x :: toLE (x / 256) n

/-- The number whose little-endian bytes are given (R7). -/
def ofLE : List Byte → Nat
  | [] => 0
  | b :: bs => b.toNat + 256 * ofLE bs

/-- The `n` big-endian bytes of a number (SHA-256 only, R7). -/
def toBE (x n : Nat) : List Byte := (toLE x n).reverse

/-- The number whose big-endian bytes are given. -/
def ofBE (bs : List Byte) : Nat := ofLE bs.reverse

/-- `n` bytes of a byte list from offset `o`, blank beyond its end, as a little-endian number. -/
def leAt (bs : List Byte) (o n : Nat) : Nat := ofLE ((bs.drop o).take n)

/-- The byte list with the little-endian number `v` of `n` bytes at offset `o`. -/
def putLE (bs : List Byte) (o n v : Nat) : List Byte := bs.take o ++ toLE v n ++ bs.drop (o + n)

/-- `n` blank bytes. -/
def zeros (n : Nat) : List Byte := List.replicate n 0#8

/-- Bitwise reversal of the low `n` bits. -/
def reverseBits (x : Nat) : Nat → Nat
  | 0 => 0
  | n + 1 => b2n (bit x 0) * 2 ^ n + reverseBits (x / 2) n

/-- One bit of an unreflected CRC of width `w`. -/
def crcBit (w poly crc : Nat) : Nat :=
  if bit crc (w - 1) then Nat.xor (crc * 2 % 2 ^ w) poly else crc * 2 % 2 ^ w

/-- `n` bits of an unreflected CRC. -/
def crcBits (w poly : Nat) : Nat → Nat → Nat
  | 0, crc => crc
  | n + 1, crc => crcBits w poly n (crcBit w poly crc)

/-- An unreflected CRC of width `w` ≥ 8 over bytes. -/
def crcMsb (w poly init : Nat) (bs : List Byte) : Nat :=
  bs.foldl (fun crc b => crcBits w poly 8 (Nat.xor crc (b.toNat * 2 ^ (w - 8)))) init

/-- One bit of a reflected CRC. -/
def crcBitR (poly crc : Nat) : Nat := if bit crc 0 then Nat.xor (crc / 2) poly else crc / 2

/-- `n` bits of a reflected CRC. -/
def crcBitsR (poly : Nat) : Nat → Nat → Nat
  | 0, crc => crc
  | n + 1, crc => crcBitsR poly n (crcBitR poly crc)

/-- A reflected CRC over bytes. -/
def crcLsb (poly init : Nat) (bs : List Byte) : Nat :=
  bs.foldl (fun crc b => crcBitsR poly 8 (Nat.xor crc b.toNat)) init

/-- CRC-16 of the descriptors: polynomial 0x1021, initial 0xFFFF, unreflected, no final XOR (Table 4-7). -/
def crc16 (bs : List Byte) : Nat := crcMsb 16 0x1021 0xFFFF bs

/-- The greatest r < 2^n with `r ^ k ≤ x`, found from its top bit down. -/
def rootFloor (k x : Nat) : Nat → Nat → Nat
  | 0, r => r
  | n + 1, r => rootFloor k x n (if (r + 2 ^ n) ^ k ≤ x then r + 2 ^ n else r)

/-- The first 32 bits of the fractional part of the k-th root of p. -/
def rootFraction (k p : Nat) : Nat := rootFloor k (p * 2 ^ (32 * k)) 38 0 % 2 ^ 32

/-- The primes below 312: the first 64. -/
def firstPrimes : List Nat :=
  (List.range 312).filter (fun n => 2 ≤ n && (List.range n).all (fun d => d < 2 || n % d != 0))

/-- The 64 round constants of SHA-256: fractions of the cube roots of the first primes (FIPS 180-4, 4.2.2). -/
def shaConstants : List Nat := firstPrimes.map (rootFraction 3)

/-- The initial hash value: fractions of the square roots of the first eight primes (FIPS 180-4, 5.3.3). -/
def shaStart : List Nat := (firstPrimes.take 8).map (rootFraction 2)

/-- Rotation right of a 32-bit word. -/
def rotr (x n : Nat) : Nat := x / 2 ^ n + (x % 2 ^ n) * 2 ^ (32 - n)

/-- The exclusive or of three words: what the four sigma functions of FIPS 180-4 end in. -/
def xor3 (x y z : Nat) : Nat := Nat.xor x (Nat.xor y z)

/-- A big sigma of FIPS 180-4: three rotations. -/
def bigSigma (i j k x : Nat) : Nat := xor3 (rotr x i) (rotr x j) (rotr x k)

/-- A small sigma: two rotations and a shift. -/
def smallSigma (i j k x : Nat) : Nat := xor3 (rotr x i) (rotr x j) (x / 2 ^ k)

/-- The schedule words of a block, oldest first, as `n` more are appended to them. -/
def shaExpand : Nat → List Nat → List Nat
  | 0, w => w
  | n + 1, w =>
    let back := fun i => w.getD (w.length - i) 0
    shaExpand n (w ++ [(smallSigma 17 19 10 (back 2) + back 7 + smallSigma 7 18 3 (back 15) + back 16) % 2 ^ 32])

/-- One round: the working words a to h as a list, and the sum of the round's constant and its schedule word. -/
def shaRound (v : List Nat) (kw : Nat) : List Nat :=
  let x := fun i => v.getD i 0
  let choose := Nat.xor (x 6) (Nat.land (x 4) (Nat.xor (x 5) (x 6)))
  let majority := Nat.lor (Nat.land (x 0) (x 1)) (Nat.land (x 2) (Nat.lor (x 0) (x 1)))
  let t := x 7 + bigSigma 6 11 25 (x 4) + choose + kw
  (t + bigSigma 2 13 22 (x 0) + majority) % 2 ^ 32 :: v.take 3 ++ (x 3 + t) % 2 ^ 32 :: (v.drop 4).take 3

/-- One 64-byte block over the hash value so far. -/
def shaBlock (h : List Nat) (blk : List Byte) : List Nat :=
  let w := shaExpand 48 ((List.range 16).map (fun i => ofBE ((blk.drop (4 * i)).take 4)))
  let v := (List.zipWith (· + ·) shaConstants w).foldl shaRound h
  List.zipWith (fun a b => (a + b) % 2 ^ 32) h v

/-- The hash value after `n` blocks of a padded message. -/
def shaBlocks : Nat → List Nat → List Byte → List Nat
  | 0, h, _ => h
  | n + 1, h, m => shaBlocks n (shaBlock h (m.take 64)) (m.drop 64)

/-- A message with its padding: the bit 1, zeros up to the last 8 bytes of a block, and the length in bits. -/
def shaPadded (m : List Byte) : List Byte :=
  m ++ 0x80#8 :: (zeros ((119 - m.length % 64) % 64) ++ toBE (8 * m.length) 8)

/-- The SHA-256 digest of a message, as the 32 bytes FIPS 180-4 produces (R7). -/
def sha256 (m : List Byte) : List Byte :=
  let p := shaPadded m
  (shaBlocks (p.length / 64) shaStart p).flatMap (fun x => toBE x 4)

end Sys2Proof.Machine
end

