-- ==== Sys2Proof/Machine/Float.lean ====
section
/-! DEFINITION. Binary floating-point arithmetic (IEEE 754 binary32, binary16 and bfloat16) by exact
integer arithmetic and one rounding, as R138, R152, R166, R208 and R209 take it: subnormals are kept and
every NaN produced is the default NaN of its format. -/
namespace Sys2Proof.Machine

/-- A binary interchange format: exponent bits and fraction bits. -/
structure FFmt where
  eb : Nat
  mb : Nat
  deriving DecidableEq, Repr

def f32 : FFmt := ⟨8, 23⟩
def f16 : FFmt := ⟨5, 10⟩
def bf16 : FFmt := ⟨8, 7⟩

/-- The bytes an element of the format takes. -/
def FFmt.bytes (f : FFmt) : Nat := (f.eb + f.mb + 1) / 8
/-- The weight of the sign bit. -/
def FFmt.signBit (f : FFmt) : Nat := 2 ^ (f.eb + f.mb)
/-- The magnitude bits of infinity. -/
def FFmt.infBits (f : FFmt) : Nat := (2 ^ f.eb - 1) * 2 ^ f.mb
/-- The default NaN: 0x7FC0_0000, 0x7E00 and 0x7FC0 (R138, R152). -/
def FFmt.nanBits (f : FFmt) : Nat := f.infBits + 2 ^ (f.mb - 1)
/-- The exponent of the least subnormal. -/
def FFmt.qmin (f : FFmt) : Int := 2 - (2 ^ (f.eb - 1) : Nat) - f.mb

/-- A decoded floating-point value; `fin neg m e` is (−1)^neg × m × 2^e. -/
inductive FVal where
  | nan
  | inf (neg : Bool)
  | fin (neg : Bool) (m : Nat) (e : Int)
  deriving DecidableEq, Repr

/-- The value of a bit pattern. -/
def FFmt.decode (f : FFmt) (x : Nat) : FVal :=
  let neg := bit x (f.eb + f.mb)
  let ex := bits x (f.eb + f.mb - 1) f.mb
  let fr := x % 2 ^ f.mb
  if ex = 2 ^ f.eb - 1 then if fr = 0 then .inf neg else .nan
  else if ex = 0 then .fin neg fr f.qmin
  else .fin neg (2 ^ f.mb + fr) (f.qmin + ex - 1)

/-- Round to nearest, ties to even: whether the quotient `q` with dropped part `d` of `k` bits goes up. -/
def roundRNE (q d k : Nat) : Bool := 2 ^ k < 2 * d || (2 * d = 2 ^ k && q % 2 = 1)

/-- Truncation. -/
def roundTZ (_q _d _k : Nat) : Bool := false

/-- The magnitude bits of m × 2^e (m > 0) in the format, before any overflow is answered. -/
def FFmt.roundMag (f : FFmt) (up : Nat → Nat → Nat → Bool) (m : Nat) (e : Int) : Nat :=
  let q : Int := max ((Nat.log2 m : Int) + e - f.mb) f.qmin
  if q ≤ e then (q - f.qmin).toNat * 2 ^ f.mb + m * 2 ^ (e - q).toNat
  else
    let k := (q - e).toNat
    let lo := m / 2 ^ k
    (q - f.qmin).toNat * 2 ^ f.mb + lo + b2n (up lo (m % 2 ^ k) k)

/-- The bits of (−1)^neg × m × 2^e rounded to nearest even; an overflow gives an infinity. -/
def FFmt.round (f : FFmt) (neg : Bool) (m : Nat) (e : Int) : Nat :=
  let s := b2n neg * f.signBit
  if m = 0 then s else s + min (f.roundMag roundRNE m e) f.infBits

/-- The bits of a value in the format, rounded to nearest even (overflow to infinity). -/
def FFmt.encode (f : FFmt) : FVal → Nat
  | .nan => f.nanBits
  | .inf neg => b2n neg * f.signBit + f.infBits
  | .fin neg m e => f.round neg m e

/-- The exact sum of two values; opposite infinities give a NaN, an exact zero sum is +0 unless both are −0. -/
def FVal.add : FVal → FVal → FVal
  | .nan, _ => .nan
  | _, .nan => .nan
  | .inf a, .inf b => if a = b then .inf a else .nan
  | .inf a, _ => .inf a
  | _, .inf b => .inf b
  | .fin a m e, .fin b n g =>
    let q := min e g
    let x : Int := (if a then -1 else 1) * (m * 2 ^ (e - q).toNat : Nat)
    let y : Int := (if b then -1 else 1) * (n * 2 ^ (g - q).toNat : Nat)
    if x + y = 0 then .fin (a && b) 0 q else .fin (x + y < 0) (x + y).natAbs q

/-- The exact product of two values; 0 × ∞ gives a NaN. -/
def FVal.mul : FVal → FVal → FVal
  | .nan, _ => .nan
  | _, .nan => .nan
  | .inf a, .inf b => .inf (a != b)
  | .inf a, .fin b n _ => if n = 0 then .nan else .inf (a != b)
  | .fin a m _, .inf b => if m = 0 then .nan else .inf (a != b)
  | .fin a m e, .fin b n g => .fin (a != b) (m * n) (e + g)

/-- Whether the value is a NaN. -/
def FVal.isNan : FVal → Bool
  | .nan => true
  | _ => false

/-- Whether the value is an infinity. -/
def FVal.isInf : FVal → Bool
  | .inf _ => true
  | _ => false

/-- The value scaled to an integer of 2^q, for comparing (q no greater than its exponent). -/
def FVal.scaled (q : Int) : FVal → Int
  | .fin a m e => (if a then -1 else 1) * (m * 2 ^ (e - q).toNat : Nat)
  | _ => 0

/-- The exponent of a finite value. -/
def FVal.exp : FVal → Int
  | .fin _ _ e => e
  | _ => 0

/-- x < y as real numbers, infinities included; false with a NaN; −0 and +0 equal. -/
def FVal.lt : FVal → FVal → Bool
  | .nan, _ => false
  | _, .nan => false
  | .inf a, .inf b => a && !b
  | .inf a, .fin _ _ _ => a
  | .fin _ _ _, .inf b => !b
  | x, y => FVal.scaled (min x.exp y.exp) x < FVal.scaled (min x.exp y.exp) y

/-- x = y as real numbers; false with a NaN. -/
def FVal.eq (x y : FVal) : Bool := !x.isNan && !y.isNan && !x.lt y && !y.lt x

/-- Sum in a format, one rounding (R166, R208). -/
def FFmt.add (f : FFmt) (x y : Nat) : Nat := f.encode ((f.decode x).add (f.decode y))
/-- Product in a format, one rounding. -/
def FFmt.mul (f : FFmt) (x y : Nat) : Nat := f.encode ((f.decode x).mul (f.decode y))
/-- x × y + z with one rounding (R209). -/
def FFmt.fma (f : FFmt) (x y z : Nat) : Nat := f.encode (((f.decode x).mul (f.decode y)).add (f.decode z))

/-- The smaller operand, −0 below +0, a NaN giving way to a number (R209). -/
def FFmt.minimum (f : FFmt) (x y : Nat) : Nat :=
  let a := f.decode x
  let b := f.decode y
  if a.isNan && b.isNan then f.nanBits
  else if a.isNan then y else if b.isNan then x
  else if a.lt b then x else if b.lt a then y
  else if bit x (f.eb + f.mb) then x else y

/-- The greater operand, under the same rules (R209). -/
def FFmt.maximum (f : FFmt) (x y : Nat) : Nat :=
  let a := f.decode x
  let b := f.decode y
  if a.isNan && b.isNan then f.nanBits
  else if a.isNan then y else if b.isNan then x
  else if b.lt a then x else if a.lt b then y
  else if bit x (f.eb + f.mb) then y else x

/-- FCMP predicates 0–5 (R209). -/
def fcmp (p : Nat) (x y : Nat) : Bool :=
  let a := f32.decode x
  let b := f32.decode y
  let un := a.isNan || b.isNan
  match p with
  | 0 => a.eq b
  | 1 => !a.eq b
  | 2 => a.lt b
  | 3 => a.lt b || a.eq b
  | 4 => un
  | _ => !un

/-- The integer quotient m / 2^k to nearest even. -/
def rneShift (m k : Nat) : Nat := m / 2 ^ k + b2n (roundRNE (m / 2 ^ k) (m % 2 ^ k) k)

/-- A finite value as an integer, rounded toward zero or to nearest even. -/
def FVal.toIntBy (nearest : Bool) : FVal → Int
  | .fin a m e =>
    let n : Nat := if 0 ≤ e then m * 2 ^ e.toNat
      else if nearest then rneShift m (-e).toNat else m / 2 ^ (-e).toNat
    if a then -(n : Int) else n
  | _ => 0

/-- An integer held within bounds. -/
def clampInt (lo hi z : Int) : Int := max lo (min hi z)

/-- FCVT of binary32 to int32 (Table 5-6, rows 0x0 and 0x1). -/
def cvtToInt (nearest : Bool) (x : Nat) : Nat :=
  match f32.decode x with
  | .nan => 0
  | .inf neg => if neg then 2 ^ 31 else 2 ^ 31 - 1
  | v => ofInt 32 (clampInt (-(2 ^ 31 : Nat)) (2 ^ 31 - 1 : Nat) (v.toIntBy nearest))

/-- FCVT of int32 to binary32 (row 0x2). -/
def cvtFromInt (x : Nat) : Nat :=
  let z := toInt 32 x
  f32.round (z < 0) z.natAbs 0

/-- FCVT between formats, rounding to nearest even (rows 0x3 to 0x6). DESIGN CHOICE (log 172): a NaN gives the default NaN of the format,
the exact conversions 0x4 and 0x6 included. -/
def cvtFmt (a b : FFmt) (x : Nat) : Nat := b.encode (a.decode (x % 2 ^ (a.eb + a.mb + 1)))

/-- The K8 mantissa of a binary32 value under the shared exponent E, as an integer (row 0x7, Table 15-6). -/
def k8Mantissa (x ex : Nat) : Int :=
  if ex = 0 || ex = 255 then 0
  else match f32.decode x with
    | .nan => 0
    | .inf neg => if neg then -127 else 127
    | .fin a m e => clampInt (-127) 127 ((FVal.fin a m (e + 133 - ex)).toIntBy true)

/-- The binary32 value of a K8 mantissa under E (row 0x8). -/
def k8Value (m : Int) (ex : Nat) : Nat :=
  if ex = 255 then f32.nanBits
  else if ex = 0 then 0
  else f32.round (m < 0) m.natAbs ((ex : Int) - 133)

/-- The integer square root by bits, `n` bits of result. -/
def isqrtBits (x : Nat) : Nat → Nat → Nat
  | 0, r => r
  | n + 1, r => let t := r + 2 ^ n
    isqrtBits x n (if t * t ≤ x then t else r)

/-- 2^(2^−i) for i = 1 … n, in units of 2^−62, the product taken over the bits of the fraction. -/
def exp2Prod : Nat → Nat → Nat → Nat → Nat
  | 0, _, _, acc => acc
  | n + 1, frac, c, acc =>
    let c' := isqrtBits (c * 2 ^ 62) 64 0
    exp2Prod n (frac * 2 % 2 ^ 62) c' (if 2 ^ 61 ≤ frac then acc * c' / 2 ^ 62 else acc)

/-- The bits of the fraction of log2 y, for y in [1, 2) in units of 2^−96. -/
def log2Frac : Nat → Nat → Nat → Nat
  | 0, _, acc => acc
  | n + 1, y, acc =>
    let s := y * y / 2 ^ 96
    if 2 ^ 97 ≤ s then log2Frac n (s / 2) (2 * acc + 1) else log2Frac n s (2 * acc)

/-- A real that binary32 approximates: its sign, and its size, which is m × 2^e or, where `more`, lies above it and below (m + 1) × 2^e. -/
structure Approx where
  neg : Bool
  m : Nat
  e : Int
  more : Bool

/-- The exponent of a unit in the last place of binary32 at m × 2^e. -/
def ulpExp (m : Nat) (e : Int) : Int := if m = 0 then -149 else max (-149) ((Nat.log2 m : Int) + e - 23)

/-- The binary32 word x lies within 2 units in the last place of the real (R208). -/
def Approx.admits (a : Approx) (x : Nat) : Bool :=
  match f32.decode x with
  | .fin neg p pe =>
    let t := ulpExp a.m a.e
    let q := min (min t a.e) pe
    let lo : Int := (a.m * 2 ^ (a.e - q).toNat : Nat)
    let hi := lo + (if a.more then (2 ^ (a.e - q).toNat : Nat) else 0 : Nat)
    let z : Int := (if neg = a.neg then 1 else -1) * (p * 2 ^ (pe - q).toNat : Nat)
    let u : Int := (2 * 2 ^ (t - q).toNat : Nat)
    z - u ≤ lo && hi ≤ z + u
  | _ => false

/-- The real rounded to nearest. -/
def Approx.nearest (a : Approx) : Nat := f32.round a.neg (2 * a.m + b2n a.more) (a.e - 1)

/-- 1/(m × 2^e). -/
def rcpReal (neg : Bool) (m : Nat) (e : Int) : Approx := ⟨neg, 2 ^ 64 / m, -e - 64, 2 ^ 64 % m != 0⟩

/-- 1/√(m × 2^e). -/
def rsqReal (m : Nat) (e : Int) : Approx :=
  let (m', e') := if e % 2 = 0 then (m, e) else (2 * m, e - 1)
  let r := isqrtBits (2 ^ 120 / m') 64 0
  ⟨false, r, -(e' / 2) - 60, r * r * m' != 2 ^ 120⟩

/-- 2^(±m × 2^e), for an exponent below 2^10 in size. -/
def exp2Real (neg : Bool) (m : Nat) (e : Int) : Approx :=
  let z : Int := ((if neg then -1 else 1) * (m * 2 ^ (e + 62).toNat : Nat)) / (2 ^ (-(e + 62)).toNat : Nat)
  let fr := (z % (2 ^ 62 : Nat)).toNat
  ⟨false, exp2Prod 62 fr (2 ^ 63) (2 ^ 62), z / (2 ^ 62 : Nat) - 62, fr != 0 || e + 62 < 0⟩

/-- log2 (m × 2^e). -/
def log2Real (m : Nat) (e : Int) : Approx :=
  let l := Nat.log2 m
  let y := m * 2 ^ 96 / 2 ^ l
  let z : Int := ((l : Int) + e) * (2 ^ 64 : Nat) + log2Frac 64 y 0
  let more := m != 2 ^ l
  ⟨z < 0, if z < 0 && more then z.natAbs - 1 else z.natAbs, -64, more⟩

/-- A word that R208 leaves open; a NaN is the default NaN. -/
def floatFree (op : Nat) (x : BitVec 32) : BitVec 32 :=
  let r := Config.floatOpen op x
  if (f32.decode r.toNat).isNan then BitVec.ofNat 32 f32.nanBits else r

/-- FRCP (op 0x27), FRSQ (0x28), FEXP2 (0x29) and FLOG2 (0x2A): a NaN gives the default NaN, an input with a
finite result in range a free value within 2 units in the last place, any other input a free value (R208, log 12). -/
def floatApprox (op : Nat) (x : BitVec 32) : BitVec 32 :=
  let near := fun (a : Approx) =>
    if f32.infBits ≤ a.nearest % 2 ^ 31 then floatFree op x
    else if a.admits (Config.floatPick op x).toNat then Config.floatPick op x
    else BitVec.ofNat 32 a.nearest
  match f32.decode x.toNat with
  | .nan => BitVec.ofNat 32 f32.nanBits
  | .inf _ => floatFree op x
  | .fin neg m e =>
    if op = 0x27 then if m = 0 then floatFree op x else near (rcpReal neg m e)
    else if op = 0x28 then if m = 0 || neg then floatFree op x else near (rsqReal m e)
    else if op = 0x29 then
      if m = 0 then near ⟨false, 1, 0, false⟩
      else if (10 : Int) ≤ (Nat.log2 m : Int) + e then floatFree op x else near (exp2Real neg m e)
    else if m = 0 || neg then floatFree op x else near (log2Real m e)

end Sys2Proof.Machine
end

