-- ==== Sys2Proof/Syntax.lean ====
section
/-! DEFINITION. The commands of the part: one constructor per row of the opcode table, with its
operands. The summary of each row stands beside its constructor. -/
namespace Sys2Proof

/-- A command: an event, an access or an instruction of the table. -/
inductive Instr where
  /-- DRONE_POR (R42). Drone rail power-good rises: the Drone domain resets its retention and field time and starts counting TCXO edges against the RC oscillator. -/
  | dronePor (diodes : List Int)
  /-- TCXO_SELECT (R42). The 64 us TCXO count ends and the Drone domain selects the TCXO or the RC oscillator. -/
  | tcxoSelect (error : Option Int)
  /-- DRONE_PLL_LOCK (R42). The Drone PLL locks after source selection and DRONE_OK is driven high. -/
  | dronePllLock
  /-- TCXO_LOST (R43). The selected TCXO stops or leaves its rate window; the Drone domain switches to the RC oscillator for good and raises TCXO_LOST. -/
  | tcxoLost (error : Option Int)
  /-- MAIN_POR (R591). Main-rail power-good rises with the Drone domain up and the part starts the cold path at POWER. -/
  | mainPor (diodes : List Int)
  /-- MAIN_POWER_LOSS (R592). Main-rail power-good falls and every clock outside the Drone domain stops within 2 us, losing all memory contents. -/
  | mainPowerLoss
  /-- DRONE_BROWNOUT (R593). A Drone rail leaves range and the brownout comparator stops every clock and holds the part in reset. -/
  | droneBrownout
  /-- PERST_ASSERT (R51). PERST_n is asserted, starting a chip reset and holding the part at POWER. -/
  | perstAssert
  /-- PERST_DEASSERT (R51). PERST_n deasserts and the part starts the boot stages on the warm or cold path. -/
  | perstDeassert
  /-- PLL_LOCK_ALIGN (R46). The aligned-domain PLLs lock and CLKRST issues the release ALIGN pulse that resets every dual-clock queue. -/
  | pllLockAlign (diodes : List Int)
  /-- IDENT (R63). The boot reaches IDENT and configuration space answers with identity instead of retry status. -/
  | ident
  /-- FIRMWARE_STAGE (R584). Chanter's ROM selects, loads and verifies a firmware image slot, or keeps the resident image on the warm path. -/
  | firmwareStage (readable : Bool)
  /-- FLT_ENTER_SERVICE (R362). FLT enters service and takes in the Drone domain's retained tokens before any other token. -/
  | fltEnterService
  /-- MEMORY_STAGE (R59). MEMORY completes: stacks trained or restored from TRAIN, SRAM slices tested and zeroed, failed stacks and banks taken out of service. -/
  | memoryStage (results : List StackResult) (badBanks : List (Nat × Nat))
  /-- ADMIT_STAGE (R70). ADMIT completes: ROM patterns run on every unfenced fused core, spares are mapped and CHIP.CORE_MAP.LIVE is written. -/
  | admitStage (cores : List AdmitResult)
  /-- CALIB_STAGE (R56). CALIB completes: calibration records applied, SerDes calibrated and core clocks moved to profile with an ALIGN pulse. -/
  | calibStage
  /-- SERVICE_ENTRY (R62). The part enters SERVICE, computes CHIP.SVC_LEVEL, sends the boot vector and starts NL negotiation. -/
  | serviceEntry
  /-- STAGE_OVERRUN (R61). A boot stage exceeds its worst-case time; Chanter ends it, sets unready elements out of service and records STAGE_OVERRUN. -/
  | stageOverrun (trained : List StackResult) (banks : List (Nat × Nat)) (cores : List AdmitResult) (serdes : Bool) (windows : List Nat)
  /-- PROFILE_REQ (R41). A write to CLKRST.PROFILE.REQ starts or queues a profile change, or selects P-NOM and raises PROFILE_DENIED for an unallowed P-MAX. -/
  | profileReq (port : Authority) (value : Nat)
  /-- CORE_RELOCK (R48). A core reaches its pass boundary (or slice end) and relocks its PLL to a new frequency with a new ALIGN pulse. -/
  | coreRelock (core : Nat)
  /-- PROFILE_CHANGE_DONE (R41). The last core relocks; CHANGING falls, ACTIVE takes the new profile and PROV_EPOCH increments. -/
  | profileChangeDone
  /-- THROTTLE_FALL (R533). THROTTLE_n falls and every running core clock is held at 0.8 GHz within 20 us. -/
  | throttleFall
  /-- THROTTLE_RISE (R533). THROTTLE_n rises and each core's THROTTLE_n limit starts to climb 25 MHz per ms. -/
  | throttleRise
  /-- THERMAL_REVISION (R531). Every 1 ms Chanter revises each core's thermal limit, lowering it when hot and raising it when cool. -/
  | thermalRevision
  /-- REG_WRITE (R86). A register write with no behaviour of its own is checked for timing, shape, mapping and authority and applied field by field. -/
  | regWrite (port : Authority) (off : Nat) (len : Nat) (full : Bool) (value : Nat)
  /-- RC_READ (R10). A read of an RC register returns its value and clears it. -/
  | rcRead (port : Authority) (off : Nat) (len : Nat) (full : Bool)
  /-- CORE_MAP_LOW_READ (R34). A read of CHIP.CORE_MAP at 0x040 returns the low word and latches the high word for the next read of 0x044. -/
  | coreMapLowRead (port : Authority)
  /-- CHIP_RST_REQ (R54). A write to CHIP.RST_REQ with CHIP = 1 and KEY 0xB007 starts a chip reset; other keys are dropped with RST_KEY. -/
  | chipRstReq (port : Authority) (value : Nat)
  /-- BLK_LOCK_SET (R119). Writing 1 to BLK_CTL.LOCK makes every RWL field of the page read-only until the block resets. -/
  | blkLockSet (port : Authority) (page : Nat)
  /-- BLK_QUIESCE_WRITE (R121). Setting BLK_CTL.QUIESCE stops the block accepting new work until QUIESCED reports it empty. -/
  | blkQuiesceWrite (port : Authority) (page : Nat) (on : Bool)
  /-- BLK_TEST_HOLD_WRITE (R114). A write to BLK_CTL.TEST_HOLD holds the block in TEST for Serac or the TAP, or releases it. -/
  | blkTestHoldWrite (port : Authority) (page : Nat) (on : Bool)
  /-- BLK_FENCE_WRITE (R609). A write to BLK_CTL.FENCE sets or lifts a software fence of a core or of the comparator. -/
  | blkFenceWrite (port : Authority) (page : Nat) (on : Bool)
  /-- BLK_ENABLE_WRITE (R114). A write to BLK_CTL.ENABLE stops or resumes new work and the progress check of the block. -/
  | blkEnableWrite (port : Authority) (page : Nat) (on : Bool)
  /-- BLK_ERRINJ_WRITE (R370). Writing 1 to BLK_ERRINJ bits raises injected tokens of the corresponding kinds in ascending bit order. -/
  | blkErrinjWrite (port : Authority) (page : Nat) (value : Nat)
  /-- BLK_TOKCFG_WRITE (R358). A write to BLK_TOKCFG sets a class override and rate limit, or is dropped whole with CFG_DENIED for a forbidden override. -/
  | blkTokcfgWrite (port : Authority) (page : Nat) (value : Nat)
  /-- DOORBELL_WRITE (R249). An 8-byte doorbell write is checked against Table 7-2 and advances Q_EXPECT, records NO_SERVICE, or is dropped with a token. -/
  | doorbellWrite (port : Authority) (off : Nat) (value : Nat)
  /-- FLR_START (R103). A Function Level Reset of a VF stops its BAR0 and starts context resets of every context in its range. -/
  | flrStart (vf : Nat)
  /-- FLR_DONE (R103). The VF's context resets finish; in-flight DMA is discarded, its MSI-X state and configuration space are reset and BUSY clears. -/
  | flrDone (vf : Nat)
  /-- NUMVFS_WRITE (R101). A write to NumVFs is accepted only while VF Enable is 0. -/
  | numvfsWrite (value : Nat)
  /-- VF_ENABLE_CLEAR (R102). Clearing VF Enable starts a Function Level Reset of every existing VF at once. -/
  | vfEnableClear
  /-- VF_CTX_WRITE (R271). A write to HOSTIF.VF_CTX[v] takes effect only when both ranges are unowned and the new range is in bounds and disjoint. -/
  | vfCtxWrite (port : Authority) (vf : Nat) (value : Nat)
  /-- LINK_CORR (R98). A correctable PCIe link error is logged in AER and raises LINK_CORR. -/
  | linkCorr (status : Nat)
  /-- POISONED_COMPLETION (R98). A poisoned completion to a DMA read is reissued once, and a second one aborts the command with HOST_POISON. -/
  | poisonedCompletion (tag : Nat)
  /-- POISONED_WRITE (R98). A poisoned write TLP to BAR0 is dropped and raises HOST_POISON with class INFO. -/
  | poisonedWrite (func : Nat) (off : Nat)
  /-- COMPLETION_TIMEOUT (R98). A DMA read's completion timer expires, aborting its command with CPL_TIMEOUT. -/
  | completionTimeout (tag : Nat)
  /-- TLP_BAD (R98). An unexpected completion or malformed TLP is discarded and raises TLP_BAD. -/
  | tlpBad (status : Nat)
  /-- LINK_DOWN (R98). A surprise PCIe link down without PERST_n leads to pre-reset capture and a chip reset. -/
  | linkDown
  /-- HOST_DMA_COMPLETION (R264). A host DMA read completion arrives and is used, or dropped when it carries a stale generation. -/
  | hostDmaCompletion (tag : Nat)
  /-- PASS_START (R194). A pending pass starts on the DSA or Exact Unit once its bank's FEEDs are written and the unit is free, holding its bank. -/
  | passStart (core : Nat) (exact : Bool)
  /-- PASS_END (R125). A pass makes its last accumulator update and its readout begins in the other accumulator bank. -/
  | passEnd (core : Nat) (exact : Bool) (faults : List (Nat × Int))
  /-- READOUT_END (R127). A readout ends: checksum and range checks are made, the partial is combined, elements narrowed and the tile written. -/
  | readoutEnd (core : Nat) (exact : Bool)
  /-- CHECKSUM_VERDICT (R373). Serac's recomputation from retained digit streams ends with a DATA, LANE or BOTH verdict; the DSA is released and raises its checksum tokens. -/
  | checksumVerdict (core : Nat)
  /-- LOG_COMMIT (R143). Writing COMMIT checks quiescence and the staged correction table and starts copying it into the active table. -/
  | logCommit (port : Authority) (core : Nat)
  /-- LOG_DEFAULT (R145). Writing DEFAULT loads the ROM default correction table when the DSA and LOG pages are quiesced. -/
  | logDefault (port : Authority) (core : Nat)
  /-- LOG_COPY_DONE (R144). The table copy into every row completes; CT_GEN, CT_CRC and IS_DEFAULT update and RESULT leaves BUSY. -/
  | logCopyDone (core : Nat)
  /-- DSA_CKSUM_EN_WRITE (R171). A write to DSA_CTL.CKSUM_EN turns checksum comparisons on or off, raising CKSUM_DISABLED on a change to 0. -/
  | dsaCksumEnWrite (port : Authority) (core : Nat) (on : Bool)
  /-- DSA_HOLD_WRITE (R171). A write to DSA_CTL.HOLD makes the DSA finish its pass and readout and start no new pass, or releases it. -/
  | dsaHoldWrite (port : Authority) (core : Nat) (on : Bool)
  /-- IADD (R207). Integer add of xa and xb modulo 2^32 into xd. -/
  | iadd (core : Nat) (place : Nat)
  /-- ISUB (R207). Integer subtract of xb from xa modulo 2^32 into xd. -/
  | isub (core : Nat) (place : Nat)
  /-- IMUL (R180). Low 32 bits of xa times xb, occupying the INT port 16 cycles. -/
  | imul (core : Nat) (place : Nat)
  /-- AND (R207). Bitwise AND into xd. -/
  | and (core : Nat) (place : Nat)
  /-- OR (R207). Bitwise OR into xd. -/
  | or (core : Nat) (place : Nat)
  /-- XOR (R207). Bitwise XOR into xd. -/
  | xor (core : Nat) (place : Nat)
  /-- SHL (R207). Shift xa left by xb[4:0]. -/
  | shl (core : Nat) (place : Nat)
  /-- SHR (R207). Logical shift xa right by xb[4:0]. -/
  | shr (core : Nat) (place : Nat)
  /-- SAR (R207). Arithmetic shift xa right by xb[4:0]. -/
  | sar (core : Nat) (place : Nat)
  /-- ICMP (R612). Integer compare by the predicate in IMM[2:0], writing 1 or 0; predicates 6 and 7 raise ILLEGAL_OP. -/
  | icmp (core : Nat) (place : Nat)
  /-- SEL (R207). xd takes xa when xc is non-zero, else xb. -/
  | sel (core : Nat) (place : Nat)
  /-- IMIN (R207). Signed minimum into xd. -/
  | imin (core : Nat) (place : Nat)
  /-- IMAX (R207). Signed maximum into xd. -/
  | imax (core : Nat) (place : Nat)
  /-- POPC (R207). Bit count of xa into xd. -/
  | popc (core : Nat) (place : Nat)
  /-- CLZ (R207). Leading zeros of xa into xd. -/
  | clz (core : Nat) (place : Nat)
  /-- MOVI (R207). xd takes IMM. -/
  | movi (core : Nat) (place : Nat)
  /-- FADD (R208). Binary32 add rounded to nearest even, with default NaN. -/
  | fadd (core : Nat) (place : Nat)
  /-- FMUL (R208). Binary32 multiply rounded to nearest even, with default NaN. -/
  | fmul (core : Nat) (place : Nat)
  /-- FFMA (R209). Fused binary32 multiply-add with one rounding. -/
  | ffma (core : Nat) (place : Nat)
  /-- FMIN (R209). Binary32 minimum with the NaN and signed-zero rules. -/
  | fmin (core : Nat) (place : Nat)
  /-- FMAX (R209). Binary32 maximum with the NaN and signed-zero rules. -/
  | fmax (core : Nat) (place : Nat)
  /-- FCMP (R209). Binary32 compare by predicate EQ, NE, LT, LE, UNORD or ORD, writing 1 or 0. -/
  | fcmp (core : Nat) (place : Nat)
  /-- FCVT (R209). Conversion selected by IMM[3:0] among int32, binary32, binary16, bfloat16 and K8 elements. -/
  | fcvt (core : Nat) (place : Nat)
  /-- FRCP (R208). Binary32 reciprocal within 2 ulp. -/
  | frcp (core : Nat) (place : Nat)
  /-- FRSQ (R208). Binary32 reciprocal square root within 2 ulp. -/
  | frsq (core : Nat) (place : Nat)
  /-- FEXP2 (R208). Binary32 base-2 exponential within 2 ulp. -/
  | fexp2 (core : Nat) (place : Nat)
  /-- FLOG2 (R208). Binary32 base-2 logarithm within 2 ulp. -/
  | flog2 (core : Nat) (place : Nat)
  /-- LD (R185). Load of 1 to 8 bytes from a local extent into xd, faulting on foreign, out-of-extent or misaligned addresses. -/
  | ld (core : Nat) (place : Nat)
  /-- ST (R185). Store of 1 to 8 bytes from xb to a local extent address. -/
  | st (core : Nat) (place : Nat)
  /-- RED_IADD (R612). Atomic integer add of xb to memory with no value returned. -/
  | redIadd (core : Nat) (place : Nat)
  /-- ATOM_IADD (R612). V-marked atomic integer add of xb returning the old value to xd. -/
  | atomIadd (core : Nat) (place : Nat)
  /-- ATOM_CAS (R612). V-marked atomic compare-and-swap returning the old value. -/
  | atomCas (core : Nat) (place : Nat)
  /-- RED_FADD (R166). V-marked atomic binary32 or bfloat16 add with one rounding and no value returned. -/
  | redFadd (core : Nat) (place : Nat)
  /-- ATOM_FADD (R166). V-marked atomic floating-point add returning the old value. -/
  | atomFadd (core : Nat) (place : Nat)
  /-- RGET (R328). V-marked remote get: one BULK GET_REQ per destination part and sector. -/
  | rget (core : Nat) (place : Nat)
  /-- RPUT (R328). V-marked remote put: one BULK PUT per destination part and sector. -/
  | rput (core : Nat) (place : Nat)
  /-- RPUT_O (R330). Ordered remote put sent as PUT_O in the ORDERED class. -/
  | rputO (core : Nat) (place : Nat)
  /-- FEED (R191). Each participating thread writes 8 bytes to line LINE + t of an operand store, waiting while the bank is held. -/
  | feed (core : Nat) (place : Nat)
  /-- BRA (R207). Per-thread branch on xa non-zero by a signed displacement. -/
  | bra (core : Nat) (place : Nat)
  /-- JMP (R207). Unconditional jump by a signed displacement. -/
  | jmp (core : Nat) (place : Nat)
  /-- EXIT (R175). The thread ends; the group ends when all its threads have exited. -/
  | exit (core : Nat) (place : Nat)
  /-- GSYNC (R182). Threads wait until every non-exited thread waits at a GSYNC of the same PC, or the dispatch faults on a mismatch. -/
  | gsync (core : Nat) (place : Nat)
  /-- KSYNC (R184). The group waits until every group of the dispatch has executed KSYNC. -/
  | ksync (core : Nat) (place : Nat)
  /-- SHFL (R183). Each participating thread reads xa of the thread named by its xb. -/
  | shfl (core : Nat) (place : Nat)
  /-- VOTE (R183). ANY, ALL or BALLOT over the participating threads. -/
  | vote (core : Nat) (place : Nat)
  /-- PASS_D (R192). Issues one DSA pass from the pass record of the lowest participating thread. -/
  | passD (core : Nat) (place : Nat)
  /-- PASS_E (R192). Issues one Exact Unit pass from the pass record of the lowest participating thread. -/
  | passE (core : Nat) (place : Nat)
  /-- WAITP (R197). The group waits until every pass it issued has finished its readout and writes. -/
  | waitp (core : Nat) (place : Nat)
  /-- SIGNAL (R266). Adds a value to a local synchronisation object after the group's earlier writes take effect. -/
  | signal (core : Nat) (place : Nat)
  /-- WAITS (R266). Participating threads wait until a local synchronisation object reaches a 64-bit threshold. -/
  | waits (core : Nat) (place : Nat)
  /-- RDTIME (R612). V-marked read of field time into a register pair. -/
  | rdtime (core : Nat) (place : Nat)
  /-- RDCORE (R612). V-marked read of the core index into xd. -/
  | rdcore (core : Nat) (place : Nat)
  /-- RDCYC (R612). V-marked read of the core cycle count into a register pair. -/
  | rdcyc (core : Nat) (place : Nat)
  /-- FENCE (R188). Holds the group's later memory instructions until every earlier write has taken effect. -/
  | fence (core : Nat) (place : Nat)
  /-- GROUP_LAUNCH (R173). When slots and a group place are free, the next group of the earliest-accepted waiting dispatch launches with its initial registers. -/
  | groupLaunch (core : Nat)
  /-- DISPATCH_PLACE (R277). A waiting DISPATCH is placed on the live affinity core with fewest resident groups that is not in a test slice. -/
  | dispatchPlace (dispatch : Nat)
  /-- DISPATCH_COMPLETE (R175). A dispatch's groups have ended and its passes and writes have taken effect, so its completion is posted. -/
  | dispatchComplete (core : Nat) (dispatch : Nat)
  /-- HBM_ODECC_REPORT (R218). A stack reports an on-die correction, counted per hour, raising HBM_ODECC_RATE once past 4,096. -/
  | hbmOdeccReport (stack : Nat)
  /-- HBM_ODECC_HOUR (R218). An hour boundary of field time resets each stack's on-die correction count. -/
  | hbmOdeccHour
  /-- SCRUB_STEP (R235). The patrol scrub reads, corrects and writes back the next word or sector of its sweep. -/
  | scrubStep (hbm : Bool) (unit : Nat)
  /-- PATH_RETRY_RESULT (R223). The retried transfer arrives and is used with PATH_PARITY, or fails again with PATH_PARITY_UE and a chip reset. -/
  | pathRetryResult (dst : Nat) (src : Nat) (addr : Nat) (good : Bool) (equal : Bool)
  /-- BANK_MIGRATION_DONE (R214). Chanter finishes copying a fenced bank to a free bank and rewrites SPAD_BANKMAP. -/
  | bankMigrationDone (core : Nat)
  /-- BUDDY_GIB_WRITE (R232). A write to HBM_CARVE.BUDDY_GIB resizes the buddy reserve, or reads IN_USE and leaves it unchanged. -/
  | buddyGibWrite (port : Authority) (stack : Nat) (value : Nat)
  /-- STACK_LEAVES_SERVICE (R234). An in-service stack leaves service, taking its carve-outs and raising BUDDY_SHRUNK. -/
  | stackLeavesService (stack : Nat)
  /-- ENTRY_FETCH (R251). The queue engine fetches an accepted queue entry in SSN order and completes it without running when SSN, GEN, OPC or authority is wrong. -/
  | entryFetch (ctx : Nat) (queue : Nat)
  /-- NOP (R250). Command that does nothing and completes. -/
  | nop (ctx : Nat) (queue : Nat)
  /-- DISPATCH (R205). Command that reads and validates a kernel descriptor and queues the kernel for placement. -/
  | dispatch (ctx : Nat) (queue : Nat)
  /-- COPY (R252). Command copying 1 to 2^32 bytes between host and local memory at any alignment. -/
  | copy (ctx : Nat) (queue : Nat)
  /-- FILL (R252). Command filling 1 to 2^32 bytes with a 64-bit pattern aligned to 8-byte boundaries. -/
  | fill (ctx : Nat) (queue : Nat)
  /-- SIG_ADD (R266). Command adding to a synchronisation object after the queue's earlier writes take effect. -/
  | sigAdd (ctx : Nat) (queue : Nat)
  /-- SIG_WAIT (R266). Command holding its queue until a synchronisation object reaches a threshold. -/
  | sigWait (ctx : Nat) (queue : Nat)
  /-- FREEZE (R470). Urgent command stopping a context and starting to save its live state into its image. -/
  | freeze (ctx : Nat) (queue : Nat)
  /-- FREEZE_EVICT (R474). Urgent command freezing a context and also evicting its scratchpad extent into the image. -/
  | freezeEvict (ctx : Nat) (queue : Nat)
  /-- THAW (R476). Urgent command checking placement and tables and restoring a frozen context. -/
  | thaw (ctx : Nat) (queue : Nat)
  /-- CTX_RESET (R442). Urgent command starting a context reset of the target context. -/
  | ctxReset (ctx : Nat) (queue : Nat)
  /-- CKPT (R495). Command validating a checkpoint descriptor and starting to write shards to home, buddy and host copies. -/
  | ckpt (ctx : Nat) (queue : Nat)
  /-- RESTORE (R502). Command restoring the newest sealed unspoiled checkpoint of a step from a home, held or remote copy. -/
  | restore (ctx : Nat) (queue : Nat)
  /-- COLL (R333). Command validating a collective descriptor and starting the JOIN phase. -/
  | coll (ctx : Nat) (queue : Nat)
  /-- BARRIER (R341). Command joining the start barrier of a BGEN and sending BAR_ARRIVE when the part arrives. -/
  | barrier (ctx : Nat) (queue : Nat) (dwell : Nat)
  /-- COMMAND_COMPLETE (R111). A running command finishes after its output writes and hands its completion record for posting. -/
  | commandComplete (ctx : Nat) (queue : Nat) (ssn : Nat)
  /-- COMPLETION_POST (R258). A held completion record takes the next CSN and is written once the completion ring has room. -/
  | completionPost (ctx : Nat) (queue : Nat)
  /-- MOD_TIMER_EXPIRE (R282). MOD_US elapses since the first pending record and the context's vector is sent. -/
  | modTimerExpire (ctx : Nat)
  /-- CQ_CIDX_WRITE (R258). The owner advances CQ_CIDX, freeing room for held completion records. -/
  | cqCidxWrite (port : Authority) (ctx : Nat) (value : Nat)
  /-- EQ_CIDX_WRITE (R259). The owner advances EQ_CIDX; a GAP for discarded events is posted and EV_DROP cleared. -/
  | eqCidxWrite (port : Authority) (ctx : Nat) (value : Nat)
  /-- RING_CFG_WRITE (R246). A write to a ring's base, size or enable takes effect only under the disable and idle conditions. -/
  | ringCfgWrite (port : Authority) (ctx : Nat) (sub : Nat) (value : Nat)
  /-- QUEUE_ENABLE_WRITE (R247). A write of Q_EN enables or disables a queue within the part-wide limit and the drain condition. -/
  | queueEnableWrite (port : Authority) (ctx : Nat) (value : Nat)
  /-- ASSIGN (R272). CTX_CMD ASSIGN gives a context to an owner, beginning a new lifetime, or is refused with a RESULT. -/
  | assign (port : Authority) (ctx : Nat) (owner : Nat)
  /-- RELEASE (R273). CTX_CMD RELEASE resets a context, discards its image and starts zeroing its extents. -/
  | release (port : Authority) (ctx : Nat)
  /-- RELEASE_DONE (R273). The zeroing of a released context's extents completes and it becomes UNOWNED. -/
  | releaseDone (ctx : Nat)
  /-- CTX_CFG_WRITE (R274). A write to a context's placement, affinity, extents or interrupt settings is checked and applied or dropped. -/
  | ctxCfgWrite (port : Authority) (reg : Nat) (len : Nat) (value : Nat)
  /-- OWN_CORES_WRITE (R276). A write to OWN_CORES takes effect only when every owned context's affinity stays inside it. -/
  | ownCoresWrite (port : Authority) (owner : Nat) (value : Nat)
  /-- SHARE_WRITE (R286). A write to QUAD SHARE bytes takes effect only while the quadrant's shares sum to at most 256. -/
  | shareWrite (port : Authority) (quad : Nat) (owner : Nat) (len : Nat) (value : Nat)
  /-- NL_DETECT (R301). An enabled NL port detects signal from SERVICE and begins negotiation. -/
  | nlDetect (port : Nat) (lanes : Nat)
  /-- NL_CAP_RECEIVE (R302). A CAP record arrives and both ends choose the same lane rate and width. -/
  | nlCapReceive (port : Nat) (flit : Flit)
  /-- NL_TRAIN_DONE (R303). Equalisation training ends; failed lanes leave the mask and negotiation repeats, or the port moves to IDENTIFY. -/
  | nlTrainDone (port : Nat) (lanes : Nat)
  /-- NL_IDENT_RECEIVE (R305). The partner's IDENT arrives and the port decides loopback, foreign, resumed or new. -/
  | nlIdentReceive (port : Nat) (flit : Flit)
  /-- NL_PROBES_DONE (R317). The 16 delay probes complete and NL_DELAY becomes valid. -/
  | nlProbesDone (port : Nat)
  /-- NL_CREDIT_INIT (R301). CREDIT_INIT is exchanged, the port becomes UP and its NL_UP bit is set. -/
  | nlCreditInit (port : Nat) (flit : Flit)
  /-- NL_FAILED_RETRY (R304). Each second a FAILED port with signal restarts negotiation. -/
  | nlFailedRetry (port : Nat) (lanes : Nat)
  /-- DATA_FLIT_RECEIVE (R309). A DATA flit arrives, is checked by CRC and sequence, and is consumed or forwarded with its credit returned. -/
  | dataFlitReceive (port : Nat) (flit : Flit)
  /-- FLIT_TRANSMIT (R310). The transmitter sends the next flit by precedence: replay, URGENT, then ORDERED and BULK alternately. -/
  | flitTransmit (port : Nat)
  /-- NAK_RECEIVE (R311). A NAK arrives and the sender retransmits from the partner's ACK. -/
  | nakReceive (port : Nat) (flit : Flit)
  /-- ACK_TIMEOUT (R311). ACK makes no progress for ACK_US and the sender retransmits, entering HOLD after REPLAY_MAX tries. -/
  | ackTimeout (port : Nat)
  /-- WIDTH_RECEIVE (R313). A WIDTH record arrives and the port recomputes its mode and enters RETRAIN. -/
  | widthReceive (port : Nat) (flit : Flit)
  /-- RETRAIN_DONE (R313). RETRAIN completes at the reduced width keeping sequence, replay and credits. -/
  | retrainDone (port : Nat)
  /-- ROUTE_STATE_RECEIVE (R308). A ROUTE_STATE record updates the partner's routable bit. -/
  | routeStateReceive (port : Nat) (flit : Flit)
  /-- PROBE_RECEIVE (R317). A PROBE arrives and is answered with a stamped PROBE_REPLY. -/
  | probeReceive (port : Nat) (flit : Flit) (t2 : Nat) (t3 : Nat)
  /-- PROBE_REPLY_RECEIVE (R340). A PROBE_REPLY arrives, giving a delay sample and updating FT_OFFSET and the rate ratio. -/
  | probeReplyReceive (port : Nat) (flit : Flit) (t1 : Nat) (t4 : Nat)
  /-- NL_PROBE_TIMER (R317). Each second an UP port starts a delay measurement. -/
  | nlProbeTimer (port : Nat)
  /-- LANE_FENCE (R312). A lane loses lock twice or exceeds its FEC correction count and is fenced. -/
  | laneFence (port : Nat) (lane : Nat) (corrected : Nat)
  /-- PMA_LOCK_LOSS (R315). Every lane in use loses lock and the port enters HOLD with its retry timer. -/
  | pmaLockLoss (port : Nat)
  /-- FEC_ALIGN_LOSS (R315). FEC alignment is lost and the port enters HOLD. -/
  | fecAlignLoss (port : Nat)
  /-- RETRY_TIMER_EXPIRE (R306). A HOLD port's retry timer expires: replay state is discarded, requests complete PEER_LOST and ROUTE_GEN increments. -/
  | retryTimerExpire (port : Nat)
  /-- NL_RENEG (R315). A write of 1 to NL_CFG.RENEG puts the port into HOLD. -/
  | nlReneg (port : Authority) (nl : Nat)
  /-- NL_LANE_UNFENCE (R314). HOST writes 1 to a lane's FENCED bit, returning it at the next negotiation. -/
  | nlLaneUnfence (port : Authority) (nl : Nat) (lanes : Nat)
  /-- ROUTE_ENT_WRITE (R322). A write to ROUTE_ENT sets a route entry and advances ROUTE_IDX. -/
  | routeEntWrite (port : Authority) (value : Nat)
  /-- FAB_ID_WRITE (R348). A write to FAB_ID sets the part ID when no port is identified or up, releasing ports waiting in IDENTIFY. -/
  | fabIdWrite (port : Authority) (value : Nat)
  /-- ROUTE_WAIT_EXPIRE (R324). A flit waiting on a HOLD path outlives the retry timer and is discarded and answered. -/
  | routeWaitExpire (n : Nat)
  /-- ORDERED_FLIT_RECEIVE (R326). The destination applies, holds or discards an ORDERED flit by session and OSEQ and acknowledges it. -/
  | orderedFlitReceive
  /-- ORD_ACK_RECEIVE (R327). An ORD_ACK releases acknowledged ORDERED flits, or refuses the session with PEER_LOST. -/
  | ordAckReceive
  /-- ORD_RETRANSMIT (R327). An ORDERED flit stays unacknowledged for ORD_US and is retransmitted. -/
  | ordRetransmit (dst : Nat)
  /-- LOST_NOTICE_RECEIVE (R327). A LOST_NOTICE arrives and its request completes with PEER_LOST. -/
  | lostNoticeReceive
  /-- GET_REQ_RECEIVE (R329). A remote get is admitted and answered with a GET_REPLY, held for a recovering context, or refused. -/
  | getReqReceive
  /-- PUT_RECEIVE (R330). A remote PUT is admitted, applied and acknowledged with PUT_ACK. -/
  | putReceive
  /-- PUT_O_RECEIVE (R330). A PUT_O is applied in issue order and acknowledged. -/
  | putOReceive
  /-- GET_REPLY_RECEIVE (R332). A GET_REPLY delivers data to the issuing group, or is dropped on a stale generation. -/
  | getReplyReceive
  /-- PUT_ACK_RECEIVE (R330). A PUT_ACK marks a remote write as taken effect. -/
  | putAckReceive
  /-- REMOTE_TIMEOUT (R331). A remote request gets no reply within RMT_MS and completes with PEER_LOST. -/
  | remoteTimeout (tag : Nat)
  /-- COLL_JOIN_RECEIVE (R339). A COLL_JOIN arrives from a child, or is held as early, advancing the JOIN phase. -/
  | collJoinReceive
  /-- COLL_GO_RECEIVE (R335). COLL_GO arrives from the parent and the member enters READ. -/
  | collGoReceive
  /-- COLL_DATA_RECEIVE (R336). Collective data arrives and is combined or copied into staging. -/
  | collDataReceive
  /-- COLL_READY_RECEIVE (R335). A child's READY arrives; the member sends READY upward, or the root sends COMMIT. -/
  | collReadyReceive
  /-- COLL_COMMIT_RECEIVE (R335). COMMIT arrives and the member copies staging to its destination and forwards COMMIT. -/
  | collCommitReceive
  /-- COLL_DONE_RECEIVE (R338). A child's DONE arrives, propagating towards the root, which sends FINISH. -/
  | collDoneReceive
  /-- COLL_FINISH_RECEIVE (R338). FINISH arrives and the COLL command completes OK. -/
  | collFinishReceive
  /-- COLL_ABORT_RECEIVE (R337). COLL_ABORT of the same CGEN arrives; the member aborts, forwards it and completes COLLECTIVE_ABORT. -/
  | collAbortReceive
  /-- COLL_TIMEOUT (R337). COLL_TMO elapses from the command's start and the member aborts the collective. -/
  | collTimeout (ctx : Nat) (cgen : Nat)
  /-- BAR_ARRIVE_RECEIVE (R341). A child's BAR_ARRIVE arrives and the part arrives and sends upward once its local commands are in. -/
  | barArriveReceive (dwell : Nat)
  /-- BAR_RELEASE_RECEIVE (R343). BAR_RELEASE arrives; the part computes its remaining time and forwards to its children. -/
  | barReleaseReceive (dwell : Nat)
  /-- BARRIER_RELEASE (R344). The release countdown ends; local BARRIER commands complete OK and BAR_GEN, STEP and SKEW_OK are set. -/
  | barrierRelease
  /-- BAR_ABORT_RECEIVE (R346). BAR_ABORT arrives; the part completes its commands PEER_LOST and forwards the abort. -/
  | barAbortReceive
  /-- BARRIER_TIMEOUT (R346). BAR_TMO elapses before release; commands complete PEER_LOST and BAR_ABORT is sent. -/
  | barrierTimeout
  /-- STEP_WRITE (R347). HOST writes BARRIER.STEP while the barrier is IDLE, setting the field step. -/
  | stepWrite (port : Authority) (value : Nat)
  /-- PEER_INFO_RECEIVE (R565). A MGMT PEER_INFO flit is answered with serial, part ID, level, lifecycle and LIVE; other subtypes are discarded. -/
  | peerInfoReceive
  /-- FLT_TOKEN_ACCEPT (R357). FLT accepts a token, sets its sticky bit, fixes its class and hands it to the ladder, Serac, Moraine and event rings. -/
  | fltTokenAccept
  /-- MORAINE_WRITE (R364). Moraine writes the next queued entry, with its RSEQ, into the ring when there is room. -/
  | moraineWrite
  /-- MORAINE_MOD_TIMER (R367). MOD_US elapses since the first unsignalled entry and Moraine sends PF0 vector 1. -/
  | moraineModTimer
  /-- MOR_EN_WRITE (R613). A write to MOR_CTL.EN starts or stops ring writing and resets PIDX and CIDX on enable. -/
  | morEnWrite (port : Authority) (value : Nat)
  /-- RATE_WINDOW_END (R369). A 1 ms rate window ends; FLT raises RATE_LIMITED for pages whose tokens were withheld. -/
  | rateWindowEnd
  /-- CONTEXT_RESET_DRAINED (R263). A context's memory requests drain; held records, GAP, ABORTED and GEN_CHANGE are posted. -/
  | contextResetDrained (ctx : Nat)
  /-- RECOVERED_POST (R443). Once its outstanding remote requests are settled, RECOVERED is posted for a reset context. -/
  | recoveredPost (ctx : Nat)
  /-- ENGINE_RESET_DONE (R445). The core's logic is reset and retested, its clock restarts with ALIGN and BLK_GEN increments. -/
  | engineResetDone (result : AdmitResult)
  /-- PARTITION_RESET_DONE (R447). The quadrant's stack, controller and cores are restarted and retested and the quadrant is READY. -/
  | partitionResetDone (quad : Nat) (trained : Bool) (results : List AdmitResult)
  /-- CHIP_RESET_ASSERT (R448). CLKRST asserts the chip reset once pre-reset work ends or 20 ms pass, starting the warm path. -/
  | chipResetAssert
  /-- POWER_CYCLE_HOLD (R449). The part stops clocks, sets PC_STAT.PENDING, asserts ALERT_n, sends IBI 0xC7 and holds. -/
  | powerCycleHold
  /-- RESET_STEP_OVERRUN (R455). A reset step misses its bound and the reset escalates one level. -/
  | resetStepOverrun (level : Nat) (domain : Nat) (core : Option Nat)
  /-- PROGRESS_WINDOW_EXPIRE (R439). A page's progress timer reaches WIN_US without BLK_PROG changing and raises PROGRESS_STALL. -/
  | progressWindowExpire (page : Nat)
  /-- RST_CMD_ENGINE (R464). RST_CMD with LEVEL 0x2 and the key starts an engine reset of the target core. -/
  | rstCmdEngine (port : Authority) (key : Nat) (core : Nat)
  /-- RST_CMD_PARTITION (R464). RST_CMD with LEVEL 0x3 and the key starts a partition reset of the target quadrant. -/
  | rstCmdPartition (port : Authority) (key : Nat) (quad : Nat)
  /-- RST_CMD_POWER_CYCLE (R464). RST_CMD with LEVEL 0x6 and the key starts a power-cycle request. -/
  | rstCmdPowerCycle (port : Authority) (key : Nat)
  /-- CAP_DMA_GO (R463). Writing GO starts copying the capture record with CAP_DMA_SEQ to host memory, or reports NO_RECORD. -/
  | capDmaGo (port : Authority)
  /-- CAP_DMA_DONE (R463). The capture record copy completes and RESULT is set. -/
  | capDmaDone (ok : Bool)
  /-- SOLO_WRITE (R465). A write to QENG.SOLO dedicates a core to one context for guilt finding, or is dropped. -/
  | soloWrite (port : Authority) (value : Nat)
  /-- SHADOW_PASS_START (R378). A selected shadow or third pass starts ahead of pending passes on its core. -/
  | shadowPassStart (core : Nat) (exact : Bool)
  /-- SHADOW_COMPARE (R381). A shadow pass ends and the comparator matches signatures, freeing the entry or starting a third pass. -/
  | shadowCompare (core : Nat) (exact : Bool) (faults : List (Nat × Int)) (parity : Bool) (missed : Bool)
  /-- THIRD_PASS_VERDICT (R381). A third pass ends and the verdict SHADOW, PRIMARY or SPLIT is charged and raised as SHADOW_MISMATCH. -/
  | thirdPassVerdict (core : Nat) (exact : Bool) (faults : List (Nat × Int))
  /-- SHADOW_HOLD_EXPIRE (R378). A shadow or third pass has not started within HOLD_US; the sample is abandoned or UNRESOLVED. -/
  | shadowHoldExpire (entry : Nat)
  /-- SAMPLE_DEADLINE (R382). 100 us after a primary pass, an unresolved sample is UNRESOLVED or abandoned. -/
  | sampleDeadline (entry : Nat)
  /-- SCORE_DECAY (R397). Every 24 h of field time Serac halves every suspect score. -/
  | scoreDecay
  /-- SPARE_MAP (R399). After the running readout, Serac maps a spare row or column, records it in FENCE and releases the DSA. -/
  | spareMap (core : Nat)
  /-- CORE_FENCE (R401). After drain or DRAIN.MS, the core is fenced, recorded in FENCE and stops being live. -/
  | coreFence (core : Nat)
  /-- PACK_LOAD (R411). Writing PACK_CTL.LOAD starts Chanter reading and checking a test pack. -/
  | packLoad (port : Authority)
  /-- PACK_ADMIT (R411). The pack checks finish, admitting the pack or rejecting it with PACK_REJECTED. -/
  | packAdmit (readOk : Bool)
  /-- SLICE_START (R416). A chosen core's pass and readout finish and a test slice or forced window starts. -/
  | sliceStart (core : Nat)
  /-- OD_CLOCK_SWITCH (R418). The margin PLL locks and the core switches to or from the overdrive clock with an ALIGN pulse. -/
  | odClockSwitch (core : Nat)
  /-- SLICE_END (R416). A slice ends, records results, is charged to the slice credit and returns the core to normal issue. -/
  | sliceEnd (core : Nat) (faults : List PatFault)
  /-- REF_WINDOW_DUE (R432). REF_S passes without a valid reference window and a forced window falls due. -/
  | refWindowDue (core : Nat)
  /-- QTEST_CORE (R429). QTEST KIND CORE requests a full pattern test of one core, draining it first. -/
  | qtestCore (port : Authority) (quad : Nat) (target : Nat) (drain : Bool) (od : Bool)
  /-- QTEST_VOLT (R426). QTEST KIND VOLT requests a voltage-reduction test of the quadrant rail. -/
  | qtestVolt (port : Authority) (quad : Nat) (drain : Bool)
  /-- QTEST_PUMP (R428). QTEST KIND PUMP requests a thermal pump test of a target core. -/
  | qtestPump (port : Authority) (quad : Nat) (target : Nat) (drain : Bool)
  /-- QTEST_CANCEL (R422). QTEST KIND 0xF cancels a running test, which ends ABORTED after its restore steps. -/
  | qtestCancel (port : Authority) (quad : Nat)
  /-- TEST_DRAIN_DONE (R424). The drained set holds no group (and held contexts are idle) and the explicit test starts. -/
  | testDrainDone (quad : Nat)
  /-- TEST_DRAIN_TIMEOUT (R424). DRAIN_MS passes under DRAIN_ON_REQUEST and contexts still resident on the drained set are frozen. -/
  | testDrainTimeout (quad : Nat)
  /-- TEST_WAIT_TIMEOUT (R424). WAIT_MS passes under WAIT_IDLE; the drained set is released and RESULT reads NOT_STARTED. -/
  | testWaitTimeout (quad : Nat)
  /-- VOLT_LEVEL_SETTLED (R426). The rail settles at a VOLT level and the patterns run there. -/
  | voltLevelSettled (quad : Nat)
  /-- AVS_SETTLE_TIMEOUT (R426). A voltage step does not settle within 100 us, raising AVS_FAULT and ending the test INCONCLUSIVE. -/
  | avsSettleTimeout (quad : Nat)
  /-- PUMP_GOAL_REACHED (R428). The target core reaches T_goal and the hold begins. -/
  | pumpGoalReached (quad : Nat)
  /-- PUMP_GOAL_TIMEOUT (R428). T_goal is not reached within 500 ms and the test ends INCONCLUSIVE after cooling. -/
  | pumpGoalTimeout (quad : Nat)
  /-- PUMP_HOLD_EXPIRE (R428). HOLD_MS at T_goal ends and the heaters are turned off. -/
  | pumpHoldExpire (quad : Nat)
  /-- PUMP_COOLED (R428). The target cools to within 5 C of T_start and the test ends. -/
  | pumpCooled (quad : Nat)
  /-- MARGIN_TICK (R433). Every 1 ms the estimator updates margin and guard band and AVS raises or lowers targets or caps cores. -/
  | marginTick (margins : List Int)
  /-- ESTIMATE_STALE (R434). AGE reaches 600 s; the core enters STALE and its clock is pinned to the safe table. -/
  | estimateStale (core : Nat)
  /-- FREEZE_COMPLETE (R470). A freeze's passes drain and live state (and any eviction) is written; the context becomes FROZEN and the completion is posted. -/
  | freezeComplete (ctx : Nat)
  /-- THAW_COMPLETE (R478). A thaw restores extent and live state, restarts withdrawn passes, and posts its completion when every group is resident. -/
  | thawComplete (ctx : Nat)
  /-- CKPT_SHARD_DONE (R495). A shard is encoded, written, digested and sent to the holder and host copies. -/
  | ckptShardDone (copy : Nat) (misses : Nat)
  /-- CKPT_SEAL (R495). HORIZON passes CLEAN_TIME; SPOILED is decided, manifests written and CKPT_SEQ incremented. -/
  | ckptSeal (holder : Nat)
  /-- BUDDY_OFFER_RECEIVE (R500). A holder receives OFFER from a member and accepts it into the free slot or refuses it. -/
  | buddyOfferReceive (src : Nat) (step : Nat) (seq : Nat) (size : Nat)
  /-- BUDDY_SHARD_RECEIVE (R498). A holder receives and digests a buddy shard. -/
  | buddyShardReceive (src : Nat) (entry : Nat) (off : Nat) (data : List Byte)
  /-- BUDDY_MANIFEST_RECEIVE (R498). A holder receives the manifest, compares digests and asks again or raises SHARD_DIGEST. -/
  | buddyManifestReceive (src : Nat) (data : List Byte)
  /-- RESTORE_DONE (R506). A RESTORE has written every shard, checked digests and completes. -/
  | restoreDone (manifest : List Byte) (fetched : List (Nat × List Byte × List Byte)) (glitch : List Nat)
  /-- FIRN_AREA_WRITE (R485). A write to HOME, HOLD_ENT or BUDDY sets a checkpoint area when Firn is idle and areas do not overlap. -/
  | firnAreaWrite (port : Authority) (reg : Nat) (value : Nat)
  /-- CTX_IMG_WRITE (R468). A write to CTX_IMG sets a context's image region and survival bits. -/
  | ctxImgWrite (port : Authority) (value : Nat)
  /-- VMARK_CLR (R515). The owner writes 1 to VMARK_CLR, clearing VMARK only while the context is IDLE. -/
  | vmarkClr (port : Authority) (ctx : Nat) (value : Nat)
  /-- SENSOR_CONVERSION (R525). Every 25 us each sensor converts and warning, fencing and rate checks are made. -/
  | sensorConversion (raw : List Int)
  /-- SFENCE_CLEAR (R527). HOST writes 1 to a sensor's SFENCE bit and the sensor is checked again. -/
  | sfenceClear (port : Authority) (sensor : Nat)
  /-- GRP_CFG_WRITE (R529). A write to GRP_CFG sets warn, throttle and rate limits, dropped if THROT is below WARN. -/
  | grpCfgWrite (port : Authority) (group : Nat) (value : Nat)
  /-- THERMTRIP (R535). A trip diode or sensor reaches 118 C; THERMTRIP_n asserts, clocks stop and stacks hold in self-refresh. -/
  | thermtrip (idx : Nat)
  /-- RC_TRIM (R538). Every 1 ms the Drone domain trims the RC oscillator from RC_COMP at the DT reading. -/
  | rcTrim (dt : Int)
  /-- VMON_SAMPLE (R540). Every 1 us a voltage monitor samples its rail and checks alarm thresholds. -/
  | vmonSample (monitor : Nat) (raw : Nat)
  /-- VMON_RANGE_VALID (R542). A monitor becomes valid after a range change and held-back targets may be sent. -/
  | vmonRangeValid (monitor : Nat) (raw : Nat)
  /-- PWR_TARGET_RUN (R545). PWR_CTL TARGET RUN returns the part from TRIM or wakes it from DOZE or DRONE. -/
  | pwrTargetRun (port : Authority)
  /-- PWR_TARGET_TRIM (R546). PWR_CTL TARGET TRIM limits every core clock to 0.8 GHz. -/
  | pwrTargetTrim (port : Authority)
  /-- PWR_TARGET_DOZE (R547). PWR_CTL TARGET DOZE starts entry to DOZE when every context is idle or frozen. -/
  | pwrTargetDoze (port : Authority)
  /-- PWR_TARGET_DRONE (R549). PWR_CTL TARGET DRONE starts entry to DRONE when contexts are unowned or evicted and VFs disabled. -/
  | pwrTargetDrone (port : Authority)
  /-- DOZE_ENTERED (R547). Slices end and blocks are gated; the part is in DOZE. -/
  | dozeEntered
  /-- DRONE_ENTERED (R549). Every domain but Drone is gated and the part is in DRONE. -/
  | droneEntered
  /-- WAKE_EVENT (R551). A wake source acts, returning the part to RUN or starting the DRONE exit chip reset, or cancelling an entry. -/
  | wakeEvent (code : Nat) (port : Nat)
  /-- ALARM_EXPIRE (R551). Field time reaches DRONE.ALARM, a wake source. -/
  | alarmExpire
  /-- CAL_COMMIT (R556). TRAY commits a staged calibration record, which is validated and starts writing. -/
  | calCommit (port : Authority) (type : Nat)
  /-- CAL_WRITE_DONE (R557). The MRAM write completes; CAL_WRITTEN is raised and the record takes effect. -/
  | calWriteDone
  /-- LC_REQ_FIELD (R570). LC_REQ TARGET FIELD with the key burns the next lifecycle bit and resets the chip. -/
  | lcReqField (port : Authority) (key : Nat)
  /-- LC_REQ_RETURN (R570). LC_REQ TARGET RETURN with a valid LC_RETURN token burns the next bit and resets the chip. -/
  | lcReqReturn (port : Authority) (key : Nat)
  /-- LC_REQ_SCRAP (R570). LC_REQ TARGET SCRAP burns L7 and resets the chip. -/
  | lcReqScrap (port : Authority) (key : Nat)
  /-- TOKEN_LOAD (R575). Writing SEC.TOKEN at 0x17C loads a vendor token and sets TOKEN_STAT. -/
  | tokenLoad (port : Authority) (value : Nat)
  /-- DBG_REQ_SEALED (R577). DBG_REQ lowers the debug level to SEALED. -/
  | dbgReqSealed (port : Authority)
  /-- DBG_REQ_OBSERVE (R577). DBG_REQ raises or lowers the debug level to OBSERVE where allowed. -/
  | dbgReqObserve (port : Authority)
  /-- DBG_REQ_INVASIVE (R578). DBG_REQ raises the level to INVASIVE where allowed, in FIELD only with a token and no VF context. -/
  | dbgReqInvasive (port : Authority)
  /-- SVN_COMMIT (R586). HOST with the key raises MIN_SVN to the running image's SVN. -/
  | svnCommit (port : Authority) (key : Nat)
  /-- FW_UPDATE (R585). Writing FW_CTL.UPDATE starts checking and programming an image into the other flash slot. -/
  | fwUpdate (port : Authority)
  /-- FW_UPDATE_DONE (R585). The slot is programmed and read back, IMGDIG is cleared and FW_STAT reports the result. -/
  | fwUpdateDone (readOk : Bool) (flashOk : Bool)
  /-- TAP_BYPASS (R580). TAP instruction BYPASS selects the 1-bit register. -/
  | tapBypass
  /-- TAP_IDCODE (R580). TAP instruction IDCODE returns the 32-bit identification. -/
  | tapIdcode
  /-- TAP_SAMPLE_PRELOAD (R580). TAP SAMPLE/PRELOAD accesses the boundary register in MANUF and RETURN. -/
  | tapSamplePreload (pins : Nat) (data : Nat)
  /-- TAP_EXTEST (R580). TAP EXTEST drives pins from the boundary register in MANUF and RETURN. -/
  | tapExtest (pins : Nat) (data : Nat)
  /-- TAP_SECSTAT (R580). TAP instruction SECSTAT returns SEC_STAT. -/
  | tapSecstat
  /-- TAP_TOKEN (R575). TAP instruction TOKEN loads a vendor token at Update-DR. -/
  | tapToken (data : List Byte)
  /-- TAP_DBGREQ (R577). TAP instruction DBGREQ requests a debug level. -/
  | tapDbgreq (level : Nat)
  /-- TAP_REGAP (R581). TAP instruction REGAP makes a register access with DEBUG authority. -/
  | tapRegap (data : Nat)
  /-- TAP_MEMAP (R581). TAP instruction MEMAP reads or writes local memory at INVASIVE. -/
  | tapMemap (data : Nat)
  /-- I3C_ADDRESS_ASSIGN (R607). The I3C target takes a dynamic address through ENTDAA or SETDASA. -/
  | i3cAddressAssign (entdaa : Bool) (static : Nat) (addr : Nat)
  /-- I3C_TRANSFER (R566). A TRAY I3C private transfer reads or writes a PF0 register or the staging window. -/
  | i3cTransfer (addr : Nat) (write : Bool) (value : Nat)
  /-- CHANTER_WATCHDOG_EXPIRE (R58). The Chanter watchdog expires, raising WATCHDOG and starting a chip reset with cause 0x6 that discards the resident image. -/
  | chanterWatchdogExpire
  /-- CHANTER_SRAM_PARITY (R58). A parity error is found in Chanter's SRAM, raising CHANTER_PARITY of class CHIP and barring reuse of the resident image. -/
  | chanterSramParity (off : Nat)
  /-- UNDEFINED_OPCODE (R202). A group issues an instruction whose OP is undefined, ending the dispatch with KERNEL_FAULT and ILLEGAL_OP. -/
  | undefinedOpcode (core : Nat) (place : Nat)
  /-- FETCH_OUT_OF_RANGE (R202). A group's next issue fetches outside PROG_ADDR to PROG_ADDR + PROG_LEN, ending the dispatch with KERNEL_FAULT and FETCH_FAULT. -/
  | fetchOutOfRange (core : Nat) (place : Nat)
  /-- VF_ENABLE_SET (R101). Setting VF Enable makes VFs 1 to NumVFs exist. -/
  | vfEnableSet
  /-- MSIX_VECTOR_UNMASK (R284). Clearing a vector's Mask bit while its pending bit is set sends the pending message, as PCI Express requires. -/
  | msixVectorUnmask (func : Nat) (vec : Nat)
  /-- PCIE_LINK_L0 (R552). The PCIe link reaches L0, ending WAKE_n assertion after a DRONE exit and fixing the link's flit mode. -/
  | pcieLinkL0 (width : Nat) (rate : Nat) (hostFlit : Bool)
  /-- DOZE_EXIT_COMPLETE (R551). The return from DOZE completes: core clocks restart with ALIGN, WAKE_n is released, DRONE_WAKE is raised and waiting commands may start. -/
  | dozeExitComplete
  /-- NL_FOREIGN_RETRY (R305). Each second a port in FOREIGN retries negotiation with its partner. -/
  | nlForeignRetry (port : Nat) (lanes : Nat)
  /-- BAR_TREE_WRITE (R349). A write to BAR_TREE takes effect only while the barrier is IDLE and is otherwise dropped with CFG_DENIED. -/
  | barTreeWrite (port : Authority) (value : Nat)
  /-- SHADOW_EN_WRITE (R404). A write to SRC_CTL.SHADOW_EN enables or disables shadowing, raising SCREEN_DEGRADED with reason 0x0003 on a change from 1 to 0. -/
  | shadowEnWrite (port : Authority) (on : Bool)
  /-- SLICE_EN_CLEAR (R419). HOST clears TST_CTL.SLICE_EN, cutting off a running slice with SLICE_ABORTED cause 0x4 and making the core ineligible. -/
  | sliceEnClear (port : Authority) (core : Nat)
  /-- SLICE_CORE_CHOSEN (R415). With slice credit at least 0, Serac chooses the next eligible core, stops its new passes and issue, and starts the margin PLL when overdrive is due. -/
  | sliceCoreChosen (quad : Nat)
  /-- NATURAL_REF_WINDOW (R431). A core has stayed idle at profile voltage and frequency for 20 us, giving a valid reference window that resets AGE, applies MARGIN records and ends STALE. -/
  | naturalRefWindow (core : Nat)
  /-- EXPLICIT_PATTERNS_DONE (R429). The patterns of an explicit test finish, ending a CORE test or moving a VOLT test to its next level or to restore. -/
  | explicitPatternsDone (quad : Nat) (faults : List PatFault)
  /-- LC_FUSE_BURN_DONE (R570). All three fuses of the lifecycle bit are burned, LIFECYCLE is raised and the pre-reset steps toward the chip reset begin. -/
  | lcFuseBurnDone
  /-- BUDDY_REFUSAL_RECEIVE (R500). A member receives the holder's refusal of its OFFER, and its CKPT completes with NO_AREA after the home copy is sealed. -/
  | buddyRefusalReceive (src : Nat)
  /-- BUDDY_RESEND_REQUEST_RECEIVE (R498). A member receives the holder's request for a shard once more and sends it again. -/
  | buddyResendRequestReceive (src : Nat) (entry : Nat)
  /-- SHARD_FETCH_REQUEST_RECEIVE (R503). A part receives a request for a shard of its home or held copy from a restoring part and sends the shard. -/
  | shardFetchRequestReceive (src : Nat) (member : Nat) (step : Nat) (region : Nat) (shard : Nat)
  deriving DecidableEq, Repr

end Sys2Proof
end

