-- ==== Sys2Proof/Machine/Regs.lean ====
section
/-! DEFINITION. The register pages: one row per field of every register table of the spec, with its
place, access code, authorities, reset value and what keeps it, and the common page header. The rows of a
field give both its meaning to software (reads and writes by port) and its home in State.regs. -/
namespace Sys2Proof.Machine

/-- Access codes (Table 0-3). -/
inductive Access where
  | ro | rw | rw1c | rw1s | ros | wo | rwl | rc
  deriving DecidableEq, Repr

/-- What keeps a field's value: nothing (any reset of its block); every chip reset that does not come from PERST_n
(`warm`); every chip reset (`chip`); the Drone domain's power; or a fuse. -/
inductive Keep where
  | none | warm | chip | drone | fuse
  deriving DecidableEq, Repr

/-- One field of one register table. Bit `lo` counts from byte `off` of the page; instance k of the page
lies `pstep` pages on, index i of the register `stride` bytes on. `alt` gives one index a reset value of its
own; `ident` says that index i resets to i. -/
structure Row where
  page : Nat
  pstep : Nat
  off : Nat
  stride : Nat
  count : Nat
  lo : Nat
  width : Nat
  acc : Access
  rd : List Authority
  wr : List Authority
  reset : Nat
  keep : Keep
  alt : Option (Nat × Nat)
  ident : Bool
  deriving DecidableEq, Repr

/-- The bit of the PF0 register space at which a field lies: its key in State.regs. -/
def Row.bit (r : Row) (k i : Nat) : Nat :=
  ((r.page + r.pstep * k) * 4096 + r.off + r.stride * i) * 8 + r.lo

/-- The reset value of index i of a field. -/
def Row.resetAt (r : Row) (i : Nat) : Nat :=
  if r.ident then i
  else match r.alt with
    | .some (j, v) => if i = j then v else r.reset
    | .none => r.reset

def aAll : List Authority := [.host, .tray, .debug, .self_]
def aHD : List Authority := [.host, .debug, .self_]
def aHS : List Authority := [.host, .self_]
def aHTS : List Authority := [.host, .tray, .self_]
def aHDS : List Authority := [.host, .debug, .self_]
def aHT : List Authority := [.host, .tray]
def aHTD : List Authority := [.host, .tray, .debug]
def aTS : List Authority := [.tray, .self_]
def aDS : List Authority := [.debug, .self_]
def aH : List Authority := [.host]
def aT : List Authority := [.tray]
def aS : List Authority := [.self_]
def aNone : List Authority := []

/-! ### HDR page header (R114, Table 3-6) -/
def HDR.BLK_GEN : Row := ⟨0, 1, 12, 0, 1, 0, 32, .ro, aAll, aNone, 0, .chip, .none, false⟩
def HDR.CTL_LOCK : Row := ⟨0, 1, 16, 0, 1, 31, 1, .rw1s, aAll, aHS, 0, .none, .none, false⟩
def HDR.CTL_QUIESCE : Row := ⟨0, 1, 16, 0, 1, 3, 1, .rw, aAll, aHS, 0, .none, .none, false⟩
def HDR.CTL_TEST_HOLD : Row := ⟨0, 1, 16, 0, 1, 2, 1, .rw, aAll, aDS, 0, .none, .none, false⟩
def HDR.CTL_FENCE : Row := ⟨0, 1, 16, 0, 1, 1, 1, .rw, aAll, aHS, 0, .none, .none, false⟩
def HDR.CTL_ENABLE : Row := ⟨0, 1, 16, 0, 1, 0, 1, .rw, aAll, aHS, 1, .none, .none, false⟩
def HDR.STAT_ERR_PENDING : Row := ⟨0, 1, 20, 0, 1, 5, 1, .ro, aAll, aNone, 0, .none, .none, false⟩
def HDR.STAT_QUIESCED : Row := ⟨0, 1, 20, 0, 1, 4, 1, .ro, aAll, aNone, 0, .none, .none, false⟩
def HDR.STAT_STATE : Row := ⟨0, 1, 20, 0, 1, 0, 4, .ro, aAll, aNone, 1, .none, .none, false⟩
def HDR.BLK_ERR : Row := ⟨0, 1, 24, 0, 1, 0, 32, .rw1c, aAll, aHS, 0, .none, .none, false⟩
def HDR.BLK_ERRMASK : Row := ⟨0, 1, 28, 0, 1, 0, 32, .rw, aAll, aHS, 0, .none, .none, false⟩
def HDR.BLK_ERRINJ : Row := ⟨0, 1, 32, 0, 1, 0, 32, .rwl, aAll, aHD, 0, .none, .none, false⟩
def HDR.TOKCFG_OVR_EN : Row := ⟨0, 1, 36, 0, 1, 31, 1, .rw, aAll, aHS, 0, .none, .none, false⟩
def HDR.TOKCFG_OVR_CLASS : Row := ⟨0, 1, 36, 0, 1, 28, 3, .rw, aAll, aHS, 0, .none, .none, false⟩
def HDR.TOKCFG_OVR_KIND : Row := ⟨0, 1, 36, 0, 1, 16, 8, .rw, aAll, aHS, 0, .none, .none, false⟩
def HDR.TOKCFG_RATE : Row := ⟨0, 1, 36, 0, 1, 0, 16, .rw, aAll, aHS, 0, .none, .none, false⟩
def HDR.BLK_PROG : Row := ⟨0, 1, 40, 0, 1, 0, 32, .ro, aAll, aNone, 0, .none, .none, false⟩
def HDR.PROGWIN_WIN_US : Row := ⟨0, 1, 44, 0, 1, 0, 22, .rw, aAll, aHS, 50000, .none, .none, false⟩

/-- The fields of the HDR page. -/
def rowsHDR : List Row :=
  [HDR.BLK_GEN, HDR.CTL_LOCK, HDR.CTL_QUIESCE, HDR.CTL_TEST_HOLD, HDR.CTL_FENCE, HDR.CTL_ENABLE, HDR.STAT_ERR_PENDING, HDR.STAT_QUIESCED, HDR.STAT_STATE, HDR.BLK_ERR, HDR.BLK_ERRMASK, HDR.BLK_ERRINJ, HDR.TOKCFG_OVR_EN, HDR.TOKCFG_OVR_CLASS, HDR.TOKCFG_OVR_KIND, HDR.TOKCFG_RATE, HDR.BLK_PROG, HDR.PROGWIN_WIN_US]

/-! ### CHIP page -/
def CHIP.CORE_MAP_MAP_GEN : Row := ⟨0, 0, 64, 0, 1, 56, 8, .ro, aAll, aS, 0, .none, .none, false⟩
def CHIP.CORE_MAP_LIVE_COUNT : Row := ⟨0, 0, 64, 0, 1, 44, 5, .ro, aAll, aS, 0, .none, .none, false⟩
def CHIP.CORE_MAP_PMAX_OK : Row := ⟨0, 0, 64, 0, 1, 40, 1, .ro, aAll, aNone, 1, .fuse, .none, false⟩
def CHIP.CORE_MAP_GRADE : Row := ⟨0, 0, 64, 0, 1, 32, 8, .ro, aAll, aNone, 16, .fuse, .none, false⟩
def CHIP.CORE_MAP_FUSED : Row := ⟨0, 0, 64, 0, 1, 16, 16, .ro, aAll, aNone, 65535, .fuse, .none, false⟩
def CHIP.CORE_MAP_LIVE : Row := ⟨0, 0, 64, 0, 1, 0, 16, .ro, aAll, aS, 0, .none, .none, false⟩
def CHIP.SVC_LEVEL_LACK_LINK : Row := ⟨0, 0, 72, 0, 1, 31, 1, .ro, aAll, aNone, 1, .none, .none, false⟩
def CHIP.SVC_LEVEL_LACK_CORE : Row := ⟨0, 0, 72, 0, 1, 30, 1, .ro, aAll, aNone, 1, .none, .none, false⟩
def CHIP.SVC_LEVEL_LACK_QENG : Row := ⟨0, 0, 72, 0, 1, 29, 1, .ro, aAll, aNone, 1, .none, .none, false⟩
def CHIP.SVC_LEVEL_LACK_CAL : Row := ⟨0, 0, 72, 0, 1, 28, 1, .ro, aAll, aNone, 1, .none, .none, false⟩
def CHIP.SVC_LEVEL_LACK_AVS : Row := ⟨0, 0, 72, 0, 1, 27, 1, .ro, aAll, aNone, 1, .none, .none, false⟩
def CHIP.SVC_LEVEL_LACK_THERM : Row := ⟨0, 0, 72, 0, 1, 26, 1, .ro, aAll, aNone, 1, .none, .none, false⟩
def CHIP.SVC_LEVEL_LACK_MORAINE : Row := ⟨0, 0, 72, 0, 1, 25, 1, .ro, aAll, aNone, 1, .none, .none, false⟩
def CHIP.SVC_LEVEL_LACK_FLT : Row := ⟨0, 0, 72, 0, 1, 24, 1, .ro, aAll, aNone, 1, .none, .none, false⟩
def CHIP.SVC_LEVEL_NL_UP : Row := ⟨0, 0, 72, 0, 1, 8, 16, .ro, aAll, aNone, 0, .none, .none, false⟩
def CHIP.SVC_LEVEL_CQUAD : Row := ⟨0, 0, 72, 0, 1, 4, 4, .ro, aAll, aNone, 0, .none, .none, false⟩
def CHIP.SVC_LEVEL_LEVEL : Row := ⟨0, 0, 72, 0, 1, 0, 4, .ro, aAll, aNone, 1, .none, .none, false⟩
def CHIP.BOOT_EARLY_WR : Row := ⟨0, 0, 76, 0, 1, 24, 8, .ro, aAll, aS, 0, .none, .none, false⟩
def CHIP.BOOT_FAIL : Row := ⟨0, 0, 76, 0, 1, 16, 8, .ro, aAll, aS, 0, .none, .none, false⟩
def CHIP.BOOT_TRAIN_REUSED : Row := ⟨0, 0, 76, 0, 1, 11, 1, .ro, aAll, aS, 0, .none, .none, false⟩
def CHIP.BOOT_FW_SLOT : Row := ⟨0, 0, 76, 0, 1, 10, 1, .ro, aAll, aS, 0, .none, .none, false⟩
def CHIP.BOOT_FW_RELOAD : Row := ⟨0, 0, 76, 0, 1, 9, 1, .ro, aAll, aS, 1, .none, .none, false⟩
def CHIP.BOOT_PATH : Row := ⟨0, 0, 76, 0, 1, 8, 1, .ro, aAll, aS, 0, .none, .none, false⟩
def CHIP.BOOT_CAUSE : Row := ⟨0, 0, 76, 0, 1, 4, 4, .ro, aAll, aS, 0, .none, .none, false⟩
def CHIP.BOOT_STAGE : Row := ⟨0, 0, 76, 0, 1, 0, 4, .ro, aAll, aS, 0, .none, .none, false⟩
def CHIP.RST_REQ_KEY : Row := ⟨0, 0, 80, 0, 1, 16, 16, .wo, aNone, aAll, 0, .none, .none, false⟩
def CHIP.RST_REQ_CHIP : Row := ⟨0, 0, 80, 0, 1, 0, 1, .wo, aNone, aAll, 0, .none, .none, false⟩
def CHIP.STICKY_SUM_ANY : Row := ⟨0, 0, 96, 4, 4, 0, 32, .ro, aAll, aNone, 0, .none, .none, false⟩
def CHIP.PROV_ID_STEPPING : Row := ⟨0, 0, 128, 0, 1, 16, 8, .ro, aAll, aNone, 176, .none, .none, false⟩
def CHIP.PROV_ID_POWER_ID : Row := ⟨0, 0, 128, 0, 1, 8, 8, .ro, aAll, aNone, 0, .none, .none, false⟩
def CHIP.PROV_ID_CLOCK_ID : Row := ⟨0, 0, 128, 0, 1, 0, 8, .ro, aAll, aNone, 1, .none, .none, false⟩
def CHIP.PROV_EPOCH_EPOCH : Row := ⟨0, 0, 132, 0, 1, 0, 32, .ro, aAll, aNone, 0, .drone, .none, false⟩

/-- The fields of the CHIP page. -/
def rowsCHIP : List Row :=
  [CHIP.CORE_MAP_MAP_GEN, CHIP.CORE_MAP_LIVE_COUNT, CHIP.CORE_MAP_PMAX_OK, CHIP.CORE_MAP_GRADE, CHIP.CORE_MAP_FUSED, CHIP.CORE_MAP_LIVE, CHIP.SVC_LEVEL_LACK_LINK, CHIP.SVC_LEVEL_LACK_CORE, CHIP.SVC_LEVEL_LACK_QENG, CHIP.SVC_LEVEL_LACK_CAL, CHIP.SVC_LEVEL_LACK_AVS, CHIP.SVC_LEVEL_LACK_THERM, CHIP.SVC_LEVEL_LACK_MORAINE, CHIP.SVC_LEVEL_LACK_FLT, CHIP.SVC_LEVEL_NL_UP, CHIP.SVC_LEVEL_CQUAD, CHIP.SVC_LEVEL_LEVEL, CHIP.BOOT_EARLY_WR, CHIP.BOOT_FAIL, CHIP.BOOT_TRAIN_REUSED, CHIP.BOOT_FW_SLOT, CHIP.BOOT_FW_RELOAD, CHIP.BOOT_PATH, CHIP.BOOT_CAUSE] ++
  [CHIP.BOOT_STAGE, CHIP.RST_REQ_KEY, CHIP.RST_REQ_CHIP, CHIP.STICKY_SUM_ANY, CHIP.PROV_ID_STEPPING, CHIP.PROV_ID_POWER_ID, CHIP.PROV_ID_CLOCK_ID, CHIP.PROV_EPOCH_EPOCH]

/-! ### CHANTER page -/
def CHANTER.PACK_ADDR_ADDR : Row := ⟨1, 0, 256, 0, 1, 0, 64, .rw, aAll, aHTS, 0, .none, .none, false⟩
def CHANTER.PACK_LEN_LEN : Row := ⟨1, 0, 264, 0, 1, 0, 32, .rw, aAll, aHTS, 0, .none, .none, false⟩
def CHANTER.PACK_CTL_LOAD : Row := ⟨1, 0, 268, 0, 1, 0, 1, .wo, aNone, aHTS, 0, .none, .none, false⟩
def CHANTER.PACK_STAT_BUSY : Row := ⟨1, 0, 272, 0, 1, 31, 1, .ro, aAll, aNone, 0, .none, .none, false⟩
def CHANTER.PACK_STAT_REASON : Row := ⟨1, 0, 272, 0, 1, 0, 8, .ro, aAll, aNone, 0, .none, .none, false⟩
def CHANTER.PACK_ID_ID : Row := ⟨1, 0, 276, 0, 1, 0, 32, .ro, aAll, aNone, 0, .none, .none, false⟩
def CHANTER.PACK_SEQ_SEQ : Row := ⟨1, 0, 280, 0, 1, 0, 32, .ro, aAll, aNone, 0, .none, .none, false⟩
def CHANTER.FW_ADDR_ADDR : Row := ⟨1, 0, 320, 0, 1, 0, 64, .rw, aAll, aHTS, 0, .none, .none, false⟩
def CHANTER.FW_LEN_LEN : Row := ⟨1, 0, 328, 0, 1, 0, 32, .rw, aAll, aHTS, 0, .none, .none, false⟩
def CHANTER.FW_CTL_UPDATE : Row := ⟨1, 0, 332, 0, 1, 0, 1, .wo, aNone, aHTS, 0, .none, .none, false⟩
def CHANTER.FW_STAT_BUSY : Row := ⟨1, 0, 336, 0, 1, 31, 1, .ro, aAll, aNone, 0, .none, .none, false⟩
def CHANTER.FW_STAT_SLOT : Row := ⟨1, 0, 336, 0, 1, 8, 1, .ro, aAll, aNone, 0, .none, .none, false⟩
def CHANTER.FW_STAT_RESULT : Row := ⟨1, 0, 336, 0, 1, 0, 4, .ro, aAll, aNone, 0, .none, .none, false⟩

/-- The fields of the CHANTER page. -/
def rowsCHANTER : List Row :=
  [CHANTER.PACK_ADDR_ADDR, CHANTER.PACK_LEN_LEN, CHANTER.PACK_CTL_LOAD, CHANTER.PACK_STAT_BUSY, CHANTER.PACK_STAT_REASON, CHANTER.PACK_ID_ID, CHANTER.PACK_SEQ_SEQ, CHANTER.FW_ADDR_ADDR, CHANTER.FW_LEN_LEN, CHANTER.FW_CTL_UPDATE, CHANTER.FW_STAT_BUSY, CHANTER.FW_STAT_SLOT, CHANTER.FW_STAT_RESULT]

/-! ### DRONE page -/
def DRONE.PWR_CTL_TARGET : Row := ⟨2, 0, 64, 0, 1, 0, 3, .wo, aNone, aHTS, 0, .drone, .none, false⟩
def DRONE.PWR_STAT_LAST_WAKE : Row := ⟨2, 0, 68, 0, 1, 28, 4, .ro, aAll, aNone, 0, .drone, .none, false⟩
def DRONE.PWR_STAT_RESULT : Row := ⟨2, 0, 68, 0, 1, 4, 3, .ro, aAll, aNone, 0, .drone, .none, false⟩
def DRONE.PWR_STAT_STATE : Row := ⟨2, 0, 68, 0, 1, 0, 3, .ro, aAll, aNone, 0, .drone, .none, false⟩
def DRONE.WAKE_EN_EN : Row := ⟨2, 0, 72, 0, 1, 0, 19, .rw, aAll, aHTS, 65536, .drone, .none, false⟩
def DRONE.WAKE_T_C : Row := ⟨2, 0, 76, 0, 1, 0, 8, .rw, aAll, aHTS, 100, .drone, .none, false⟩
def DRONE.ALARM_TIME : Row := ⟨2, 0, 80, 0, 1, 0, 64, .rw, aAll, aHTS, 0, .drone, .none, false⟩
def DRONE.FTIME_TIME : Row := ⟨2, 0, 88, 0, 1, 0, 64, .ro, aAll, aNone, 0, .drone, .none, false⟩
def DRONE.TRIP_LATCHED : Row := ⟨2, 0, 96, 0, 1, 8, 1, .ro, aAll, aNone, 0, .drone, .none, false⟩
def DRONE.TRIP_IDX : Row := ⟨2, 0, 96, 0, 1, 0, 7, .ro, aAll, aNone, 0, .drone, .none, false⟩
def DRONE.DRONE_T_CODE : Row := ⟨2, 0, 100, 0, 1, 0, 16, .ro, aAll, aNone, 32768, .drone, .none, false⟩

/-- The fields of the DRONE page. -/
def rowsDRONE : List Row :=
  [DRONE.PWR_CTL_TARGET, DRONE.PWR_STAT_LAST_WAKE, DRONE.PWR_STAT_RESULT, DRONE.PWR_STAT_STATE, DRONE.WAKE_EN_EN, DRONE.WAKE_T_C, DRONE.ALARM_TIME, DRONE.FTIME_TIME, DRONE.TRIP_LATCHED, DRONE.TRIP_IDX, DRONE.DRONE_T_CODE]

/-! ### THERM page -/
def THERM.GRP_CFG_RATE : Row := ⟨3, 0, 64, 4, 6, 16, 8, .rw, aAll, aHS, 20, .none, .none, false⟩
def THERM.GRP_CFG_THROT : Row := ⟨3, 0, 64, 4, 6, 8, 8, .rw, aAll, aHS, 105, .none, .some (4, 95), false⟩
def THERM.GRP_CFG_WARN : Row := ⟨3, 0, 64, 4, 6, 0, 8, .rw, aAll, aHS, 95, .none, .some (4, 85), false⟩
def THERM.HOT_CODE : Row := ⟨3, 0, 96, 0, 1, 16, 16, .ro, aAll, aNone, 32768, .none, .none, false⟩
def THERM.HOT_IDX : Row := ⟨3, 0, 96, 0, 1, 0, 7, .ro, aAll, aNone, 0, .none, .none, false⟩
def THERM.SFENCE_S0_63 : Row := ⟨3, 0, 104, 0, 1, 0, 64, .rw1c, aAll, aH, 0, .none, .none, false⟩
def THERM.SFENCE_HI_S64_71 : Row := ⟨3, 0, 112, 0, 1, 0, 8, .rw1c, aAll, aH, 0, .none, .none, false⟩
def THERM.TEMP_CODE : Row := ⟨3, 0, 256, 2, 72, 0, 16, .ro, aAll, aNone, 32768, .none, .none, false⟩

/-- The fields of the THERM page. -/
def rowsTHERM : List Row :=
  [THERM.GRP_CFG_RATE, THERM.GRP_CFG_THROT, THERM.GRP_CFG_WARN, THERM.HOT_CODE, THERM.HOT_IDX, THERM.SFENCE_S0_63, THERM.SFENCE_HI_S64_71, THERM.TEMP_CODE]

/-! ### CAL page -/
def CAL.CAL_CMD_COMMIT : Row := ⟨4, 0, 64, 0, 1, 8, 1, .wo, aNone, aT, 0, .none, .none, false⟩
def CAL.CAL_CMD_TYPE : Row := ⟨4, 0, 64, 0, 1, 0, 8, .wo, aNone, aT, 0, .none, .none, false⟩
def CAL.CAL_STAT_BUSY : Row := ⟨4, 0, 68, 0, 1, 31, 1, .ro, aAll, aNone, 0, .none, .none, false⟩
def CAL.CAL_STAT_TYPE : Row := ⟨4, 0, 68, 0, 1, 16, 8, .ro, aAll, aNone, 0, .none, .none, false⟩
def CAL.CAL_STAT_RESULT : Row := ⟨4, 0, 68, 0, 1, 0, 4, .ro, aAll, aNone, 0, .none, .none, false⟩
def CAL.CAL_WIN_HALF : Row := ⟨4, 0, 72, 0, 1, 0, 1, .rw, aAll, aHTS, 0, .none, .none, false⟩
def CAL.CAL_REC_VALID : Row := ⟨4, 0, 128, 4, 8, 31, 1, .ro, aAll, aNone, 0, .none, .none, false⟩
def CAL.CAL_REC_DEFAULTED : Row := ⟨4, 0, 128, 4, 8, 30, 1, .ro, aAll, aNone, 0, .none, .none, false⟩
def CAL.CAL_REC_ORIGIN : Row := ⟨4, 0, 128, 4, 8, 16, 8, .ro, aAll, aNone, 0, .none, .none, false⟩
def CAL.CAL_REC_WRSEQ : Row := ⟨4, 0, 128, 4, 8, 0, 16, .ro, aAll, aNone, 0, .none, .none, false⟩
def CAL.STAGE : Row := ⟨4, 0, 1024, 4, 256, 0, 32, .rw, aTS, aT, 0, .drone, .none, false⟩
def CAL.STORE : Row := ⟨4, 0, 2048, 4, 512, 0, 32, .ro, aAll, aNone, 0, .none, .none, false⟩

/-- The fields of the CAL page. -/
def rowsCAL : List Row :=
  [CAL.CAL_CMD_COMMIT, CAL.CAL_CMD_TYPE, CAL.CAL_STAT_BUSY, CAL.CAL_STAT_TYPE, CAL.CAL_STAT_RESULT, CAL.CAL_WIN_HALF, CAL.CAL_REC_VALID, CAL.CAL_REC_DEFAULTED, CAL.CAL_REC_ORIGIN, CAL.CAL_REC_WRSEQ, CAL.STAGE, CAL.STORE]

/-! ### FLT page -/
def FLT.FLT_CNT_COUNT : Row := ⟨5, 0, 64, 0, 1, 0, 32, .rc, aHD, aNone, 0, .none, .none, false⟩
def FLT.FLT_LIMIT_COUNT : Row := ⟨5, 0, 68, 0, 1, 0, 32, .rc, aHD, aNone, 0, .none, .none, false⟩
def FLT.FLT_INJ_CTX_CTX : Row := ⟨5, 0, 72, 0, 1, 0, 13, .rw, aAll, aHD, 0, .none, .none, false⟩
def FLT.STICKY : Row := ⟨5, 0, 512, 4, 128, 0, 32, .rw1c, aAll, aH, 0, .drone, .none, false⟩

/-- The fields of the FLT page. -/
def rowsFLT : List Row :=
  [FLT.FLT_CNT_COUNT, FLT.FLT_LIMIT_COUNT, FLT.FLT_INJ_CTX_CTX, FLT.STICKY]

/-! ### MORAINE page -/
def MORAINE.MOR_BASE_BASE : Row := ⟨6, 0, 64, 0, 1, 12, 52, .rw, aAll, aH, 0, .warm, .none, false⟩
def MORAINE.MOR_CTL_EN : Row := ⟨6, 0, 72, 0, 1, 31, 1, .rw, aAll, aH, 0, .warm, .none, false⟩
def MORAINE.MOR_CTL_LOG2 : Row := ⟨6, 0, 72, 0, 1, 0, 5, .rw, aAll, aH, 16, .warm, .none, false⟩
def MORAINE.MOR_PIDX_PIDX : Row := ⟨6, 0, 76, 0, 1, 0, 32, .ro, aAll, aNone, 0, .warm, .none, false⟩
def MORAINE.MOR_CIDX_CIDX : Row := ⟨6, 0, 80, 0, 1, 0, 32, .rw, aAll, aH, 0, .warm, .none, false⟩
def MORAINE.MOR_RSEQ_NEXT : Row := ⟨6, 0, 84, 0, 1, 0, 32, .ro, aAll, aNone, 0, .drone, .none, false⟩
def MORAINE.MOR_DROP_PENDING : Row := ⟨6, 0, 88, 0, 1, 0, 32, .ro, aAll, aNone, 0, .drone, .none, false⟩
def MORAINE.MOR_MOD_MOD_US : Row := ⟨6, 0, 92, 0, 1, 16, 16, .rw, aAll, aH, 0, .none, .none, false⟩
def MORAINE.MOR_MOD_MOD_CNT : Row := ⟨6, 0, 92, 0, 1, 0, 16, .rw, aAll, aH, 1, .none, .none, false⟩
def MORAINE.MOR_STAT_OVF_PENDING : Row := ⟨6, 0, 96, 0, 1, 13, 1, .ro, aAll, aNone, 0, .none, .none, false⟩
def MORAINE.MOR_STAT_QUEUED : Row := ⟨6, 0, 96, 0, 1, 0, 13, .ro, aAll, aNone, 0, .none, .none, false⟩

/-- The fields of the MORAINE page. -/
def rowsMORAINE : List Row :=
  [MORAINE.MOR_BASE_BASE, MORAINE.MOR_CTL_EN, MORAINE.MOR_CTL_LOG2, MORAINE.MOR_PIDX_PIDX, MORAINE.MOR_CIDX_CIDX, MORAINE.MOR_RSEQ_NEXT, MORAINE.MOR_DROP_PENDING, MORAINE.MOR_MOD_MOD_US, MORAINE.MOR_MOD_MOD_CNT, MORAINE.MOR_STAT_OVF_PENDING, MORAINE.MOR_STAT_QUEUED]

/-! ### SERAC page -/
def SERAC.SRC_CTL_SHADOW_EN : Row := ⟨7, 0, 64, 0, 1, 31, 1, .rw, aAll, aHS, 1, .none, .none, false⟩
def SERAC.SRC_CTL_COMP_FENCED : Row := ⟨7, 0, 64, 0, 1, 30, 1, .ro, aAll, aNone, 0, .drone, .none, false⟩
def SERAC.SRC_CTL_THRESH : Row := ⟨7, 0, 64, 0, 1, 16, 8, .rw, aAll, aHS, 16, .none, .none, false⟩
def SERAC.SRC_CTL_SPREAD : Row := ⟨7, 0, 64, 0, 1, 8, 8, .rw, aAll, aHS, 32, .none, .none, false⟩
def SERAC.SRC_CTL_HOLD_US : Row := ⟨7, 0, 64, 0, 1, 0, 8, .rw, aAll, aHS, 20, .none, .none, false⟩
def SERAC.SHARE_Q : Row := ⟨7, 0, 68, 1, 4, 0, 8, .rw, aAll, aHS, 4, .none, .none, false⟩
def SERAC.SHADOW_PART_Q : Row := ⟨7, 0, 72, 1, 4, 0, 8, .rw, aAll, aHS, 128, .none, .none, false⟩
def SERAC.DRAIN_MS : Row := ⟨7, 0, 76, 0, 1, 0, 12, .rw, aAll, aHS, 100, .none, .none, false⟩
def SERAC.STAT_CKSUM_OFF : Row := ⟨7, 0, 80, 0, 1, 16, 16, .ro, aAll, aNone, 0, .drone, .none, false⟩
def SERAC.STAT_DEGRADED : Row := ⟨7, 0, 80, 0, 1, 15, 1, .ro, aAll, aNone, 0, .none, .none, false⟩
def SERAC.STAT_DELAY_USED : Row := ⟨7, 0, 80, 0, 1, 0, 9, .ro, aAll, aNone, 0, .none, .none, false⟩
def SERAC.CMP_CNT_COUNT : Row := ⟨7, 0, 84, 0, 1, 0, 32, .rc, aHD, aNone, 0, .none, .none, false⟩
def SERAC.CANARY_COUNT : Row := ⟨7, 0, 88, 0, 1, 0, 32, .rc, aHD, aNone, 0, .none, .none, false⟩
def SERAC.VERDICTS_PRIMARY : Row := ⟨7, 0, 92, 0, 1, 24, 8, .rc, aHD, aNone, 0, .none, .none, false⟩
def SERAC.VERDICTS_SHADOW : Row := ⟨7, 0, 92, 0, 1, 16, 8, .rc, aHD, aNone, 0, .none, .none, false⟩
def SERAC.VERDICTS_SPLIT : Row := ⟨7, 0, 92, 0, 1, 8, 8, .rc, aHD, aNone, 0, .none, .none, false⟩
def SERAC.VERDICTS_UNRESOLVED : Row := ⟨7, 0, 92, 0, 1, 0, 8, .rc, aHD, aNone, 0, .none, .none, false⟩
def SERAC.SKIPPED_COUNT : Row := ⟨7, 0, 96, 0, 1, 0, 32, .rc, aHD, aNone, 0, .none, .none, false⟩
def SERAC.HORIZON_TIME : Row := ⟨7, 0, 104, 0, 1, 0, 64, .ro, aAll, aNone, 0, .none, .none, false⟩
def SERAC.SCORE_IDX_IDX : Row := ⟨7, 0, 112, 0, 1, 0, 9, .rw, aAll, aHS, 0, .none, .none, false⟩
def SERAC.SCORE_ENT_SCORE : Row := ⟨7, 0, 116, 0, 1, 24, 8, .ro, aAll, aNone, 0, .none, .none, false⟩
def SERAC.SCORE_ENT_VALID : Row := ⟨7, 0, 116, 0, 1, 20, 1, .ro, aAll, aNone, 0, .none, .none, false⟩
def SERAC.SCORE_ENT_UNIT : Row := ⟨7, 0, 116, 0, 1, 0, 20, .ro, aAll, aNone, 0, .none, .none, false⟩

/-- The fields of the SERAC page. -/
def rowsSERAC : List Row :=
  [SERAC.SRC_CTL_SHADOW_EN, SERAC.SRC_CTL_COMP_FENCED, SERAC.SRC_CTL_THRESH, SERAC.SRC_CTL_SPREAD, SERAC.SRC_CTL_HOLD_US, SERAC.SHARE_Q, SERAC.SHADOW_PART_Q, SERAC.DRAIN_MS, SERAC.STAT_CKSUM_OFF, SERAC.STAT_DEGRADED, SERAC.STAT_DELAY_USED, SERAC.CMP_CNT_COUNT, SERAC.CANARY_COUNT, SERAC.VERDICTS_PRIMARY, SERAC.VERDICTS_SHADOW, SERAC.VERDICTS_SPLIT, SERAC.VERDICTS_UNRESOLVED, SERAC.SKIPPED_COUNT, SERAC.HORIZON_TIME, SERAC.SCORE_IDX_IDX, SERAC.SCORE_ENT_SCORE, SERAC.SCORE_ENT_VALID, SERAC.SCORE_ENT_UNIT]

/-! ### FIRN page -/
def FIRN.TRIG_MODE : Row := ⟨8, 0, 64, 0, 1, 30, 2, .rw, aAll, aHS, 0, .chip, .none, false⟩
def FIRN.TRIG_PERIOD_S : Row := ⟨8, 0, 64, 0, 1, 0, 17, .rw, aAll, aHS, 3600, .chip, .none, false⟩
def FIRN.TRIG_STEPS_N_M1 : Row := ⟨8, 0, 68, 0, 1, 0, 32, .rw, aAll, aHS, 0, .chip, .none, false⟩
def FIRN.TRIG_STAT_DUE : Row := ⟨8, 0, 72, 0, 1, 0, 1, .ro, aAll, aNone, 0, .chip, .none, false⟩
def FIRN.LAST_STEP_STEP : Row := ⟨8, 0, 76, 0, 1, 0, 32, .ro, aAll, aNone, 0, .chip, .none, false⟩
def FIRN.LAST_TIME_TIME : Row := ⟨8, 0, 80, 0, 1, 0, 64, .ro, aAll, aNone, 0, .chip, .none, false⟩
def FIRN.BUDDY_VALID : Row := ⟨8, 0, 88, 0, 1, 31, 1, .rw, aAll, aHS, 0, .chip, .none, false⟩
def FIRN.BUDDY_PART : Row := ⟨8, 0, 88, 0, 1, 0, 12, .rw, aAll, aHS, 0, .chip, .none, false⟩
def FIRN.HOME_VALID : Row := ⟨8, 0, 92, 0, 1, 31, 1, .rw, aAll, aHS, 0, .chip, .none, false⟩
def FIRN.HOME_STACK : Row := ⟨8, 0, 92, 0, 1, 24, 2, .rw, aAll, aHS, 0, .chip, .none, false⟩
def FIRN.HOME_OFFSET : Row := ⟨8, 0, 92, 0, 1, 16, 8, .rw, aAll, aHS, 0, .chip, .none, false⟩
def FIRN.HOME_SIZE : Row := ⟨8, 0, 92, 0, 1, 0, 8, .rw, aAll, aHS, 0, .chip, .none, false⟩
def FIRN.HOLD_IDX_IDX : Row := ⟨8, 0, 96, 0, 1, 0, 4, .rw, aAll, aHS, 0, .chip, .none, false⟩
def FIRN.HOLD_ENT_VALID : Row := ⟨8, 0, 100, 0, 1, 31, 1, .rw, aAll, aHS, 0, .chip, .none, false⟩
def FIRN.HOLD_ENT_STACK : Row := ⟨8, 0, 100, 0, 1, 28, 2, .rw, aAll, aHS, 0, .chip, .none, false⟩
def FIRN.HOLD_ENT_OFFSET : Row := ⟨8, 0, 100, 0, 1, 20, 8, .rw, aAll, aHS, 0, .chip, .none, false⟩
def FIRN.HOLD_ENT_SIZE : Row := ⟨8, 0, 100, 0, 1, 12, 8, .rw, aAll, aHS, 0, .chip, .none, false⟩
def FIRN.HOLD_ENT_PART : Row := ⟨8, 0, 100, 0, 1, 0, 12, .rw, aAll, aHS, 0, .chip, .none, false⟩
def FIRN.CTX_SEL_CTX : Row := ⟨8, 0, 112, 0, 1, 0, 13, .rw, aAll, aHS, 0, .chip, .none, false⟩
def FIRN.CTX_IMG_IMG_OFF : Row := ⟨8, 0, 116, 0, 1, 17, 15, .rw, aAll, aHS, 0, .chip, .none, false⟩
def FIRN.CTX_IMG_IMG_MIB : Row := ⟨8, 0, 116, 0, 1, 4, 13, .rw, aAll, aHS, 0, .chip, .none, false⟩
def FIRN.CTX_IMG_SURV_CHIP : Row := ⟨8, 0, 116, 0, 1, 2, 1, .rw, aAll, aHS, 0, .chip, .none, false⟩
def FIRN.CTX_IMG_SURV_PART : Row := ⟨8, 0, 116, 0, 1, 1, 1, .rw, aAll, aHS, 0, .chip, .none, false⟩
def FIRN.CTX_IMG_SURV_ENG : Row := ⟨8, 0, 116, 0, 1, 0, 1, .rw, aAll, aHS, 0, .chip, .none, false⟩
def FIRN.STAT_CKPT_BUSY : Row := ⟨8, 0, 120, 0, 1, 31, 1, .ro, aAll, aNone, 0, .chip, .none, false⟩
def FIRN.STAT_RESTORE_BUSY : Row := ⟨8, 0, 120, 0, 1, 30, 1, .ro, aAll, aNone, 0, .chip, .none, false⟩
def FIRN.STAT_FROZEN : Row := ⟨8, 0, 120, 0, 1, 0, 14, .ro, aAll, aNone, 0, .chip, .none, false⟩
def FIRN.CKPT_SEQ_SEQ : Row := ⟨8, 0, 124, 0, 1, 0, 32, .ro, aAll, aNone, 0, .drone, .none, false⟩
def FIRN.NONFINITE_COUNT : Row := ⟨8, 0, 128, 0, 1, 0, 32, .rc, aHD, aNone, 0, .chip, .none, false⟩

/-- The fields of the FIRN page. -/
def rowsFIRN : List Row :=
  [FIRN.TRIG_MODE, FIRN.TRIG_PERIOD_S, FIRN.TRIG_STEPS_N_M1, FIRN.TRIG_STAT_DUE, FIRN.LAST_STEP_STEP, FIRN.LAST_TIME_TIME, FIRN.BUDDY_VALID, FIRN.BUDDY_PART, FIRN.HOME_VALID, FIRN.HOME_STACK, FIRN.HOME_OFFSET, FIRN.HOME_SIZE, FIRN.HOLD_IDX_IDX, FIRN.HOLD_ENT_VALID, FIRN.HOLD_ENT_STACK, FIRN.HOLD_ENT_OFFSET, FIRN.HOLD_ENT_SIZE, FIRN.HOLD_ENT_PART, FIRN.CTX_SEL_CTX, FIRN.CTX_IMG_IMG_OFF, FIRN.CTX_IMG_IMG_MIB, FIRN.CTX_IMG_SURV_CHIP, FIRN.CTX_IMG_SURV_PART, FIRN.CTX_IMG_SURV_ENG] ++
  [FIRN.STAT_CKPT_BUSY, FIRN.STAT_RESTORE_BUSY, FIRN.STAT_FROZEN, FIRN.CKPT_SEQ_SEQ, FIRN.NONFINITE_COUNT]

/-! ### SEC page -/
def SEC.SEC_STAT_MIN_SVN : Row := ⟨9, 0, 64, 0, 1, 24, 6, .ro, aAll, aNone, 0, .fuse, .none, false⟩
def SEC.SEC_STAT_TOK_FAIL : Row := ⟨9, 0, 64, 0, 1, 16, 8, .ro, aAll, aNone, 0, .none, .none, false⟩
def SEC.SEC_STAT_SCRAP_BIT : Row := ⟨9, 0, 64, 0, 1, 11, 1, .ro, aAll, aNone, 0, .fuse, .none, false⟩
def SEC.SEC_STAT_FUSE_N : Row := ⟨9, 0, 64, 0, 1, 8, 3, .ro, aAll, aNone, 0, .fuse, .none, false⟩
def SEC.SEC_STAT_DEBUG : Row := ⟨9, 0, 64, 0, 1, 4, 2, .ro, aAll, aNone, 0, .none, .none, false⟩
def SEC.SEC_STAT_LC : Row := ⟨9, 0, 64, 0, 1, 0, 2, .ro, aAll, aNone, 0, .fuse, .none, false⟩
def SEC.DBG_REQ_LEVEL : Row := ⟨9, 0, 68, 0, 1, 0, 2, .wo, aNone, aHTD, 0, .none, .none, false⟩
def SEC.LC_REQ_KEY : Row := ⟨9, 0, 72, 0, 1, 16, 16, .wo, aNone, aHTD, 0, .none, .none, false⟩
def SEC.LC_REQ_TARGET : Row := ⟨9, 0, 72, 0, 1, 0, 2, .wo, aNone, aHTD, 0, .none, .none, false⟩
def SEC.TOKEN_STAT_KIND : Row := ⟨9, 0, 76, 0, 1, 8, 8, .ro, aAll, aNone, 0, .none, .none, false⟩
def SEC.TOKEN_STAT_RESULT : Row := ⟨9, 0, 76, 0, 1, 0, 8, .ro, aAll, aNone, 0, .none, .none, false⟩
def SEC.SVN_COMMIT_KEY : Row := ⟨9, 0, 80, 0, 1, 16, 16, .wo, aNone, aH, 0, .none, .none, false⟩
def SEC.TOKEN : Row := ⟨9, 0, 256, 4, 32, 0, 32, .wo, aNone, aHT, 0, .none, .none, false⟩

/-- The fields of the SEC page. -/
def rowsSEC : List Row :=
  [SEC.SEC_STAT_MIN_SVN, SEC.SEC_STAT_TOK_FAIL, SEC.SEC_STAT_SCRAP_BIT, SEC.SEC_STAT_FUSE_N, SEC.SEC_STAT_DEBUG, SEC.SEC_STAT_LC, SEC.DBG_REQ_LEVEL, SEC.LC_REQ_KEY, SEC.LC_REQ_TARGET, SEC.TOKEN_STAT_KIND, SEC.TOKEN_STAT_RESULT, SEC.SVN_COMMIT_KEY, SEC.TOKEN]

/-! ### CLKRST page -/
def CLKRST.PROFILE_CHANGING : Row := ⟨10, 0, 64, 0, 1, 8, 1, .ro, aAll, aNone, 0, .none, .none, false⟩
def CLKRST.PROFILE_ACTIVE : Row := ⟨10, 0, 64, 0, 1, 4, 2, .ro, aAll, aNone, 1, .none, .none, false⟩
def CLKRST.PROFILE_REQ : Row := ⟨10, 0, 64, 0, 1, 0, 2, .rw, aAll, aHS, 1, .none, .none, false⟩
def CLKRST.CLK_STAT_HOST_LOCK : Row := ⟨10, 0, 68, 0, 1, 11, 1, .ro, aAll, aNone, 0, .none, .none, false⟩
def CLKRST.CLK_STAT_HBM_LOCK : Row := ⟨10, 0, 68, 0, 1, 10, 1, .ro, aAll, aNone, 0, .none, .none, false⟩
def CLKRST.CLK_STAT_CHANTER_LOCK : Row := ⟨10, 0, 68, 0, 1, 9, 1, .ro, aAll, aNone, 0, .none, .none, false⟩
def CLKRST.CLK_STAT_FAB_LOCK : Row := ⟨10, 0, 68, 0, 1, 8, 1, .ro, aAll, aNone, 0, .none, .none, false⟩
def CLKRST.CLK_STAT_QPLL_LOCK : Row := ⟨10, 0, 68, 0, 1, 4, 4, .ro, aAll, aNone, 0, .none, .none, false⟩
def CLKRST.CLK_STAT_TCXO_LOST : Row := ⟨10, 0, 68, 0, 1, 2, 1, .rw1c, aAll, aH, 0, .none, .none, false⟩
def CLKRST.CLK_STAT_DRONE_SRC : Row := ⟨10, 0, 68, 0, 1, 1, 1, .ro, aAll, aNone, 0, .drone, .none, false⟩
def CLKRST.CLK_STAT_REFCLK_OK : Row := ⟨10, 0, 68, 0, 1, 0, 1, .ro, aAll, aNone, 0, .none, .none, false⟩
def CLKRST.ALIGN_ALIGN_GEN : Row := ⟨10, 0, 72, 0, 1, 0, 16, .ro, aAll, aNone, 1, .none, .none, false⟩
def CLKRST.CORE_FREQ_THROTTLED : Row := ⟨10, 0, 128, 4, 16, 9, 1, .ro, aAll, aNone, 0, .none, .none, false⟩
def CLKRST.CORE_FREQ_OVERDRIVE : Row := ⟨10, 0, 128, 4, 16, 8, 1, .ro, aAll, aNone, 0, .none, .none, false⟩
def CLKRST.CORE_FREQ_F25 : Row := ⟨10, 0, 128, 4, 16, 0, 8, .ro, aAll, aNone, 0, .none, .none, false⟩
def CLKRST.RST_CMD_KEY : Row := ⟨10, 0, 256, 0, 1, 16, 16, .wo, aNone, aAll, 0, .none, .none, false⟩
def CLKRST.RST_CMD_LEVEL : Row := ⟨10, 0, 256, 0, 1, 8, 3, .wo, aNone, aAll, 0, .none, .none, false⟩
def CLKRST.RST_CMD_TARGET : Row := ⟨10, 0, 256, 0, 1, 0, 4, .wo, aNone, aAll, 0, .none, .none, false⟩
def CLKRST.RST_STAT_PART_BUSY : Row := ⟨10, 0, 260, 0, 1, 20, 4, .ro, aAll, aNone, 0, .none, .none, false⟩
def CLKRST.RST_STAT_ENG_BUSY : Row := ⟨10, 0, 260, 0, 1, 0, 16, .ro, aAll, aNone, 0, .none, .none, false⟩
def CLKRST.LAST_RST_LEVEL : Row := ⟨10, 0, 264, 0, 1, 28, 4, .ro, aAll, aNone, 0, .none, .none, false⟩
def CLKRST.LAST_RST_SRC : Row := ⟨10, 0, 264, 0, 1, 16, 12, .ro, aAll, aNone, 0, .none, .none, false⟩
def CLKRST.LAST_RST_KIND : Row := ⟨10, 0, 264, 0, 1, 8, 8, .ro, aAll, aNone, 0, .none, .none, false⟩
def CLKRST.LAST_RST_HOST : Row := ⟨10, 0, 264, 0, 1, 2, 1, .ro, aAll, aNone, 0, .none, .none, false⟩
def CLKRST.LAST_RST_OVR : Row := ⟨10, 0, 264, 0, 1, 1, 1, .ro, aAll, aNone, 0, .none, .none, false⟩
def CLKRST.LAST_RST_CASC : Row := ⟨10, 0, 264, 0, 1, 0, 1, .ro, aAll, aNone, 0, .none, .none, false⟩
def CLKRST.LAST_RST_TIME_TIME : Row := ⟨10, 0, 272, 0, 1, 0, 64, .ro, aAll, aNone, 0, .none, .none, false⟩
def CLKRST.CASC_CNT_COUNT : Row := ⟨10, 0, 280, 0, 1, 0, 32, .rc, aHD, aNone, 0, .none, .none, false⟩
def CLKRST.CAP_CTL_SAMPLE_PG : Row := ⟨10, 0, 288, 0, 1, 16, 12, .rw, aAll, aHS, 0, .none, .none, false⟩
def CLKRST.CAP_CTL_EN : Row := ⟨10, 0, 288, 0, 1, 0, 4, .rw, aAll, aHS, 15, .none, .none, false⟩
def CLKRST.CAP_SEQ_SEQ : Row := ⟨10, 0, 292, 0, 1, 0, 32, .ro, aAll, aNone, 0, .drone, .none, false⟩
def CLKRST.CAP_NEXT_OFFSET : Row := ⟨10, 0, 296, 0, 1, 0, 32, .ro, aAll, aNone, 16777216, .drone, .none, false⟩
def CLKRST.CAP_DMA_ADDR_ADDR : Row := ⟨10, 0, 304, 0, 1, 0, 64, .rw, aAll, aH, 0, .none, .none, false⟩
def CLKRST.CAP_DMA_SEQ_SEQ : Row := ⟨10, 0, 312, 0, 1, 0, 32, .rw, aAll, aH, 0, .none, .none, false⟩
def CLKRST.CAP_DMA_CTL_GO : Row := ⟨10, 0, 316, 0, 1, 31, 1, .wo, aNone, aH, 0, .none, .none, false⟩
def CLKRST.CAP_DMA_CTL_BUSY : Row := ⟨10, 0, 316, 0, 1, 30, 1, .ro, aAll, aNone, 0, .none, .none, false⟩
def CLKRST.CAP_DMA_CTL_RESULT : Row := ⟨10, 0, 316, 0, 1, 0, 2, .ro, aAll, aNone, 0, .none, .none, false⟩
def CLKRST.PC_STAT_PENDING : Row := ⟨10, 0, 320, 0, 1, 31, 1, .ro, aAll, aNone, 0, .chip, .none, false⟩
def CLKRST.PC_STAT_SRC : Row := ⟨10, 0, 320, 0, 1, 12, 12, .ro, aAll, aNone, 0, .drone, .none, false⟩
def CLKRST.PC_STAT_KIND : Row := ⟨10, 0, 320, 0, 1, 4, 8, .ro, aAll, aNone, 0, .drone, .none, false⟩

/-- The fields of the CLKRST page. -/
def rowsCLKRST : List Row :=
  [CLKRST.PROFILE_CHANGING, CLKRST.PROFILE_ACTIVE, CLKRST.PROFILE_REQ, CLKRST.CLK_STAT_HOST_LOCK, CLKRST.CLK_STAT_HBM_LOCK, CLKRST.CLK_STAT_CHANTER_LOCK, CLKRST.CLK_STAT_FAB_LOCK, CLKRST.CLK_STAT_QPLL_LOCK, CLKRST.CLK_STAT_TCXO_LOST, CLKRST.CLK_STAT_DRONE_SRC, CLKRST.CLK_STAT_REFCLK_OK, CLKRST.ALIGN_ALIGN_GEN, CLKRST.CORE_FREQ_THROTTLED, CLKRST.CORE_FREQ_OVERDRIVE, CLKRST.CORE_FREQ_F25, CLKRST.RST_CMD_KEY, CLKRST.RST_CMD_LEVEL, CLKRST.RST_CMD_TARGET, CLKRST.RST_STAT_PART_BUSY, CLKRST.RST_STAT_ENG_BUSY, CLKRST.LAST_RST_LEVEL, CLKRST.LAST_RST_SRC, CLKRST.LAST_RST_KIND, CLKRST.LAST_RST_HOST] ++
  [CLKRST.LAST_RST_OVR, CLKRST.LAST_RST_CASC, CLKRST.LAST_RST_TIME_TIME, CLKRST.CASC_CNT_COUNT, CLKRST.CAP_CTL_SAMPLE_PG, CLKRST.CAP_CTL_EN, CLKRST.CAP_SEQ_SEQ, CLKRST.CAP_NEXT_OFFSET, CLKRST.CAP_DMA_ADDR_ADDR, CLKRST.CAP_DMA_SEQ_SEQ, CLKRST.CAP_DMA_CTL_GO, CLKRST.CAP_DMA_CTL_BUSY, CLKRST.CAP_DMA_CTL_RESULT, CLKRST.PC_STAT_PENDING, CLKRST.PC_STAT_SRC, CLKRST.PC_STAT_KIND]

/-! ### AVS page -/
def AVS.AVS_STAT_POWER_ID : Row := ⟨11, 0, 64, 0, 1, 24, 8, .ro, aAll, aNone, 0, .none, .none, false⟩
def AVS.AVS_STAT_FAULT : Row := ⟨11, 0, 64, 0, 1, 0, 4, .ro, aAll, aNone, 0, .none, .none, false⟩
def AVS.TARGET_CODE : Row := ⟨11, 0, 72, 4, 4, 0, 16, .ro, aAll, aNone, 6000, .none, .none, false⟩
def AVS.VMON_LAST : Row := ⟨11, 0, 128, 8, 5, 48, 16, .ro, aAll, aNone, 32768, .none, .none, false⟩
def AVS.VMON_VALID : Row := ⟨11, 0, 128, 8, 5, 31, 1, .ro, aAll, aNone, 0, .none, .none, false⟩
def AVS.VMON_RANGE : Row := ⟨11, 0, 128, 8, 5, 30, 1, .ro, aAll, aNone, 0, .none, .none, false⟩
def AVS.VMON_CODE : Row := ⟨11, 0, 128, 8, 5, 0, 16, .ro, aAll, aNone, 32768, .none, .none, false⟩
def AVS.VALARM_HI : Row := ⟨11, 0, 192, 4, 4, 16, 16, .rw, aAll, aHS, 65535, .none, .none, false⟩
def AVS.VALARM_LO : Row := ⟨11, 0, 192, 4, 4, 0, 16, .rw, aAll, aHS, 0, .none, .none, false⟩

/-- The fields of the AVS page. -/
def rowsAVS : List Row :=
  [AVS.AVS_STAT_POWER_ID, AVS.AVS_STAT_FAULT, AVS.TARGET_CODE, AVS.VMON_LAST, AVS.VMON_VALID, AVS.VMON_RANGE, AVS.VMON_CODE, AVS.VALARM_HI, AVS.VALARM_LO]

/-! ### QENG page -/
def QENG.Q_ENABLED_COUNT : Row := ⟨12, 0, 100, 0, 1, 0, 17, .ro, aAll, aNone, 0, .none, .none, false⟩
def QENG.CTX_CMD_OP : Row := ⟨12, 0, 64, 0, 1, 28, 4, .wo, aNone, aHS, 0, .none, .none, false⟩
def QENG.CTX_CMD_OWNER : Row := ⟨12, 0, 64, 0, 1, 16, 6, .wo, aNone, aHS, 0, .none, .none, false⟩
def QENG.CTX_CMD_CTX : Row := ⟨12, 0, 64, 0, 1, 0, 13, .wo, aNone, aHS, 0, .none, .none, false⟩
def QENG.CTX_CMD_STAT_BUSY : Row := ⟨12, 0, 68, 0, 1, 31, 1, .ro, aAll, aNone, 0, .none, .none, false⟩
def QENG.CTX_CMD_STAT_RESULT : Row := ⟨12, 0, 68, 0, 1, 0, 4, .ro, aAll, aNone, 0, .none, .none, false⟩
def QENG.CTX_SEL_CTX : Row := ⟨12, 0, 72, 0, 1, 0, 13, .rw, aAll, aHS, 0, .none, .none, false⟩
def QENG.CTX_CFG_MOD_US : Row := ⟨12, 0, 80, 0, 1, 56, 8, .rw, aAll, aHS, 0, .none, .none, false⟩
def QENG.CTX_CFG_MOD_CNT : Row := ⟨12, 0, 80, 0, 1, 48, 8, .rw, aAll, aHS, 1, .none, .none, false⟩
def QENG.CTX_CFG_VECTOR : Row := ⟨12, 0, 80, 0, 1, 32, 11, .rw, aAll, aHS, 16, .none, .none, false⟩
def QENG.CTX_CFG_WEIGHT : Row := ⟨12, 0, 80, 0, 1, 24, 8, .rw, aAll, aHS, 1, .none, .none, false⟩
def QENG.CTX_CFG_INT_EN : Row := ⟨12, 0, 80, 0, 1, 19, 1, .rw, aAll, aHS, 0, .none, .none, false⟩
def QENG.CTX_CFG_HOME : Row := ⟨12, 0, 80, 0, 1, 16, 2, .rw, aAll, aHS, 0, .none, .none, false⟩
def QENG.CTX_CFG_AFFINITY : Row := ⟨12, 0, 80, 0, 1, 0, 16, .rw, aAll, aHS, 0, .none, .none, false⟩
def QENG.CTX_SPAD_SPAD_NB : Row := ⟨12, 0, 88, 0, 1, 8, 7, .rw, aAll, aHS, 0, .none, .none, false⟩
def QENG.CTX_SPAD_SPAD_FIRST : Row := ⟨12, 0, 88, 0, 1, 0, 6, .rw, aAll, aHS, 0, .none, .none, false⟩
def QENG.CTX_HBM_HBM_LEN : Row := ⟨12, 0, 92, 0, 1, 16, 9, .rw, aAll, aHS, 0, .none, .none, false⟩
def QENG.CTX_HBM_HBM_BASE : Row := ⟨12, 0, 92, 0, 1, 0, 9, .rw, aAll, aHS, 0, .none, .none, false⟩
def QENG.OWN_CORES_CORES : Row := ⟨12, 0, 256, 4, 64, 0, 16, .rw, aAll, aHS, 65535, .chip, .none, false⟩
def QENG.SOLO_EN : Row := ⟨12, 0, 96, 0, 1, 31, 1, .rw, aAll, aHS, 0, .none, .none, false⟩
def QENG.SOLO_CORE : Row := ⟨12, 0, 96, 0, 1, 16, 4, .rw, aAll, aHS, 0, .none, .none, false⟩
def QENG.SOLO_CTX : Row := ⟨12, 0, 96, 0, 1, 0, 13, .rw, aAll, aHS, 0, .none, .none, false⟩

/-- The fields of the QENG page. -/
def rowsQENG : List Row :=
  [QENG.Q_ENABLED_COUNT, QENG.CTX_CMD_OP, QENG.CTX_CMD_OWNER, QENG.CTX_CMD_CTX, QENG.CTX_CMD_STAT_BUSY, QENG.CTX_CMD_STAT_RESULT, QENG.CTX_SEL_CTX, QENG.CTX_CFG_MOD_US, QENG.CTX_CFG_MOD_CNT, QENG.CTX_CFG_VECTOR, QENG.CTX_CFG_WEIGHT, QENG.CTX_CFG_INT_EN, QENG.CTX_CFG_HOME, QENG.CTX_CFG_AFFINITY, QENG.CTX_SPAD_SPAD_NB, QENG.CTX_SPAD_SPAD_FIRST, QENG.CTX_HBM_HBM_LEN, QENG.CTX_HBM_HBM_BASE, QENG.OWN_CORES_CORES, QENG.SOLO_EN, QENG.SOLO_CORE, QENG.SOLO_CTX]

/-! ### HOSTIF page -/
def HOSTIF.LINK_STAT_RETRAIN : Row := ⟨13, 0, 64, 0, 1, 16, 16, .ro, aAll, aNone, 0, .none, .none, false⟩
def HOSTIF.LINK_STAT_FLIT : Row := ⟨13, 0, 64, 0, 1, 8, 1, .ro, aAll, aNone, 0, .warm, .none, false⟩
def HOSTIF.LINK_STAT_RATE : Row := ⟨13, 0, 64, 0, 1, 4, 4, .ro, aAll, aNone, 0, .warm, .none, false⟩
def HOSTIF.LINK_STAT_WIDTH : Row := ⟨13, 0, 64, 0, 1, 0, 4, .ro, aAll, aNone, 0, .warm, .none, false⟩
def HOSTIF.BAD_LOG_VALID : Row := ⟨13, 0, 72, 0, 1, 63, 1, .rw1c, aHD, aH, 0, .none, .none, false⟩
def HOSTIF.BAD_LOG_FUNC : Row := ⟨13, 0, 72, 0, 1, 56, 7, .ro, aHD, aNone, 0, .none, .none, false⟩
def HOSTIF.BAD_LOG_KIND : Row := ⟨13, 0, 72, 0, 1, 48, 8, .ro, aHD, aNone, 0, .none, .none, false⟩
def HOSTIF.BAD_LOG_OFFSET : Row := ⟨13, 0, 72, 0, 1, 0, 28, .ro, aHD, aNone, 0, .none, .none, false⟩
def HOSTIF.FLR_STAT_BUSY : Row := ⟨13, 0, 80, 0, 1, 1, 63, .ro, aHD, aNone, 0, .none, .none, false⟩
def HOSTIF.VF_CTX_BASE : Row := ⟨13, 0, 256, 4, 64, 16, 13, .rw, aAll, aHS, 0, .chip, .none, false⟩
def HOSTIF.VF_CTX_COUNT : Row := ⟨13, 0, 256, 4, 64, 0, 11, .rw, aAll, aHS, 0, .chip, .none, false⟩
def HOSTIF.ERR_SUM : Row := ⟨13, 0, 68, 0, 1, 0, 32, .ro, aAll, aNone, 0, .none, .none, false⟩

/-- The fields of the HOSTIF page. -/
def rowsHOSTIF : List Row :=
  [HOSTIF.LINK_STAT_RETRAIN, HOSTIF.LINK_STAT_FLIT, HOSTIF.LINK_STAT_RATE, HOSTIF.LINK_STAT_WIDTH, HOSTIF.BAD_LOG_VALID, HOSTIF.BAD_LOG_FUNC, HOSTIF.BAD_LOG_KIND, HOSTIF.BAD_LOG_OFFSET, HOSTIF.FLR_STAT_BUSY, HOSTIF.VF_CTX_BASE, HOSTIF.VF_CTX_COUNT, HOSTIF.ERR_SUM]

/-! ### QUAD page -/
def QUAD.SHARE : Row := ⟨16, 1, 256, 1, 64, 0, 8, .rw, aAll, aHS, 0, .chip, .none, false⟩
def QUAD.SHARE_SUM_SUM : Row := ⟨16, 1, 320, 0, 1, 0, 9, .ro, aAll, aNone, 0, .none, .none, false⟩
def QUAD.QTEST_KIND : Row := ⟨16, 1, 64, 0, 1, 28, 4, .wo, aNone, aHS, 0, .none, .none, false⟩
def QUAD.QTEST_DRAIN : Row := ⟨16, 1, 64, 0, 1, 27, 1, .wo, aNone, aHS, 0, .none, .none, false⟩
def QUAD.QTEST_OD : Row := ⟨16, 1, 64, 0, 1, 26, 1, .wo, aNone, aHS, 0, .none, .none, false⟩
def QUAD.QTEST_TARGET : Row := ⟨16, 1, 64, 0, 1, 20, 4, .wo, aNone, aHS, 0, .none, .none, false⟩
def QUAD.QTEST_PAR_HOLD_MS : Row := ⟨16, 1, 68, 0, 1, 20, 12, .rw, aAll, aHS, 10, .none, .none, false⟩
def QUAD.QTEST_PAR_RISE : Row := ⟨16, 1, 68, 0, 1, 12, 8, .rw, aAll, aHS, 15, .none, .none, false⟩
def QUAD.QTEST_PAR_STEPS : Row := ⟨16, 1, 68, 0, 1, 8, 4, .rw, aAll, aHS, 4, .none, .none, false⟩
def QUAD.QTEST_PAR_DEPTH : Row := ⟨16, 1, 68, 0, 1, 0, 8, .rw, aAll, aHS, 16, .none, .none, false⟩
def QUAD.QTEST_WAIT_DRAIN_MS : Row := ⟨16, 1, 72, 0, 1, 16, 16, .rw, aAll, aHS, 100, .none, .none, false⟩
def QUAD.QTEST_WAIT_WAIT_MS : Row := ⟨16, 1, 72, 0, 1, 0, 16, .rw, aAll, aHS, 1000, .none, .none, false⟩
def QUAD.QTEST_STAT_BUSY : Row := ⟨16, 1, 76, 0, 1, 31, 1, .ro, aAll, aNone, 0, .none, .none, false⟩
def QUAD.QTEST_STAT_RESULT : Row := ⟨16, 1, 76, 0, 1, 24, 4, .ro, aAll, aNone, 0, .none, .none, false⟩
def QUAD.QTEST_STAT_REACHED : Row := ⟨16, 1, 76, 0, 1, 16, 8, .ro, aAll, aNone, 0, .none, .none, false⟩
def QUAD.QTEST_STAT_FAILS : Row := ⟨16, 1, 76, 0, 1, 8, 8, .ro, aAll, aNone, 0, .none, .none, false⟩
def QUAD.QTEST_STAT_REASON : Row := ⟨16, 1, 76, 0, 1, 0, 8, .ro, aAll, aNone, 0, .none, .none, false⟩
def QUAD.QTEST_TEMP_PEAK : Row := ⟨16, 1, 80, 0, 1, 16, 16, .ro, aAll, aNone, 32768, .none, .none, false⟩
def QUAD.QTEST_TEMP_START : Row := ⟨16, 1, 80, 0, 1, 0, 16, .ro, aAll, aNone, 32768, .none, .none, false⟩

/-- The fields of the QUAD page. -/
def rowsQUAD : List Row :=
  [QUAD.SHARE, QUAD.SHARE_SUM_SUM, QUAD.QTEST_KIND, QUAD.QTEST_DRAIN, QUAD.QTEST_OD, QUAD.QTEST_TARGET, QUAD.QTEST_PAR_HOLD_MS, QUAD.QTEST_PAR_RISE, QUAD.QTEST_PAR_STEPS, QUAD.QTEST_PAR_DEPTH, QUAD.QTEST_WAIT_DRAIN_MS, QUAD.QTEST_WAIT_WAIT_MS, QUAD.QTEST_STAT_BUSY, QUAD.QTEST_STAT_RESULT, QUAD.QTEST_STAT_REACHED, QUAD.QTEST_STAT_FAILS, QUAD.QTEST_STAT_REASON, QUAD.QTEST_TEMP_PEAK, QUAD.QTEST_TEMP_START]

/-! ### FE page -/
def FE.FE_RES_DISPATCHES : Row := ⟨256, 16, 64, 0, 1, 24, 8, .ro, aAll, aNone, 0, .none, .none, false⟩
def FE.FE_RES_GROUPS : Row := ⟨256, 16, 64, 0, 1, 16, 8, .ro, aAll, aNone, 0, .none, .none, false⟩
def FE.FE_RES_THREADS : Row := ⟨256, 16, 64, 0, 1, 0, 13, .ro, aAll, aNone, 0, .none, .none, false⟩
def FE.FE_STARVE_COUNT : Row := ⟨256, 16, 68, 0, 1, 0, 32, .rc, aHD, aNone, 0, .none, .none, false⟩
def FE.FE_FAULT_VALID : Row := ⟨256, 16, 72, 0, 1, 63, 1, .rw1c, aHD, aH, 0, .none, .none, false⟩
def FE.FE_FAULT_SLOT_GRP : Row := ⟨256, 16, 72, 0, 1, 56, 7, .ro, aHD, aNone, 0, .none, .none, false⟩
def FE.FE_FAULT_LANE : Row := ⟨256, 16, 72, 0, 1, 50, 6, .ro, aHD, aNone, 0, .none, .none, false⟩
def FE.FE_FAULT_KIND : Row := ⟨256, 16, 72, 0, 1, 42, 8, .ro, aHD, aNone, 0, .none, .none, false⟩
def FE.FE_FAULT_PC_OFF : Row := ⟨256, 16, 72, 0, 1, 0, 32, .ro, aHD, aNone, 0, .none, .none, false⟩

/-- The fields of the FE page. -/
def rowsFE : List Row :=
  [FE.FE_RES_DISPATCHES, FE.FE_RES_GROUPS, FE.FE_RES_THREADS, FE.FE_STARVE_COUNT, FE.FE_FAULT_VALID, FE.FE_FAULT_SLOT_GRP, FE.FE_FAULT_LANE, FE.FE_FAULT_KIND, FE.FE_FAULT_PC_OFF]

/-! ### DSA page -/
def DSA.DSA_CTL_CKSUM_EN : Row := ⟨257, 16, 64, 0, 1, 8, 1, .rw, aAll, aHS, 1, .none, .none, false⟩
def DSA.DSA_CTL_HOLD : Row := ⟨257, 16, 64, 0, 1, 0, 1, .rw, aAll, aDS, 0, .none, .none, false⟩
def DSA.DSA_STAT_LAST_CYC : Row := ⟨257, 16, 68, 0, 1, 16, 16, .ro, aAll, aNone, 0, .none, .none, false⟩
def DSA.DSA_STAT_CHK_FAIL : Row := ⟨257, 16, 68, 0, 1, 7, 1, .ro, aAll, aNone, 0, .none, .none, false⟩
def DSA.DSA_STAT_READOUT : Row := ⟨257, 16, 68, 0, 1, 6, 1, .ro, aAll, aNone, 0, .none, .none, false⟩
def DSA.DSA_STAT_PASS : Row := ⟨257, 16, 68, 0, 1, 5, 1, .ro, aAll, aNone, 0, .none, .none, false⟩
def DSA.DSA_STAT_HELD : Row := ⟨257, 16, 68, 0, 1, 4, 1, .ro, aAll, aNone, 0, .none, .none, false⟩
def DSA.DSA_STAT_LAST_MODE : Row := ⟨257, 16, 68, 0, 1, 0, 4, .ro, aAll, aNone, 0, .none, .none, false⟩
def DSA.DSA_SPARE_COL_USED : Row := ⟨257, 16, 72, 0, 1, 4, 3, .ro, aAll, aNone, 0, .drone, .none, false⟩
def DSA.DSA_SPARE_ROW_USED : Row := ⟨257, 16, 72, 0, 1, 0, 3, .ro, aAll, aNone, 0, .drone, .none, false⟩
def DSA.DSA_ROWMAP_VALID : Row := ⟨257, 16, 80, 4, 7, 31, 1, .ro, aAll, aNone, 0, .drone, .none, false⟩
def DSA.DSA_COLMAP_VALID : Row := ⟨257, 16, 112, 4, 7, 31, 1, .ro, aAll, aNone, 0, .drone, .none, false⟩
def DSA.DSA_ROWMAP_LOGICAL : Row := ⟨257, 16, 80, 4, 7, 0, 10, .ro, aAll, aNone, 0, .drone, .none, false⟩
def DSA.DSA_COLMAP_LOGICAL : Row := ⟨257, 16, 112, 4, 7, 0, 10, .ro, aAll, aNone, 0, .drone, .none, false⟩
def DSA.DSA_PASSES_COUNT : Row := ⟨257, 16, 144, 0, 1, 0, 32, .ro, aAll, aNone, 0, .none, .none, false⟩
def DSA.DSA_LAYER_LAYER_ID : Row := ⟨257, 16, 148, 0, 1, 0, 32, .ro, aAll, aNone, 0, .none, .none, false⟩

/-- The fields of the DSA page. -/
def rowsDSA : List Row :=
  [DSA.DSA_CTL_CKSUM_EN, DSA.DSA_CTL_HOLD, DSA.DSA_STAT_LAST_CYC, DSA.DSA_STAT_CHK_FAIL, DSA.DSA_STAT_READOUT, DSA.DSA_STAT_PASS, DSA.DSA_STAT_HELD, DSA.DSA_STAT_LAST_MODE, DSA.DSA_SPARE_COL_USED, DSA.DSA_SPARE_ROW_USED, DSA.DSA_ROWMAP_VALID, DSA.DSA_COLMAP_VALID, DSA.DSA_ROWMAP_LOGICAL, DSA.DSA_COLMAP_LOGICAL, DSA.DSA_PASSES_COUNT, DSA.DSA_LAYER_LAYER_ID]

/-! ### EXU page -/
def EXU.EXU_EXC_INVALID : Row := ⟨258, 16, 64, 0, 1, 16, 16, .rc, aHD, aNone, 0, .none, .none, false⟩
def EXU.EXU_EXC_OVERFLOW : Row := ⟨258, 16, 64, 0, 1, 0, 16, .rc, aHD, aNone, 0, .none, .none, false⟩

/-- The fields of the EXU page. -/
def rowsEXU : List Row :=
  [EXU.EXU_EXC_INVALID, EXU.EXU_EXC_OVERFLOW]

/-! ### LOG page -/
def LOG.LOG_CTL_DEFAULT : Row := ⟨259, 16, 64, 0, 1, 1, 1, .wo, aNone, aHS, 0, .none, .none, false⟩
def LOG.LOG_CTL_COMMIT : Row := ⟨259, 16, 64, 0, 1, 0, 1, .wo, aNone, aHS, 0, .none, .none, false⟩
def LOG.LOG_STAT_CT_CRC : Row := ⟨259, 16, 68, 0, 1, 16, 16, .ro, aAll, aNone, 0, .none, .none, false⟩
def LOG.LOG_STAT_CT_GEN : Row := ⟨259, 16, 68, 0, 1, 8, 8, .ro, aAll, aNone, 0, .none, .none, false⟩
def LOG.LOG_STAT_IS_DEFAULT : Row := ⟨259, 16, 68, 0, 1, 4, 1, .ro, aAll, aNone, 1, .none, .none, false⟩
def LOG.LOG_STAT_RESULT : Row := ⟨259, 16, 68, 0, 1, 0, 4, .ro, aAll, aNone, 0, .none, .none, false⟩
def LOG.LOG_STAGE_CPLUS : Row := ⟨259, 16, 256, 4, 64, 16, 16, .rw, aHD, aHS, 0, .none, .none, false⟩
def LOG.LOG_STAGE_CMINUS : Row := ⟨259, 16, 256, 4, 64, 0, 16, .rw, aHD, aHS, 0, .none, .none, false⟩
def LOG.LOG_ACTIVE : Row := ⟨259, 16, 512, 4, 64, 0, 32, .ro, aAll, aNone, 0, .none, .none, false⟩

/-- The fields of the LOG page. -/
def rowsLOG : List Row :=
  [LOG.LOG_CTL_DEFAULT, LOG.LOG_CTL_COMMIT, LOG.LOG_STAT_CT_CRC, LOG.LOG_STAT_CT_GEN, LOG.LOG_STAT_IS_DEFAULT, LOG.LOG_STAT_RESULT, LOG.LOG_STAGE_CPLUS, LOG.LOG_STAGE_CMINUS, LOG.LOG_ACTIVE]

/-! ### SPAD page -/
def SPAD.SPAD_STAT_MIG_BANK : Row := ⟨260, 16, 64, 0, 1, 10, 6, .ro, aAll, aNone, 0, .none, .none, false⟩
def SPAD.SPAD_STAT_MIGRATING : Row := ⟨260, 16, 64, 0, 1, 9, 1, .ro, aAll, aNone, 0, .none, .none, false⟩
def SPAD.SPAD_STAT_IN_SERVICE : Row := ⟨260, 16, 64, 0, 1, 0, 7, .ro, aAll, aNone, 64, .drone, .none, false⟩
def SPAD.SPAD_FENCED_BANKS : Row := ⟨260, 16, 72, 0, 1, 0, 64, .ro, aAll, aNone, 0, .drone, .none, false⟩
def SPAD.SPAD_CE_COUNT : Row := ⟨260, 16, 80, 0, 1, 0, 32, .rc, aHD, aNone, 0, .none, .none, false⟩
def SPAD.SPAD_SCRUB_PASSES : Row := ⟨260, 16, 84, 0, 1, 16, 16, .ro, aAll, aNone, 0, .none, .none, false⟩
def SPAD.SPAD_SCRUB_PERIOD : Row := ⟨260, 16, 84, 0, 1, 0, 16, .rw, aAll, aHS, 60, .none, .none, false⟩
def SPAD.SPAD_BANKMAP_VALID : Row := ⟨260, 16, 128, 1, 64, 7, 1, .ro, aAll, aNone, 1, .drone, .none, false⟩
def SPAD.SPAD_BANKMAP_PHYS : Row := ⟨260, 16, 128, 1, 64, 0, 6, .ro, aAll, aNone, 0, .drone, .none, true⟩

/-- The fields of the SPAD page. -/
def rowsSPAD : List Row :=
  [SPAD.SPAD_STAT_MIG_BANK, SPAD.SPAD_STAT_MIGRATING, SPAD.SPAD_STAT_IN_SERVICE, SPAD.SPAD_FENCED_BANKS, SPAD.SPAD_CE_COUNT, SPAD.SPAD_SCRUB_PASSES, SPAD.SPAD_SCRUB_PERIOD, SPAD.SPAD_BANKMAP_VALID, SPAD.SPAD_BANKMAP_PHYS]

/-! ### SHADOW page -/
def SHADOW.SHD_CTL_HOST_EN : Row := ⟨262, 16, 64, 0, 1, 0, 1, .rw, aAll, aHS, 1, .none, .none, false⟩
def SHADOW.SHD_CNT_SAMPLED : Row := ⟨262, 16, 68, 0, 1, 16, 16, .rc, aHD, aNone, 0, .none, .none, false⟩
def SHADOW.SHD_CNT_HOSTED : Row := ⟨262, 16, 68, 0, 1, 0, 16, .rc, aHD, aNone, 0, .none, .none, false⟩

/-- The fields of the SHADOW page. -/
def rowsSHADOW : List Row :=
  [SHADOW.SHD_CTL_HOST_EN, SHADOW.SHD_CNT_SAMPLED, SHADOW.SHD_CNT_HOSTED]

/-! ### TEST page -/
def TEST.TST_CTL_REF_S : Row := ⟨263, 16, 64, 0, 1, 8, 8, .rw, aAll, aHS, 10, .none, .none, false⟩
def TEST.TST_CTL_OD_EN : Row := ⟨263, 16, 64, 0, 1, 1, 1, .rw, aAll, aHS, 1, .none, .none, false⟩
def TEST.TST_CTL_SLICE_EN : Row := ⟨263, 16, 64, 0, 1, 0, 1, .rw, aAll, aHS, 1, .none, .none, false⟩
def TEST.TST_STAT_CURSOR : Row := ⟨263, 16, 68, 0, 1, 16, 16, .ro, aAll, aNone, 0, .none, .none, false⟩
def TEST.TST_STAT_CAPPED : Row := ⟨263, 16, 68, 0, 1, 6, 1, .ro, aAll, aNone, 0, .none, .none, false⟩
def TEST.TST_STAT_STALE : Row := ⟨263, 16, 68, 0, 1, 5, 1, .ro, aAll, aNone, 0, .none, .none, false⟩
def TEST.TST_STAT_OVERDRIVE : Row := ⟨263, 16, 68, 0, 1, 4, 1, .ro, aAll, aNone, 0, .none, .none, false⟩
def TEST.TST_STAT_STATE : Row := ⟨263, 16, 68, 0, 1, 0, 4, .ro, aAll, aNone, 0, .none, .none, false⟩
def TEST.TST_CNT_SLICES : Row := ⟨263, 16, 72, 0, 1, 16, 16, .rc, aHD, aNone, 0, .none, .none, false⟩
def TEST.TST_CNT_ABORTED : Row := ⟨263, 16, 72, 0, 1, 8, 8, .rc, aHD, aNone, 0, .none, .none, false⟩
def TEST.TST_CNT_SKIPPED : Row := ⟨263, 16, 72, 0, 1, 0, 8, .rc, aHD, aNone, 0, .none, .none, false⟩
def TEST.MARGIN_G : Row := ⟨263, 16, 76, 0, 1, 16, 8, .ro, aAll, aNone, 0, .none, .none, false⟩
def TEST.MARGIN_M : Row := ⟨263, 16, 76, 0, 1, 0, 16, .ro, aAll, aNone, 0, .none, .none, false⟩
def TEST.REF_AGE_AGE : Row := ⟨263, 16, 80, 0, 1, 0, 32, .ro, aAll, aNone, 0, .none, .none, false⟩
def TEST.FAIL_LOG_VALID : Row := ⟨263, 16, 96, 0, 1, 63, 1, .rw1c, aAll, aH, 0, .none, .none, false⟩
def TEST.FAIL_LOG_COND : Row := ⟨263, 16, 96, 0, 1, 59, 4, .ro, aAll, aNone, 0, .none, .none, false⟩
def TEST.FAIL_LOG_F25 : Row := ⟨263, 16, 96, 0, 1, 48, 8, .ro, aAll, aNone, 0, .none, .none, false⟩
def TEST.FAIL_LOG_PAT_ID : Row := ⟨263, 16, 96, 0, 1, 32, 16, .ro, aAll, aNone, 0, .none, .none, false⟩
def TEST.FAIL_LOG_UNIT : Row := ⟨263, 16, 96, 0, 1, 0, 20, .ro, aAll, aNone, 0, .none, .none, false⟩
def TEST.FAIL_TIME_TIME : Row := ⟨263, 16, 104, 0, 1, 0, 64, .ro, aAll, aNone, 0, .none, .none, false⟩
def TEST.OBS_SIG : Row := ⟨263, 16, 112, 0, 1, 0, 64, .ro, aAll, aNone, 0, .none, .none, false⟩
def TEST.EXP_SIG : Row := ⟨263, 16, 120, 0, 1, 0, 64, .ro, aAll, aNone, 0, .none, .none, false⟩

/-- The fields of the TEST page. -/
def rowsTEST : List Row :=
  [TEST.TST_CTL_REF_S, TEST.TST_CTL_OD_EN, TEST.TST_CTL_SLICE_EN, TEST.TST_STAT_CURSOR, TEST.TST_STAT_CAPPED, TEST.TST_STAT_STALE, TEST.TST_STAT_OVERDRIVE, TEST.TST_STAT_STATE, TEST.TST_CNT_SLICES, TEST.TST_CNT_ABORTED, TEST.TST_CNT_SKIPPED, TEST.MARGIN_G, TEST.MARGIN_M, TEST.REF_AGE_AGE, TEST.FAIL_LOG_VALID, TEST.FAIL_LOG_COND, TEST.FAIL_LOG_F25, TEST.FAIL_LOG_PAT_ID, TEST.FAIL_LOG_UNIT, TEST.FAIL_TIME_TIME, TEST.OBS_SIG, TEST.EXP_SIG]

/-! ### HBM page -/
def HBM.HBM_STAT_SELF_REFRESH : Row := ⟨512, 16, 64, 0, 1, 2, 1, .ro, aAll, aNone, 0, .none, .none, false⟩
def HBM.HBM_STAT_REUSED : Row := ⟨512, 16, 64, 0, 1, 1, 1, .ro, aAll, aNone, 0, .none, .none, false⟩
def HBM.HBM_STAT_IN_SERVICE : Row := ⟨512, 16, 64, 0, 1, 0, 1, .ro, aAll, aNone, 0, .none, .none, false⟩
def HBM.HBM_CE_COUNT : Row := ⟨512, 16, 68, 0, 1, 0, 32, .rc, aHD, aNone, 0, .none, .none, false⟩
def HBM.HBM_ODECC_COUNT : Row := ⟨512, 16, 72, 0, 1, 0, 32, .rc, aHD, aNone, 0, .none, .none, false⟩
def HBM.HBM_CARVE_CARVE_RESULT : Row := ⟨512, 16, 76, 0, 1, 6, 2, .ro, aAll, aNone, 0, .none, .none, false⟩
def HBM.HBM_CARVE_BUDDY_GIB : Row := ⟨512, 16, 76, 0, 1, 0, 4, .rw, aAll, aHS, 4, .chip, .none, false⟩
def HBM.HBM_SCRUB_PASSES : Row := ⟨512, 16, 80, 0, 1, 16, 16, .ro, aAll, aNone, 0, .none, .none, false⟩
def HBM.HBM_SCRUB_PERIOD : Row := ⟨512, 16, 80, 0, 1, 0, 8, .rw, aAll, aHS, 24, .none, .none, false⟩
def HBM.HBM_UE_LOG_VALID : Row := ⟨512, 16, 88, 0, 1, 63, 1, .rw1c, aHD, aH, 0, .none, .none, false⟩
def HBM.HBM_UE_LOG_ZEROED : Row := ⟨512, 16, 88, 0, 1, 62, 1, .ro, aHD, aNone, 0, .none, .none, false⟩
def HBM.HBM_UE_LOG_SECTOR : Row := ⟨512, 16, 88, 0, 1, 6, 29, .ro, aHD, aNone, 0, .none, .none, false⟩

/-- The fields of the HBM page. -/
def rowsHBM : List Row :=
  [HBM.HBM_STAT_SELF_REFRESH, HBM.HBM_STAT_REUSED, HBM.HBM_STAT_IN_SERVICE, HBM.HBM_CE_COUNT, HBM.HBM_ODECC_COUNT, HBM.HBM_CARVE_CARVE_RESULT, HBM.HBM_CARVE_BUDDY_GIB, HBM.HBM_SCRUB_PASSES, HBM.HBM_SCRUB_PERIOD, HBM.HBM_UE_LOG_VALID, HBM.HBM_UE_LOG_ZEROED, HBM.HBM_UE_LOG_SECTOR]

/-! ### NL page -/
def NL.NL_CFG_ENABLE : Row := ⟨768, 1, 64, 0, 1, 31, 1, .rw, aAll, aHS, 1, .none, .none, false⟩
def NL.NL_CFG_RENEG : Row := ⟨768, 1, 64, 0, 1, 30, 1, .wo, aNone, aHS, 0, .none, .none, false⟩
def NL.NL_CFG_FEC53 : Row := ⟨768, 1, 64, 0, 1, 29, 1, .rw, aAll, aHS, 0, .none, .none, false⟩
def NL.NL_CFG_RATES : Row := ⟨768, 1, 64, 0, 1, 26, 3, .rw, aAll, aHS, 7, .none, .none, false⟩
def NL.NL_CFG_LANE_EN : Row := ⟨768, 1, 64, 0, 1, 22, 4, .rw, aAll, aHS, 15, .none, .none, false⟩
def NL.NL_CFG_RETRY_MS : Row := ⟨768, 1, 64, 0, 1, 12, 10, .rw, aAll, aHS, 100, .none, .none, false⟩
def NL.NL_CFG_ACK_US : Row := ⟨768, 1, 64, 0, 1, 4, 8, .rw, aAll, aHS, 4, .none, .none, false⟩
def NL.NL_CFG_REPLAY_MAX : Row := ⟨768, 1, 64, 0, 1, 0, 4, .rw, aAll, aHS, 8, .none, .none, false⟩
def NL.NL_FIELD_FIELD_TAG : Row := ⟨768, 1, 68, 0, 1, 0, 32, .rw, aAll, aHS, 0, .none, .none, false⟩
def NL.NL_STAT_STATE : Row := ⟨768, 1, 72, 0, 1, 28, 4, .ro, aAll, aNone, 0, .none, .none, false⟩
def NL.NL_STAT_RATE : Row := ⟨768, 1, 72, 0, 1, 26, 2, .ro, aAll, aNone, 3, .none, .none, false⟩
def NL.NL_STAT_WIDTH : Row := ⟨768, 1, 72, 0, 1, 24, 2, .ro, aAll, aNone, 0, .none, .none, false⟩
def NL.NL_STAT_LANES_USED : Row := ⟨768, 1, 72, 0, 1, 20, 4, .ro, aAll, aNone, 0, .none, .none, false⟩
def NL.NL_STAT_FEC_ON : Row := ⟨768, 1, 72, 0, 1, 19, 1, .ro, aAll, aNone, 0, .none, .none, false⟩
def NL.NL_STAT_P_ROUTABLE : Row := ⟨768, 1, 72, 0, 1, 18, 1, .ro, aAll, aNone, 0, .none, .none, false⟩
def NL.NL_STAT_RESUMED : Row := ⟨768, 1, 72, 0, 1, 17, 1, .ro, aAll, aNone, 0, .none, .none, false⟩
def NL.NL_STAT_P_PORT : Row := ⟨768, 1, 72, 0, 1, 13, 4, .ro, aAll, aNone, 0, .none, .none, false⟩
def NL.NL_STAT_P_PART : Row := ⟨768, 1, 72, 0, 1, 0, 12, .ro, aAll, aNone, 0, .none, .none, false⟩
def NL.NL_PSERIAL_SERIAL : Row := ⟨768, 1, 80, 0, 1, 0, 64, .ro, aAll, aNone, 0, .none, .none, false⟩
def NL.NL_PNONCE_NONCE : Row := ⟨768, 1, 88, 0, 1, 0, 64, .ro, aAll, aNone, 0, .none, .none, false⟩
def NL.NL_PFIELD_FIELD_TAG : Row := ⟨768, 1, 96, 0, 1, 0, 32, .ro, aAll, aNone, 0, .none, .none, false⟩
def NL.NL_DELAY_ONE_WAY : Row := ⟨768, 1, 100, 0, 1, 16, 16, .ro, aAll, aNone, 0, .none, .none, false⟩
def NL.NL_DELAY_VALID : Row := ⟨768, 1, 100, 0, 1, 15, 1, .ro, aAll, aNone, 0, .none, .none, false⟩
def NL.NL_LANE_FENCED : Row := ⟨768, 1, 104, 0, 1, 4, 4, .rw1c, aAll, aHS, 0, .none, .none, false⟩
def NL.NL_LANE_LOCKED : Row := ⟨768, 1, 104, 0, 1, 0, 4, .ro, aAll, aNone, 0, .none, .none, false⟩
def NL.NL_CNT_REPLAY : Row := ⟨768, 1, 112, 0, 1, 16, 16, .rc, aHD, aNone, 0, .none, .none, false⟩
def NL.NL_CNT_NAK : Row := ⟨768, 1, 112, 0, 1, 0, 16, .rc, aHD, aNone, 0, .none, .none, false⟩
def NL.NL_FEC_CE_COUNT : Row := ⟨768, 1, 128, 4, 4, 0, 32, .rc, aHD, aNone, 0, .none, .none, false⟩

/-- The fields of the NL page. -/
def rowsNL : List Row :=
  [NL.NL_CFG_ENABLE, NL.NL_CFG_RENEG, NL.NL_CFG_FEC53, NL.NL_CFG_RATES, NL.NL_CFG_LANE_EN, NL.NL_CFG_RETRY_MS, NL.NL_CFG_ACK_US, NL.NL_CFG_REPLAY_MAX, NL.NL_FIELD_FIELD_TAG, NL.NL_STAT_STATE, NL.NL_STAT_RATE, NL.NL_STAT_WIDTH, NL.NL_STAT_LANES_USED, NL.NL_STAT_FEC_ON, NL.NL_STAT_P_ROUTABLE, NL.NL_STAT_RESUMED, NL.NL_STAT_P_PORT, NL.NL_STAT_P_PART, NL.NL_PSERIAL_SERIAL, NL.NL_PNONCE_NONCE, NL.NL_PFIELD_FIELD_TAG, NL.NL_DELAY_ONE_WAY, NL.NL_DELAY_VALID, NL.NL_LANE_FENCED] ++
  [NL.NL_LANE_LOCKED, NL.NL_CNT_REPLAY, NL.NL_CNT_NAK, NL.NL_FEC_CE_COUNT]

/-! ### FABRIC page -/
def FABRIC.FAB_ID_VALID : Row := ⟨784, 0, 64, 0, 1, 31, 1, .rw, aAll, aHS, 0, .chip, .none, false⟩
def FABRIC.FAB_ID_PART : Row := ⟨784, 0, 64, 0, 1, 0, 12, .rw, aAll, aHS, 0, .chip, .none, false⟩
def FABRIC.ROUTE_GEN_GEN : Row := ⟨784, 0, 68, 0, 1, 0, 32, .ro, aAll, aNone, 0, .none, .none, false⟩
def FABRIC.ROUTE_IDX_IDX : Row := ⟨784, 0, 72, 0, 1, 0, 12, .rw, aAll, aHS, 0, .none, .none, false⟩
def FABRIC.ROUTE_ENT_PATH_EN : Row := ⟨784, 0, 76, 0, 1, 16, 4, .rw, aAll, aHS, 0, .none, .none, false⟩
def FABRIC.ROUTE_ENT_PORTS : Row := ⟨784, 0, 76, 0, 1, 0, 16, .rw, aAll, aHS, 0, .none, .none, false⟩
def FABRIC.PEER_CTX_COUNT : Row := ⟨784, 0, 80, 0, 1, 16, 14, .rw, aAll, aHS, 0, .chip, .none, false⟩
def FABRIC.PEER_CTX_BASE : Row := ⟨784, 0, 80, 0, 1, 0, 13, .rw, aAll, aHS, 0, .chip, .none, false⟩
def FABRIC.FAB_TMO_RMT_MS : Row := ⟨784, 0, 84, 0, 1, 16, 16, .rw, aAll, aHS, 10, .none, .none, false⟩
def FABRIC.FAB_TMO_ORD_US : Row := ⟨784, 0, 84, 0, 1, 8, 8, .rw, aAll, aHS, 20, .none, .none, false⟩
def FABRIC.COLL_TMO_MS : Row := ⟨784, 0, 88, 0, 1, 0, 16, .rw, aAll, aHS, 1000, .none, .none, false⟩
def FABRIC.FAB_CNT_LOST : Row := ⟨784, 0, 96, 0, 1, 16, 16, .rc, aHD, aNone, 0, .none, .none, false⟩
def FABRIC.FAB_CNT_DROP : Row := ⟨784, 0, 96, 0, 1, 0, 16, .rc, aHD, aNone, 0, .none, .none, false⟩

/-- The fields of the FABRIC page. -/
def rowsFABRIC : List Row :=
  [FABRIC.FAB_ID_VALID, FABRIC.FAB_ID_PART, FABRIC.ROUTE_GEN_GEN, FABRIC.ROUTE_IDX_IDX, FABRIC.ROUTE_ENT_PATH_EN, FABRIC.ROUTE_ENT_PORTS, FABRIC.PEER_CTX_COUNT, FABRIC.PEER_CTX_BASE, FABRIC.FAB_TMO_RMT_MS, FABRIC.FAB_TMO_ORD_US, FABRIC.COLL_TMO_MS, FABRIC.FAB_CNT_LOST, FABRIC.FAB_CNT_DROP]

/-! ### BARRIER page -/
def BARRIER.BAR_TREE_CHILD : Row := ⟨800, 0, 64, 0, 1, 16, 16, .rw, aAll, aHS, 0, .chip, .none, false⟩
def BARRIER.BAR_TREE_IS_ROOT : Row := ⟨800, 0, 64, 0, 1, 8, 1, .rw, aAll, aHS, 0, .chip, .none, false⟩
def BARRIER.BAR_TREE_LOCAL : Row := ⟨800, 0, 64, 0, 1, 4, 4, .rw, aAll, aHS, 1, .chip, .none, false⟩
def BARRIER.BAR_TREE_PARENT : Row := ⟨800, 0, 64, 0, 1, 0, 4, .rw, aAll, aHS, 0, .chip, .none, false⟩
def BARRIER.BAR_LEAD_US : Row := ⟨800, 0, 68, 0, 1, 0, 10, .rw, aAll, aHS, 20, .none, .none, false⟩
def BARRIER.BAR_STAT_STATE : Row := ⟨800, 0, 72, 0, 1, 28, 4, .ro, aAll, aNone, 0, .none, .none, false⟩
def BARRIER.BAR_STAT_HOPS : Row := ⟨800, 0, 72, 0, 1, 8, 4, .ro, aAll, aNone, 0, .none, .none, false⟩
def BARRIER.BAR_STAT_RATE_VALID : Row := ⟨800, 0, 72, 0, 1, 3, 1, .ro, aAll, aNone, 0, .none, .none, false⟩
def BARRIER.BAR_STAT_SKEW_OK : Row := ⟨800, 0, 72, 0, 1, 2, 1, .ro, aAll, aNone, 0, .none, .none, false⟩
def BARRIER.BAR_STAT_LATE : Row := ⟨800, 0, 72, 0, 1, 1, 1, .rw1c, aAll, aHS, 0, .none, .none, false⟩
def BARRIER.BAR_STAT_TIMEOUT : Row := ⟨800, 0, 72, 0, 1, 0, 1, .rw1c, aAll, aHS, 0, .none, .none, false⟩
def BARRIER.BAR_GEN_BGEN : Row := ⟨800, 0, 76, 0, 1, 0, 32, .ro, aAll, aNone, 0, .none, .none, false⟩
def BARRIER.STEP_STEP : Row := ⟨800, 0, 80, 0, 1, 0, 32, .rw, aAll, aHS, 0, .none, .none, false⟩
def BARRIER.BAR_TMO_MS : Row := ⟨800, 0, 84, 0, 1, 0, 16, .rw, aAll, aHS, 1000, .none, .none, false⟩
def BARRIER.FT_OFFSET_OFFSET : Row := ⟨800, 0, 88, 0, 1, 0, 64, .ro, aAll, aNone, 0, .none, .none, false⟩
def BARRIER.LAST_REL_TIME : Row := ⟨800, 0, 96, 0, 1, 0, 64, .ro, aAll, aNone, 0, .none, .none, false⟩

/-- The fields of the BARRIER page. -/
def rowsBARRIER : List Row :=
  [BARRIER.BAR_TREE_CHILD, BARRIER.BAR_TREE_IS_ROOT, BARRIER.BAR_TREE_LOCAL, BARRIER.BAR_TREE_PARENT, BARRIER.BAR_LEAD_US, BARRIER.BAR_STAT_STATE, BARRIER.BAR_STAT_HOPS, BARRIER.BAR_STAT_RATE_VALID, BARRIER.BAR_STAT_SKEW_OK, BARRIER.BAR_STAT_LATE, BARRIER.BAR_STAT_TIMEOUT, BARRIER.BAR_GEN_BGEN, BARRIER.STEP_STEP, BARRIER.BAR_TMO_MS, BARRIER.FT_OFFSET_OFFSET, BARRIER.LAST_REL_TIME]

end Sys2Proof.Machine
end

