-- ==== Sys2Proof/Machine/State.lean ====
section
/-! DEFINITION. The state of the part, as plain data: the registers, the memories, the contexts with their
queues and rings, the cores with their groups and passes, the ports, the engines and the Drone domain, and
the queue of commands that wait. -/
namespace Sys2Proof.Machine

/-! ### Fault tokens (*Fault Tokens, Sticky Bits and the Moraine Ring*) -/

/-- A token (Table 11-1); `cls` is the class it starts from until FLT fixes it (R357). `charges` are the units
and weights that the token's evidence charges beside those its fields name (R375, R381), `since` the tick at which it was raised (R359). -/
structure Tok where
  src : Nat
  kind : Nat
  cls : Nat
  sec : Bool := false
  inj : Bool := false
  chk : Bool := false
  ctx : Nat := 0
  gen : Nat := 0
  addr : Nat := 0
  detail : Nat := 0
  charges : List (Nat × Nat) := []
  since : Nat := 0
  deriving DecidableEq, Repr

/-- A token in Moraine's queue with its stamps (Table 11-11). -/
structure MorEntry where
  tok : Tok
  time : Nat
  temp : Nat
  volt : Nat
  deriving DecidableEq, Repr

/-- What Moraine keeps of dropped tokens until the OVF record is queued (R363). -/
structure MorOvf where
  count : Nat
  heavy : Nat
  time : Nat
  temp : Nat
  volt : Nat
  deriving DecidableEq, Repr

/-- Moraine's queue, its unsignalled entries, and the retained loss record (R363–R367). -/
structure Moraine where
  queue : List MorEntry := []
  ovf : Option MorOvf := none
  unsignalled : Nat := 0
  firstUnsignalled : Option Nat := none
  deriving DecidableEq, Repr

/-- The cap of one page (R369): the window of 1 ms it counts in, what passed and was withheld in that window, and what was withheld in
windows before it and is not reported yet. -/
structure RateWin where
  window : Nat := 0
  passed : Nat := 0
  withheld : Nat := 0
  due : Nat := 0
  deriving DecidableEq, Repr

/-! ### Contexts and queues (*Contexts, Queues and Sequence Numbers*) -/

/-- Context states (Table 7-1); `active` and `idle` are told apart by the queues. -/
inductive CtxState where
  | unowned | owned | frozen | recovering | lost
  deriving DecidableEq, Repr

/-- How far a fetched command has come. -/
inductive CmdPhase where
  | fetched | running | done (status detail time : Nat)
  deriving DecidableEq, Repr

/-- A fetched command: its queue entry (64 bytes as eight 64-bit words), how far it has come, the bytes a COPY
has moved (R473), and whether a read of it failed for good (R98). -/
structure Cmd where
  ssn : Nat
  opc : Nat
  gen : Nat
  words : List Nat
  phase : CmdPhase
  moved : Nat := 0
  failed : Bool := false
  deriving DecidableEq, Repr

/-- One queue of a context (Table 7-9, offsets 0x44–0x58, and the commands fetched from it). -/
structure Queue where
  en : Bool := false
  urgent : Bool := false
  log2 : Nat := 4
  base : Nat := 0
  expect : Nat := 0
  done : Nat := 0
  dbGen : Nat := 0
  noService : List (Nat × Nat) := []
  cmds : List Cmd := []
  deriving DecidableEq, Repr

/-- One of the two rings of a context. -/
structure Ring where
  en : Bool := false
  log2 : Nat := 4
  base : Nat := 0
  pidx : Nat := 0
  cidx : Nat := 0
  deriving DecidableEq, Repr

/-- A context's configuration (Table 8-5) and its image region (Table 15-12). -/
structure CtxCfg where
  modUs : Nat := 0
  modCnt : Nat := 1
  vector : Nat := 16
  weight : Nat := 1
  intEn : Bool := false
  home : Nat := 0
  affinity : Nat := 0
  spadNb : Nat := 0
  spadFirst : Nat := 0
  hbmLen : Nat := 0
  hbmBase : Nat := 0
  imgOff : Nat := 0
  imgMib : Nat := 0
  survChip : Bool := false
  survPart : Bool := false
  survEng : Bool := false
  deriving DecidableEq, Repr

/-- A context reset in progress: its level for the records, whether its requests have drained, whether GEN_CHANGE
has been posted (R263, R442), whether Firn failed to preserve the context (R482), and whether a release asked for
it (R273). -/
structure CtxReset where
  level : Nat
  drained : Bool := false
  changed : Bool := false
  failed : Bool := false
  release : Bool := false
  deriving DecidableEq, Repr

/-- One context. `unposted` lists the CSNs of records that were assigned one and whose write the host link did not take (R263). -/
structure Ctx where
  state : CtxState := .unowned
  owner : Nat := 0
  gen : Nat := 0
  vmark : Bool := false
  evDrop : Bool := false
  cqFull : Bool := false
  csn : Nat := 0
  cq : Ring := {}
  eq : Ring := {}
  gapFirst : Nat := 0
  gapCount : Nat := 0
  maskMap : Bool := false
  maskTok : Bool := false
  qsel : Nat := 0
  queues : List (Nat × Queue) := []
  sync : List (Nat × Nat) := []
  cfg : CtxCfg := {}
  pending : Nat := 0
  firstPending : Option Nat := none
  reset : Option CtxReset := none
  zeroing : Bool := false
  deficit : Int := 0
  freezing : Bool := false
  evicted : Bool := false
  unposted : List Nat := []
  deriving DecidableEq, Repr

/-! ### Cores (*Thread Groups and the Instruction List*, *Digit-Serial Arithmetic*) -/

/-- One thread of a group (R176). -/
structure Thread where
  pc : Nat
  exited : Bool := false
  gsync : Bool := false
  waits : Option (Nat × Nat) := none
  wait : Nat := 0
  deriving DecidableEq, Repr

/-- A pass issued to a unit: its pass record (Table 5-1) with the dispatch's step number, operand store and
validated descriptor. -/
structure Pass where
  disp : Nat
  place : Nat
  ctx : Nat
  gen : Nat
  exact : Bool
  desc : List Byte
  descAddr : Nat
  out : Nat
  part : Nat
  tile : Nat
  step : Nat
  pitch : Nat
  bank : Nat
  store : Nat
  group : Nat
  deriving DecidableEq, Repr

/-- One resident group (R174, R176); registers are keyed by lane × 64 + number. -/
structure Group where
  ctx : Nat
  gen : Nat
  disp : Nat
  width : Nat
  index : Nat
  slot : Nat
  threads : List Thread
  regs : List (Nat × Word)
  ksync : Bool := false
  waitp : Bool := false
  passes : Nat := 0
  withdrawn : List Pass := []
  retired : Nat := 0
  deriving DecidableEq, Repr

/-- A kernel descriptor as validated (Table 5-2). -/
structure Kernel where
  addr : Nat
  width : Nat
  ksyncOk : Bool
  vAllow : Bool
  maxRes : Nat
  groups : Nat
  progAddr : Nat
  progLen : Nat
  argAddr : Nat
  step : Nat
  tileBase : Nat
  opsDsa : Nat
  opsExu : Nat
  deriving DecidableEq, Repr

/-- A dispatch accepted by a core or waiting for placement; `descs` holds the layer descriptors it has
validated, by address (R169). -/
structure Dispatch where
  id : Nat
  ctx : Nat
  gen : Nat
  queue : Nat
  ssn : Nat
  kernel : Kernel
  launched : Nat := 0
  ended : Nat := 0
  ksynced : Nat := 0
  passes : Nat := 0
  raw : List Byte := []
  fault : Option (Nat × Nat) := none
  descs : List (Nat × List Byte) := []
  deriving DecidableEq, Repr

/-- A disagreement that waits for Serac's recomputation (R372, R373): the context and layer, the disagreeing
columns and rows, and whether the corner disagrees, each with the verdict's ground: whether the lane's
own value was wrong and whether the data's was. -/
structure Disagree where
  ctx : Nat
  gen : Nat
  layer : Nat
  cols : List (Nat × Bool × Bool)
  rows : List (Nat × Bool × Bool)
  corner : Option (Bool × Bool)
  deriving DecidableEq, Repr

/-- What the accumulators of a pass hold: the data elements row-major, as integers (INT, BIN), LOGACC codes (LOG) or
binary32 codes (EXACT); the checksum row, the checksum column and the corner (R158); and the exceptional events of
an EXACT pass (R155). -/
structure Accs where
  data : List Int := []
  colLane : List Int := []
  rowLane : List Int := []
  corner : Int := 0
  invalid : Bool := false
  overflow : Bool := false
  deriving DecidableEq, Repr

/-- The digit streams of a pass: the operand codes of its A lines and of its B lines, by element (R161). -/
structure Streams where
  a : List (List Nat) := []
  b : List (List Nat) := []
  deriving DecidableEq, Repr

/-- A matrix unit of a core: one pending and one running pass, one readout with the accumulators it reads, a Serac
pass that runs on the unit (its delay-line entry), the disagreements that wait for their verdicts, oldest first, and the digit streams
of the DSA's most recent pass (R128, R131, R161, R195, R372). -/
structure MUnit where
  pending : Option Pass := none
  running : Option Pass := none
  readout : Option Pass := none
  serac : Option Nat := none
  accs : Accs := {}
  verdict : List Disagree := []
  retained : Option Streams := none
  deriving DecidableEq, Repr

/-- A bank migration in progress: logical bank and new physical bank (R214). -/
structure Migration where
  logical : Nat
  phys : Nat
  deriving DecidableEq, Repr

/-- One core position: resident groups by place, dispatches in order of acceptance, the matrix units, the staged
and active correction tables by entry (R141; unlisted entries hold the ROM default) with the copy that is under way of a staged table
(R144), the lines of the instruction cache by address / 64 (R203), the passes withdrawn by a freeze whose group has ended (R196), the
cycle count in quarters of a core cycle and the last count RDCYC gave (R612), the dispatches that waited TEST_BUSY for the core (R279),
the bank in migration and the logical banks that wait for one or were lost, and what the patrol and the launch arbiter keep. `usage`
lists time, owner and quarter cycles charged in the last 1 ms, `lastCtx` the context launched last of each owner (R287). -/
structure Core where
  groups : List (Nat × Group) := []
  disps : List Dispatch := []
  dsa : MUnit := {}
  exu : MUnit := {}
  logStageP : List (Nat × Nat) := []
  logStageM : List (Nat × Nat) := []
  logActP : List (Nat × Nat) := []
  logActM : List (Nat × Nat) := []
  logCopyP : List (Nat × Nat) := []
  logCopyM : List (Nat × Nat) := []
  logBusy : Option Bool := none
  icache : List (Nat × List Byte) := []
  withdrawn : List Pass := []
  cyc : Nat := 0
  cycSeen : Option Nat := none
  waitFor : List Nat := []
  mig : Option Migration := none
  noBank : List Nat := []
  migQueue : List Nat := []
  ceSeen : List Nat := []
  scrubPos : Nat := 0
  usage : List (Nat × Nat × Nat) := []
  lastCtx : List (Nat × Nat) := []
  deriving DecidableEq, Repr

/-- What the controller of one HBM stack keeps: on-die corrections of an hour of field time and which hour that is (R218), sectors corrected since
the last patrol (R217), the patrol's position, and the sectors charged to owners (R287). -/
structure HbmStack where
  hour : Nat := 0
  hourCount : Nat := 0
  rateRaised : Bool := false
  ceSeen : List Nat := []
  scrubPos : Nat := 0
  usage : List (Nat × Nat × Nat) := []
  deriving DecidableEq, Repr

/-! ### The host interface (*Register Pages and the Host Interface*) -/

/-- One MSI-X vector: address, data, mask and pending bit. -/
structure MsiVec where
  addr : Nat := 0
  data : Nat := 0
  mask : Bool := true
  pend : Bool := false
  deriving DecidableEq, Repr

/-- A DMA read outstanding at the host (R98, R264): of a queue entry (`entry`), or of a piece of a COPY, and
since when. -/
structure DmaRead where
  tag : Nat
  ctx : Nat
  gen : Nat
  queue : Nat
  ssn : Nat
  addr : Nat
  len : Nat
  since : Nat
  entry : Bool := false
  reissued : Bool := false
  deriving DecidableEq, Repr

/-- The PCI Express side of the part. `cfg` holds the writable words of configuration space, by function × 4096 + offset; words
that are not listed stand at their reset values. -/
structure Pci where
  linkUp : Bool := false
  trained : Bool := false
  vfEnable : Bool := false
  numVfs : Nat := 0
  vfClearing : Bool := false
  msix : List (Nat × MsiVec) := []
  aerCorr : Nat := 0
  aerUnc : Nat := 0
  reads : List DmaRead := []
  nextTag : Nat := 0
  identity : Bool := false
  cfg : List (Nat × Nat) := []
  deriving DecidableEq, Repr

/-! ### Power, clocks and boot (*Clocks, Crossings and Bring-up*) -/

/-- The pins the part drives or samples (Table 2-5); a `_n` pin is held here as asserted or not. -/
structure Pins where
  perst : Bool := true
  throttle : Bool := false
  thermtrip : Bool := false
  alert : Bool := false
  wake : Bool := false
  droneOk : Bool := false
  nlDriven : Bool := false
  deriving DecidableEq, Repr

/-- The saved training of one stack (store TRAIN). -/
structure TrainRec where
  valid : Bool := false
  serial : Nat := 0
  temp : Int := 0
  deriving DecidableEq, Repr

/-- Rails, stages and what a boot carries. -/
structure Boot where
  droneRail : Bool := true
  counting : Bool := false
  picked : Bool := false
  mainUp : Bool := false
  coldDue : Bool := true
  clocks : Bool := false
  aligned : Bool := false
  fltUp : Bool := false
  qengUp : Bool := false
  avsUp : Bool := false
  thermUp : Bool := false
  calOk : Bool := false
  nonce : Nat := 0
  earlyFirst : Nat := 0
  deferred : List Tok := []
  resident : Option (List Byte) := none
  imgDig : Option (List Byte) := none
  parity : Bool := false
  train : List (Nat × TrainRec) := []
  fenceCores : Nat := 0
  softFence : Nat := 0
  softComp : Bool := false
  admitted : Nat := 0
  chipReq : Option Nat := none
  hold : Bool := false
  clkTarget : Nat := 1
  queuedReq : Option Nat := none
  relock : Nat := 0
  restoreOk : Bool := true
  hadStacks : Nat := 0
  ueLogs : List Nat := []
  oldLive : Nat := 0
  lvlFrom : Option Nat := none
  fromDrone : Bool := true
  deriving DecidableEq, Repr

/-! ### The ladder (*Hangs, the Escalation Ladder and Recovery*) -/

/-- A reset in progress above the context level. -/
structure Reset where
  level : Nat
  domain : Nat
  cause : Option Tok := none
  host : Bool := false
  counted : Bool := false
  suspects : List Nat := []
  deriving DecidableEq, Repr

/-- The shadow a completed or running reset casts (R456). -/
structure Shadow where
  level : Nat
  domain : Nat
  suspects : List Nat := []
  ends : Option Nat := none
  deriving DecidableEq, Repr

/-- The progress timer of one page that has expired: the count it stopped at (R439). -/
structure Prog where
  seen : Nat := 0
  deriving DecidableEq, Repr

/-- The ladder: resets that run, shadows, completions by level and domain for the cascade (R457), progress timers that
have expired, a chip reset or power cycle being prepared, and the capture records the ring holds, by SEQ, offset and
length (R460). -/
structure Ladder where
  running : List Reset := []
  shadows : List Shadow := []
  casc : List (Nat × List Nat) := []
  timers : List (Nat × Prog) := []
  chip : Option Reset := none
  caps : List (Nat × Nat × Nat) := []
  deriving DecidableEq, Repr

/-! ### What the part sends -/

/-- Something the part has sent out: an MSI-X message, an in-band interrupt, a flit of a Neleraelm port, an AVSBus target, a DMA
request with the function that is its requester and its No Snoop and Relaxed Ordering attributes (a write as packets of at most
`payload` bytes, R93, R96, R251), a message of Firn to another part, the answer to a read of the register space or to a
configuration, TAP or I3C access, and Configuration Request Retry Status (R63). -/
inductive Emit where
  | msix (function vector addr data : Nat)
  | ibi (byte : Nat)
  | flit (port : Nat) (f : List Byte)
  | avs (quad code : Nat)
  | dmaRead (function tag addr len : Nat) (noSnoop relaxed : Bool)
  | dmaWrite (function addr len payload : Nat) (noSnoop relaxed : Bool)
  | firn (dst kind : Nat) (fields : List Nat) (data : List Byte)
  | answer (port : Authority) (value : List Nat)
  | cfgRetry (port : Authority)
  deriving DecidableEq, Repr

/-! ### Power, temperature, voltage, calibration (*Temperature, Power States, the Drone Domain and Calibration*) -/

/-- Power-state transitions in progress (R544–R553): the state being entered, the source of a wake from DOZE in progress, and
the source DRONE_WAKE will name after SERVICE. -/
structure Power where
  entering : Option Nat := none
  waking : Option Nat := none
  droneWake : Option Nat := none
  deriving DecidableEq, Repr

/-- What the thermal block keeps of one sensor (R527, R532). -/
structure Sensor where
  outRange : Nat := 0
  disagree : Nat := 0
  last : List Int := []
  deriving DecidableEq, Repr

/-- What the thermal block keeps of one group: whether it is warm, the field time and sensor of its last rate
event, and the field time of its last THERM_RATE (R530–R532). -/
structure TGroup where
  warm : Bool := false
  rateAt : Option (Nat × Nat) := none
  tokenAt : Option Nat := none
  deriving DecidableEq, Repr

/-- The limits on one core's clock, in MHz, and the thermal episode (R531, R533, R534). -/
structure Limits where
  thermal : Option Nat := none
  cool : Nat := 0
  episode : Bool := false
  throttle : Option Nat := none
  margin : Option Nat := none
  deriving DecidableEq, Repr

/-- The voltage monitor's counters and a target held back (R542, R543). -/
structure Monitor where
  low : Nat := 0
  high : Nat := 0
  heldTarget : Option Nat := none
  sampled : Bool := false
  deriving DecidableEq, Repr

/-- The calibration store: 4 KiB of MRAM, the staging buffer, the record whose write is in progress, slots left torn,
the trim of the RC oscillator in ppm (R538), committed types that wait for their moment (R554), whether the store cannot be read, and the payloads in use. -/
structure Cal where
  store : List Host.Cell := []
  stage : List Host.Cell := []
  writing : Option (Nat × List Byte) := none
  torn : List Nat := []
  rcTrim : Int := 0
  due : List Nat := []
  unreadable : Bool := false
  inUse : List (Nat × List Byte) := []
  deriving DecidableEq, Repr

/-! ### Security and management (*Port Authority, Lifecycle and Debug*) -/

/-- Fuses (with the serial number and the Subsystem ID, Table 3-5), tokens, firmware flash, the TAP and the I3C target. -/
structure Sec where
  fuses : List (Nat × Nat) := []
  burning : Option Nat := none
  burnFrom : Nat := 0
  lcLast : Option Nat := none
  tokenBuf : List Host.Cell := []
  token : Option (List Byte) := none
  serial : Nat := 0x4B5A_0001
  subsys : Nat := 0
  mfr : Nat := 0
  flash : List Host.Cell := []
  flashHalf : Nat := 0x100_0000
  flashOk : Bool := true
  runSvn : Nat := 0
  runWseq : Nat := 0
  runSlot : Nat := 0
  update : Option (List Byte) := none
  tapIr : Nat := 0xFF
  tapDr : Nat := 0
  regapResult : Nat := 0
  boundary : Nat := 0
  boundaryOut : Nat := 0
  i3cAddr : Option Nat := none
  deriving DecidableEq, Repr

/-! ### Screening (*Silent-Error Screening with Serac*) -/

/-- How far a sample has come (R376–R382). -/
inductive SamplePhase where
  | waitShadow | runShadow | waitThird | runThird
  deriving DecidableEq, Repr

/-- A delay-line entry: both signatures and the identity of a sampled pass; `ended` is the end of the primary pass, and `compared`
the time of the comparison (R376–R382). -/
structure Sample where
  entry : Nat
  primary : Nat
  shadow : Nat
  third : Option Nat := none
  pass : Pass
  len : Nat
  accSig : Nat
  outSig : Nat
  accSig2 : Nat := 0
  outSig2 : Nat := 0
  phase : SamplePhase := .waitShadow
  ended : Nat
  compared : Nat := 0
  deriving DecidableEq, Repr

/-- One suspect score (R394). -/
structure Score where
  unit : Nat
  score : Nat
  charged : Nat
  deriving DecidableEq, Repr

/-- Serac: the delay line, the credits by quadrant (in 1/1024 of a unit), the score table, the comparisons since
the last canary, and the fences (software's in `softFencing`) and spares it has decided but not yet set. -/
structure Serac where
  samples : List Sample := []
  shadowCredit : List (Nat × Int) := []
  sliceCredit : List (Nat × Int) := []
  lastShadow : Nat := 15
  scores : List (Nat × Score) := []
  charges : Nat := 0
  sinceCanary : Nat := 0
  fencing : List (Nat × Nat × Nat) := []
  softFencing : List (Nat × Nat) := []
  spares : List (Nat × Bool × Nat) := []
  deriving DecidableEq, Repr

/-! ### Field test (*In-Field Test Packs and Stress Margining*) -/

/-- The test state of one core: the slice or window chosen with the pack entries it runs, when its last valid reference
window was, and the calibration its estimator adopted there: GB_BASE and the safe frequency table (R430). -/
structure TestCore where
  chosen : Bool := false
  window : Bool := false
  overdrive : Bool := false
  started : Option Nat := none
  due : Bool := false
  held : Bool := false
  lastRef : Nat := 0
  cond : Nat := 0
  run : List (Nat × List Byte) := []
  gb : Nat := 50
  safe : Option (List Byte) := none
  deriving DecidableEq, Repr

/-- How far an explicit test has come (Tables 13-5 and 13-6). -/
inductive TestPhase where
  | none | drain | running | heat | hold | restore
  deriving DecidableEq, Repr

/-- The explicit test of one quadrant; `level` counts VOLT levels (or, in a CORE test, the overdrive run), `settled` says
that the rail stands at the level, `since` when its phase began, and `vp` and `lo` keep the target and the alarm threshold to restore. -/
structure QTest where
  kind : Nat := 0
  target : Nat := 0
  od : Bool := false
  drain : Bool := false
  phase : TestPhase := .none
  level : Nat := 0
  fails : Nat := 0
  held : List Nat := []
  result : Nat := 0
  reason : Nat := 0
  startTemp : Int := 0
  settled : Bool := false
  since : Nat := 0
  vp : Nat := 0
  lo : Nat := 0
  deriving DecidableEq, Repr

/-- The pack store, cores that still run a slice of the pack before, the highest PACK_SEQ admitted, the load in progress
(address, length, from TRAY), and the state of the tests. -/
structure Test where
  pack : Option (List Byte) := none
  stale : List Nat := []
  highest : Option Nat := none
  loading : Option (Nat × Nat × Bool) := none
  cores : List (Nat × TestCore) := []
  quads : List (Nat × QTest) := []
  lastSlice : List (Nat × Nat) := []
  deriving DecidableEq, Repr

/-! ### Links and the field (*Neleraelm Links*, *Field Addressing, Routing, Collectives and the Start Barrier*) -/

/-- A DATA flit without its link header: its class and bytes 0x08–0xFB. -/
structure DataFlit where
  cls : Nat
  data : List Byte
  deriving DecidableEq, Repr

/-- The fields of NL_CFG as they stood at a port's last negotiation: what the port goes by until the next (R319). -/
structure NlCfg where
  rates : Nat := 7
  lanes : Nat := 0xF
  fec53 : Nat := 0
  retryMs : Nat := 100
  ackUs : Nat := 4
  replayMax : Nat := 8
  deriving DecidableEq, Repr

/-- What a port keeps beside its registers: the partner recorded when it was last UP, sequence numbers, the replay
buffer (oldest first), since when ACK has made no progress, and what of the buffer goes out again, the queues of the three classes,
the control flits that are due, the credits held and owed, the retry timer, the settings and fenced lanes of the last negotiation, its
state, the IDENT and CREDIT_INIT records that came before their step, and the WIDTH records that wait for the partner's (R301–R317). -/
structure NlPort where
  recorded : Option (Nat × Nat) := none
  resumable : Bool := false
  seqTx : Nat := 0
  rxNext : Nat := 0
  replay : List (Nat × DataFlit) := []
  again : List (Nat × DataFlit) := []
  urgent : List DataFlit := []
  ordered : List DataFlit := []
  bulk : List DataFlit := []
  ctrl : List (Nat × List Byte) := []
  credit : List (Nat × Nat) := []
  owed : List (Nat × Nat) := []
  bulkTurn : Bool := false
  ackAt : Nat := 0
  retries : Nat := 0
  retryFrom : Option Nat := none
  cfg : NlCfg := {}
  fenced : Nat := 0
  signal : Nat := 0
  failed : Nat := 0
  leftOut : List (Nat × Nat) := []
  partnerLanes : Nat := 0xF
  widthOwed : Nat := 0
  identDue : Bool := false
  identSent : Bool := false
  keptIdent : Option (List Byte) := none
  keptCredit : Option (List Byte) := none
  outcome : Nat := 0
  resumeFrom : Nat := 0
  probes : List (Int × Nat × Int) := []
  negFailAt : Option Nat := none
  deriving DecidableEq, Repr

/-- A remote request of a group that waits for its reply (R328–R331). -/
structure Remote where
  tag : Nat
  op : Nat
  dst : Nat
  ctx : Nat
  gen : Nat
  core : Nat
  place : Nat
  disp : Nat
  group : Nat
  lanes : List (Nat × Nat)
  xd : Nat
  size : Nat
  sector : Nat
  off : Nat
  since : Nat
  deriving DecidableEq, Repr

/-- The sending side of an ORDERED session to one destination: its unacknowledged flits with their OSEQ and the time each was last sent
(R325, R327). -/
structure TxSession where
  session : Nat
  next : Nat := 0
  unacked : List (Nat × Nat × DataFlit) := []
  reopen : Bool := false
  deriving DecidableEq, Repr

/-- The receiving side of an ORDERED session from one source (R326). -/
structure RxSession where
  snonce : Nat
  session : Nat
  expect : Nat := 0
  held : List (Nat × Nat × DataFlit) := []
  deriving DecidableEq, Repr

/-- A flit that waits for a path in HOLD: since when, and the port it came by (16 for this part's own) (R324). -/
structure Stuck where
  since : Nat
  port : Nat
  flit : DataFlit
  deriving DecidableEq, Repr

/-- Phases of a collective at a member (Table 10-1). -/
inductive CollPhase where
  | join | read | ready | commit | done
  deriving DecidableEq, Repr

/-- A COLL command that runs (R333–R339). -/
structure Coll where
  ctx : Nat
  queue : Nat
  ssn : Nat
  cgen : Nat
  op : Nat
  dtype : Nat
  red : Bool
  members : List Nat
  index : Nat
  src : Nat
  dst : Nat
  stage : Nat
  len : Nat
  phase : CollPhase := .join
  joined : List Nat := []
  partials : List (Nat × List Host.Cell) := []
  partialLen : List (Nat × Nat) := []
  got : Nat := 0
  whole : Bool := false
  readies : List Nat := []
  dones : List Nat := []
  started : Nat
  deriving DecidableEq, Repr

/-- The fabric block's own state: the session counter of the Drone domain, sessions by part, outstanding requests,
flits that wait for a path (R324), arrived flits by port, requests held for recovering contexts (R329), the
routes, the running collectives and the early JOINs (R339), and the last CGEN of each context. -/
structure Fabric where
  counter : Option Nat := none
  nextTag : Nat := 0
  tx : List (Nat × TxSession) := []
  rx : List (Nat × RxSession) := []
  remotes : List Remote := []
  stuck : List Stuck := []
  inOrdered : List (Nat × DataFlit) := []
  inbox : List (Nat × DataFlit) := []
  heldReqs : List (Nat × DataFlit) := []
  routes : List (Nat × Nat) := []
  colls : List Coll := []
  earlyJoins : List (Nat × DataFlit) := []
  lastCgen : List (Nat × Nat) := []
  deriving DecidableEq, Repr

/-- A local BARRIER command that waits for release (R341). -/
structure BarCmd where
  ctx : Nat
  queue : Nat
  ssn : Nat
  stepInc : Bool
  deriving DecidableEq, Repr

/-- The start barrier: its generation, the local commands and child ports that have arrived, arrivals that came
early, when the first command was accepted, the countdown with the step and bits the RELEASE carried, and what probes of the parent gave for the rate
(own and parent time of the last two rounds) (R340–R346). -/
structure Barrier where
  cmds : List BarCmd := []
  children : List Nat := []
  early : List (Nat × Nat) := []
  since : Option Nat := none
  arrived : Bool := false
  remain : Int := 0
  carried : Option (Nat × Bool × Bool) := none
  hops : Nat := 0
  ratePrev : Option (Nat × Nat) := none
  rate : Option (Nat × Nat) := none
  ckptDue : Bool := false
  deriving DecidableEq, Repr

/-! ### Firn (*Freeze, Checkpoint and Exact Resumption with Firn*) -/

/-- An image (R470, Table 15-2): the live groups by core and place with their withdrawn passes, the withdrawn passes by core
whose group has ended, the dispatches by
core, the table CRC of each core, the scratchpad extent by core once
evicted, and whether a reset (by level) or a test froze it. -/
structure Image where
  groups : List (Nat × Nat × Group) := []
  passes : List (Nat × Pass) := []
  disps : List (Nat × Dispatch) := []
  crcs : List (Nat × Nat) := []
  evicted : Option (List (Nat × List Host.Cell)) := none
  lostRemotes : Bool := false
  forReset : Option Nat := none
  test : Bool := false
  deriving DecidableEq, Repr

/-- A freeze or thaw that runs: its target, the command it answers (context, queue, SSN), and the level of the reset
it serves where Firn started it (R482, R483) or whether a test did (R425). -/
structure FirnOp where
  target : Nat
  by_ : Option (Nat × Nat × Nat) := none
  evict : Bool := false
  level : Option Nat := none
  test : Bool := false
  deriving DecidableEq, Repr

/-- A manifest entry (Table 15-8). -/
structure CkptEntry where
  region : Nat
  shard : Nat
  fmt : Nat
  ref : Option (Nat × Nat × Nat) := none
  src : Nat
  len : Nat
  stored : Nat
  off : Nat
  digest : List Byte := []
  deriving DecidableEq, Repr

/-- A CKPT that runs (R495). -/
structure Ckpt where
  ctx : Nat
  queue : Nat
  ssn : Nat
  desc : List Byte
  slot : Nat
  clean : Nat
  todo : List CkptEntry
  entries : List CkptEntry := []
  refused : Bool := false
  lost : Bool := false
  bad : Bool := false
  deriving DecidableEq, Repr

/-- A RESTORE that runs (R502). -/
structure Restore where
  ctx : Nat
  queue : Nat
  ssn : Nat
  step : Nat
  source : Nat
  hostFb : Bool
  member : Nat
  holder : Nat
  hostAddr : Nat
  deriving DecidableEq, Repr

/-- A held copy that arrives at this part (R498, R500): the member, the slot, and the digests so far by entry. -/
structure Held where
  member : Nat
  slot : Nat
  step : Nat
  seq : Nat
  digests : List (Nat × List Byte) := []
  asked : List Nat := []
  manifest : Option (List Byte) := none
  deriving DecidableEq, Repr

/-- Firn's own state. `verdicts` lists PRIMARY and UNRESOLVED verdicts by context and end of the pass, and `lastClean`
the CLEAN_TIME of each context's last sealed checkpoint (R499). -/
structure Firn where
  images : List (Nat × Image) := []
  freezes : List FirnOp := []
  thaws : List FirnOp := []
  hold : List (Nat × Nat) := []
  ckpt : Option Ckpt := none
  restore : Option Restore := none
  helds : List Held := []
  verdicts : List (Nat × Nat) := []
  lastClean : List (Nat × Nat) := []
  deriving DecidableEq, Repr

/-- The state of the part. `urgent` lists the entries accepted on URGENT queues in the order of their doorbells: context,
queue, SSN (R290); `lostPaths` the transfers that failed parity twice, by destination page, source page and address: nothing takes
their data (R224, R225). -/
structure State where
  pending : List Instr := []
  regs : List (Nat × Nat) := []
  mem : List Host.Cell := []
  host : List Host.Cell := []
  ftime : Nat := 0
  draws : Nat := 0
  latchHi : Option Nat := none
  boot : Boot := {}
  pins : Pins := {}
  pci : Pci := {}
  fltIn : List Tok := []
  droneToks : List MorEntry := []
  mor : Moraine := {}
  rate : List (Nat × RateWin) := []
  ladder : Ladder := {}
  ctxs : List (Nat × Ctx) := []
  urgent : List (Nat × Nat × Nat) := []
  waiting : List Dispatch := []
  nextDisp : Nat := 1
  cores : List (Nat × Core) := []
  out : List Emit := []
  marksC : List Nat := []
  marksU : List Nat := []
  lostPaths : List (Nat × Nat × Nat) := []
  pw : Power := {}
  sensors : List (Nat × Sensor) := []
  tgroups : List (Nat × TGroup) := []
  limits : List (Nat × Limits) := []
  hbms : List (Nat × HbmStack) := []
  monitors : List (Nat × Monitor) := []
  cal : Cal := {}
  sec : Sec := {}
  serac : Serac := {}
  test : Test := {}
  nl : List (Nat × NlPort) := []
  fabric : Fabric := {}
  barrier : Barrier := {}
  firn : Firn := {}
  deriving DecidableEq, Repr

/-- Why a step stops with a fault. No meaning of this model raises one: every command of the table has an
effect or none, and what the hardware answers to a wrong access is part of that effect (safe). -/
inductive Fault where
  /-- Raised by no meaning; it stands for a command outside the table (safe). -/
  | outsideTable
  deriving DecidableEq, Repr

/-- Why a step is refused. -/
inductive Refusal where
  /-- Raised by the arm of a command that has no meaning yet (safe). -/
  | notModelled (mnemonic : String)
  deriving DecidableEq, Repr

/-- The outcome of a command. -/
abbrev Out := Host.Outcome State Fault Refusal

/-- The part right after reset: DRONE_POR, the reset that clears everything (Table 2-2, code 0x0). The Drone
rail is good, the main rails are down, PERST_n is asserted, the stage is POWER, and the Drone domain counts
TCXO edges (R42). -/
def State.reset : State := { boot := { counting := true } }

end Sys2Proof.Machine
end

