-- ==== Sys2Proof/Machine/PciConfig.lean ====
section
/-! DEFINITION. The configuration space of PF0 and of the VFs: what each word reads after reset, which bits the host may write,
and what the part obeys of them (R52, R63, R92–R100, R105, R106). The spec gives the fields and their values; where a field lies, and the
reset values it does not state, are those of the PCI Express Base Specification it names (PRESUMED, log 72). -/
namespace Sys2Proof.Machine

/-- TotalVFs and InitialVFs (R100). -/
def totalVfs : Nat := 63

/-! ### Where the registers lie -/

def cfgCommand : Nat := 0x04
def cfgBar0 : Nat := 0x10
def cfgDevCtl : Nat := 0x48
def cfgDevCtl2 : Nat := 0x68
def cfgMsix : Nat := 0x80
def cfgAerUnc : Nat := 0x104
def cfgAerCorr : Nat := 0x110
def cfgSriovCtl : Nat := 0x178
def cfgNumVfs : Nat := 0x180

/-- The capabilities of a function in the order of their list, each with its ID, version and length in words: those of the
first 256 bytes and then, for a PF, the extended ones of Table 3-5. -/
def extendedCaps (func : Nat) : List (Nat × Nat × Nat) :=
  if func = 0 then
    [(0x100, 0x0001, 2), (0x150, 0x0003, 1), (0x160, 0x000E, 1), (0x170, 0x0010, 1), (0x1C0, 0x0019, 1), (0x1E0, 0x0025, 1),
     (0x1F0, 0x0026, 1), (0x220, 0x002A, 1), (0x250, 0x0031, 1), (0x270, 0x0027, 1)]
  else [(0x100, 0x0001, 2), (0x160, 0x000E, 1)]

/-- The header word of an extended capability at an offset: ID, version and the offset of the next. -/
def capHeader (func off : Nat) : Option Nat :=
  let l := extendedCaps func
  match l.findIdx? (fun c => c.1 = off) with
  | some i =>
    let c := l.getD i (0, 0, 0)
    some (((l.getD (i + 1) (0, 0, 0)).1) * 2 ^ 20 + c.2.2 * 2 ^ 16 + c.2.1)
  | none => none

/-! ### Writable bits and reset values -/

/-- The bits of a word that a configuration write changes. Of the SR-IOV words only those without a command of their own. -/
def cfgWritable (func off : Nat) : Nat :=
  if off = cfgCommand then (if func = 0 then 0x0546 else 0x0004)
  else if off = cfgBar0 && func = 0 then 0xF000_0000
  else if off = cfgBar0 + 4 && func = 0 then 0xFFFF_FFFF
  else if off = 0x3C && func = 0 then 0xFF
  else if off = cfgDevCtl then (if func = 0 then 0x79FF else 0x0010)
  else if off = cfgDevCtl2 && func = 0 then 0x101F
  else if off = cfgMsix then 0xC000_0000
  else if off = cfgAerUnc + 4 || off = cfgAerUnc + 8 then (if func = 0 then 0x0447_F030 else 0)
  else if off = cfgAerCorr + 4 then (if func = 0 then 0x0000_F1C1 else 0)
  else if off = cfgSriovCtl && func = 0 then 0x0018
  else if off = 0x190 && func = 0 then 0xFFFF_FFFF
  else if off = 0x194 && func = 0 then 0xFFF0_0000
  else if off = 0x198 && func = 0 then 0xFFFF_FFFF
  else 0

/-- The status bits of a word that a write of 1 clears: the AER status registers. -/
def cfgClears (off : Nat) : Nat :=
  if off = cfgAerUnc then 0x0447_F030 else if off = cfgAerCorr then 0x0000_F1C1 else 0

/-- What the writable bits of a word read after reset: relaxed ordering and no-snoop enabled, read requests of 512 bytes, the AER
masks and severities, and pages of 4 KiB. The completion timeout code is 0, which stands for 50 ms (R95). -/
def cfgResetWord (func off : Nat) : Nat :=
  if off = cfgDevCtl then (if func = 0 then 0x2810 else 0x0010)
  else if off = cfgAerUnc + 4 then (if func = 0 then 0x0040_0000 else 0)
  else if off = cfgAerUnc + 8 then (if func = 0 then 0x0046_2030 else 0)
  else if off = cfgAerCorr + 4 then (if func = 0 then 0x0000_E000 else 0)
  else if off = 0x190 && func = 0 then 1
  else 0

/-- The key of a word of a function's configuration space. -/
def cfgKey (func off : Nat) : Nat := func * 4096 + off

/-- The writable bits of a word as they stand. -/
def State.cfgHeld (s : State) (func off : Nat) : Nat := SMap.get s.pci.cfg (cfgKey func off) (cfgResetWord func off)

/-! ### What the part obeys -/

/-- MSI-X Enable of a function. -/
def State.msixEnabled (s : State) (func : Nat) : Bool := bit (s.cfgHeld func cfgMsix) 31

/-- Function Mask of a function. -/
def State.msixMasked (s : State) (func : Nat) : Bool := bit (s.cfgHeld func cfgMsix) 30

/-- The Max Payload Size the host has programmed, at most the 512 bytes that the part supports (R93). -/
def State.maxPayload (s : State) : Nat := min 512 (128 * 2 ^ bits (s.cfgHeld 0 cfgDevCtl) 7 5)

/-- The Max Read Request Size the host has programmed, at most 4 KiB (R93). -/
def State.maxRead (s : State) : Nat := min 4096 (128 * 2 ^ bits (s.cfgHeld 0 cfgDevCtl) 14 12)

/-- How many DMA reads may be outstanding: 768 with 10-bit Tag Requester Enable, else 256 (R94). -/
def State.readLimit (s : State) : Nat := if bit (s.cfgHeld 0 cfgDevCtl2) 12 then 768 else 256

/-- Enable Relaxed Ordering of a function (R96). -/
def State.relaxedOn (s : State) (func : Nat) : Bool := bit (s.cfgHeld func cfgDevCtl) 4

/-- Completion Timeout Disable is clear: reads can expire (R95). -/
def State.timeoutOn (s : State) : Bool := !bit (s.cfgHeld 0 cfgDevCtl2) 4

/-- The completion timeout in µs by its code in Device Control 2: 50 ms at reset, then the upper ends of Ranges A, B and C (R95); a code
outside them stands for the 50 ms of code 0. -/
def State.timeoutUs (s : State) : Nat :=
  match bits (s.cfgHeld 0 cfgDevCtl2) 3 0 with
  | 0x1 => 100
  | 0x2 => 10_000
  | 0x5 => 55_000
  | 0x6 => 210_000
  | 0x9 => 900_000
  | 0xA => 3_500_000
  | _ => 50_000

/-! ### AER (Table 3-4) -/

/-- The bits of AER's uncorrectable status that the part's own errors set. -/
def aerSURPRISE : Nat := 5
def aerPOISON : Nat := 12
def aerTIMEOUT : Nat := 14
def aerUNEXPECTED : Nat := 16
def aerMALFORMED : Nat := 18

/-- AER logs uncorrectable errors. -/
def State.aerUncLog (s : State) (status : Nat) : State :=
  { s with pci := { s.pci with aerUnc := Nat.lor s.pci.aerUnc (status % 2 ^ 32) } }

/-- AER logs correctable errors. -/
def State.aerCorrLog (s : State) (status : Nat) : State :=
  { s with pci := { s.pci with aerCorr := Nat.lor s.pci.aerCorr (status % 2 ^ 32) } }

end Sys2Proof.Machine
end

