-- ==== Sys2Proof/Machine/Ops.lean ====
section
/-! DEFINITION. The named operations over the state: registers by table row, free values, tokens on their
way to FLT, memory by local offset, contexts and cores by number, and the map of the pages. -/
namespace Sys2Proof.Machine

/-! ### Registers, draws, output -/

/-- The value of a field, at instance `k` of its page and index `i` of its register. -/
def State.rd (s : State) (r : Row) (k : Nat := 0) (i : Nat := 0) : Nat :=
  SMap.get s.regs (r.bit k i) (r.resetAt i)

/-- The state with a field set, cut to its width. -/
def State.wr (s : State) (r : Row) (v : Nat) (k : Nat := 0) (i : Nat := 0) : State :=
  { s with regs := SMap.put s.regs (r.bit k i) (v % 2 ^ r.width) }

/-- A counter field of the table raised by one, saturating at its width. -/
def State.count (s : State) (r : Row) (k : Nat := 0) (i : Nat := 0) : State :=
  s.wr r (satInc (2 ^ r.width - 1) (s.rd r k i)) k i

/-- A field raised by n, saturating at its width. -/
def State.addSat (s : State) (r : Row) (n : Nat) (k : Nat := 0) (i : Nat := 0) : State :=
  s.wr r (min (2 ^ r.width - 1) (s.rd r k i + n)) k i

/-- A field raised by one, wrapping at its width. -/
def State.bump (s : State) (r : Row) (k : Nat := 0) (i : Nat := 0) : State :=
  s.wr r (s.rd r k i + 1) k i

/-- Whether a one-bit field is set. -/
def State.on (s : State) (r : Row) (k : Nat := 0) (i : Nat := 0) : Bool := s.rd r k i = 1

/-- The next free value, cut below `n` (log 10). -/
def State.drawn (s : State) (n : Nat) : Nat := Config.free s.draws % n

/-- The state after a draw. -/
def State.drew (s : State) : State := { s with draws := s.draws + 1 }

/-- PROV_EPOCH increments (R517). -/
def State.epoch (s : State) : State := s.wr CHIP.PROV_EPOCH_EPOCH (s.rd CHIP.PROV_EPOCH_EPOCH + 1)

/-- The part sends something out. -/
def State.emit (s : State) (e : Emit) : State := { s with out := s.out ++ [e] }

/-- Fold a state change over a list. -/
def State.each {α : Type} (s : State) (l : List α) (f : State → α → State) : State := l.foldl f s

/-- A change made only under a condition. -/
def State.when (s : State) (c : Bool) (f : State → State) : State := if c then f s else s

/-! ### MSI-X -/

/-- The key of a function's vector in the MSI-X tables. -/
def msiKey (func vec : Nat) : Nat := func * 4096 + vec

/-- Send a vector of a function: the message, or the pending bit while the vector or the function is masked (R284). A function whose
MSI-X Enable is 0 sends nothing (R62). -/
def State.sendVector (s : State) (func vec : Nat) : State :=
  let m := SMap.get s.pci.msix (msiKey func vec) {}
  if !s.msixEnabled func then s
  else if m.mask || s.msixMasked func then
    { s with pci := { s.pci with msix := SMap.put s.pci.msix (msiKey func vec) { m with pend := true } } }
  else s.emit (.msix func vec m.addr m.data)

/-! ### Pages (R75, R80) -/

def pgCHIP : Nat := 0x000
def pgCHANTER : Nat := 0x001
def pgDRONE : Nat := 0x002
def pgTHERM : Nat := 0x003
def pgCAL : Nat := 0x004
def pgFLT : Nat := 0x005
def pgMORAINE : Nat := 0x006
def pgSERAC : Nat := 0x007
def pgFIRN : Nat := 0x008
def pgSEC : Nat := 0x009
def pgCLKRST : Nat := 0x00A
def pgAVS : Nat := 0x00B
def pgQENG : Nat := 0x00C
def pgHOSTIF : Nat := 0x00D
def pgQUAD (q : Nat) : Nat := 0x010 + q
def pgFE (c : Nat) : Nat := 0x100 + 16 * c
def pgDSA (c : Nat) : Nat := 0x101 + 16 * c
def pgEXU (c : Nat) : Nat := 0x102 + 16 * c
def pgLOG (c : Nat) : Nat := 0x103 + 16 * c
def pgSPAD (c : Nat) : Nat := 0x104 + 16 * c
def pgPROG (c : Nat) : Nat := 0x105 + 16 * c
def pgSHADOW (c : Nat) : Nat := 0x106 + 16 * c
def pgTEST (c : Nat) : Nat := 0x107 + 16 * c
def pgSTACK (k : Nat) : Nat := 0x200 + 16 * k
def pgPHY (k : Nat) : Nat := 0x201 + 16 * k
def pgNL (p : Nat) : Nat := 0x300 + p
def pgFABRIC : Nat := 0x310
def pgBARRIER : Nat := 0x320

/-- The core position of a page, when it is one of CORE's sixteen. -/
def coreOfPage (p : Nat) : Option Nat := if 0x100 ≤ p && p < 0x200 then some ((p - 0x100) / 16) else none

/-- The quadrant of a page, for CORE, QUAD and HBM pages (Table 11-2). -/
def quadOfPage (p : Nat) : Option Nat :=
  if 0x100 ≤ p && p < 0x200 then some ((p - 0x100) / 64)
  else if 0x010 ≤ p && p < 0x014 then some (p - 0x010)
  else if 0x200 ≤ p && p < 0x240 then some ((p - 0x200) / 16)
  else none

/-- The eight pages of a core position. -/
def corePages (c : Nat) : List Nat := (List.range 8).map (fun j => pgFE c + j)

/-- The pages of a quadrant: its cores', QUAD and HBM (Table 14-1). -/
def quadPages (q : Nat) : List Nat :=
  (List.range 4).flatMap (fun j => corePages (4 * q + j)) ++ [pgQUAD q, pgSTACK q, pgPHY q]

/-- Every page assigned to a block (R609 calls the rest reserved). -/
def allPages : List Nat :=
  List.range 14 ++ (List.range 4).map pgQUAD ++ (List.range 16).flatMap corePages ++
  (List.range 4).flatMap (fun k => [pgSTACK k, pgPHY k]) ++ (List.range 16).map pgNL ++ [pgFABRIC, pgBARRIER]

/-- BLK_STAT.STATE codes (Table 3-6). -/
def stOFF : Nat := 0
def stBOOT : Nat := 1
def stREADY : Nat := 2
def stBUSY : Nat := 3
def stTEST : Nat := 4
def stFENCED : Nat := 5
def stRESET : Nat := 6
def stFAILED : Nat := 7

/-- Set the state of a list of pages. -/
def State.setStates (s : State) (ps : List Nat) (v : Nat) : State :=
  s.each ps (fun t p => t.wr HDR.STAT_STATE v p)

/-! ### Stage and service -/

/-- CHIP.BOOT.STAGE (Table 2-6). -/
def State.stage (s : State) : Nat := s.rd CHIP.BOOT_STAGE

/-- The main domains run: the main rails are up and THERMTRIP_n has not stopped every clock (R536, R592). -/
def State.mainRuns (s : State) : Bool := s.boot.droneRail && s.boot.mainUp && !s.pins.thermtrip && s.rd DRONE.PWR_STAT_STATE != 3

/-- Stack k is in self-refresh: it serves nothing (R221, R226, R235). -/
def State.asleep (s : State) (k : Nat) : Bool := s.on HBM.HBM_STAT_SELF_REFRESH k

/-- The part has reached SERVICE, its main domains run, and it does not hold for a power cycle (R449). -/
def State.inService (s : State) : Bool := s.stage = 6 && !s.boot.hold && s.mainRuns

/-- Field time counts while the Drone clock runs. -/
def State.droneRuns (s : State) : Bool := s.boot.droneRail && s.pins.droneOk

/-- Whether core c is live. -/
def State.live (s : State) (c : Nat) : Bool := bit (s.rd CHIP.CORE_MAP_LIVE) c

/-- Whether core position c is fused. -/
def State.fused (s : State) (c : Nat) : Bool := bit (s.rd CHIP.CORE_MAP_FUSED) c

/-- Whether any fence of core c holds: recorded in FENCE, or set by software (R609). -/
def State.coreFenced (s : State) (c : Nat) : Bool := bit s.boot.fenceCores c || bit s.boot.softFence c

/-- A fence of core c is pending (R401, step 1). -/
def State.fencePending (s : State) (c : Nat) : Bool :=
  s.serac.fencing.any (fun e => e.1 = c) || s.serac.softFencing.any (fun e => e.1 = c)

/-- The comparator's fence holds: Serac's or software's (R390, R609). -/
def State.compFenced (s : State) : Bool := s.on SERAC.SRC_CTL_COMP_FENCED || s.boot.softComp

/-! ### Contexts and cores -/

def State.ctx (s : State) (x : Nat) : Ctx := SMap.get s.ctxs x {}
def State.setCtx (s : State) (x : Nat) (c : Ctx) : State := { s with ctxs := SMap.put s.ctxs x c }
def State.modCtx (s : State) (x : Nat) (f : Ctx → Ctx) : State := s.setCtx x (f (s.ctx x))
def State.core (s : State) (c : Nat) : Core := SMap.get s.cores c {}
def State.setCore (s : State) (c : Nat) (v : Core) : State := { s with cores := SMap.put s.cores c v }
def State.modCore (s : State) (c : Nat) (f : Core → Core) : State := s.setCore c (f (s.core c))
def State.hbm (s : State) (k : Nat) : HbmStack := SMap.get s.hbms k {}
def State.modHbm (s : State) (k : Nat) (f : HbmStack → HbmStack) : State :=
  { s with hbms := SMap.put s.hbms k (f (s.hbm k)) }
def State.tcore (s : State) (c : Nat) : TestCore := SMap.get s.test.cores c {}
def State.modTcore (s : State) (c : Nat) (f : TestCore → TestCore) : State :=
  { s with test := { s.test with cores := SMap.put s.test.cores c (f (s.tcore c)) } }
def State.qtest (s : State) (q : Nat) : QTest := SMap.get s.test.quads q {}
def State.modQtest (s : State) (q : Nat) (f : QTest → QTest) : State :=
  { s with test := { s.test with quads := SMap.put s.test.quads q (f (s.qtest q)) } }
def State.modSerac (s : State) (f : Serac → Serac) : State := { s with serac := f s.serac }
def State.modBoot (s : State) (f : Boot → Boot) : State := { s with boot := f s.boot }
def Ctx.queue (c : Ctx) (q : Nat) : Queue := SMap.get c.queues q {}
def Ctx.setQueue (c : Ctx) (q : Nat) (v : Queue) : Ctx := { c with queues := SMap.put c.queues q v }
def Ctx.syncVal (c : Ctx) (j : Nat) : Nat := SMap.get c.sync j 0
def Core.group (c : Core) (p : Nat) : Option Group := SMap.find c.groups p
def Core.setGroup (c : Core) (p : Nat) (g : Group) : Core := { c with groups := SMap.put c.groups p g }
def Core.dropGroup (c : Core) (p : Nat) : Core := { c with groups := SMap.drop c.groups p }
def Core.disp (c : Core) (d : Nat) : Option Dispatch := c.disps.find? (fun e => e.id = d)
def Core.setDisp (c : Core) (d : Dispatch) : Core :=
  { c with disps := c.disps.map (fun e => if e.id = d.id then d else e) }

/-- The VF whose range holds context x, 0 where none does (R271). -/
def State.rangeVf (s : State) (x : Nat) : Nat :=
  ((List.range 64).find? (fun v => 0 < v &&
    s.rd HOSTIF.VF_CTX_BASE 0 v ≤ x && x < s.rd HOSTIF.VF_CTX_BASE 0 v + s.rd HOSTIF.VF_CTX_COUNT 0 v)).getD 0

/-- Whether VF v exists (R101). -/
def State.vfExists (s : State) (v : Nat) : Bool := s.pci.vfEnable && 1 ≤ v && v ≤ s.pci.numVfs

/-- A context is owned. -/
def Ctx.owned (c : Ctx) : Bool := c.state != .unowned

/-- A context has a command between Q_DONE and Q_EXPECT. -/
def Ctx.busy (c : Ctx) : Bool := c.queues.any (fun q => q.2.done != q.2.expect)

/-- A context may start commands: IDLE or ACTIVE (Table 7-1). -/
def Ctx.runs (c : Ctx) : Bool := c.state = .owned

/-- CTX_STAT.STATE (Table 7-1). -/
def Ctx.stateCode (c : Ctx) : Nat :=
  match c.state with
  | .unowned => 0
  | .owned => if c.busy then 2 else 1
  | .frozen => 3
  | .recovering => 4
  | .lost => 5

/-- A context's number as its owner sees it: local for a VF (R368). -/
def State.localNumber (s : State) (x : Nat) : Nat :=
  let v := (s.ctx x).owner
  if v = 0 then x else x - s.rd HOSTIF.VF_CTX_BASE 0 v

/-- The owned contexts, in ascending order. -/
def State.ownedCtxs (s : State) : List Nat := (s.ctxs.filter (fun c => c.2.owned)).map (·.1)

/-! ### Local memory (Table 6-1) -/

/-- Where a local offset lies. -/
inductive Place where
  | hbm (stack off : Nat)
  | spad (core off : Nat)
  | unmapped
  deriving DecidableEq, Repr

def hbmSize : Nat := 0x8_0000_0000
def spadBase : Nat := 0x40_0000_0000
def sliceSize : Nat := 0x800_0000
def bankSize : Nat := 0x20_0000

/-- The memory a local offset selects (Table 6-1). -/
def localPlace (a : Nat) : Place :=
  if a < 4 * hbmSize then .hbm (a / hbmSize) (a % hbmSize)
  else if spadBase ≤ a && a < spadBase + 16 * sliceSize then
    .spad ((a - spadBase) / sliceSize) ((a - spadBase) % sliceSize)
  else .unmapped

/-- The base of core c's slice. -/
def sliceBase (c : Nat) : Nat := spadBase + c * sliceSize

/-- The lowest offset of the buddy reserve of stack k: contexts' extents lie below it (Table 6-2). -/
def State.buddyBase (s : State) (k : Nat) : Nat := 0x7_F400_0000 - s.rd HBM.HBM_CARVE_BUDDY_GIB k * 0x4000_0000

/-- Whether the n bytes from local offset a lie in one of context x's extents (R185, R198, R251). -/
def State.inExtent (s : State) (x a n : Nat) : Bool :=
  let c := (s.ctx x).cfg
  match localPlace a with
  | .hbm k o => k = c.home && c.hbmBase * 0x400_0000 ≤ o && o + n ≤ (c.hbmBase + c.hbmLen) * 0x400_0000
  | .spad k o => bit c.affinity k && c.spadFirst * bankSize ≤ o && o + n ≤ (c.spadFirst + c.spadNb) * bankSize
  | .unmapped => false

/-- The n bytes from local offset a touch the image region of context x while it is FROZEN (R468, R469). -/
def State.imageHit (s : State) (x a n : Nat) : Bool :=
  let c := (s.ctx x).cfg
  let lo := c.hbmBase * 0x400_0000 + c.imgOff * 0x10_0000
  (s.ctx x).state = .frozen &&
  match localPlace a with
  | .hbm k o => k = c.home && o < lo + c.imgMib * 0x10_0000 && lo < o + n
  | _ => false

/-- The owned context whose extents hold a local offset (R368). -/
def State.ctxAt (s : State) (a : Nat) : Option Nat := s.ownedCtxs.find? (fun x => s.inExtent x a 1)

/-- The byte at a local offset. -/
def State.byte (s : State) (a : Nat) : Byte := Memory.read s.mem a
/-- The bytes from a local offset up. -/
def State.bytes (s : State) (a n : Nat) : List Byte := Memory.readBytes s.mem a n
/-- The little-endian value of n bytes at a local offset. -/
def State.load (s : State) (a n : Nat) : Nat := ofLE (s.bytes a n)
/-- The state with bytes written at a local offset. -/
def State.store (s : State) (a : Nat) (bs : List Byte) : State := { s with mem := Memory.writeBytes s.mem a bs }
/-- The bytes of host memory from a bus address up. -/
def State.hostBytes (s : State) (a n : Nat) : List Byte := Memory.readBytes s.host a n
/-- HOSTIF moves n bytes over the link (Table 14-2). -/
def State.hostMoved (s : State) (n : Nat) : State :=
  s.wr HDR.BLK_PROG (s.rd HDR.BLK_PROG pgHOSTIF + (n + 63) / 64) pgHOSTIF
/-- A DMA write to host memory as the requester `func`. Relaxed Ordering is set on bulk data alone, where the function enables it, and
No Snoop never (R96). -/
def State.hostStore (s : State) (func : Nat) (bulk : Bool) (a : Nat) (bs : List Byte) : State :=
  ({ s with host := Memory.writeBytes s.host a bs }.hostMoved bs.length).emit
    (.dmaWrite func a bs.length s.maxPayload false (bulk && s.relaxedOn func))
/-- Firn moves n bytes (Table 14-2). -/
def State.firnMoved (s : State) (n : Nat) : State :=
  s.wr HDR.BLK_PROG (s.rd HDR.BLK_PROG pgFIRN + (n + 63) / 64) pgFIRN
/-- The local offset of an address of TRAY's staging window: the first 16 MiB of the CHANTER carve-out of stack 0 (R566). -/
def stagingAt (a : Nat) : Nat := 0x7_FC00_0000 + (a - 0x100_0000)
/-- An address range lies in the staging window. -/
def inStaging (a n : Nat) : Bool := 0x100_0000 ≤ a && a + n ≤ 0x200_0000
/-- Zeroes with valid codes over a range (R227, R238). -/
def State.zero (s : State) (lo hi : Nat) : State :=
  { s with mem := Memory.clear s.mem lo hi
           marksC := s.marksC.filter (fun a => a < lo || hi ≤ a)
           marksU := s.marksU.filter (fun a => a < lo || hi ≤ a) }

/-! ### Token kinds (Tables 11-3 to 11-10) -/

/-- How a kind is copied to a tenant (R368). -/
inductive Copy where
  | none | byCtx | byAddr
  deriving DecidableEq, Repr

/-- Classes (Table 11-2). -/
def cINFO : Nat := 0
def cCORRECTED : Nat := 1
def cDEFERRED : Nat := 2
def cCONTEXT : Nat := 3
def cENGINE : Nat := 4
def cPARTITION : Nat := 5
def cCHIP : Nat := 6
def cPOWERCYCLE : Nat := 7

def kPATH_PARITY : Nat := 0x01
def kPATH_PARITY_UE : Nat := 0x02
def kPROGRESS_STALL : Nat := 0x03
def kCORE_MAP : Nat := 0x04
def kSVC_LEVEL : Nat := 0x05
def kRST_KEY : Nat := 0x06
def kPROFILE_DENIED : Nat := 0x07
def kTCXO_LOST : Nat := 0x08
def kWATCHDOG : Nat := 0x09
def kCHANTER_PARITY : Nat := 0x0A
def kLIFECYCLE : Nat := 0x0B
def kDEBUG_LEVEL : Nat := 0x0C
def kDRONE_WAKE : Nat := 0x0D
def kTHERMTRIP : Nat := 0x0E
def kEARLY_WRITE : Nat := 0x24
def kUNMAPPED : Nat := 0x25
def kTENANT_RANGE : Nat := 0x26
def kAUTH_DENIED : Nat := 0x27
def kFOREIGN_DB : Nat := 0x28
def kBAD_ACCESS : Nat := 0x29
def kCFG_DENIED : Nat := 0x2A
def kDB_STALE : Nat := 0x2B
def kDB_DISABLED : Nat := 0x2C
def kDB_OVERRUN : Nat := 0x2D
def kLINK_CORR : Nat := 0x2E
def kHOST_POISON : Nat := 0x2F
def kCPL_TIMEOUT : Nat := 0x30
def kTLP_BAD : Nat := 0x31
def kLINK_DOWN : Nat := 0x32
def kCTX_LOST : Nat := 0x33
def kVOLT_ALARM : Nat := 0x34
def kCHECKSUM_COLSUM : Nat := 0x44
def kCHECKSUM_ROWSUM : Nat := 0x45
def kCHECKSUM_CORNER : Nat := 0x46
def kCKSUM_DISABLED : Nat := 0x47
def kDESC_INVALID : Nat := 0x48
def kRANGE : Nat := 0x49
def kEXU_INVALID : Nat := 0x4A
def kEXU_OVERFLOW : Nat := 0x4B
def kGSYNC_MISMATCH : Nat := 0x4C
def kILLEGAL_OP : Nat := 0x4D
def kADDR_FAULT : Nat := 0x4E
def kMISALIGNED : Nat := 0x4F
def kFEED_RANGE : Nat := 0x50
def kV_DENIED : Nat := 0x51
def kKDESC_INVALID : Nat := 0x52
def kFETCH_FAULT : Nat := 0x53
def kSPAD_CE : Nat := 0x64
def kSPAD_CE_REPEAT : Nat := 0x65
def kSPAD_UE : Nat := 0x66
def kBANK_FENCED : Nat := 0x67
def kBANK_LOST : Nat := 0x68
def kHBM_CE : Nat := 0x69
def kHBM_CE_REPEAT : Nat := 0x6A
def kHBM_ODECC_RATE : Nat := 0x6B
def kHBM_UE : Nat := 0x6C
def kUE_ZEROED : Nat := 0x6D
def kBUDDY_SHRUNK : Nat := 0x6E
def kHBM_TRAIN_FAIL : Nat := 0x6F
def kNEG_FAIL : Nat := 0x84
def kLOOPBACK : Nat := 0x85
def kPARTNER_FOREIGN : Nat := 0x86
def kLINK_RESUMED : Nat := 0x87
def kPARTNER_NEW : Nat := 0x88
def kLINK_HOLD : Nat := 0x89
def kLINK_LOST : Nat := 0x8A
def kREPLAY : Nat := 0x8B
def kLANE_FENCED : Nat := 0x8C
def kWIDTH_DEGRADED : Nat := 0x8D
def kFLIT_BAD : Nat := 0x8E
def kHOP_LIMIT : Nat := 0x8F
def kREMOTE_DENIED : Nat := 0x90
def kPEER_LOST : Nat := 0x91
def kCOLL_ABORT : Nat := 0x92
def kBARRIER_LATE : Nat := 0x93
def kBARRIER_TIMEOUT : Nat := 0x94
def kADMIT_FAIL : Nat := 0xA4
def kTEST_FAIL : Nat := 0xA5
def kESTIMATE_STALE : Nat := 0xA6
def kSHADOW_MISMATCH : Nat := 0xA7
def kDELAY_PARITY : Nat := 0xA8
def kCANARY_MISSED : Nat := 0xA9
def kSCREEN_DEGRADED : Nat := 0xAA
def kUNIT_FENCED : Nat := 0xAB
def kSPARE_MAPPED : Nat := 0xAC
def kSLICE_ABORTED : Nat := 0xAD
def kPACK_REJECTED : Nat := 0xAE
def kTHERM_WARN : Nat := 0xC4
def kTHERM_THROTTLE : Nat := 0xC5
def kTHERM_RATE : Nat := 0xC6
def kSENSOR_FAIL : Nat := 0xC7
def kAVS_FAULT : Nat := 0xC8
def kCAL_DEFAULTED : Nat := 0xC9
def kCAL_WRITTEN : Nat := 0xCA
def kSHARD_DIGEST : Nat := 0xCB
def kMANIFEST_DIGEST : Nat := 0xCC
def kBUDDY_LOST : Nat := 0xCD
def kCKPT_FAIL : Nat := 0xCE
def kOVF : Nat := 0xE4
def kRATE_LIMITED : Nat := 0xE5

/-- The default class of a kind raised from a page (R353, R357). RANGE and a BAR0 HOST_POISON bring theirs. -/
def defaultClass (kind src : Nat) : Nat :=
  if kind = kPROGRESS_STALL then
    if 0x100 ≤ src && src < 0x200 then cENGINE
    else if (quadOfPage src).isSome then cPARTITION else cCHIP
  else if [kPATH_PARITY_UE, kWATCHDOG, kCHANTER_PARITY, kLINK_DOWN, kSPAD_UE, kHBM_UE].contains kind then cCHIP
  else if kind = kTHERMTRIP then cPOWERCYCLE
  else if kind = kVOLT_ALARM then cPARTITION
  else if [kHOST_POISON, kCPL_TIMEOUT, kBANK_LOST].contains kind then cCONTEXT
  else if [kTCXO_LOST, kLINK_CORR, kSPAD_CE, kHBM_CE, kREPLAY].contains kind then cCORRECTED
  else if [kPATH_PARITY, kCHECKSUM_COLSUM, kCHECKSUM_ROWSUM, kCHECKSUM_CORNER, kSPAD_CE_REPEAT, kBANK_FENCED,
      kHBM_CE_REPEAT, kHBM_ODECC_RATE, kLANE_FENCED, kADMIT_FAIL, kTEST_FAIL, kSHADOW_MISMATCH, kDELAY_PARITY,
      kCANARY_MISSED, kSENSOR_FAIL, kSHARD_DIGEST].contains kind then cDEFERRED
  else cINFO

/-- The Copy column of the kind tables. -/
def copyRule (t : Tok) : Copy :=
  if [kDB_STALE, kDB_DISABLED, kDB_OVERRUN, kCPL_TIMEOUT, kCHECKSUM_COLSUM, kCHECKSUM_ROWSUM, kCHECKSUM_CORNER,
      kDESC_INVALID, kRANGE, kEXU_INVALID, kEXU_OVERFLOW, kGSYNC_MISMATCH, kILLEGAL_OP, kADDR_FAULT, kMISALIGNED,
      kFEED_RANGE, kV_DENIED, kKDESC_INVALID, kFETCH_FAULT, kBANK_LOST, kPEER_LOST, kCOLL_ABORT, kBARRIER_LATE,
      kBARRIER_TIMEOUT, kCKPT_FAIL].contains t.kind then .byCtx
  else if t.kind = kHOST_POISON then if t.detail = 1 then .byCtx else .none
  else if [kSPAD_CE, kSPAD_CE_REPEAT, kSPAD_UE, kHBM_CE, kHBM_CE_REPEAT, kHBM_UE, kUE_ZEROED].contains t.kind then .byAddr
  else .none

/-- A token's kind bears a context (R351). -/
def Tok.bears (t : Tok) : Bool := copyRule t = .byCtx || t.kind = kCTX_LOST

/-- The kinds a page raises (Pages columns of Tables 11-3 to 11-10). -/
def pageRaises (page kind : Nat) : Bool :=
  let inCore := 0x100 ≤ page && page < 0x200
  let j := (page - 0x100) % 16
  let com := kind = 1 || kind = 2
  if page = pgCHIP then com || kind = 4 || kind = 5 || kind = 6
  else if page = pgCLKRST then com || kind = 6 || kind = 7 || kind = 8
  else if page = pgCHANTER then com || kind = 9 || kind = 0xA
  else if page = pgSEC then com || kind = 0xB || kind = 0xC
  else if page = pgDRONE then com || kind = 0xD || kind = 0xE
  else if page = pgHOSTIF then com || kind = 3 || (0x24 ≤ kind && kind ≤ 0x32)
  else if page = pgQENG then com || kind = 3 || kind = kCTX_LOST
  else if 0x010 ≤ page && page < 0x014 then com || kind = 3 || kind = kCFG_DENIED || kind = kVOLT_ALARM
  else if inCore && j = 0 then com || kind = 3 || (0x4C ≤ kind && kind ≤ 0x52)
  else if inCore && j = 1 then com || kind = 3 || (0x44 ≤ kind && kind ≤ 0x49)
  else if inCore && j = 2 then com || kind = 3 || (0x48 ≤ kind && kind ≤ 0x4B)
  else if inCore && j = 3 then com
  else if inCore && j = 4 then com || kind = 3 || (0x64 ≤ kind && kind ≤ 0x68)
  else if inCore && j = 5 then com || kind = 3 || kind = kFETCH_FAULT
  else if inCore && j = 6 then com || kind = kSHADOW_MISMATCH
  else if inCore && j = 7 then com || kind = kADMIT_FAIL || kind = kTEST_FAIL || kind = kESTIMATE_STALE
  else if 0x200 ≤ page && page < 0x240 && page % 16 = 0 then com || kind = 3 || (0x69 ≤ kind && kind ≤ 0x6F)
  else if 0x200 ≤ page && page < 0x240 && page % 16 = 1 then com
  else if 0x300 ≤ page && page < 0x310 then com || (0x84 ≤ kind && kind ≤ 0x8D)
  else if page = pgFABRIC then com || (0x8E ≤ kind && kind ≤ 0x92)
  else if page = pgBARRIER then com || kind = 0x93 || kind = 0x94
  else if page = pgSERAC then com || (0xA8 ≤ kind && kind ≤ 0xAE)
  else if page = pgTHERM then com || (0xC4 ≤ kind && kind ≤ 0xC7)
  else if page = pgAVS then com || kind = kAVS_FAULT
  else if page = pgCAL then com || kind = kCAL_DEFAULTED || kind = kCAL_WRITTEN
  else if page = pgFIRN then com || kind = 3 || (0xCB ≤ kind && kind ≤ 0xCE)
  else if page = pgMORAINE then com || kind = 3 || kind = kOVF
  else if page = pgFLT then com || kind = kRATE_LIMITED
  else false

/-- The range base of a page's block-specific kinds (R352). -/
def pageRange (page : Nat) : Nat :=
  let j := (page - 0x100) % 16
  if page ≤ pgDRONE || page = pgSEC || page = pgCLKRST then 0x00
  else if page = pgHOSTIF || page = pgQENG || (0x010 ≤ page && page < 0x014) then 0x20
  else if 0x100 ≤ page && page < 0x200 then
    if j = 4 then 0x60 else if j = 6 || j = 7 then 0xA0 else 0x40
  else if 0x200 ≤ page && page < 0x240 then 0x60
  else if 0x300 ≤ page && page < 0x330 then 0x80
  else if page = pgSERAC then 0xA0
  else if page = pgMORAINE || page = pgFLT then 0xE0
  else 0xC0

/-- The kind that bit k of a page's BLK_ERR, BLK_ERRMASK and BLK_ERRINJ stands for (R352, R370). -/
def kindAt (page k : Nat) : Option Nat :=
  let kind := if 1 ≤ k && k ≤ 3 then k else pageRange page + k
  if (k ≤ 3 || 4 ≤ k) && k != 0 && pageRaises page kind then some kind else none

/-! ### Raising tokens -/

/-- The hottest, in units of 0.125 °C, among the readings that are valid; 0x8000 where none is (R366). -/
def hottest (codes : List Nat) : Nat :=
  codes.foldl (fun m c => if c = 0x8000 then m else if m = 0x8000 then c
    else if toInt 16 m < toInt 16 c then c else m) 0x8000

/-- The sensors whose readings stamp a token of a source (R366, Table 17-1). -/
def sensorsOf (src : Nat) : List Nat :=
  match coreOfPage src, quadOfPage src with
  | some c, _ => (List.range 4).map (fun k => 4 * c + k)
  | none, some q =>
    if src < 0x100 then (List.range 16).map (fun k => 16 * q + k) else [64 + q]
  | none, none => if 0x300 ≤ src && src < 0x310 then [68, 69, 70, 71] else List.range 72

/-- The TEMP stamp of a source. -/
def State.tempStamp (s : State) (src : Nat) : Nat :=
  hottest ((sensorsOf src).map (fun i => s.rd THERM.TEMP_CODE 0 i))

/-- The VOLT stamp of a source: its quadrant's monitor, or the fabric rail's (R366). -/
def State.voltStamp (s : State) (src : Nat) : Nat :=
  let m := (quadOfPage src).getD 4
  if s.on AVS.VMON_VALID 0 m then s.rd AVS.VMON_CODE 0 m else 0x8000

/-- A token with its stamps at this moment. -/
def State.stamped (s : State) (t : Tok) : MorEntry :=
  ⟨t, s.ftime, s.tempStamp t.src, s.voltStamp t.src⟩

/-- Set the sticky bit of a source (R361). -/
def State.stick (s : State) (src : Nat) : State :=
  s.wr FLT.STICKY (setBit (s.rd FLT.STICKY 0 (src / 32)) (src % 32)) 0 (src / 32)

/-- Count a dropped token, keeping the stamps of the first (R363). -/
def State.dropTok (s : State) (e : MorEntry) : State :=
  let o := s.mor.ovf.getD ⟨0, 0, e.time, e.temp, e.volt⟩
  { s with mor := { s.mor with ovf := some { o with
      count := o.count + 1
      heavy := if cCONTEXT ≤ e.tok.cls then satInc 0xFFFF o.heavy else o.heavy } } }

/-- The kinds the Drone domain raises while FLT is out of service (R362). -/
def droneKind (k : Nat) : Bool := k = kTHERMTRIP || k = kDRONE_WAKE || k = kTCXO_LOST

/-- Some page has an unmasked error pending: HOSTIF.ERR_SUM is not 0 (R117). -/
def State.errAny (s : State) : Bool :=
  s.regs.any (fun e => decide (e.1 % 0x8000 = 0xC0) &&
    Nat.land e.2 (2 ^ 32 - 1 - s.rd HDR.BLK_ERRMASK (e.1 / 0x8000)) != 0)

/-- PF0 vector 2 goes out when ERR_SUM has left 0 (Table 8-2). -/
def State.errVector (s : State) (before : Bool) : State := if !before && s.errAny then s.sendVector 0 2 else s

/-- A page raises a token: BLK_ERR takes its bit and the token goes to FLT (R116). While FLT is out of service
only the Drone domain's tokens are raised, with their sticky bits set by it and the first sixteen kept (R362). -/
def State.raiseTok (s : State) (t : Tok) : State :=
  let mark := fun (s : State) =>
    (s.wr HDR.BLK_ERR (setBit (s.rd HDR.BLK_ERR t.src) (t.kind % 32)) t.src).errVector s.errAny
  if s.boot.fltUp then { mark s with fltIn := s.fltIn ++ [{ t with since := s.ftime }] }
  else if droneKind t.kind then
    let s := (mark s).stick t.src
    if s.droneToks.length < 16 then { s with droneToks := s.droneToks ++ [s.stamped t] }
    else s.dropTok (s.stamped t)
  else s

/-- Raise a kind from a page, with its default class. -/
def State.raise (s : State) (src kind : Nat) (addr : Nat := 0) (detail : Nat := 0) : State :=
  s.raiseTok { src := src, kind := kind, cls := defaultClass kind src, addr := addr % 2 ^ 48, detail := detail % 2 ^ 16 }

/-- Raise a kind that bears a context, in its current generation. -/
def State.raiseCtx (s : State) (src kind x : Nat) (addr : Nat := 0) (detail : Nat := 0) : State :=
  s.raiseTok { src := src, kind := kind, cls := defaultClass kind src, ctx := x, gen := (s.ctx x).gen,
               addr := addr % 2 ^ 48, detail := detail % 2 ^ 16 }

/-- Raise a kind now, or when FLT enters service, where the rule of the kind says so (R66, R71, R72, R243, R558). -/
def State.raiseLater (s : State) (src kind : Nat) (addr : Nat := 0) (detail : Nat := 0) : State :=
  if s.boot.fltUp then s.raise src kind addr detail
  else { s with boot := { s.boot with deferred := s.boot.deferred ++
    [{ src := src, kind := kind, cls := defaultClass kind src, addr := addr % 2 ^ 48, detail := detail % 2 ^ 16 }] } }

/-! ### Core map and service level (R19–R21, R28–R33) -/

/-- Whether core c meets R19: admitted, not fenced, its stack in service, at least 48 banks in service. -/
def State.meetsLive (s : State) (c : Nat) : Bool :=
  s.fused c && bit s.boot.admitted c && !s.coreFenced c && s.on HBM.HBM_STAT_IN_SERVICE (c / 4) &&
  48 ≤ 64 - popcount (s.rd SPAD.SPAD_FENCED_BANKS c) 64

/-- The live map R19 gives, before ADMIT nothing (R35). -/
def State.liveNow (s : State) : Nat :=
  if s.stage < 5 then 0
  else (List.range 16).foldl (fun m c => if s.meetsLive c then setBit m c else m) 0

/-- The quadrants that meet the level C set (R31). -/
def State.cquadNow (s : State) : Nat :=
  (List.range 4).foldl (fun m q =>
    if (List.range 4).any (fun j => s.live (4 * q + j)) && s.on HBM.HBM_STAT_IN_SERVICE q then setBit m q else m) 0

/-- A powered quadrant has a working sensor: one not fenced (R37). -/
def State.thermWorks (s : State) : Bool :=
  s.boot.thermUp && (List.range 4).all (fun q => (List.range 16).any (fun k =>
    !bit (s.rd THERM.SFENCE_S0_63) (16 * q + k)))

/-- The level of R28, before SERVICE 0x1 (R29). -/
def State.levelNow (s : State) : Nat :=
  if !s.inService then 1
  else if !(s.boot.fltUp && s.thermWorks && s.boot.avsUp && s.boot.calOk) then 1
  else if s.cquadNow = 0 || !s.boot.qengUp then 2
  else if s.rd CHIP.SVC_LEVEL_NL_UP = 0 then 3 else 4

/-- P-MAX is allowed: only a CZ-16 part has the fuse that says so (R36). -/
def State.pmaxOk (s : State) : Bool := s.rd CHIP.CORE_MAP_GRADE = 0x10 && s.on CHIP.CORE_MAP_PMAX_OK

/-! ### Ports and routability (R32, R308) -/

def State.port (s : State) (p : Nat) : NlPort := SMap.get s.nl p {}
def State.modPort (s : State) (p : Nat) (f : NlPort → NlPort) : State := { s with nl := SMap.put s.nl p (f (s.port p)) }
def nlOFF : Nat := 0
def nlDETECT : Nat := 1
def nlNEGOTIATE : Nat := 2
def nlTRAIN : Nat := 3
def nlIDENTIFY : Nat := 4
def nlUP : Nat := 5
def nlRETRAIN : Nat := 6
def nlHOLD : Nat := 7
def nlFOREIGN : Nat := 8
def nlLOOPBACK : Nat := 9
def nlFAILED : Nat := 0xA
def State.nlState (s : State) (p : Nat) : Nat := s.rd NL.NL_STAT_STATE p

/-- A port is UP or RETRAIN. -/
def State.nlUp (s : State) (p : Nat) : Bool := s.nlState p = nlUP || s.nlState p = nlRETRAIN

/-- A control flit becomes due on a port. -/
def State.sendCtrl (s : State) (p type : Nat) (payload : List Byte) : State :=
  s.modPort p (fun n => { n with ctrl := n.ctrl ++ [(type, payload)] })

/-- The flit type of control records (Table 9-2). -/
def tCTRL : Nat := 2

/-- The part is routable: level F (R32, R308). -/
def State.routable (s : State) : Bool := s.rd CHIP.SVC_LEVEL_LEVEL = 4

/-- A change of routability is told to the partner of every port that is up (R308). -/
def State.tellRoutable (s : State) (before : Bool) : State :=
  if s.routable = before then s
  else s.each ((List.range 16).filter s.nlUp) (fun s p => s.sendCtrl p tCTRL [0x05#8, BitVec.ofNat 8 (b2n s.routable)])

/-- Bring CHIP.SVC_LEVEL up to date; a change of LEVEL or CQUAD raises SVC_LEVEL and sends PF0 vector 3 (R33, Table 8-2), and a change
of routability is told to the partners (R308). -/
def State.setLevel (s : State) : State :=
  let cq := s.cquadNow
  let lv := s.levelNow
  let changed := s.boot.fltUp && (lv != s.rd CHIP.SVC_LEVEL_LEVEL || cq != s.rd CHIP.SVC_LEVEL_CQUAD)
  let s := s.wr CHIP.SVC_LEVEL_LACK_LINK (b2n (s.rd CHIP.SVC_LEVEL_NL_UP = 0))
  let s := s.wr CHIP.SVC_LEVEL_LACK_CORE (b2n (cq = 0))
  let s := s.wr CHIP.SVC_LEVEL_LACK_QENG (b2n (!s.boot.qengUp))
  let s := s.wr CHIP.SVC_LEVEL_LACK_CAL (b2n (!s.boot.calOk))
  let s := s.wr CHIP.SVC_LEVEL_LACK_AVS (b2n (!s.boot.avsUp))
  let s := s.wr CHIP.SVC_LEVEL_LACK_THERM (b2n (!s.thermWorks))
  let s := s.wr CHIP.SVC_LEVEL_LACK_MORAINE (b2n (!s.boot.fltUp))
  let s := s.wr CHIP.SVC_LEVEL_LACK_FLT (b2n (!s.boot.fltUp))
  let was := s.routable
  let s := ((s.wr CHIP.SVC_LEVEL_CQUAD cq).wr CHIP.SVC_LEVEL_LEVEL lv).tellRoutable was
  if changed then (s.raise pgCHIP kSVC_LEVEL 0 (cq * 16 + lv)).sendVector 0 3 else s

end Sys2Proof.Machine
end

