-- ==== Sys2Proof/Machine/Flags.lean ====
section
/-! DEFINITION. The part has no flags register. What stands in its place are the comparisons that instructions
turn into 0 or 1 (ICMP, FCMP), the votes, and the rounding decision of stochastic rounding (R153). -/
namespace Sys2Proof.Machine

/-- ICMP (Table 5-4): the predicates 0x0 EQ, 0x1 NE, 0x2 LT, 0x3 LE, 0x4 LTU, 0x5 LEU; none for 0x6 and 0x7. -/
def icmp (sel : Nat) (a b : Word) : Option Bool :=
  match sel with
  | 0 => some (a = b)
  | 1 => some (a != b)
  | 2 => some (a.toInt < b.toInt)
  | 3 => some (a.toInt ≤ b.toInt)
  | 4 => some (a.toNat < b.toNat)
  | 5 => some (a.toNat ≤ b.toNat)
  | _ => none

/-- The word of a truth value. -/
def flagWord (b : Bool) : Word := if b then 1#32 else 0#32

/-- VOTE over the participating lanes (R183): ANY, ALL, and the BALLOT mask. -/
def voteAny (vals : List (Nat × Word)) : Bool := vals.any (fun v => v.2 != 0#32)
def voteAll (vals : List (Nat × Word)) : Bool := vals.all (fun v => v.2 != 0#32)
def voteBallot (vals : List (Nat × Word)) : Nat :=
  vals.foldl (fun m v => if v.2 != 0#32 then setBit m v.1 else m) 0

/-- The mixing word of stochastic rounding (R153). -/
def srWord (seed step tile row col : Nat) : Nat :=
  let m := 2 ^ 32
  let x := Nat.xor (Nat.xor (Nat.xor (seed % m) (step * 0x9e3779b9 % m)) (tile * 0x85ebca6b % m))
    (Nat.lor (row * 512) col)
  let x := Nat.xor x (x / 2 ^ 16)
  let x := x * 0x7feb352d % m
  let x := Nat.xor x (x / 2 ^ 15)
  let x := x * 0x846ca68b % m
  Nat.xor x (x / 2 ^ 16)

/-- Whether stochastic rounding rounds up, dropping `d` of `k` bits (R153). -/
def srUp (x d k : Nat) : Bool :=
  if k = 0 then false
  else if k ≤ 32 then x / 2 ^ (32 - k) < d
  else x < d / 2 ^ (k - 32) + b2n (d % 2 ^ (k - 32) != 0)

end Sys2Proof.Machine
end

