-- ==== Sys2Proof/Machine/Access.lean ====
section
/-! DEFINITION. Accesses to the register space: which page and fields an access covers, which access the
part answers, drops or refuses (Table 3-3, R562, R563), and the generic read and write of fields (R10, R11). -/
namespace Sys2Proof.Machine

/-- The rows of the block-specific registers of a page, with the page's instance; none where Table 3-1 leaves
the offset unmapped. Reserved pages and pages without registers of their own have no rows. -/
def pageRows (p : Nat) : Option (List Row × Nat) :=
  if p = pgCHIP then some (rowsCHIP, 0)
  else if p = pgCHANTER then some (rowsCHANTER, 0)
  else if p = pgDRONE then some (rowsDRONE, 0)
  else if p = pgTHERM then some (rowsTHERM, 0)
  else if p = pgCAL then some (rowsCAL, 0)
  else if p = pgFLT then some (rowsFLT, 0)
  else if p = pgMORAINE then some (rowsMORAINE, 0)
  else if p = pgSERAC then some (rowsSERAC, 0)
  else if p = pgFIRN then some (rowsFIRN, 0)
  else if p = pgSEC then some (rowsSEC, 0)
  else if p = pgCLKRST then some (rowsCLKRST, 0)
  else if p = pgAVS then some (rowsAVS, 0)
  else if p = pgQENG then some (rowsQENG, 0)
  else if p = pgHOSTIF then some (rowsHOSTIF, 0)
  else if 0x010 ≤ p && p < 0x014 then some (rowsQUAD, p - 0x010)
  else if 0x100 ≤ p && p < 0x200 then
    let c := (p - 0x100) / 16
    some ((match (p - 0x100) % 16 with
      | 0 => rowsFE | 1 => rowsDSA | 2 => rowsEXU | 3 => rowsLOG | 4 => rowsSPAD
      | 6 => rowsSHADOW | 7 => rowsTEST | _ => []), c)
  else if 0x200 ≤ p && p < 0x240 then some (if p % 16 = 0 then rowsHBM else [], (p - 0x200) / 16)
  else if 0x300 ≤ p && p < 0x310 then some (rowsNL, p - 0x300)
  else if 0x310 ≤ p && p < 0x320 then some (if p = pgFABRIC then rowsFABRIC else [], 0)
  else if p = pgBARRIER then some (rowsBARRIER, 0)
  else none

/-- A reserved page: inside a CORE, HBM or FABRIC range, assigned to no block (R609). -/
def reservedPage (p : Nat) : Bool :=
  (0x100 ≤ p && p < 0x200 && 8 ≤ (p - 0x100) % 16) || (0x200 ≤ p && p < 0x240 && 2 ≤ p % 16) ||
  (0x311 ≤ p && p < 0x320)

/-- The block type code of a page (Table 3-7). -/
def pageType (p : Nat) : Nat :=
  if reservedPage p then 0x000
  else if p ≤ pgHOSTIF then
    [0x001, 0x002, 0x003, 0x004, 0x005, 0x006, 0x007, 0x008, 0x009, 0x00A, 0x00B, 0x00C, 0x00D, 0x00E].getD p 0
  else if p < 0x014 then 0x010
  else if 0x100 ≤ p && p < 0x200 then 0x020 + (p - 0x100) % 16
  else if 0x200 ≤ p && p < 0x240 then 0x030
  else if 0x300 ≤ p && p < 0x310 then 0x040
  else if p = pgFABRIC then 0x041 else 0x042

/-- The instance number of a page (R609). -/
def pageInstance (p : Nat) : Nat := ((pageRows p).map (·.2)).getD 0

/-- A page implements the progress check (Table 14-2). -/
def hasProg (p : Nat) : Bool :=
  (0x100 ≤ p && p < 0x200 && [0, 1, 2, 4, 5].contains ((p - 0x100) % 16)) || (0x010 ≤ p && p < 0x014) ||
  (0x200 ≤ p && p < 0x240 && p % 16 = 0) || [pgQENG, pgHOSTIF, pgMORAINE, pgFIRN].contains p

/-- A page can be fenced (Table 3-14). -/
def fenceable (p : Nat) : Bool := (0x100 ≤ p && p < 0x200 && (p - 0x100) % 16 < 8) || p = pgSERAC

/-- One covered field of an access: its row, page instance, index, and its bit within the page. -/
structure Covered where
  row : Row
  k : Nat
  i : Nat
  bit : Nat
  deriving DecidableEq, Repr

/-- The fields of a page that the `len` bytes at offset `o` of page `p` cover. -/
def coveredBy (rows : List Row) (k o len : Nat) : List Covered :=
  rows.flatMap (fun r => (List.range r.count).filterMap (fun i =>
    let b := (r.off + r.stride * i) * 8 + r.lo
    if b < (o + len) * 8 && o * 8 < b + r.width then some ⟨r, k, i, b⟩ else none))

/-- The fields an access to a page covers, header and block. -/
def covered (p o len : Nat) : List Covered :=
  if reservedPage p then []
  else coveredBy rowsHDR p o len ++ ((pageRows p).map (fun rk => coveredBy rk.1 rk.2 o len)).getD []

/-- The debug level (SEC_STAT.DEBUG): 0 SEALED, 1 OBSERVE, 2 INVASIVE. -/
def State.debugLevel (s : State) : Nat := s.rd SEC.SEC_STAT_DEBUG

/-- An authority may read a field (R89, R562, R563). -/
def State.mayRead (s : State) (a : Authority) (r : Row) : Bool :=
  match a with
  | .debug => r.rd.contains .debug && 1 ≤ s.debugLevel
  | .tenant _ => false
  | .peer => false
  | _ => r.rd.contains a

/-- A field takes writes from software. -/
def Row.writable (r : Row) : Bool := r.acc != .ro && r.acc != .ros && r.acc != .rc

/-- An authority may write a field (R562, R563): DEBUG only at INVASIVE, but DBG_REQ from OBSERVE up. -/
def State.mayWrite (s : State) (a : Authority) (r : Row) : Bool :=
  match a with
  | .debug => r.wr.contains .debug && (s.debugLevel = 2 || (r = SEC.DBG_REQ_LEVEL && 1 ≤ s.debugLevel))
  | .tenant _ => false
  | .peer => false
  | _ => r.wr.contains a

/-- What an access to the register space meets (Table 3-3, in its order). -/
inductive Gate where
  | ok | early | silent | shape | unmapped | denied | unfused | resetting | reserved
  deriving DecidableEq, Repr

/-- The offsets that answer before SERVICE (R64). -/
def earlyAnswers (off : Nat) : Bool :=
  off / 4096 = pgCHIP || off / 4096 = pgCHANTER || off / 4 = 0x9040 / 4 || off / 4 = 0xA140 / 4

/-- The mailbox registers of packs and firmware: dropped as early writes before SERVICE (R437, R587). -/
def lateMailbox (off : Nat) : Bool := off / 4096 = pgCHANTER && 0x100 ≤ off % 4096

/-- Blocks that DOZE leaves powered (Table 17-3; log 20). -/
def pagePoweredInDoze (p : Nat) : Bool :=
  [pgCHIP, pgCHANTER, pgDRONE, pgTHERM, pgCAL, pgFLT, pgMORAINE, pgSEC, pgCLKRST, pgAVS, pgQENG, pgHOSTIF].contains p

/-- The lifecycle state (SEC_STAT.LC): 0 MANUF, 1 FIELD, 2 RETURN, 3 SCRAP. -/
def State.lc (s : State) : Nat := s.rd SEC.SEC_STAT_LC

/-- The part answers an access to a register offset at all (R64, R65, R561, R569, R582). -/
def State.answers (s : State) (a : Authority) (off : Nat) (write : Bool) : Bool :=
  let p := off / 4096
  let st := s.rd DRONE.PWR_STAT_STATE
  if a = .self_ then s.mainRuns
  else if st = 3 || s.pins.thermtrip then p = pgDRONE && a = .tray
  else if !s.boot.mainUp || s.stage < 1 then false
  else if !s.inService then
    earlyAnswers off && !(write && (p = pgSEC || p = pgCLKRST || lateMailbox off))
  else if s.lc = 3 then p = pgCHIP || p = pgCHANTER || p = pgSEC
  else !(a = .debug && st = 2 && !pagePoweredInDoze p)

/-- 4 bytes aligned to 4, or 8 aligned to 8 (R81). -/
def goodShape (off len : Nat) : Bool := (len = 4 && off % 4 = 0) || (len = 8 && off % 8 = 0)

/-- Where an access to a register page comes out (R86). -/
def State.gate (s : State) (a : Authority) (off len : Nat) (write : Bool) : Gate :=
  let p := off / 4096
  let o := off % 4096
  if !s.answers a off write then (if !s.mainRuns || (s.inService && (s.rd DRONE.PWR_STAT_STATE != 0 || s.lc = 3)) then .silent else .early)
  else if write && (pageRows p).isSome && !goodShape off len then .shape
  else match pageRows p with
    | none => .unmapped
    | some _ =>
      let cov := covered p o len
      let rel := if write then cov.filter (fun c => c.row.writable)
        else cov.filter (fun c => c.row.acc != .wo)
      let fixedHdr := o < 0x30 && !write
      if rel != [] && !rel.any (fun c => if write then s.mayWrite a c.row else s.mayRead a c.row) then .denied
      else if fixedHdr && !s.mayRead a HDR.BLK_GEN then .denied
      else if ((coreOfPage p).map (fun c => !s.fused c)).getD false then (if o < 0x40 && !write then .ok else .unfused)
      else if 0x40 ≤ o && s.rd HDR.STAT_STATE p = stRESET then .resetting
      else if cov = [] && !fixedHdr then .reserved
      else .ok

/-- An access as ADDR encodes it (Table 11-4): the offset and the function or port. -/
def accessAddr (a : Authority) (off : Nat) : Nat :=
  off % 2 ^ 28 + (match a with | .tenant v => v | .tray => 0x7E | .debug => 0x7F | _ => 0) * 2 ^ 28

/-- Refuse an access: a token from HOSTIF, and the first bad access logged (Table 3-10). -/
def State.badAccess (s : State) (a : Authority) (kind off len : Nat) : State :=
  let s := s.raise pgHOSTIF kind (accessAddr a off) len
  if s.on HOSTIF.BAD_LOG_VALID then s
  else (((s.wr HOSTIF.BAD_LOG_VALID 1).wr HOSTIF.BAD_LOG_FUNC (accessAddr a off / 2 ^ 28)).wr
    HOSTIF.BAD_LOG_KIND kind).wr HOSTIF.BAD_LOG_OFFSET off

/-- A write dropped before SERVICE (R66). -/
def State.earlyWrite (s : State) (a : Authority) (off : Nat) : State :=
  if s.boot.fltUp then s.raise pgHOSTIF kEARLY_WRITE (accessAddr a off) 1
  else
    let s := if s.rd CHIP.BOOT_EARLY_WR = 0 then { s with boot := { s.boot with earlyFirst := accessAddr a off } } else s
    s.count CHIP.BOOT_EARLY_WR

/-- CFG_DENIED for a register write, from HOSTIF (or the page given). -/
def State.cfgDenied (s : State) (a : Authority) (off : Nat) (src : Nat := pgHOSTIF) (len : Nat := 4) : State :=
  s.raise src kCFG_DENIED (accessAddr a off) len

/-- A wake source acts in DOZE: the return to RUN begins, and WAKE_n asserts for the sources of R552. -/
def State.dozeWake (s : State) (code : Nat) : State :=
  if s.rd DRONE.PWR_STAT_STATE != 2 || s.pw.waking.isSome then s
  else
    let s := { s with pw := { s.pw with waking := some code }, pins := { s.pins with wake := s.pins.wake || [4, 5, 7, 8].contains code } }
    s.wr DRONE.PWR_STAT_LAST_WAKE code

/-- An access to the page of a gated block wakes the part from DOZE (R548, Table 17-5); it completes after RUN. -/
def State.pageWake (s : State) (a : Authority) (p : Nat) : State :=
  if a != .debug && !pagePoweredInDoze p then s.dozeWake 2 else s

/-- The outcome of a write that Table 3-3 takes out of the normal path, or the effect `f` where none does. -/
def State.gated (s : State) (a : Authority) (off len : Nat) (f : State → State) : State :=
  match s.gate a off len true with
  | .ok => f (s.pageWake a (off / 4096))
  | .early => s.earlyWrite a off
  | .shape => s.badAccess a kBAD_ACCESS off len
  | .unmapped => s.badAccess a kUNMAPPED off len
  | .denied => s.badAccess a kAUTH_DENIED off len
  | .silent | .unfused | .resetting | .reserved => s

/-- The new value of a field under a write of the bits that cover it (Table 0-3). -/
def newFieldValue (acc : Access) (locked : Bool) (old wv wmask : Nat) : Nat :=
  let put := old - Nat.land old wmask + Nat.land wv wmask
  match acc with
  | .rw | .wo => put
  | .rwl => if locked then old else put
  | .rw1c => old - Nat.land old (Nat.land wv wmask)
  | .rw1s => Nat.lor old (Nat.land wv wmask)
  | .ro | .ros | .rc => old

/-- Write the bits of an access into one covered field (R11, R562). -/
def State.writeField (s : State) (a : Authority) (p o len value : Nat) (c : Covered) : State :=
  if !s.mayWrite a c.row then s
  else
    let w := 8 * len
    let lo := o * 8
    let full := value % 2 ^ w * 2 ^ lo
    let mask := (2 ^ w - 1) * 2 ^ lo
    let wv := full / 2 ^ c.bit % 2 ^ c.row.width
    let wm := mask / 2 ^ c.bit % 2 ^ c.row.width
    s.wr c.row (newFieldValue c.row.acc (s.on HDR.CTL_LOCK p) (s.rd c.row c.k c.i) wv wm) c.k c.i

/-- Write every covered field that the authority may write: a register with no behaviour of its own (R86). -/
def State.writeFields (s : State) (a : Authority) (off len value : Nat) : State :=
  s.each (covered (off / 4096) (off % 4096) len) (fun t c => t.writeField a (off / 4096) (off % 4096) len value c)

/-- A field's new value under a write, seen before it takes effect. -/
def fieldOf (value o : Nat) (r : Row) (i : Nat := 0) : Nat :=
  value * 2 ^ (o * 8) / 2 ^ ((r.off + r.stride * i) * 8 + r.lo) % 2 ^ r.width

end Sys2Proof.Machine
end

