-- ==== Sys2Proof/Machine/Post.lean ====
section
/-! DEFINITION. The records a context posts: completion and event records on its rings, the interrupts they
raise, and the records that a reset posts (R256–R263, R281–R285). -/
namespace Sys2Proof.Machine

/-! ### Interrupts of a context -/

/-- Send the vector of context x and clear its pending count (R282). -/
def State.signalNow (s : State) (x : Nat) : State :=
  let c := s.ctx x
  (s.sendVector c.owner c.cfg.vector).setCtx x { c with pending := 0, firstPending := none }

/-- A record of context x has been posted: count it, or send the vector (R282, R283). -/
def State.signal (s : State) (x : Nat) (now : Bool) : State :=
  let c := s.ctx x
  if !c.cfg.intEn then s
  else if now || max 1 c.cfg.modCnt ≤ c.pending + 1 then s.signalNow x
  else s.setCtx x { c with pending := c.pending + 1, firstPending := some (c.firstPending.getD s.ftime) }

/-! ### Rings -/

/-- A ring has room for one more record (R258). -/
def Ring.room (r : Ring) : Bool := r.en && dist32 r.cidx r.pidx < 2 ^ r.log2

/-- The host address of the slot of the next record (R245). -/
def Ring.slot (r : Ring) : Nat := r.base + r.pidx % 2 ^ r.log2 * 32

/-- The ring after one record. -/
def Ring.advance (r : Ring) : Ring := { r with pidx := (r.pidx + 1) % 2 ^ 32 }

/-- PHASE of the next record: bit LOG2 of its ring index (R256). -/
def Ring.phase (r : Ring) : Nat := b2n (bit r.pidx r.log2)

/-- The 32 bytes of a record from its words of 32 bits and its two 64-bit tails. -/
def recordBytes (w0 w1 w2 w3 q2 q3 : Nat) : List Byte :=
  toLE w0 4 ++ toLE w1 4 ++ toLE w2 4 ++ toLE w3 4 ++ toLE q2 8 ++ toLE q3 8

/-- Hand a record of context x, which takes the next CSN, to the host link: it is written in the next slot of its ring. While the link is
down, or where the transfer to HOSTIF was discarded (R224), the write is not handed over; a reset then names its CSN in a GAP
(R263). -/
def State.handRecord (s : State) (x : Nat) (isCq : Bool) (bs : List Byte) : State :=
  let c := s.ctx x
  let r := if isCq then c.cq else c.eq
  let next := (c.csn + 1) % 2 ^ 32
  if !s.pci.linkUp || s.lostPaths.any (fun e => e.1 = pgHOSTIF && e.2.1 = pgQENG && r.slot ≤ e.2.2 && e.2.2 < r.slot + 32) then
    s.setCtx x { c with csn := next, unposted := c.unposted ++ [c.csn] }
  else (s.hostStore c.owner false r.slot bs).setCtx x
    (if isCq then { c with cq := r.advance, csn := next } else { c with eq := r.advance, csn := next })

/-- Post one record on the completion ring of x, taking the next CSN (Table 7-5). -/
def State.postCq (s : State) (x recKind gen status queue ssn count detail user time : Nat) : State :=
  let c := s.ctx x
  s.handRecord x true (recordBytes c.csn (recKind * 2 ^ 24 + gen * 2 ^ 16 + status * 2 ^ 8 + queue * 4 + c.cq.phase) ssn
    (count * 2 ^ 16 + detail) user time)

/-- Post one record on the event ring of x, taking the next CSN (Table 7-6). -/
def State.postEq (s : State) (x recKind gen w2 w3 q2 q3 : Nat) : State :=
  let c := s.ctx x
  s.handRecord x false (recordBytes c.csn (recKind * 2 ^ 24 + gen * 2 ^ 16 + c.eq.phase) w2 w3 q2 q3)

/-- Post an event of context x, or discard it where the ring is full: it consumes a CSN all the same (R259). A
ring that is disabled posts nothing and consumes none (log 21), nor does a context whose release is zeroing (R273). -/
def State.postEvent (s : State) (x recKind w2 w3 q2 q3 : Nat) (now : Bool) : State :=
  let c := s.ctx x
  if !c.eq.en || c.state = .lost || c.state = .unowned || c.zeroing then s
  else if c.eq.room && !c.evDrop then (s.postEq x recKind c.gen w2 w3 q2 q3).signal x now
  else s.setCtx x { c with evDrop := true, csn := (c.csn + 1) % 2 ^ 32
                           gapFirst := if c.evDrop then c.gapFirst else c.csn
                           gapCount := dist32 (if c.evDrop then c.gapFirst else c.csn) (c.csn + 1) }

/-- When space returns on the event ring, a GAP names the CSNs discarded and EV_DROP clears (R259). -/
def State.flushGap (s : State) (x : Nat) : State :=
  let c := s.ctx x
  if c.evDrop && c.eq.room && !c.zeroing then
    let s := (s.postEq x 0x11 c.gen c.gapFirst ((c.gapFirst + c.gapCount) % 2 ^ 32) 0 0).modCtx x
      (fun c => { c with evDrop := false, gapCount := 0 })
    s.signal x true
  else s

/-- GEN_CHANGE, with the old generation and the reset level (Table 7-6, 0x10). -/
def State.postGenChange (s : State) (x old level : Nat) : State :=
  s.postEvent x 0x10 (old + level * 256) 0 0 s.ftime true

/-- RECOVERED with the reset level (0x12). -/
def State.postRecovered (s : State) (x level : Nat) : State := s.postEvent x 0x12 level 0 0 s.ftime true

/-- A TOKEN event: the filtered token and the field time, unless MASK_TOK suppresses it (0x13, R368). -/
def State.postToken (s : State) (x word0 word1 : Nat) : State :=
  if (s.ctx x).maskTok then s
  else s.postEvent x 0x13 (word0 % 2 ^ 32) (word0 / 2 ^ 32) word1 s.ftime false

/-- The CORE_MAP event of contexts whose affinity holds a core that changed (0x14). -/
def State.postCoreMap (s : State) (changed : Nat) : State :=
  let live := s.rd CHIP.CORE_MAP_LIVE
  let w := live + s.rd CHIP.CORE_MAP_LIVE_COUNT * 2 ^ 16 + s.rd CHIP.CORE_MAP_MAP_GEN * 2 ^ 24
  s.each s.ownedCtxs (fun s x =>
    let c := s.ctx x
    if c.maskMap || Nat.land c.cfg.affinity changed = 0 then s else s.postEvent x 0x14 w 0 0 0 false)

/-- Bring LIVE, LIVE_COUNT and MAP_GEN up to R19 in one step, with the token, the events and the service level
that a change brings (R21, R31, R33). Before SERVICE no event is posted; SERVICE then compares with the map before the reset (log 65). -/
def State.setLive (s : State) : State :=
  let old := s.rd CHIP.CORE_MAP_LIVE
  let live := s.liveNow
  if old = live then s.setLevel
  else
    let gen := (s.rd CHIP.CORE_MAP_MAP_GEN + 1) % 256
    let s := ((s.wr CHIP.CORE_MAP_LIVE live).wr CHIP.CORE_MAP_LIVE_COUNT (popcount live 16)).wr CHIP.CORE_MAP_MAP_GEN gen
    let s := s.epoch.raise pgCHIP kCORE_MAP live gen
    let s := s.when (s.inService && popcount live 16 < 2 && 2 ≤ popcount old 16) (fun s =>
      s.raise pgSERAC kSCREEN_DEGRADED 0 0x0004)
    let s := s.when s.inService (fun s => s.postCoreMap (Nat.xor old live))
    s.setLevel

/-! ### Completions -/

/-- The command at the head of a queue whose record is held and due. -/
def Queue.due (q : Queue) : Option Cmd :=
  match q.cmds with
  | c :: _ => match c.phase with
    | .done .. => if c.ssn = q.done then some c else none
    | _ => none
  | [] => none

/-- Post the record of a completed command and take it off its queue (R253, R260). -/
def State.postDone (s : State) (x qn : Nat) (cmd : Cmd) (status detail time : Nat) : State :=
  let q := (s.ctx x).queue qn
  let s := s.postCq x 0x01 cmd.gen status qn cmd.ssn 1 detail (cmd.words.getD 7 0) time
  let s := s.modCtx x (fun c => c.setQueue qn
    { c.queue qn with done := (cmd.ssn + 1) % 2 ^ 32, cmds := q.cmds.drop 1 })
  s.signal x q.urgent

/-- Post what a queue holds first, where the completion ring has room: a completed command's record or a
NO_SERVICE record; a full ring sets CQ_FULL (R258). -/
def State.postHead (s : State) (x qn : Nat) : State :=
  let c := s.ctx x
  let q := c.queue qn
  match q.due with
  | some cmd =>
    if c.cq.room then
      match cmd.phase with
      | .done status detail time => s.postDone x qn cmd status detail time
      | _ => s
    else s.setCtx x { c with cqFull := true }
  | none =>
    match q.noService with
    | (f, n) :: r =>
      if f = q.done then
        if c.cq.room then
          let s := s.postCq x 0x03 c.gen 0x02 qn f n 0 0 s.ftime
          let s := s.modCtx x (fun c => c.setQueue qn { c.queue qn with done := (f + n) % 2 ^ 32, noService := r })
          s.signal x false
        else s.setCtx x { c with cqFull := true }
      else s
    | [] => s

/-- Whether a queue holds a record that could be posted now. -/
def Queue.holds (q : Queue) : Bool :=
  q.due.isSome || (match q.noService with | (f, _) :: _ => f = q.done | [] => false)

/-- Post up to n records that a queue holds. -/
def State.postHeads (s : State) (x qn : Nat) : Nat → State
  | 0 => s
  | n + 1 => if ((s.ctx x).queue qn).holds && (s.ctx x).cq.room then (s.postHead x qn).postHeads x qn n else s

/-- The part finishes a command of a queue: its record is handed for posting (R111). -/
def State.finish (s : State) (x qn ssn status detail : Nat) : State :=
  s.modCtx x (fun c => c.setQueue qn { c.queue qn with
    cmds := (c.queue qn).cmds.map (fun k => if k.ssn = ssn then
      match k.phase with
      | .done .. => k
      | _ => { k with phase := .done status detail s.ftime } else k) })

/-! ### Reads of host memory (R93, R94, R251, R252, R473) -/

/-- A 64-bit word of a queue entry, by byte offset. -/
def Cmd.at (k : Cmd) (off : Nat) : Nat := k.words.getD (off / 8) 0

/-- A COPY that reads host memory. -/
def Cmd.hostCopy (k : Cmd) : Bool := k.opc = 0x02 && bit (k.at 0x28) 0 && k.phase = .running && !k.failed

/-- The read of the next piece of a COPY: up to a 4 KiB boundary of the source, and at most Max Read Request Size (R93). -/
def Cmd.piece (k : Cmd) (most : Nat) : Nat × Nat :=
  let a := k.at 0x10 + k.moved
  (a, min most (min (4096 - a % 4096) (k.at 0x20 - k.moved)))

/-- Ask the host for a read as the owner's function (R251), where its tag is free (R94). -/
def State.askHost (s : State) (x gen qn ssn a n : Nat) (entry : Bool) : State :=
  if s.readLimit ≤ s.pci.reads.length || s.pci.reads.any (fun d => d.ctx = x && d.queue = qn && d.ssn = ssn && d.gen = gen) then s
  else
    let t := s.pci.nextTag
    let d : DmaRead := { tag := t, ctx := x, gen := gen, queue := qn, ssn := ssn, addr := a, len := n, since := s.ftime, entry := entry }
    { s with pci := { s.pci with reads := s.pci.reads ++ [d], nextTag := t + 1 } }.emit (.dmaRead (s.ctx x).owner t a n false false)

/-- The next piece of a COPY from host memory is asked for. -/
def State.pumpRead (s : State) (x qn : Nat) (k : Cmd) : State :=
  if !k.hostCopy || k.at 0x20 ≤ k.moved then s
  else s.askHost x k.gen qn k.ssn (k.piece s.maxRead).1 (k.piece s.maxRead).2 false

/-- Every host COPY of a context that runs and is not being frozen has its next piece asked for. -/
def State.pumpReads (s : State) : State :=
  s.each s.ctxs (fun s e => if e.2.runs && !e.2.freezing then
    s.each e.2.queues (fun s q => s.each q.2.cmds (fun s k => s.pumpRead e.1 q.1 k)) else s)

/-! ### The order of a queue (R253, R255) -/

/-- The SSN the engine fetches next from a queue, none where it has fetched every accepted entry. Ranges refused with
NO_SERVICE are never fetched (R32). -/
def Queue.fetchNext (q : Queue) : Option Nat :=
  let last := match q.cmds.getLast? with | some k => (k.ssn + 1) % 2 ^ 32 | none => q.done
  let skip := q.noService.foldl (fun n r => if r.1 = n then (r.1 + r.2) % 2 ^ 32 else n) last
  if before32 skip q.expect then some skip else none

/-- OVERLAP of an entry. -/
def Cmd.overlap (k : Cmd) : Bool := bit (k.at 0) 8

/-- A command has finished. -/
def Cmd.over (k : Cmd) : Bool := match k.phase with | .done .. => true | _ => false

/-- A SIG_WAIT holds its queue until it completes (R266). -/
def Cmd.waits (k : Cmd) : Bool := k.opc = 0x05 && !k.over

/-- The next command of a queue that may start: every earlier one has started; unless OVERLAP is set, every earlier one has completed,
its record posted (R253, R258); and none before it waits on an object. -/
def Queue.startable (q : Queue) : Option Cmd :=
  match q.cmds.span (fun k => k.phase != .fetched) with
  | (old, k :: _) =>
    if old.any Cmd.waits then none
    else if k.overlap || k.ssn = q.done then some k else none
  | (_, []) => none

/-- A fetched command of a queue waits for those before it (R253). -/
def Queue.stalled (q : Queue) : Bool := q.startable.isNone && q.cmds.any (fun k => k.phase = .fetched)

/-! ### The records of a reset (R263) -/

/-- Step 1 for one queue: the records it holds are posted while the completion ring has room. -/
def State.postHeld (s : State) (x qn : Nat) : State :=
  let q := (s.ctx x).queue qn
  s.postHeads x qn (q.cmds.length + q.noService.length)

/-- The runs of consecutive numbers in a list, each as its first number and the one past its last. -/
def runsOf : List Nat → List (Nat × Nat)
  | [] => []
  | n :: rest =>
    match runsOf rest with
    | (a, b) :: l => if (n + 1) % 2 ^ 32 = a then (n, b) :: l else (n, (n + 1) % 2 ^ 32) :: (a, b) :: l
    | [] => [(n, (n + 1) % 2 ^ 32)]

/-- Step 2: a GAP for the CSNs of the records that the host link did not take; their writes are discarded (Table 14-3). -/
def State.postUnposted (s : State) (x : Nat) : State :=
  let l := (s.ctx x).unposted
  (s.modCtx x (fun c => { c with unposted := [] })).each (runsOf l) (fun s g => s.postEvent x 0x11 g.1 g.2 0 0 true)

/-- Step 3 for one queue: its ABORTED record, where the ring has room. What its commands have written stays as it is (R261, log 160). -/
def State.abortQueue (s : State) (x qn : Nat) : State :=
  let c := s.ctx x
  let q := c.queue qn
  if q.done = q.expect then s.setCtx x (c.setQueue qn { q with cmds := [], noService := [] })
  else if q.holds || !c.cq.room then s.setCtx x { c with cqFull := true }
  else
    let user := match q.cmds with | k :: _ => k.words.getD 7 0 | [] => 0
    let s := s.postCq x 0x02 c.gen 0x01 qn q.done (dist32 q.done q.expect % 2 ^ 16) 0 user s.ftime
    let s := s.modCtx x (fun c => c.setQueue qn { c.queue qn with done := q.expect, cmds := [], noService := [] })
    s.signal x false

/-- Steps 1 to 4 of R263 for context x, once its requests have drained: held completions, GAPs, ABORTED records, then GEN_CHANGE with the
next generation. While the completion ring lacks room the records wait, and so does the rest (R258). A LOST context posts nothing
(R244). -/
def State.resetRecords (s : State) (x : Nat) : State :=
  match (s.ctx x).reset with
  | none => s
  | some r =>
    if !r.drained || r.changed then s
    else
      let qs := (s.ctx x).queues.map (·.1)
      let s := s.each qs (fun s q => s.postHeld x q)
      if qs.any (fun q => ((s.ctx x).queue q).holds) then s.modCtx x (fun c => { c with cqFull := true })
      else
        let s := (s.postUnposted x).each qs (fun s q => s.abortQueue x q)
        let c := s.ctx x
        if c.busy then s
        else
          let old := c.gen
          let s := s.setCtx x { c with gen := (old + 1) % 256, reset := some { r with changed := true }, cqFull := false }
          s.postGenChange x old r.level

/-- Step 5 of R263: RECOVERED, after which the context is owned again. A context that Firn failed to preserve then
raises CKPT_FAIL with reason SURVIVE_FAILED (R482); one that is being released stays RECOVERING while its extents
are zeroed (R273). -/
def State.resetEnd (s : State) (x : Nat) : State :=
  match (s.ctx x).reset with
  | none => s
  | some r =>
    if !r.changed then s
    else
      let s := s.postRecovered x r.level
      let s := s.modCtx x (fun c => { c with reset := none, deficit := 0, zeroing := r.release
                                             state := if r.release then .recovering else .owned })
      s.when r.failed (fun s => s.raiseCtx pgFIRN kCKPT_FAIL x 0 (0x100 + r.level))

end Sys2Proof.Machine
end

