-- ==== Sys2Proof/Machine/Operands.lean ====
section
/-! DEFINITION. The operand forms of the thread instructions: the fields of an instruction word (R207), the
registers of a lane and register pairs (R612), the address and size of a memory instruction, the PC a group
issues next (R177), and how an instruction retires. -/
namespace Sys2Proof.Machine

/-! ### Instruction fields (R207) -/

def insOp (w : Nat) : Nat := bits w 63 56
def insXD (w : Nat) : Nat := bits w 55 50
def insXA (w : Nat) : Nat := bits w 49 44
def insXB (w : Nat) : Nat := bits w 43 38
def insXC (w : Nat) : Nat := bits w 37 32
def insImm (w : Nat) : Nat := bits w 31 0
/-- The operand size of a memory instruction: IMM[1:0] selects 1, 2, 4 or 8 bytes (R612). -/
def insSize (w : Nat) : Nat := 2 ^ bits w 1 0
/-- IMM[31:8] as a signed displacement (R612). -/
def insDisp (w : Nat) : Int := toInt 24 (bits w 31 8)

/-! ### Registers of a group -/

/-- Register r of a lane. -/
def Group.reg (g : Group) (lane r : Nat) : Word := SMap.get g.regs (lane * 64 + r) 0#32

/-- The group with register r of a lane written. -/
def Group.setReg (g : Group) (lane r : Nat) (v : Word) : Group :=
  { g with regs := SMap.put g.regs (lane * 64 + r) v }

/-- A register pair; the lower-numbered register holds bits [31:0] (R612). -/
def Group.pair (g : Group) (lane r : Nat) : Nat := (g.reg lane r).toNat + 2 ^ 32 * (g.reg lane (r + 1)).toNat

/-- The group with a register pair written. -/
def Group.setPair (g : Group) (lane r v : Nat) : Group :=
  (g.setReg lane r (BitVec.ofNat 32 v)).setReg lane (r + 1) (BitVec.ofNat 32 (v / 2 ^ 32))

/-- A value of s bytes taken from a register or, for 8 bytes, a pair (R612). -/
def Group.data (g : Group) (lane r size : Nat) : Nat :=
  if size = 8 then g.pair lane r else (g.reg lane r).toNat % 2 ^ (8 * size)

/-- A value of s bytes written to a register, zero-extended, or to a pair (R612). -/
def Group.setData (g : Group) (lane r size v : Nat) : Group :=
  if size = 8 then g.setPair lane r v else g.setReg lane r (BitVec.ofNat 32 (v % 2 ^ (8 * size)))

/-- The 64-bit address of a memory instruction: pair xa plus the displacement, modulo 2^64 (R612). -/
def Group.addr (g : Group) (lane w : Nat) : Nat :=
  (((g.pair lane (insXA w) : Nat) + insDisp w) % (2 ^ 64 : Nat)).toNat

/-- A run of n registers from r would pass x63 (R612). -/
def runsPast (r n : Nat) : Bool := 64 < r + n

/-! ### Threads -/

/-- A candidate: launched, not exited, not waiting at GSYNC or WAITS (R177). -/
def Thread.candidate (t : Thread) : Bool := !t.exited && !t.gsync && t.waits.isNone

/-- Thread of a lane. -/
def Group.thread (g : Group) (lane : Nat) : Thread := g.threads.getD lane { pc := 0, exited := true }

/-- The group with every thread changed by its lane. -/
def Group.mapThreads (g : Group) (f : Nat → Thread → Thread) : Group :=
  { g with threads := (List.range g.threads.length).map (fun l => f l (g.thread l)) }

/-- The lanes that are candidates, ascending. -/
def Group.candidates (g : Group) : List Nat :=
  (List.range g.threads.length).filter (fun l => (g.thread l).candidate)

/-- The best of a list under an order, the first one at a tie. -/
def bestBy {α : Type} (better : α → α → Bool) : List α → Option α
  | [] => none
  | x :: r => some (r.foldl (fun m y => if better y m then y else m) x)

/-- The PC the scheduler chooses, and whether the starvation guard chose it (R177). -/
def Group.choose (g : Group) : Option (Nat × Bool) :=
  let ts := g.candidates.map (fun l => g.thread l)
  match bestBy (fun a b => b.wait < a.wait || (a.wait = b.wait && a.pc < b.pc)) (ts.filter (fun t => 64 ≤ t.wait)) with
  | some t => some (t.pc, true)
  | none =>
    let n := fun pc => (ts.filter (fun t => t.pc = pc)).length
    (bestBy (fun a b => n b < n a || (n a = n b && a < b)) (ts.map (·.pc))).map (fun pc => (pc, false))

/-- What a group issues next: its place, PC, instruction word, the participating lanes, its group and dispatch; `got` says that the
fetch gave the word. -/
structure Issue where
  core : Nat
  place : Nat
  pc : Nat
  word : Nat
  lanes : List Nat
  starved : Bool
  inRange : Bool
  got : Bool
  g : Group
  d : Dispatch
  deriving DecidableEq, Repr

/-- The core's groups issue: its front end is in normal service and no slice has been chosen for it (R416). -/
def State.coreIssues (s : State) (c : Nat) : Bool :=
  s.inService && (s.rd HDR.STAT_STATE (pgFE c) = stREADY || s.rd HDR.STAT_STATE (pgFE c) = stBUSY) &&
  !(s.tcore c).chosen && !(s.tcore c).held && s.rd DRONE.PWR_STAT_STATE ≤ 1 && s.ladder.chip.isNone

/-- A context's groups and passes go on: it runs, no freeze has reached it and its generation is theirs. -/
def State.ctxIssues (s : State) (x gen : Nat) : Bool :=
  (s.ctx x).runs && !(s.ctx x).freezing && (s.ctx x).gen = gen

/-- The lowest participating lane. -/
def Issue.lane (i : Issue) : Nat := i.lanes.headD 0

/-- The offset of the instruction from PROG_ADDR, as FE_FAULT and tokens carry it. -/
def Issue.off (i : Issue) : Nat := (i.pc + 2 ^ 64 - i.d.kernel.progAddr) % 2 ^ 64

/-- The group after an issue: the threads that issued stand at the next instruction, and the wait counts of R177 have moved. -/
def Issue.after (i : Issue) : Group :=
  { i.g.mapThreads (fun l t =>
      if i.lanes.contains l then { t with wait := 0, pc := (t.pc + 8) % 2 ^ 64 }
      else if i.g.candidates.contains l then { t with wait := satInc 255 t.wait } else t) with
    retired := satInc (2 ^ 32 - 1) i.g.retired }

/-- Retire an issue: the group moves on, and then what the instruction does to it; the progress counts of R204 and R438 rise. -/
def State.retire (s : State) (i : Issue) (f : Group → Group) : State :=
  let s := s.modCore i.core (fun c => c.setGroup i.place (f i.after))
  let s := if i.starved then s.count FE.FE_STARVE_COUNT i.core else s
  s.bump HDR.BLK_PROG (pgFE i.core)

/-- Every participating lane's change to the group, in ascending lane order. -/
def Issue.perLane (i : Issue) (f : Nat → Group → Group) (g : Group) : Group :=
  i.lanes.foldl (fun g l => f l g) g

end Sys2Proof.Machine
end

