-- ==== Sys2Proof/Machine/CoreOps.lean ====
section
/-! DEFINITION. What happens to the groups, passes and dispatches of a core: ending a dispatch at a fault
(R201), stopping a context, synchronisation objects, and the memory side of a read: SECDED and HBM errors. -/
namespace Sys2Proof.Machine

/-! ### Stopping work -/

/-- A unit without its pending pass where the pass satisfies p. -/
def MUnit.withdraw (u : MUnit) (p : Pass → Bool) : MUnit :=
  { u with pending := u.pending.bind (fun x => if p x then none else some x) }

/-- A unit without any pass or readout that satisfies p. -/
def MUnit.stop (u : MUnit) (p : Pass → Bool) : MUnit :=
  let keep := fun (o : Option Pass) => o.bind (fun x => if p x then none else some x)
  { u with pending := keep u.pending, running := keep u.running, readout := keep u.readout }

/-- The core without the groups that satisfy p. -/
def Core.dropGroups (c : Core) (p : Group → Bool) : Core :=
  { c with groups := c.groups.filter (fun e => !p e.2) }

/-- A dispatch ends inside an image. -/
def Image.endDispatch (m : Image) (c d status detail : Nat) : Image :=
  { m with groups := m.groups.filter (fun (g : Nat × Nat × Group) => !(g.1 = c && g.2.2.disp = d))
           passes := m.passes.filter (fun (p : Nat × Pass) => !(p.1 = c && p.2.disp = d))
           disps := m.disps.map (fun (e : Nat × Dispatch) => if e.1 = c && e.2.id = d && e.2.fault.isNone
             then (c, { e.2 with fault := some (status, detail) }) else e) }

/-- A dispatch ends with a status: its groups issue nothing further and its pending passes are withdrawn, while
started passes finish (R201). A dispatch in a freeze image ends at its thaw (R472). -/
def State.endDispatch (s : State) (c d status detail : Nat) : State :=
  let s := { s with firn := { s.firn with images := s.firn.images.map (fun (e : Nat × Image) => (e.1, e.2.endDispatch c d status detail)) } }
  s.modCore c (fun k =>
    let k := k.dropGroups (fun g => g.disp = d)
    { k with dsa := k.dsa.withdraw (fun x => x.disp = d)
             exu := k.exu.withdraw (fun x => x.disp = d)
             withdrawn := k.withdrawn.filter (fun x => x.disp != d)
             disps := k.disps.map (fun e => if e.id = d && e.fault.isNone then { e with fault := some (status, detail) } else e) })

/-- FE_FAULT takes the first fault since it was last cleared (R201). -/
def State.logFault (s : State) (c place lane kind off : Nat) : State :=
  if s.on FE.FE_FAULT_VALID c then s
  else ((((s.wr FE.FE_FAULT_VALID 1 c).wr FE.FE_FAULT_SLOT_GRP place c).wr FE.FE_FAULT_LANE lane c).wr
    FE.FE_FAULT_KIND kind c).wr FE.FE_FAULT_PC_OFF off c

/-- A kernel fault: the token, FE_FAULT, and the end of the dispatch with a status (R200–R202). -/
def State.fault (s : State) (i : Issue) (src kind status lane addr detail : Nat) : State :=
  let s := s.raiseCtx src kind i.g.ctx addr detail
  let s := s.logFault i.core i.place lane kind i.off
  s.endDispatch i.core i.g.disp status 0

def stOK : Nat := 0x00
def stABORTED : Nat := 0x01
def stNO_SERVICE : Nat := 0x02
def stCMD_INVALID : Nat := 0x03
def stGEN_MISMATCH : Nat := 0x04
def stAUTH_DENIED : Nat := 0x05
def stDESC_INVALID : Nat := 0x06
def stKDESC_INVALID : Nat := 0x07
def stKERNEL_FAULT : Nat := 0x08
def stV_DENIED : Nat := 0x09
def stBANK_LOST : Nat := 0x0A
def stPEER_LOST : Nat := 0x0B
def stCOLLECTIVE_ABORT : Nat := 0x0C
def stADDR_FAULT : Nat := 0x0D

/-- ILLEGAL_OP of the lowest participating lane (R202, R612). -/
def State.illegal (s : State) (i : Issue) : State :=
  s.fault i (pgFE i.core) kILLEGAL_OP stKERNEL_FAULT i.lane i.off i.lane

/-- Stop everything of context x at its cores: groups, passes, dispatches and what waits for placement (R442). -/
def State.stopCtx (s : State) (x : Nat) : State :=
  let s := s.each ((s.cores.map (·.1))) (fun s c => s.modCore c (fun k =>
    let k := k.dropGroups (fun g => g.ctx = x)
    { k with dsa := k.dsa.stop (fun p => p.ctx = x), exu := k.exu.stop (fun p => p.ctx = x)
             withdrawn := k.withdrawn.filter (fun p => p.ctx != x)
             disps := k.disps.filter (fun d => d.ctx != x) }))
  { s with waiting := s.waiting.filter (fun d => d.ctx != x) }

/-- Stop every group, pass, readout and dispatch of core c (an engine reset). -/
def State.stopCore (s : State) (c : Nat) : State :=
  s.modCore c (fun k => { k with groups := [], disps := [], dsa := {}, exu := {}, withdrawn := [] })

/-- Whether a context has groups, passes or readouts on core c. -/
def Core.usedBy (k : Core) (x : Nat) : Bool :=
  k.groups.any (fun g => g.2.ctx = x) || k.withdrawn.any (fun p => p.ctx = x) ||
  [k.dsa.pending, k.dsa.running, k.dsa.readout, k.exu.pending, k.exu.running, k.exu.readout].any
    (fun o => match o with | some p => p.ctx = x | none => false)

/-- The lowest free run of w slots aligned to w (R174). -/
def Core.freeRun (k : Core) (w : Nat) : Option Nat :=
  ((List.range (4096 / w)).find? (fun j => k.groups.all (fun e =>
    e.2.slot + e.2.width ≤ j * w || j * w + w ≤ e.2.slot))).map (· * w)

/-- A dispatch reaches the core: the lines of its program range leave the instruction cache (R203). -/
def Core.takeDisp (k : Core) (d : Dispatch) : Core :=
  { k with disps := k.disps ++ [d]
           icache := k.icache.filter (fun e => d.kernel.progAddr + d.kernel.progLen ≤ e.1 * 64 || e.1 * 64 + 64 ≤ d.kernel.progAddr) }

/-- The lowest free group place (R172). -/
def Core.freePlace (k : Core) : Option Nat := (List.range 128).find? (fun p => (k.group p).isNone)

/-! ### Synchronisation objects (R266) -/

/-- An object's value after an addition: it saturates at 2^64 − 1. -/
def syncSum (v a : Nat) : Nat := min (2 ^ 64 - 1) (v + a)

/-- A thread after objects changed: it leaves WAITS once its object has reached its threshold. -/
def Thread.wake (t : Thread) (c : Ctx) : Thread :=
  match t.waits with
  | some (j, v) => if v ≤ c.syncVal j then { t with waits := none } else t
  | none => t

/-- Release the threads of a context that wait for objects which have reached their thresholds. -/
def State.wakeWaits (s : State) (x : Nat) : State :=
  { s with cores := s.cores.map (fun e => (e.1, { e.2 with groups := e.2.groups.map (fun g =>
      (g.1, if g.2.ctx = x then { g.2 with threads := g.2.threads.map (fun t => t.wake (s.ctx x)) } else g.2)) })) }

/-- Add to object j of context x and release what waits on it. -/
def State.syncAdd (s : State) (x j a : Nat) : State :=
  (s.modCtx x (fun c => { c with sync := SMap.put c.sync j (syncSum (c.syncVal j) a) })).wakeWaits x

/-! ### Errors met by reads (R211–R219, R610) -/

/-- The physical bank of a scratchpad offset of core c. -/
def State.bankOf (s : State) (c off : Nat) : Nat := s.rd SPAD.SPAD_BANKMAP_PHYS c (off / bankSize)

/-- A logical bank is present (SPAD_BANKMAP.VALID). -/
def State.bankPresent (s : State) (c b : Nat) : Bool := s.on SPAD.SPAD_BANKMAP_VALID c b

/-- Log a sector in HBM_UE_LOG, which keeps the first (Table 6-4). -/
def State.logUe (s : State) (k off : Nat) : State :=
  if s.on HBM.HBM_UE_LOG_VALID k then s
  else ((s.wr HBM.HBM_UE_LOG_VALID 1 k).wr HBM.HBM_UE_LOG_SECTOR (off / 64) k).wr HBM.HBM_UE_LOG_ZEROED 0 k

/-- The pseudo-channel of a stack offset: 256-byte blocks interleaved over 32. -/
def pseudoChannel (off : Nat) : Nat := off / 256 % 32

/-- A single-bit error in the word at local offset a of core c's slice, corrected and written back (R211, R212). -/
def State.spadCe (s : State) (c a : Nat) : State :=
  let repeated := (s.core c).ceSeen.contains a
  let s := { s with marksC := s.marksC.filter (fun m => m != a) }
  let s := s.count SPAD.SPAD_CE_COUNT c
  let s := s.modCore c (fun k => { k with ceSeen := if repeated then k.ceSeen else a :: k.ceSeen })
  s.raise (pgSPAD c) (if repeated then kSPAD_CE_REPEAT else kSPAD_CE) a (s.bankOf c (a - sliceBase c))

/-- A bad symbol in the sector at local offset a of stack k, corrected in the stack (R217). -/
def State.hbmCe (s : State) (k a : Nat) : State :=
  let repeated := (s.hbm k).ceSeen.contains a
  let s := { s with marksC := s.marksC.filter (fun m => m != a) }
  let s := s.count HBM.HBM_CE_COUNT k
  let s := s.modHbm k (fun h => { h with ceSeen := if repeated then h.ceSeen else a :: h.ceSeen })
  s.raise (pgSTACK k) (if repeated then kHBM_CE_REPEAT else kHBM_CE) a (pseudoChannel (a - k * hbmSize))

/-- An uncorrectable error at local offset a: the token, and the log of an HBM sector (R213, R219). -/
def State.memUe (s : State) (a : Nat) : State :=
  match localPlace a with
  | .spad c o => s.raise (pgSPAD c) kSPAD_UE a (s.bankOf c o)
  | .hbm k o => (s.logUe k o).raise (pgSTACK k) kHBM_UE a (pseudoChannel o)
  | .unmapped => s

/-- The marked words and sectors that the n bytes from local offset a touch. A mark stands at the start of its
8-byte scratchpad word or 64-byte HBM sector. -/
def touched (marks : List Nat) (a n : Nat) : List Nat :=
  marks.filter (fun m =>
    let w := if m < spadBase then 64 else 8
    a < m + w && m < a + n)

/-- Count the 64-byte accesses a slice or stack completes for n bytes at a (Table 14-2). -/
def State.served (s : State) (a n : Nat) : State :=
  let k := (a + n + 63) / 64 - a / 64
  match localPlace a with
  | .spad c _ => s.wr HDR.BLK_PROG (s.rd HDR.BLK_PROG (pgSPAD c) + k) (pgSPAD c)
  | .hbm h _ => s.wr HDR.BLK_PROG (s.rd HDR.BLK_PROG (pgSTACK h) + k) (pgSTACK h)
  | .unmapped => s

/-- The page whose block holds the memory at a local offset. -/
def memPage (a : Nat) : Option Nat :=
  match localPlace a with
  | .spad c _ => some (pgSPAD c)
  | .hbm k _ => some (pgSTACK k)
  | .unmapped => none

/-- A transfer that failed parity twice and was discarded carried some of these n bytes out of their memory, or, with `into`, into
it: nothing uses its data (R224, R225). -/
def State.pathLost (s : State) (a n : Nat) (into : Bool) : Bool :=
  s.lostPaths.any (fun e => a ≤ e.2.2 && e.2.2 < a + n && memPage a = some (if into then e.1 else e.2.1))

/-- The stack that holds a local offset is in self-refresh and serves nothing (R221, R226). -/
def State.memAsleep (s : State) (a : Nat) : Bool := match localPlace a with | .hbm k _ => s.asleep k | _ => false

/-- Marked words and sectors are corrected where they are read (R211, R217). -/
def State.mend (s : State) (ms : List Nat) : State :=
  s.each ms (fun s m =>
    match localPlace m with
    | .spad c _ => s.spadCe c m
    | .hbm k _ => s.hbmCe k m
    | .unmapped => s)

/-- What a read of the n bytes at local offset a does: corrected errors are reported and repaired; at an uncorrectable one the
read fails and the token is raised (R211–R219). A read whose transfer was discarded, or of a stack in self-refresh, fails too (R221,
R224). -/
def State.readCheck (s : State) (a n : Nat) : State × Bool :=
  if s.pathLost a n false || s.memAsleep a then (s, false)
  else match touched s.marksU a n with
  | m :: _ => (s.memUe m, false)
  | [] => ((s.mend (touched s.marksC a n)).served a n, true)

/-- Read the n bytes at local offset a, where they can be read. -/
def State.readMem (s : State) (a n : Nat) : State × Option (List Byte) :=
  match s.readCheck a n with
  | (s, true) => (s, some (s.bytes a n))
  | (s, false) => (s, none)

/-- What reads the n bytes at a and goes on with them; it stops where they cannot be read (R213, R219). -/
def State.reading (s : State) (a n : Nat) (f : State → List Byte → State) : State :=
  match s.readMem a n with
  | (s, some bs) => f s bs
  | (s, none) => s

/-- Whether a write of n bytes at a covers the marked word or sector at m wholly (R610). -/
def covers (a n m : Nat) : Bool :=
  let w := if m < spadBase then 64 else 8
  a ≤ m && m + w ≤ a + n

/-- Write bytes at local offset a. A partial write of a word or sector reads the rest of it first; an
uncorrectable error found so drops the write (R610), and so does a transfer that was discarded (R224). The flag says whether the
write took effect. -/
def State.writeMem (s : State) (a : Nat) (bs : List Byte) : State × Bool :=
  let n := bs.length
  if s.pathLost a n true || s.memAsleep a then (s, false)
  else match (touched s.marksU a n).filter (fun m => !covers a n m) with
  | m :: _ => (s.memUe m, false)
  | [] =>
    let s := s.mend ((touched s.marksC a n).filter (fun m => !covers a n m))
    let s := { s with marksC := s.marksC.filter (fun m => !covers a n m)
                      marksU := s.marksU.filter (fun m => !covers a n m) }
    ((s.store a bs).served a n, true)

/-- What writes bytes at a and goes on; it stops where the write is dropped (R213, R610). -/
def State.writing (s : State) (a : Nat) (bs : List Byte) (f : State → State) : State :=
  match s.writeMem a bs with
  | (s, true) => f s
  | (s, false) => s

/-- Charge the owner of a context for the sectors an access of n bytes at a touches (R287). -/
def State.chargeStack (s : State) (x a n : Nat) : State :=
  match localPlace a with
  | .hbm k _ => s.modHbm k (fun h => { h with usage :=
      (s.ftime, (s.ctx x).owner, (a + n + 63) / 64 - a / 64) :: h.usage.filter (fun u => s.ftime < u.1 + 100000) })
  | _ => s

end Sys2Proof.Machine
end

