-- ==== Sys2Proof/Machine/Descriptor.lean ====
section
/-! DEFINITION. The layer descriptor (Table 4-7), its refusal (Table 4-9), the kernel descriptor (Table 5-2) and its
refusal (Table 5-3), and the lengths of passes and readouts (R125, R127). -/
namespace Sys2Proof.Machine

/-! ### Layer descriptor fields (Table 4-7), over the 64 bytes of a descriptor -/

def ldW (d : List Byte) (o : Nat) : Nat := leAt d o 4
def ldMode (d : List Byte) : Nat := bits (ldW d 0) 23 20
def ldWA (d : List Byte) : Nat := bits (ldW d 0) 19 16
def ldWB (d : List Byte) : Nat := bits (ldW d 0) 15 12
def ldSignA (d : List Byte) : Bool := bit (ldW d 0) 11
def ldSignB (d : List Byte) : Bool := bit (ldW d 0) 10
def ldSensitive (d : List Byte) : Bool := bit (ldW d 0) 9
def ldV (d : List Byte) : Bool := bit (ldW d 0) 8
def ldAccIn (d : List Byte) : Bool := bit (ldW d 0) 7
def ldSum (d : List Byte) : Nat := bits (ldW d 0) 6 5
def ldM (d : List Byte) : Nat := bits (ldW d 4) 31 23 + 1
def ldN (d : List Byte) : Nat := bits (ldW d 4) 22 14 + 1
def ldKPass (d : List Byte) : Nat := bits (ldW d 4) 13 0
def ldKTotal (d : List Byte) : Nat := ldW d 8
def ldOutFmt (d : List Byte) : Nat := bits (ldW d 12) 31 28
def ldOutW (d : List Byte) : Nat := bits (ldW d 12) 27 24
def ldOutSign (d : List Byte) : Bool := bit (ldW d 12) 23
def ldShift (d : List Byte) : Nat := bits (ldW d 12) 22 17
def ldRnd (d : List Byte) : Nat := bits (ldW d 12) 16 15
def ldWbOp (d : List Byte) : Nat := bits (ldW d 12) 14 13
def ldSeed (d : List Byte) : Nat := ldW d 0x10
def ldCkSum (d : List Byte) : Bool := bit (ldW d 0x14) 31
def ldCkRange (d : List Byte) : Bool := bit (ldW d 0x14) 30
def ldCkExc (d : List Byte) : Bool := bit (ldW d 0x14) 29
def ldShadowOk (d : List Byte) : Bool := bit (ldW d 0x14) 28
def ldRangeClass (d : List Byte) : Nat := bits (ldW d 0x14) 27 25
def ldSatLimit (d : List Byte) : Nat := bits (ldW d 0x14) 23 16
def ldRangeLo (d : List Byte) : Nat := ldW d 0x18
def ldRangeHi (d : List Byte) : Nat := ldW d 0x1C
def ldLayerId (d : List Byte) : Nat := ldW d 0x20
def ldScaleA (d : List Byte) : Int := toInt 8 (bits (ldW d 0x24) 31 24)
def ldScaleB (d : List Byte) : Int := toInt 8 (bits (ldW d 0x24) 23 16)
def ldScaleOut (d : List Byte) : Int := toInt 8 (bits (ldW d 0x24) 15 8)

def mINT : Nat := 0
def mBIN : Nat := 1
def mLOG : Nat := 2
def mEXACT : Nat := 3
def oINT : Nat := 0
def oACC48 : Nat := 1
def oLOG : Nat := 2
def oLOGACC : Nat := 3
def oBF16 : Nat := 4
def oFP16 : Nat := 5
def oFP32 : Nat := 6

/-- The operand width of a width code, 0 where Table 4-8 lists none. -/
def widthOf (code : Nat) : Nat := [1, 2, 4, 6, 8, 12, 16, 0, 32, 16, 16].getD code 0

/-- The width codes a mode allows for an operand (R124). -/
def widthAllowed (mode code : Nat) : Bool :=
  if mode = mINT then 1 ≤ code && code ≤ 6
  else if mode = mBIN then code = 0
  else if mode = mLOG then code = 2 || code = 3 || code = 4
  else code = 8 || code = 9 || code = 10

/-- ceil(w / 2), the digits of an operand. -/
def digits (w : Nat) : Nat := (w + 1) / 2

/-- The core cycles of a pass (Table 4-4). -/
def passLength (mode wa wb k : Nat) : Nat :=
  if mode = mINT then k * digits (widthOf wa) * digits (widthOf wb) + 8
  else if mode = mBIN then (k + 3) / 4 + 8
  else if mode = mLOG then k * (digits (widthOf wa) + 1) + 8
  else if wa = 8 then k * 16 + 8 else k * 8 + 8

/-- The core cycles of the pass of a descriptor (R125). -/
def ldLength (d : List Byte) : Nat := passLength (ldMode d) (ldWA d) (ldWB d) (ldKPass d)

/-- The least k with n ≤ 2^k. -/
def clog2 (n : Nat) : Nat := if n ≤ 1 then 0 else Nat.log2 (n - 1) + 1

/-- The output formats a mode allows (Table 4-6). -/
def outAllowed (mode fmt : Nat) : Bool :=
  if mode = mINT then [oINT, oACC48, oBF16, oFP16, oFP32].contains fmt
  else if mode = mBIN then [oINT, oACC48, oBF16].contains fmt
  else if mode = mLOG then [oLOG, oLOGACC, oBF16, oFP32].contains fmt
  else [oFP32, oFP16, oBF16].contains fmt

/-- OUT_W is 0 for outputs other than INT and LOG, and a width of the output otherwise (R168). -/
def outWidthOk (d : List Byte) : Bool :=
  if ldOutFmt d = oINT then 1 ≤ ldOutW d && ldOutW d ≤ 6
  else if ldOutFmt d = oLOG then ldOutW d = 2 || ldOutW d = 3 || ldOutW d = 4
  else ldOutW d = 0

/-- A binary32 code is a NaN. -/
def isNan32 (x : Nat) : Bool := (f32.decode x).isNan

/-- RANGE_LO lies above RANGE_HI, or a bound is a NaN (Table 4-9, 0x0D). -/
def rangeBad (d : List Byte) : Bool :=
  if 4 ≤ ldOutFmt d then
    isNan32 (ldRangeLo d) || isNan32 (ldRangeHi d) || (f32.decode (ldRangeHi d)).lt (f32.decode (ldRangeLo d))
  else decide (toInt 32 (ldRangeHi d) < toInt 32 (ldRangeLo d))

/-- A reserved field is not 0, a reserved encoding is used, or a field of another mode or output is not 0 (0x03). -/
def ldReservedBad (d : List Byte) : Bool :=
  bits (ldW d 0) 4 0 != 0 || bits (ldW d 12) 12 0 != 0 || bit (ldW d 0x14) 24 || bits (ldW d 0x14) 15 0 != 0 ||
  bits (ldW d 0x24) 7 0 != 0 || leAt d 0x28 20 != 0 || bits (ldW d 0x3C) 31 16 != 0 ||
  3 < ldMode d || 2 ≤ ldSum d || 6 < ldOutFmt d || ldRnd d = 3 || 2 ≤ ldWbOp d ||
  (ldMode d != mINT && (ldSignA d || ldSignB d)) || (ldOutFmt d != oINT && ldOutSign d) ||
  (ldMode d != mLOG && (ldScaleA d != 0 || ldScaleB d != 0)) || (ldOutFmt d != oLOG && ldScaleOut d != 0)

/-- The refusal reason of a layer descriptor, 0 where none applies (R170, Table 4-9, in its order). -/
def ldReason (d : List Byte) : Nat :=
  if crc16 (d.take 0x3C) != bits (ldW d 0x3C) 15 0 then 0x01
  else if bits (ldW d 0) 31 24 != 1 then 0x02
  else if ldReservedBad d then 0x03
  else if !widthAllowed (ldMode d) (ldWA d) || !widthAllowed (ldMode d) (ldWB d) ||
      ((ldMode d = mLOG || ldMode d = mEXACT) && ldWA d != ldWB d) then 0x04
  else if ldKPass d = 0 || ldKTotal d < ldKPass d || (ldMode d = mEXACT && (64 < ldM d || 64 < ldN d)) then 0x05
  else if 4096 < ldLength d then 0x06
  else if ldMode d = mINT && 48 < widthOf (ldWA d) + widthOf (ldWB d) + 1 + clog2 (ldKTotal d) then 0x07
  else if !outAllowed (ldMode d) (ldOutFmt d) || (ldSum d = 1 && ldMode d != mLOG) || !outWidthOk d then 0x08
  else if 47 < ldShift d || ((ldMode d = mEXACT || ldMode d = mLOG) && ldShift d != 0) then 0x09
  else if ldCkSum d && ldMode d != mINT then 0x0A
  else if ldSensitive d && ldMode d != mEXACT then 0x0B
  else if ldWbOp d = 1 && (!ldV d || !(ldOutFmt d = oFP32 || ldOutFmt d = oBF16)) then 0x0C
  else if ldCkRange d && (!(ldRangeClass d = cINFO || ldRangeClass d = cDEFERRED || ldRangeClass d = cCONTEXT) ||
      rangeBad d) then 0x0D
  else 0

/-- The bits an output element takes in its row (R150). -/
def outBits (d : List Byte) : Nat :=
  let w := widthOf (ldOutW d)
  match ldOutFmt d with
  | 0 => if w ≤ 4 then w else if w ≤ 8 then 8 else 16
  | 1 => 64
  | 2 => if w ≤ 4 then w else 8
  | 3 => 32
  | 4 => 16
  | 5 => 16
  | _ => 32

/-- The bytes of one output row. -/
def rowBytes (d : List Byte) : Nat := (ldN d * outBits d + 7) / 8

/-- The bytes of an element of the partial tile (Table 4-6). -/
def partialBytes (d : List Byte) : Nat := if ldMode d = mLOG || ldMode d = mEXACT then 4 else 8

/-- The pitch of the partial tile (R192). -/
def partialPitch (d : List Byte) : Nat := (ldN d * partialBytes d + 63) / 64 * 64

/-! ### Kernel descriptor (Table 5-2) -/

def widthOfCode (c : Nat) : Nat := [8, 16, 32, 64].getD c 8

/-- The kernel descriptor of 64 bytes. -/
def parseKernel (addr : Nat) (d : List Byte) : Kernel :=
  let w := leAt d 0 4
  { addr := addr, width := widthOfCode (bits w 23 22), ksyncOk := bit w 21, vAllow := bit w 20, maxRes := bits w 7 0
    groups := leAt d 4 4, progAddr := leAt d 8 8, progLen := leAt d 0x10 4, argAddr := leAt d 0x14 8
    step := leAt d 0x1C 4, tileBase := leAt d 0x20 4, opsDsa := leAt d 0x24 4, opsExu := leAt d 0x28 4 }

/-- No operand store. -/
def noStore : Nat := 0xFFFF_FFFF

/-- The launch limit L (R173). -/
def Kernel.limit (k : Kernel) : Nat :=
  let l := min 128 (4096 / k.width)
  if k.maxRes = 0 then l else min l k.maxRes

/-- An operand store of `size` bytes at a slice offset is aligned and inside the extent of context x on core c. -/
def State.storeOk (s : State) (x c off size : Nat) : Bool :=
  off = noStore || (off % size = 0 && off + size ≤ sliceSize && s.inExtent x (sliceBase c + off) size)

/-- The size of the DSA operand store and of the Exact Unit's (R189). -/
def dsaStoreSize : Nat := 0x40_0000
def exuStoreSize : Nat := 0x4_0000

/-- The refusal reason of a kernel descriptor on core c for context x, 0 where none applies (Table 5-3). -/
def State.kdReason (s : State) (x c : Nat) (d : List Byte) : Nat :=
  let k := parseKernel 0 d
  let w := leAt d 0 4
  if crc16 (d.take 0x3C) != leAt d 0x3C 2 then 0x01
  else if bits w 31 24 != 1 then 0x02
  else if bits w 19 8 != 0 || leAt d 0x2C 16 != 0 || leAt d 0x3E 2 != 0 then 0x03
  else if k.groups = 0 then 0x04
  else if k.progAddr % 8 != 0 || k.progLen = 0 || k.progLen % 8 != 0 || !s.inExtent x k.progAddr k.progLen then 0x05
  else if !s.storeOk x c k.opsDsa dsaStoreSize || !s.storeOk x c k.opsExu exuStoreSize then 0x06
  else if k.ksyncOk && k.limit < k.groups then 0x07
  else 0

end Sys2Proof.Machine
end

