-- ==== Sys2Proof/Machine/PassOps.lean ====
section
/-! DEFINITION. The arithmetic of a pass (*Digit-Serial Arithmetic and the Layer Descriptor*): operands in the
operand store (R189, R190), the sums of the four modes (R133–R138), the checksum residues (R158), the combination
with a partial tile, narrowing and rounding (R151–R153), and the signatures of R380. -/
namespace Sys2Proof.Machine

/-! ### Operands -/

/-- The offset of a line from its store's base (R189). -/
def lineOff (exact : Bool) (bank side line : Nat) : Nat :=
  if exact then bank * 0x2_0000 + side * 0x1_0000 + line * 0x400
  else bank * 0x20_0000 + side * 0x10_0000 + line * 0x800

/-- The bytes that n elements of a width take in a line (R190). -/
def lineBytes (width n : Nat) : Nat := if width ≤ 4 then (n * width + 7) / 8 else n * ((width + 7) / 8)

/-- Element k of a line in the storage format of its width (R190). -/
def elementOf (line : List Byte) (width k : Nat) : Nat :=
  if width ≤ 4 then (line.getD (k * width / 8) 0#8).toNat / 2 ^ (k * width % 8) % 2 ^ width
  else leAt line (k * ((width + 7) / 8)) ((width + 7) / 8) % 2 ^ width

/-- The operand codes of line `line` of the A side (side 0) or the B side (side 1) of a pass, read from its store; none where the read
meets an uncorrectable error (R189, R190, R213). -/
def State.readLine (s : State) (p : Pass) (side line : Nat) : State × Option (List Nat) :=
  let w := widthOf (if side = 0 then ldWA p.desc else ldWB p.desc)
  let n := ldKPass p.desc
  match s.readMem (p.store + lineOff p.exact p.bank side line) (lineBytes w n) with
  | (s, some bs) => (s, some ((List.range n).map (elementOf bs w)))
  | (s, none) => (s, none)

/-- The first n lines of one side. -/
def State.readSide (s : State) (p : Pass) (side n : Nat) : State × Option (List (List Nat)) :=
  (List.range n).foldl (fun (st : State × Option (List (List Nat))) l =>
    match st.2 with
    | none => st
    | some ls =>
      match st.1.readLine p side l with
      | (s, some x) => (s, some (ls ++ [x]))
      | (s, none) => (s, none)) (s, some [])

/-- The operands of a pass, as its unit takes them from the operand store (R189, R194; log 170 on when). -/
def State.readOperands (s : State) (p : Pass) : State × Option Streams :=
  match s.readSide p 0 (ldM p.desc) with
  | (s, none) => (s, none)
  | (s, some a) =>
    match s.readSide p 1 (ldN p.desc) with
    | (s, none) => (s, none)
    | (s, some b) => (s, some ⟨a, b⟩)

/-- The operands of a pass: side (0 for A, 1 for B), line, and element of the line. -/
abbrev Operands := Nat → Nat → Nat → Nat

/-- The operands that digit streams hold. -/
def Streams.ops (d : Streams) : Operands := fun side line k => ((if side = 0 then d.a else d.b).getD line []).getD k 0

/-- An integer operand of a pass of descriptor d, signed or unsigned (R123). -/
def intOperand (op : Operands) (d : List Byte) (side line k : Nat) : Int :=
  let signed := if side = 0 then ldSignA d else ldSignB d
  let w := widthOf (if side = 0 then ldWA d else ldWB d)
  if signed then toInt w (op side line k) else op side line k

/-! ### Log values -/

/-- A log accumulator: sign, zero flag, magnitude in units of 2^−12. -/
structure LogV where
  sign : Bool
  zero : Bool
  mag : Int
  deriving DecidableEq, Repr

/-- Zero, as a zero product or a sum that cancels gives it. DESIGN CHOICE (log 173): its magnitude bits are 0. -/
def LogV.nil : LogV := ⟨false, true, 0⟩

/-- The 4-byte LOGACC form (R150). -/
def LogV.code (v : LogV) : Nat :=
  if v.zero then b2n v.sign * 2 ^ 31 + 2 ^ 30 + ofInt 24 v.mag else b2n v.sign * 2 ^ 31 + ofInt 24 v.mag

/-- The value of a LOGACC form. -/
def logOfCode (x : Nat) : LogV := ⟨bit x 31, bit x 30, toInt 24 x⟩

/-- 12 − F: the fraction bits that a log code of width w lacks, and its bias (Table 4-2). -/
def logLow (w : Nat) : Nat := if w = 4 then 11 else if w = 6 then 10 else 9
def logBias (w : Nat) : Nat := if w = 4 then 4 else if w = 6 then 16 else 64

/-- The product of two log operands of width w (R135). -/
def logProduct (w a b : Nat) (scale : Int) : LogV :=
  let ea := a % 2 ^ (w - 1)
  let eb := b % 2 ^ (w - 1)
  if ea = 0 || eb = 0 then LogV.nil
  else ⟨bit a (w - 1) != bit b (w - 1), false,
    ((ea : Int) - logBias w + (eb : Int) - logBias w) * (2 ^ logLow w : Nat) + scale * 4096⟩

/-- The correction tables: C⁺[i] and C⁻[i] (signed), entry 64 being 0. -/
structure LogTab where
  plus : Nat → Int
  minus : Nat → Int

/-- logadd (R136). -/
def logAdd (t : LogTab) (x y : LogV) : LogV :=
  if x.zero then y
  else if y.zero then x
  else
    let d := (x.mag - y.mag).natAbs
    let big := if x.mag < y.mag then y else x
    let tab := if x.sign = y.sign then t.plus else t.minus
    if x.sign != y.sign && d = 0 then LogV.nil
    else if 49152 ≤ d then big
    else
      let i := if d < 16384 then d / 512 else 32 + (d - 16384) / 1024
      let f := if d < 16384 then d % 512 else (d - 16384) % 1024
      let sh := if d < 16384 then 9 else 10
      let c := if x.sign != y.sign && i = 0 then t.minus 0
        else tab i + ((if i = 63 then 0 else tab (i + 1)) - tab i) * f / (2 ^ sh : Nat)
      { big with mag := toInt 24 (ofInt 24 (big.mag + c)) }

/-- The greater of two log values as real numbers (R137). -/
def logMax (x y : LogV) : LogV :=
  let key := fun (v : LogV) => if v.zero then (0, (0 : Int)) else if v.sign then (-1, -v.mag) else ((1 : Int), v.mag)
  let a := key x
  let b := key y
  if a.1 < b.1 || (a.1 = b.1 && a.2 < b.2) then y else x

/-- The ROM default table C⁺ (R140). -/
def romPlus : List Nat :=
  [4096, 3846, 3606, 3378, 3160, 2954, 2757, 2572, 2396, 2230, 2074, 1927, 1789, 1659, 1538, 1425,
   1319, 1220, 1128, 1042, 962, 888, 819, 755, 696, 641, 591, 544, 501, 461, 424, 390,
   358, 303, 256, 216, 182, 153, 129, 109, 92, 77, 65, 55, 46, 39, 33, 27,
   23, 19, 16, 14, 12, 10, 8, 7, 6, 5, 4, 3, 3, 2, 2, 2]

/-- The magnitudes of the ROM default table C⁻, every entry of which is negative (R140). -/
def romMinus : List Nat :=
  [18677, 14708, 10862, 8713, 7256, 6177, 5335, 4657, 4096, 3625, 3224, 2878, 2578, 2316, 2085, 1881,
   1700, 1539, 1395, 1265, 1150, 1045, 951, 866, 789, 719, 656, 599, 547, 499, 456, 417,
   381, 319, 267, 224, 188, 157, 132, 111, 93, 78, 66, 55, 46, 39, 33, 28,
   23, 19, 16, 14, 12, 10, 8, 7, 6, 5, 4, 3, 3, 2, 2, 2]

/-- The 16-bit code of the default C⁻[i]. -/
def romMinusCode (i : Nat) : Nat := ofInt 16 (-(romMinus.getD i 0 : Nat) : Int)

/-- The active table entries of a core as their 16-bit codes. -/
def Core.actPlus (c : Core) (i : Nat) : Nat := SMap.get c.logActP i (romPlus.getD i 0)
def Core.actMinus (c : Core) (i : Nat) : Nat := SMap.get c.logActM i (romMinusCode i)
def Core.stagePlus (c : Core) (i : Nat) : Nat := SMap.get c.logStageP i (romPlus.getD i 0)
def Core.stageMinus (c : Core) (i : Nat) : Nat := SMap.get c.logStageM i (romMinusCode i)

/-- The active correction table of a core. -/
def Core.table (c : Core) : LogTab := ⟨fun i => c.actPlus i, fun i => toInt 16 (c.actMinus i)⟩

/-- An entry of the active table as LOG_ACTIVE shows it (Table 4-17). -/
def Core.actEntry (c : Core) (i : Nat) : Nat := c.actPlus i * 2 ^ 16 + c.actMinus i

/-- CT_CRC: the CRC-16 over the 256 bytes of the active table in entry order (Table 4-16). -/
def Core.tableCrc (c : Core) : Nat := crc16 ((List.range 64).flatMap (fun i => toLE (c.actEntry i) 4))

/-! ### The sums of a pass -/

/-- The sum of a function over 0 … n − 1. -/
def sumOver (n : Nat) (f : Nat → Int) : Int := (List.range n).foldl (fun a k => a + f k) 0

/-- The accumulator of cell (r, c) in INT and BIN mode (R133, R134). -/
def cellInt (op : Operands) (d : List Byte) (r c : Nat) : Int :=
  let k := ldKPass d
  if ldMode d = mBIN then
    2 * sumOver k (fun j => if op 0 r j = op 1 c j then 1 else 0) - k
  else sumOver k (fun j => intOperand op d 0 r j * intOperand op d 1 c j)

/-- The accumulator of cell (r, c) in LOG mode (R136, R137); it starts at zero under either SUM (log 31). -/
def cellLog (op : Operands) (t : LogTab) (d : List Byte) (r c : Nat) : LogV :=
  let w := widthOf (ldWA d)
  (List.range (ldKPass d)).foldl (fun a j =>
    let x := logProduct w (op 0 r j) (op 1 c j) (ldScaleA d + ldScaleB d)
    if ldSum d = 1 then logMax a x else logAdd t a x) LogV.nil

/-- The operand format of an EXACT pass. -/
def exactFmt (code : Nat) : FFmt := if code = 8 then f32 else if code = 9 then f16 else bf16

/-- One step of an EXACT accumulation, with the events of R155 (R138). -/
def exactStep (f : FFmt) (st : Nat × Bool × Bool) (a b : Nat) : Nat × Bool × Bool :=
  let va := f.decode a
  let vb := f.decode b
  let vc := f32.decode st.1
  let r := f32.encode ((va.mul vb).add vc)
  (r, st.2.1 || (isNan32 r && !va.isNan && !vb.isNan && !vc.isNan),
   st.2.2 || ((f32.decode r).isInf && !va.isInf && !vb.isInf && !vc.isInf))

/-- The accumulator of element (r, c) of an EXACT pass, with its events. -/
def cellExact (op : Operands) (d : List Byte) (r c : Nat) : Nat × Bool × Bool :=
  (List.range (ldKPass d)).foldl (fun st j =>
    exactStep (exactFmt (ldWA d)) st (op 0 r j) (op 1 c j)) (0, false, false)

/-- The positions of a tile, row-major. -/
def tilePos (m n : Nat) : List (Nat × Nat) :=
  (List.range m).flatMap (fun r => (List.range n).map (fun c => (r, c)))

/-- The modulus 2^w − 1 of a checksum lane. -/
def laneMod (code : Nat) : Int := (2 ^ widthOf code - 1 : Nat)

/-- The operand of row bus 512 (side 0) or column bus 512 (side 1) at k (R158). -/
def laneOperand (op : Operands) (d : List Byte) (side k : Nat) : Int :=
  if side = 0 then sumOver (ldM d) (fun r => intOperand op d 0 r k) % laneMod (ldWA d)
  else sumOver (ldN d) (fun c => intOperand op d 1 c k) % laneMod (ldWB d)

/-- A list with the errors of failing cells added at their positions (R159: what a bad cell does is the part's). -/
def disturb (xs : List Int) (first : Nat) (faults : List (Nat × Int)) : List Int :=
  (List.range xs.length).map (fun i =>
    xs.getD i 0 + ((faults.filter (fun e => e.1 = first + i)).map (·.2)).foldl (· + ·) 0)

/-- The true checksum column sums, row sums and corner of an INT pass (R158): what rows and columns 512 carry where no cell fails. -/
def checksumLanes (op : Operands) (d : List Byte) : List Int × List Int × Int :=
  let k := ldKPass d
  ((List.range (ldN d)).map (fun c => sumOver k (fun j => laneOperand op d 0 j * intOperand op d 1 c j)),
   (List.range (ldM d)).map (fun r => sumOver k (fun j => intOperand op d 0 r j * laneOperand op d 1 j)),
   sumOver k (fun j => laneOperand op d 0 j * laneOperand op d 1 j))

/-- What the accumulators of a pass of descriptor d over operands op hold at its end, on a core with correction table t
whose cells fail as `faults` says: position r × N + c for a data cell, then the checksum row, the checksum column and the corner. -/
def accumulateOf (op : Operands) (t : LogTab) (d : List Byte) (faults : List (Nat × Int)) : Accs :=
  let m := ldM d
  let n := ldN d
  let pos := tilePos m n
  if ldMode d = mEXACT then
    let cells := pos.map (fun e => cellExact op d e.1 e.2)
    { data := disturb (cells.map (fun e => (e.1 : Int))) 0 faults
      invalid := cells.any (·.2.1), overflow := cells.any (·.2.2) }
  else if ldMode d = mLOG then
    { data := disturb (pos.map (fun e => ((cellLog op t d e.1 e.2).code : Int))) 0 faults }
  else
    let lanes := if ldMode d = mINT && ldCkSum d then checksumLanes op d else ([], [], 0)
    { data := disturb (pos.map (fun e => cellInt op d e.1 e.2)) 0 faults
      colLane := disturb lanes.1 (m * n) faults, rowLane := disturb lanes.2.1 (m * n + n) faults
      corner := (disturb [lanes.2.2] (m * n + n + m) faults).headD 0 }

/-! ### Checksum comparison (R158, R373) -/

/-- One comparison: where the residue of the data sum and the lane's value disagree, whether the lane was wrong and
whether the data was. -/
def compareLine (m sum lane true_ : Int) : Option (Bool × Bool) :=
  if sum % m = lane % m then none else some (lane % m != true_ % m, sum % m != true_ % m)

/-- The disagreements of a pass: its columns, rows and corner (R158), each with the ground against the lanes `own` that Serac recomputes
(R373). -/
def disagreements (d : List Byte) (a : Accs) (own : List Int × List Int × Int) :
    List (Nat × Bool × Bool) × List (Nat × Bool × Bool) × Option (Bool × Bool) :=
  let m := ldM d
  let n := ldN d
  let at_ := fun r c => a.data.getD (r * n + c) 0
  let cols := (List.range n).filterMap (fun c =>
    (compareLine (laneMod (ldWA d)) (sumOver m (fun r => at_ r c)) (a.colLane.getD c 0) (own.1.getD c 0)).map
      (fun v => (c, v)))
  let rows := (List.range m).filterMap (fun r =>
    (compareLine (laneMod (ldWB d)) (sumOver n (fun c => at_ r c)) (a.rowLane.getD r 0) (own.2.1.getD r 0)).map
      (fun v => (r, v)))
  let g : Int := (2 ^ Nat.gcd (widthOf (ldWA d)) (widthOf (ldWB d)) - 1 : Nat)
  (cols, rows, compareLine g (a.data.foldl (· + ·) 0) a.corner own.2.2)

/-! ### Write-back (R151–R153) -/

/-- An element on its way out: an integer sum, a log value, or a binary32 code. -/
inductive Elem where
  | int (z : Int)
  | log (v : LogV)
  | float (x : Nat)
  deriving DecidableEq, Repr

/-- The accumulator of an element in the mode's own form. -/
def elemOf (mode : Nat) (z : Int) : Elem :=
  if mode = mEXACT then .float (z.toNat % 2 ^ 32) else if mode = mLOG then .log (logOfCode (z.toNat % 2 ^ 32)) else .int z

/-- The combination with the partial element (R151). -/
def combine (t : LogTab) (d : List Byte) (e : Elem) (part : Nat) : Elem :=
  match e with
  | .int z => .int (z + toInt 64 part)
  | .log v => .log (if ldSum d = 1 then logMax v (logOfCode part) else logAdd t v (logOfCode part))
  | .float x => .float (f32.add x part)

/-- Whether an integer quotient with floor q and dropped part `dr` of k bits goes up, for a sum of sign neg. -/
def roundUpInt (rnd x q dr k : Nat) (neg : Bool) : Bool :=
  if rnd = 0 then roundRNE q dr k else if rnd = 1 then srUp x dr k else neg && dr != 0

/-- The sum divided by 2^shift under the rounding mode. -/
def divRound (rnd x : Nat) (z : Int) (shift : Nat) : Int :=
  let q := z / (2 ^ shift : Nat)
  let dr := (z % (2 ^ shift : Nat)).toNat
  q + (if roundUpInt rnd x (q % 2).toNat dr shift (z < 0) then 1 else 0)

/-- A narrowed element: its code, whether it saturated, and whether it violates the range check. -/
structure Narrow where
  code : Nat
  sat : Bool
  viol : Bool
  deriving DecidableEq, Repr

/-- An integer within the descriptor's bounds (R164). -/
def intViolates (d : List Byte) (z : Int) : Bool :=
  z < toInt 32 (ldRangeLo d) || toInt 32 (ldRangeHi d) < z

/-- A float of format f within the descriptor's bounds; a NaN violates (R164). -/
def floatViolates (d : List Byte) (f : FFmt) (x : Nat) : Bool :=
  let v := f.decode x
  v.isNan || v.lt (f32.decode (ldRangeLo d)) || (f32.decode (ldRangeHi d)).lt v

/-- (−1)^neg × m × 2^e in a format under a rounding mode; a finite overflow saturates (R152). -/
def toFloat (f : FFmt) (rnd x : Nat) (neg : Bool) (m : Nat) (e : Int) : Nat × Bool :=
  let sg := b2n neg * f.signBit
  if m = 0 then (sg, false)
  else
    let up := if rnd = 0 then roundRNE else if rnd = 1 then (fun _ d k => srUp x d k) else roundTZ
    let mag := f.roundMag up m e
    if f.infBits ≤ mag then (sg + (f.infBits - 1), true) else (sg + mag, false)

/-- S of R152: 2^(f/4096) rounded to nearest even with 32 fractional bits. -/
def logFraction (f : Nat) : Nat := (exp2Prod 12 (f * 2 ^ 50) (2 ^ 63) (2 ^ 62) + 2 ^ 29) / 2 ^ 30

/-- The output format of a floating-point OUT_FMT. -/
def outFloat (fmt : Nat) : FFmt := if fmt = oBF16 then bf16 else if fmt = oFP16 then f16 else f32

/-- An element in a floating-point output format. DESIGN CHOICE (log 167): a log zero is written as +0, and the range check sees that +0. -/
def narrowFloat (d : List Byte) (x : Nat) (e : Elem) : Narrow :=
  let f := outFloat (ldOutFmt d)
  let r := match e with
    | .int z => toFloat f (ldRnd d) x (z < 0) z.natAbs (-(ldShift d : Int))
    | .log v => if v.zero then (0, false)
        else toFloat f (ldRnd d) x v.sign (logFraction (v.mag % 4096).toNat) (v.mag / 4096 - 32)
    | .float y => match f32.decode y with
      | .fin neg m ex => toFloat f (ldRnd d) x neg m ex
      | w => (f.encode w, false)
  ⟨r.1, r.2, floatViolates d f r.1⟩

/-- A log value as a log code of the output width (R152); the sign bit of a zero is 0 (log 30). -/
def narrowLog (d : List Byte) (x : Nat) (v : LogV) : Narrow :=
  let w := widthOf (ldOutW d)
  let lo := logLow w
  let z := v.mag - ldScaleOut d * 4096
  let q := z / (2 ^ lo : Nat)
  let dr := (z % (2 ^ lo : Nat)).toNat
  let up := if ldRnd d = 0 then roundRNE (q % 2).toNat dr lo else if ldRnd d = 1 then srUp x dr lo else false
  let code := q + (if up then 1 else 0) + logBias w
  let top : Int := (2 ^ (w - 1) - 1 : Nat)
  if v.zero || code < 1 then ⟨0, false, false⟩
  else
    let c := min code top
    let back := (c - logBias w) * (2 ^ lo : Nat) + ldScaleOut d * 4096
    ⟨b2n v.sign * 2 ^ (w - 1) + c.toNat, top < code, intViolates d back⟩

/-- An element narrowed to the output format of the descriptor (R152). -/
def narrow (d : List Byte) (x : Nat) (e : Elem) : Narrow :=
  if 4 ≤ ldOutFmt d then narrowFloat d x e
  else match e with
    | .int z =>
      let q := divRound (ldRnd d) x z (ldShift d)
      if ldOutFmt d = oACC48 then ⟨ofInt 64 q, false, intViolates d q⟩
      else
        let w := widthOf (ldOutW d)
        let lo : Int := if ldOutSign d then -(2 ^ (w - 1) : Nat) else 0
        let hi : Int := if ldOutSign d then (2 ^ (w - 1) - 1 : Nat) else (2 ^ w - 1 : Nat)
        let v := clampInt lo hi q
        ⟨ofInt (outBits d) v, v != q, intViolates d v⟩
    | .log v => if ldOutFmt d = oLOGACC then ⟨v.code, false, !v.zero && intViolates d v.mag⟩ else narrowLog d x v
    | .float y => ⟨y, false, false⟩

/-- The tile a readout produces: its elements row by row, from the accumulators and, with ACC_IN, the partial tile. -/
def State.tile (s : State) (t : LogTab) (p : Pass) (a : Accs) : List (List Narrow) :=
  let n := ldN p.desc
  (List.range (ldM p.desc)).map (fun r => (List.range n).map (fun c =>
    let e := elemOf (ldMode p.desc) (a.data.getD (r * n + c) 0)
    let e := if ldAccIn p.desc then
        combine t p.desc e (s.load (p.part + r * partialPitch p.desc + c * partialBytes p.desc) (partialBytes p.desc))
      else e
    narrow p.desc (srWord (ldSeed p.desc) p.step p.tile r c) e))

/-- The bytes of one output row: elements lowest first, unused bits 0 (R150). -/
def rowOf (d : List Byte) (row : List Narrow) : List Byte :=
  toLE ((List.range row.length).foldl (fun x c => x + (row.getD c ⟨0, false, false⟩).code * 2 ^ (c * outBits d)) 0) (rowBytes d)

/-! ### Signatures (R380) -/

/-- CRC-64 of the signatures. -/
def crc64 (init : Nat) (bs : List Byte) : Nat := crcMsb 64 0x42F0_E1EB_A9EA_3693 init bs

/-- The ACC_SIG byte stream of a pass. -/
def accBytes (d : List Byte) (a : Accs) : List Byte :=
  a.data.flatMap (fun z => if ldMode d = mINT || ldMode d = mBIN then toLE (ofInt 48 z) 6 else toLE (ofInt 32 z) 4)

/-- ACC_SIG and OUT_SIG of a pass; OUT_SIG only where ACC_IN = 0. -/
def State.signatures (s : State) (t : LogTab) (p : Pass) (a : Accs) : Nat × Nat :=
  (crc64 0 (accBytes p.desc a),
   if ldAccIn p.desc then 0 else crc64 0 ((s.tile t p a).flatMap (rowOf p.desc)))

end Sys2Proof.Machine
end

