-- ==== Sys2Proof/Machine/SeracOps.lean ====
section
/-! DEFINITION. Serac's shared operations (*Silent-Error Screening with Serac*): unit codes and suspect scores, the
actions at the threshold, fencing and migrating a bank, and the choice and release of samples. -/
namespace Sys2Proof.Machine

/-! ### Unit codes (Table 12-4) -/

def uCORE (c : Nat) : Nat := 0x1_0000 + c * 0x1000
def uROW (c l : Nat) : Nat := 0x2_0000 + c * 0x1000 + l
def uCOL (c l : Nat) : Nat := 0x3_0000 + c * 0x1000 + l
def uBANK (c b : Nat) : Nat := 0x4_0000 + c * 0x1000 + b
def uCOMPARATOR : Nat := 0x5_0000
def uSTACK (k : Nat) : Nat := 0x6_0000 + k * 0x1000
def uLANE (p l : Nat) : Nat := 0x7_0000 + p * 0x1000 + l
def unitType (u : Nat) : Nat := u / 0x1_0000
def unitInst (u : Nat) : Nat := u / 0x1000 % 16
def unitIndex (u : Nat) : Nat := u % 0x1000

/-- A unit is fenced, or lies in a core that is (R396). Stacks and lanes have no fence of Serac's (Table 12-6). -/
def State.unitFenced (s : State) (u : Nat) : Bool :=
  if unitType u = 5 then s.compFenced
  else if unitType u = 4 then
    s.coreFenced (unitInst u) || bit (s.rd SPAD.SPAD_FENCED_BANKS (unitInst u)) (unitIndex u)
  else if unitType u = 6 then false
  else if unitType u = 7 then false
  else s.coreFenced (unitInst u)

/-! ### Contexts on a bank (R214, R215) -/

/-- Context x's extent holds logical bank b of core c. -/
def Ctx.holdsBank (x : Ctx) (c b : Nat) : Bool :=
  x.owned && bit x.cfg.affinity c && x.cfg.spadFirst ≤ b && b < x.cfg.spadFirst + x.cfg.spadNb

/-- The owned contexts whose extent holds logical bank b of core c. -/
def State.holders (s : State) (c b : Nat) : List Nat := (s.ctxs.filter (fun e => e.2.holdsBank c b)).map (·.1)

/-- The logical bank that a physical bank of core c serves. -/
def State.logicalOf (s : State) (c b : Nat) : Option Nat :=
  (List.range 64).find? (fun j => s.bankPresent c j && s.rd SPAD.SPAD_BANKMAP_PHYS c j = b)

/-- The free bank of core c that R214 chooses: unmapped banks first, then banks no extent includes. -/
def State.freeBank (s : State) (c : Nat) : Option Nat :=
  let ok := fun b => !bit (s.rd SPAD.SPAD_FENCED_BANKS c) b
  match (List.range 64).find? (fun b => ok b && (s.logicalOf c b).isNone) with
  | some b => some b
  | none => (List.range 64).find? (fun b => ok b && match s.logicalOf c b with
      | some j => (s.holders c j).isEmpty
      | none => false)

/-- Every running command of context x finishes with a status (R215). -/
def State.finishRunning (s : State) (x status : Nat) : State :=
  s.modCtx x (fun c => { c with queues := c.queues.map (fun e => (e.1, { e.2 with cmds := e.2.cmds.map (fun k =>
    match k.phase with
    | .running => { k with phase := .done status 0 s.ftime }
    | _ => k) })) })

/-- Logical bank j of core c becomes absent: its holders lose their commands in flight and a BANK_LOST token of
class CONTEXT is raised for each (R215). -/
def State.loseBank (s : State) (c j : Nat) : State :=
  let hs := s.holders c j
  let s := s.wr SPAD.SPAD_BANKMAP_VALID 0 c j
  s.each hs (fun s x => (s.finishRunning x stBANK_LOST).raiseCtx (pgSPAD c) kBANK_LOST x 0 j)

/-- Start the migration of logical bank j of core c to the free bank of R214, or lose the bank (R215). A migration
already running makes it wait. -/
def State.startMigration (s : State) (c j : Nat) : State :=
  if (s.core c).mig.isSome then s.modCore c (fun k => { k with migQueue := k.migQueue ++ [j] })
  else match s.freeBank c with
    | none => s.loseBank c j
    | some b =>
      let s := match s.logicalOf c b with
        | some j' => s.wr SPAD.SPAD_BANKMAP_VALID 0 c j'
        | none => s
      let s := s.modCore c (fun k => { k with mig := some ⟨j, b⟩ })
      (s.wr SPAD.SPAD_STAT_MIGRATING 1 c).wr SPAD.SPAD_STAT_MIG_BANK j c

/-- Set physical bank b of core c fenced: the FENCE store, IN_SERVICE, the core map (R216). -/
def State.setBankFence (s : State) (c b : Nat) : State :=
  let f := setBit (s.rd SPAD.SPAD_FENCED_BANKS c) b
  let s := (s.wr SPAD.SPAD_FENCED_BANKS f c).wr SPAD.SPAD_STAT_IN_SERVICE (64 - popcount f 64) c
  if s.stage = 6 then s.setLive else s

/-- Serac fences a bank at run time and Chanter migrates it (R402, R214). -/
def State.fenceBank (s : State) (c b score : Nat) : State :=
  if bit (s.rd SPAD.SPAD_FENCED_BANKS c) b then s
  else
    let s := s.setBankFence c b
    let s := s.raise pgSERAC kUNIT_FENCED (uBANK c b) score
    match s.logicalOf c b with
    | some j => s.startMigration c j
    | none => s

/-! ### Samples (R376–R385) -/

/-- Serac abandons the samples that satisfy p; each counts in SKIPPED (R385). -/
def State.abandon (s : State) (p : Sample → Bool) : State :=
  let gone := s.serac.samples.filter p
  let s := s.modSerac (fun r => { r with samples := r.samples.filter (fun x => !p x) })
  s.addSat SERAC.SKIPPED_COUNT gone.length

/-- What a fence of the comparator brings: no further samples, and every waiting one is abandoned (R390). -/
def State.comparatorOff (s : State) : State :=
  (s.abandon (fun _ => true)).raise pgSERAC kSCREEN_DEGRADED 0 0x0001

/-- Serac fences the comparator, with UNIT_FENCED (R404). -/
def State.fenceComparator (s : State) (score : Nat) : State :=
  ((s.wr SERAC.SRC_CTL_COMP_FENCED 1).raise pgSERAC kUNIT_FENCED uCOMPARATOR score).comparatorOff

/-- A core counts as in a test slice: a slice was chosen for it or an explicit test holds it (R416, R423). -/
def State.drained (s : State) (c : Nat) : Bool :=
  let t := s.qtest (c / 4)
  t.phase != .none && (if t.kind = 1 then t.target = c else true)

def State.inSlice (s : State) (c : Nat) : Bool := (s.tcore c).chosen || s.drained c

/-- A core that may host a shadow or third pass (R377, R393). -/
def State.mayHost (s : State) (c : Nat) : Bool :=
  s.live c && s.on SHADOW.SHD_CTL_HOST_EN c && !s.inSlice c && s.rd SERAC.SHARE_Q 0 (c / 4) != 0

/-- The next core of a set in ascending order after `last`, wrapping. -/
def nextAfter (last : Nat) (set : List Nat) : Option Nat :=
  match set.find? (fun c => last < c) with
  | some c => some c
  | none => set.head?

/-- The shadow core for a pass of core `primary`, other than the cores in `not_`: another quadrant's when any
qualifies (R377), with the same active table for LOG (R376). -/
def State.pickHost (s : State) (primary : Nat) (not_ : List Nat) (log : Bool) : Option Nat :=
  let crc := (s.core primary).tableCrc
  let all := (List.range 16).filter (fun c =>
    !not_.contains c && c != primary && s.mayHost c && (!log || (s.core c).tableCrc = crc))
  let far := all.filter (fun c => c / 4 != primary / 4)
  nextAfter s.serac.lastShadow (if far.isEmpty then all else far)

/-- The shadow credit of a quadrant and the cost of a pass, both in 1/1024 of a unit (R392). -/
def State.shadowCredit (s : State) (q : Nat) : Int := SMap.get s.serac.shadowCredit q 0
def passCost (len : Nat) : Int := (len * 256 * 1024 : Nat)

/-- The lowest delay-line entry that no sample and no running Serac pass uses. -/
def State.freeEntry (s : State) : Option Nat :=
  let busy := s.serac.samples.map (·.entry) ++
    s.cores.flatMap (fun e => [e.2.dsa.serac, e.2.exu.serac].filterMap id)
  (List.range 256).find? (fun e => !busy.contains e)

/-- At the end of an eligible pass Serac draws and may select it for shadowing (R376). -/
def State.shadowSelect (s : State) (c : Nat) (p : Pass) (a : Accs) : State :=
  let eligible := ldShadowOk p.desc && s.on SERAC.SRC_CTL_SHADOW_EN && !s.compFenced
  match eligible, s.freeEntry, s.pickHost c [] (ldMode p.desc = mLOG) with
  | true, some e, some h =>
    let hit := s.drawn 256 < s.rd SERAC.SRC_CTL_SPREAD && passCost (ldLength p.desc) ≤ s.shadowCredit (h / 4)
    let s := s.drew
    if !hit then s
    else
      let sig := s.signatures (s.core c).table p a
      let smp : Sample := { entry := e, primary := c, shadow := h, pass := p, len := ldLength p.desc
                            accSig := sig.1, outSig := sig.2, ended := s.ftime }
      (s.modSerac (fun r => { r with samples := r.samples ++ [smp], lastShadow := h })).count SHADOW.SHD_CNT_SAMPLED c
  | _, _, _ => s

/-- A bank of an operand store of core c is held: its pass runs, or a sample still needs it (R194, R379). -/
def State.bankHeld (s : State) (c : Nat) (exact : Bool) (store bank : Nat) : Bool :=
  let u := if exact then (s.core c).exu else (s.core c).dsa
  (match u.running with | some p => p.store = store && p.bank = bank | none => false) ||
  s.serac.samples.any (fun x => x.primary = c && x.pass.exact = exact && x.pass.store = store && x.pass.bank = bank)

/-- HOLD_US in ticks of field time; a value outside 5–200 acts as the nearest bound. -/
def State.holdTicks (s : State) : Nat := max 5 (min 200 (s.rd SERAC.SRC_CTL_HOLD_US)) * 100

/-- The time that a sample has for the start of its shadow pass, or of its third pass, has run out (R378, R381; log 174). -/
def State.holdOver (s : State) (x : Sample) : Bool :=
  (if x.phase = .waitThird then x.compared else x.ended) + s.holdTicks < s.ftime

/-- Sample x waits for the next start on a unit of core c (R378). -/
def State.sampleWaits (s : State) (x : Sample) (c : Nat) (exact : Bool) : Bool :=
  x.pass.exact = exact && !s.holdOver x &&
  ((x.phase = .waitShadow && x.shadow = c) || (x.phase = .waitThird && x.third = some c))

/-- A Serac pass waits for the next start on a unit of core c (R378). -/
def State.seracWaits (s : State) (c : Nat) (exact : Bool) : Bool := s.serac.samples.any (fun x => s.sampleWaits x c exact)

/-! ### Scores (R394–R398) -/

/-- The threshold in force: a value below 4 acts as 4. -/
def State.threshold (s : State) : Nat := max 4 (s.rd SERAC.SRC_CTL_THRESH)

/-- Spare lines of core c in use or asked for, rows or columns. -/
def State.sparesUsed (s : State) (c : Nat) (row : Bool) : Nat :=
  ((List.range 7).filter (fun i => if row then s.on DSA.DSA_ROWMAP_VALID c i else s.on DSA.DSA_COLMAP_VALID c i)).length +
  (s.serac.spares.filter (fun e => e.1 = c && e.2.1 = row)).length

/-- When a fence of a core that waits for its groups takes effect at the latest (R401, step 2). -/
def State.drainBy (s : State) : Nat := s.ftime + max 1 (min 4000 (s.rd SERAC.DRAIN_MS)) * 100000

/-- Mark a fence of core c pending (R401, step 1). -/
def State.requestFence (s : State) (c score : Nat) : State :=
  if bit s.boot.fenceCores c || s.serac.fencing.any (fun e => e.1 = c) then s
  else s.modSerac (fun r => { r with fencing := r.fencing ++
    [(c, s.drainBy, score)] })

/-- The action of Table 12-6 for a unit whose score reached the threshold. -/
def State.actOn (s : State) (u score : Nat) : State :=
  let c := unitInst u
  let l := unitIndex u
  if unitType u = 1 then s.requestFence c score
  else if unitType u = 2 || unitType u = 3 then
    let row := decide (unitType u = 2)
    if s.sparesUsed c row < 7 then s.modSerac (fun r => { r with spares := r.spares ++ [(c, row, l)] })
    else if l < 512 then s.requestFence c score
    else (s.wr SERAC.STAT_CKSUM_OFF (setBit (s.rd SERAC.STAT_CKSUM_OFF) c)).raise pgSERAC kSCREEN_DEGRADED c 0x0002
  else if unitType u = 4 then s.fenceBank c l score
  else if unitType u = 5 then s.fenceComparator score
  else s

/-- The table entry a charge to a unit takes: its own, a free one, or the lowest score's (R394). -/
def State.scoreSlot (s : State) (u : Nat) : Nat :=
  let t := s.serac.scores
  match t.find? (fun e => e.2.unit = u) with
  | some e => e.1
  | none =>
    match (List.range 512).find? (fun i => (SMap.find t i).isNone) with
    | some i => i
    | none => ((bestBy (fun a b => a.2.score < b.2.score || (a.2.score = b.2.score && a.2.charged < b.2.charged)) t).map
        (·.1)).getD 0

/-- Charge a unit (R395), and act where the score reaches the threshold (R398). -/
def State.charge (s : State) (u w : Nat) : State :=
  if s.unitFenced u || w = 0 then s
  else
    let i := s.scoreSlot u
    let old := match SMap.find s.serac.scores i with | some e => if e.unit = u then e.score else 0 | none => 0
    let v := min 255 (old + w)
    let s := s.modSerac (fun r => { r with
      scores := SMap.put r.scores i ⟨u, v, r.charges⟩, charges := r.charges + 1 })
    if s.threshold ≤ v then
      let s := if unitType u = 6 || unitType u = 7 then s
        else s.modSerac (fun r => { r with scores := SMap.drop r.scores i })
      s.actOn u v
    else s

end Sys2Proof.Machine
end

