-- ==== Sys2Proof/Machine/Dsa.lean ====
section
/-! DEFINITION. Passes and the log table: the rows PASS_START to DSA_HOLD_WRITE of the table
(*Digit-Serial Arithmetic and the Layer Descriptor*). -/
namespace Sys2Proof.Machine

def Core.unit (c : Core) (exact : Bool) : MUnit := if exact then c.exu else c.dsa
def Core.setUnit (c : Core) (exact : Bool) (u : MUnit) : Core := if exact then { c with exu := u } else { c with dsa := u }
def State.modUnit (s : State) (c : Nat) (exact : Bool) (f : MUnit → MUnit) : State :=
  s.modCore c (fun k => k.setUnit exact (f (k.unit exact)))
/-- The page of a core's DSA or Exact Unit. -/
def unitPage (c : Nat) (exact : Bool) : Nat := if exact then pgEXU c else pgDSA c

/-- A block takes new work: in service, enabled, not quiesced, not held for test (Table 3-6, R121). -/
def State.takesWork (s : State) (p : Nat) : Bool :=
  (s.rd HDR.STAT_STATE p = stREADY || s.rd HDR.STAT_STATE p = stBUSY) && s.on HDR.CTL_ENABLE p &&
  !s.on HDR.CTL_QUIESCE p && !s.on HDR.CTL_TEST_HOLD p

/-- The unit may start a pass: it runs none, its page takes work, the core is in no slice, and for the DSA neither
HOLD, nor a spare to be mapped, nor a disagreement under recomputation holds it (R171, R372, R399). -/
def State.unitStarts (s : State) (c : Nat) (exact : Bool) : Bool :=
  let u := (s.core c).unit exact
  u.running.isNone && u.serac.isNone && s.takesWork (unitPage c exact) && s.coreIssues c && !bit s.boot.relock c &&
  (exact || (!s.on DSA.DSA_CTL_HOLD c && u.verdict.isEmpty && !s.serac.spares.any (fun e => e.1 = c)))

/-- Pass p may start on its unit of core c: no Serac pass takes this start (R378), and a LOG pass finds LOG at work. -/
def State.passStarts (s : State) (c : Nat) (p : Pass) : Bool :=
  s.unitStarts c p.exact && !s.seracWaits c p.exact && (ldMode p.desc != mLOG || s.takesWork (pgLOG c))

/-- A pass with V = 1 that starts marks its context (R167). -/
def State.markV (s : State) (p : Pass) : State :=
  s.when (ldV p.desc) (fun s => s.modCtx p.ctx (fun c => { c with vmark := true }))

/-- PASS_START (R194, R195): the pending pass starts. -/
def execPassStart (core : Nat) (exact : Bool) (s : State) : Out :=
  .next (match ((s.core core).unit exact).pending with
  | none => s
  | some p =>
    if p.exact = exact && s.passStarts core p && s.ctxIssues p.ctx p.gen then
      (s.modUnit core exact (fun u => { u with pending := none, running := some p })).markV p
    else s)

/-- A pass of a dispatch is finished: its group and dispatch have one fewer, and a group that waits at WAITP for
its last pass goes on (R197). -/
def State.passDone (s : State) (c : Nat) (p : Pass) : State :=
  s.modCore c (fun k =>
    let k := match k.group p.place with
      | some g => if g.disp = p.disp && g.index = p.group then
          k.setGroup p.place { g with passes := g.passes - 1, waitp := g.waitp && 1 < g.passes } else k
      | none => k
    match k.disp p.disp with
    | some d => k.setDisp { d with passes := d.passes - 1 }
    | none => k)

/-- The unit after the last accumulator update of p: the DSA retains the digit streams (R161). -/
def MUnit.ends (u : MUnit) (exact : Bool) (p : Pass) (a : Accs) (d : Streams) : MUnit :=
  { u with running := none, readout := some p, accs := a, retained := if exact then none else some d }

/-- PASS_END (R125, R128): the last accumulator update, once the previous readout has finished. The readout of this
pass begins; Serac may select the pass (R376). `faults` are the errors of failing cells. A pass whose operands meet an uncorrectable
error ends with nothing written (R213). DESIGN CHOICE (log 170): the operands are those of the store at the end of the pass. -/
def execPassEnd (core : Nat) (exact : Bool) (faults : List (Nat × Int)) (s : State) : Out :=
  let u := (s.core core).unit exact
  .next (match u.running, u.readout with
  | some p, none =>
    match s.readOperands p with
    | (s, none) => (s.modUnit core exact (fun u => { u with running := none })).passDone core p
    | (s, some d) =>
    let a := accumulateOf d.ops (s.core core).table p.desc faults
    let s := s.modUnit core exact (fun u => u.ends exact p a d)
    let s := s.wr HDR.BLK_PROG (s.rd HDR.BLK_PROG (unitPage core exact) + ldLength p.desc) (unitPage core exact)
    let s := if exact then s
      else ((s.bump DSA.DSA_PASSES_COUNT core).wr DSA.DSA_STAT_LAST_CYC (ldLength p.desc) core).wr
        DSA.DSA_STAT_LAST_MODE (ldMode p.desc) core
    s.shadowSelect core p a
  | _, _ => s)

/-- Write the rows of a tile; the flag says whether every write took effect (R213, R610). -/
def State.writeRows (s : State) (p : Pass) (rows : List (List Narrow)) : State × Bool :=
  (List.range rows.length).foldl (fun (st : State × Bool) r =>
    if st.2 then (st.1.chargeStack p.ctx (p.out + r * p.pitch) (rowBytes p.desc)).writeMem (p.out + r * p.pitch)
      (rowOf p.desc (rows.getD r [])) else st) (s, true)

/-- Add the elements of a tile atomically into their destinations (R166). -/
def State.addRows (s : State) (p : Pass) (rows : List (List Narrow)) : State × Bool :=
  let n := outBits p.desc / 8
  let f := outFloat (ldOutFmt p.desc)
  (tilePos rows.length (ldN p.desc)).foldl (fun (st : State × Bool) e =>
    if st.2 then
      let o := p.out + e.1 * p.pitch + e.2 * n
      match (st.1.chargeStack p.ctx o n).readMem o n with
      | (s, none) => (s, false)
      | (s, some bs) => s.writeMem o (toLE (f.add (ofLE bs) (((rows.getD e.1 []).getD e.2 ⟨0, false, false⟩).code)) n)
    else st) (s, true)

/-- The rows of the partial tile read without an uncorrectable error. -/
def State.readPartial (s : State) (p : Pass) : State × Bool :=
  if ldAccIn p.desc then
    (List.range (ldM p.desc)).foldl (fun (st : State × Bool) r =>
      if st.2 then
        let a := p.part + r * partialPitch p.desc
        let n := ldN p.desc * partialBytes p.desc
        let v := (st.1.chargeStack p.ctx a n).readMem a n
        (v.1, v.2.isSome)
      else st) (s, true)
  else (s, true)

/-- The tokens and counts of an EXACT pass's events (R155). DESIGN CHOICE (log 165): the events are those of the accumulation steps; the
readout's addition of a partial makes none. -/
def State.exuEvents (s : State) (c : Nat) (p : Pass) (a : Accs) : State :=
  let t : Nat → Tok := fun k =>
    { src := pgEXU c, kind := k, cls := defaultClass k (pgEXU c), ctx := p.ctx, gen := p.gen
      addr := ldLayerId p.desc * 2 ^ 16 }
  let tok := fun (s : State) (k : Nat) => if ldCkExc p.desc then s.raiseTok (t k) else s
  let s := if a.invalid then tok (s.count EXU.EXU_EXC_INVALID c) kEXU_INVALID else s
  if a.overflow then tok (s.count EXU.EXU_EXC_OVERFLOW c) kEXU_OVERFLOW else s

/-- RANGE_CHECK (R164, R165). -/
def State.rangeCheck (s : State) (c : Nat) (p : Pass) (rows : List (List Narrow)) : State :=
  let n := (rows.map (fun r => (r.filter (·.viol)).length)).sum
  let sat := (rows.map (fun r => (r.filter (·.sat)).length)).sum
  if ldCkRange p.desc && (0 < n || (ldSatLimit p.desc < 255 && ldSatLimit p.desc < sat)) then
    s.raiseTok { src := unitPage c p.exact, kind := kRANGE, cls := ldRangeClass p.desc, ctx := p.ctx, gen := p.gen
                 addr := ldLayerId p.desc * 2 ^ 16, detail := min 0xFFFF n }
  else s

/-- CHECKSUM_COMPARE (R158, R372): a disagreement waits for Serac's verdict, after those that wait, with the grounds that the recomputation
over the retained digit streams gives it (R373). -/
def State.checksumCompare (s : State) (c : Nat) (p : Pass) (a : Accs) : State :=
  let on := !p.exact && ldMode p.desc = mINT && ldCkSum p.desc && s.on DSA.DSA_CTL_CKSUM_EN c &&
    !bit (s.rd SERAC.STAT_CKSUM_OFF) c
  let d := disagreements p.desc a (checksumLanes ((s.core c).dsa.retained.getD {}).ops p.desc)
  let bad := on && !(d.1.isEmpty && d.2.1.isEmpty && d.2.2.isNone)
  let s := if p.exact then s else s.wr DSA.DSA_STAT_CHK_FAIL (b2n bad) c
  let v : Disagree := ⟨p.ctx, p.gen, ldLayerId p.desc, d.1, d.2.1, d.2.2⟩
  if bad then s.modUnit c false (fun u => { u with verdict := u.verdict ++ [v] }) else s

/-- READOUT_END (R127, R151–R165): the partial is combined, elements narrowed, the tile written, and the checks
made. A read or write that meets an uncorrectable error ends the readout with nothing further written. -/
def execReadoutEnd (core : Nat) (exact : Bool) (s : State) : Out :=
  let u := (s.core core).unit exact
  .next (match u.readout with
  | none => s
  | some p =>
    let r := s.readPartial p
    let s := r.1
    let rows := if r.2 then s.tile (s.core core).table p u.accs else []
    let w := if !r.2 then (s, false) else if ldWbOp p.desc = 1 then s.addRows p rows else s.writeRows p rows
    let s := w.1
    let s := s.modUnit core exact (fun u => { u with readout := none, accs := {} })
    if !w.2 then s.passDone core p
    else
      let s := if exact then s.exuEvents core p u.accs else s
      let s := s.rangeCheck core p rows
      let s := s.checksumCompare core p u.accs
      s.passDone core p)

/-- The charges of a pass's disagreements (R375, Table 12-2). -/
def disagreeCharges (c : Nat) (d : Disagree) : List (Nat × Nat) :=
  let cols := d.cols.filter (fun e => e.2.2)
  let rows := d.rows.filter (fun e => e.2.2)
  let fc := (cols.head?.map (·.1)).getD 0
  let fr := (rows.head?.map (·.1)).getD 0
  let data :=
    if cols.length = 1 && rows.length = 1 then [(uROW c fr, 4)]
    else if cols.length = 1 && 1 < rows.length then [(uCOL c fc, 8)]
    else if 1 < cols.length && rows.length = 1 then [(uROW c fr, 8)]
    else if 1 < cols.length && 1 < rows.length then [(uCORE c, 4)]
    else if 0 < cols.length then [(uCOL c fc, 4)]
    else if 0 < rows.length then [(uROW c fr, 4)]
    else match d.corner with | some v => if v.2 then [(uCORE c, 2)] else [] | none => []
  let laneCol := d.cols.any (fun e => e.2.1)
  let laneRow := d.rows.any (fun e => e.2.1)
  let laneCor := match d.corner with | some v => v.1 | none => false
  data ++ (if laneCol then [(uROW c 512, 4)] else []) ++ (if laneRow then [(uCOL c 512, 4)] else []) ++
    (if laneCor && !laneCol && !laneRow then [(uROW c 512, 2)] else [])

/-- CHECKSUM_VERDICT (R373–R375): the recomputation of the disagreement found first ends; the DSA raises its tokens, and is released
with the last one. -/
def execChecksumVerdict (core : Nat) (s : State) : Out :=
  .next (match (s.core core).dsa.verdict with
  | [] => s
  | d :: rest =>
    let s := s.modUnit core false (fun u => { u with verdict := rest })
    let src := pgDSA core
    let tok := fun (k first n : Nat) (lane : Bool) => ({ src := src, kind := k, cls := defaultClass k src, chk := lane
                                                         ctx := d.ctx, gen := d.gen, addr := d.layer * 2 ^ 16 + first
                                                         detail := n } : Tok)
    let line := fun (k : Nat) (ls : List (Nat × Bool × Bool)) =>
      match ls with
      | [] => []
      | e :: _ => [tok k e.1 ls.length (ls.all (fun v => !v.2.2))]
    let toks := line kCHECKSUM_COLSUM d.cols ++ line kCHECKSUM_ROWSUM d.rows ++
      (match d.corner with | some v => [tok kCHECKSUM_CORNER 0 1 (!v.2)] | none => [])
    match toks with
    | [] => s
    | t :: ts => (s.raiseTok { t with charges := disagreeCharges core d }).each ts State.raiseTok)

/-! ### The correction table (R141–R146) -/

/-- A unit holds a pass, its readout, or the verdict on one. -/
def MUnit.holds (u : MUnit) : Bool := u.pending.isSome || u.running.isSome || u.readout.isSome || u.serac.isSome || !u.verdict.isEmpty

/-- A pass in LOG mode. -/
def logPass (o : Option Pass) : Bool := match o with | some q => ldMode q.desc = mLOG | none => false

/-- The block of a page of core c holds work. -/
def State.coreWork (s : State) (c p : Nat) : Bool :=
  let k := s.core c
  match (p - 0x100) % 16 with
  | 0 => !k.groups.isEmpty || !k.disps.isEmpty
  | 1 => k.dsa.holds
  | 2 => k.exu.holds
  | 3 => k.logBusy.isSome || logPass k.dsa.running || logPass k.dsa.readout
  | 4 => k.mig.isSome
  | 6 => s.serac.samples.any (fun x => x.shadow = c)
  | 7 => (s.tcore c).chosen
  | _ => false

/-- The block of a page holds work: what it has accepted and not finished. -/
def State.holdsWork (s : State) (p : Nat) : Bool :=
  match coreOfPage p with
  | some c => s.coreWork c p
  | none =>
    if p = pgQENG then s.ctxs.any (fun e => e.2.queues.any (fun q => !q.2.cmds.isEmpty))
    else if p = pgHOSTIF then !s.pci.reads.isEmpty
    else if 0x010 ≤ p && p < 0x014 then s.waiting.any (fun d => (s.ctx d.ctx).cfg.home = p - 0x010)
    else if p = pgFLT then !s.fltIn.isEmpty
    else if p = pgMORAINE then !s.mor.queue.isEmpty
    else if p = pgSERAC then !s.serac.samples.isEmpty || !s.serac.fencing.isEmpty
    else if p = pgFIRN then s.firn.ckpt.isSome || s.firn.restore.isSome || !s.firn.freezes.isEmpty || !s.firn.thaws.isEmpty
    else if p = pgFABRIC then !s.fabric.remotes.isEmpty || !s.fabric.colls.isEmpty || !s.fabric.inbox.isEmpty ||
      !s.fabric.inOrdered.isEmpty || !s.fabric.heldReqs.isEmpty || !s.fabric.stuck.isEmpty
    else if p = pgBARRIER then !s.barrier.cmds.isEmpty
    else if 0x300 ≤ p && p < 0x310 then
      let n := s.port (p - 0x300)
      !n.urgent.isEmpty || !n.ordered.isEmpty || !n.bulk.isEmpty || !n.replay.isEmpty
    else false

/-- QUIESCED of a page: QUIESCE is set and the block holds no work (R121). -/
def State.quiesced (s : State) (p : Nat) : Bool := s.on HDR.CTL_QUIESCE p && !s.holdsWork p

/-- The condition of R142: the DSA and LOG pages of core c read QUIESCED. -/
def State.logFree (s : State) (c : Nat) : Bool := s.quiesced (pgDSA c) && s.quiesced (pgLOG c)

def rNOT_QUIESCED : Nat := 1
def rNOT_MONOTONIC : Nat := 2
def rOUT_OF_RANGE : Nat := 3
def rBUSY : Nat := 0xF

/-- The check of a staged table: 0 where it stands, else the RESULT (R143). -/
def Core.stageCheck (k : Core) : Nat :=
  let minus := fun i => toInt 16 (k.stageMinus i)
  if (List.range 64).any (fun i => 4096 < k.stagePlus i || 0 < minus i) then rOUT_OF_RANGE
  else if (List.range 63).any (fun i => k.stagePlus i < k.stagePlus (i + 1) || minus (i + 1) < minus i) then rNOT_MONOTONIC
  else 0

/-- A write to LOG_CTL: COMMIT, or DEFAULT, which alone acts when both are set (R142–R145). COMMIT copies the staged table it
checked. -/
def State.logCtl (s : State) (c : Nat) (default_ : Bool) : State :=
  let k := s.core c
  if k.logBusy.isSome then s
  else if !s.logFree c then s.wr LOG.LOG_STAT_RESULT rNOT_QUIESCED c
  else if default_ then
    (s.modCore c (fun k => { k with logBusy := some true })).wr LOG.LOG_STAT_RESULT rBUSY c
  else
    let r := k.stageCheck
    if r = 0 then (s.modCore c (fun k => { k with logBusy := some false, logCopyP := k.logStageP, logCopyM := k.logStageM })).wr LOG.LOG_STAT_RESULT rBUSY c
    else s.wr LOG.LOG_STAT_RESULT r c

/-- The offset of LOG_CTL of a core. -/
def offLogCtl (c : Nat) : Nat := pgLOG c * 4096 + 0x40

/-- LOG_COMMIT: a write of 1 to LOG_CTL.COMMIT. -/
def execLogCommit (port : Authority) (core : Nat) (s : State) : Out :=
  .next (s.gated port (offLogCtl core) 4 (fun s => s.logCtl core false))

/-- LOG_DEFAULT: a write of 1 to LOG_CTL.DEFAULT. -/
def execLogDefault (port : Authority) (core : Nat) (s : State) : Out :=
  .next (s.gated port (offLogCtl core) 4 (fun s => s.logCtl core true))

/-- The ROM default table on core c (R145, R146). -/
def State.logRom (s : State) (c : Nat) : State :=
  s.modCore c (fun k => { k with logStageP := [], logStageM := [], logActP := [], logActM := [] })

/-- LOG_COPY_DONE (R144, R145): the copy into every row is complete. -/
def execLogCopyDone (core : Nat) (s : State) : Out :=
  .next (match (s.core core).logBusy with
  | none => s
  | some d =>
    let s := s.modCore core (fun k => { k with logBusy := none })
    let s := if d && s.on LOG.LOG_STAT_IS_DEFAULT core then s else s.epoch
    let s := if d then (s.logRom core).wr LOG.LOG_STAT_IS_DEFAULT 1 core
      else
        let s := s.modCore core (fun k => { k with logActP := k.logCopyP, logActM := k.logCopyM, logCopyP := [], logCopyM := [] })
        (s.bump LOG.LOG_STAT_CT_GEN core).wr LOG.LOG_STAT_IS_DEFAULT 0 core
    s.wr LOG.LOG_STAT_RESULT 0 core)

/-- The offset of DSA_CTL of a core. -/
def offDsaCtl (c : Nat) : Nat := pgDSA c * 4096 + 0x40

/-- A write to CKSUM_EN: a change from 1 to 0 raises CKSUM_DISABLED (Table 4-10). -/
def State.setCksumEn (s : State) (c : Nat) (on : Bool) : State :=
  let was := s.on DSA.DSA_CTL_CKSUM_EN c
  let s := s.wr DSA.DSA_CTL_CKSUM_EN (b2n on) c
  if was && !on then s.raise (pgDSA c) kCKSUM_DISABLED else s

/-- DSA_CKSUM_EN_WRITE (R171). -/
def execDsaCksumEnWrite (port : Authority) (core : Nat) (on : Bool) (s : State) : Out :=
  .next (s.gated port (offDsaCtl core) 4 (fun s =>
    if s.mayWrite port DSA.DSA_CTL_CKSUM_EN then s.setCksumEn core on else s))

/-- DSA_HOLD_WRITE (R171): the DSA finishes its pass and readout and starts none, or is released. -/
def execDsaHoldWrite (port : Authority) (core : Nat) (on : Bool) (s : State) : Out :=
  .next (s.gated port (offDsaCtl core) 4 (fun s =>
    if s.mayWrite port DSA.DSA_CTL_HOLD then s.wr DSA.DSA_CTL_HOLD (b2n on) core else s))

end Sys2Proof.Machine
end

