-- ==== Sys2Proof/Machine/FabricOps.lean ====
section
/-! DEFINITION. The link and fabric operations that more than one command uses: flits and their fields (Tables 9-2,
10-2), routes (R321–R324), ORDERED sessions (R325–R327), the loss of requests (R331), the HOLD state and the
discarding of a replay buffer (R306, R315). -/
namespace Sys2Proof.Machine

/-! ### Flits -/

/-- The CRC-32 of IEEE 802.3 (R299). -/
def crc32 (bs : List Byte) : Nat := Nat.xor (crcLsb 0xEDB8_8320 0xFFFF_FFFF bs) 0xFFFF_FFFF

/-- A 256-byte flit from its header word and its payload bytes 0x08–0xFB. -/
def flitOf (hdr : Nat) (payload : List Byte) : List Byte :=
  let body := toLE hdr 8 ++ (payload ++ zeros 244).take 244
  body ++ toLE (crc32 body) 4

/-- A flit passes its CRC. -/
def flitOk (f : List Byte) : Bool := f.length = 256 && leAt f 0xFC 4 = crc32 (f.take 0xFC)

def flitSeq (f : List Byte) : Nat := bits (leAt f 0 8) 63 48
def flitAck (f : List Byte) : Nat := bits (leAt f 0 8) 47 32
def flitType (f : List Byte) : Nat := bits (leAt f 0 8) 31 28
def flitClass (f : List Byte) : Nat := bits (leAt f 0 8) 27 26
def flitCrClass (f : List Byte) : Nat := bits (leAt f 0 8) 25 24
def flitCrCount (f : List Byte) : Nat := bits (leAt f 0 8) 23 12
def flitPayload (f : List Byte) : List Byte := (f.drop 8).take 244

def tIDLE : Nat := 0
def tDATA : Nat := 1
def tNAK : Nat := 3
def tPROBE : Nat := 4
def tPROBE_REPLY : Nat := 5

def clURGENT : Nat := 0
def clORDERED : Nat := 1
def clBULK : Nat := 2

/-- The fields of a DATA payload (Table 10-2). -/
def DataFlit.dst (f : DataFlit) : Nat := bits (leAt f.data 0 8) 63 52
def DataFlit.src (f : DataFlit) : Nat := bits (leAt f.data 0 8) 51 40
def DataFlit.op (f : DataFlit) : Nat := bits (leAt f.data 0 8) 39 32
def DataFlit.gen (f : DataFlit) : Nat := bits (leAt f.data 0 8) 31 24
def DataFlit.ctx (f : DataFlit) : Nat := bits (leAt f.data 0 8) 23 11
def DataFlit.hops (f : DataFlit) : Nat := bits (leAt f.data 0 8) 10 7
def DataFlit.opens (f : DataFlit) : Bool := bit (leAt f.data 0 8) 6
def DataFlit.addr (f : DataFlit) : Nat := leAt f.data 0x08 8
def DataFlit.tag (f : DataFlit) : Nat := bits (leAt f.data 0x10 8) 63 32
def DataFlit.len (f : DataFlit) : Nat := bits (leAt f.data 0x10 8) 31 24
def DataFlit.status (f : DataFlit) : Nat := bits (leAt f.data 0x10 8) 23 16
def DataFlit.oseq (f : DataFlit) : Nat := bits (leAt f.data 0x10 8) 15 0
def DataFlit.be (f : DataFlit) : Nat := leAt f.data 0x18 8
def DataFlit.session (f : DataFlit) : Nat := bits (leAt f.data 0x20 8) 63 48
def DataFlit.snonce (f : DataFlit) : Nat := leAt f.data 0x28 8
def DataFlit.aux (f : DataFlit) : Nat := leAt f.data 0x30 4
def DataFlit.body (f : DataFlit) : List Byte := (f.data.drop 0x34).take 192

/-- The class of an OP code, none for a reserved one (Table 10-3); PUT_ACK takes its request's. -/
def opClass (op : Nat) : Option Nat :=
  if [0x01, 0x02, 0x03, 0x12].contains op then some clBULK
  else if [0x04, 0x06, 0x10, 0x13, 0x14, 0x15, 0x16, 0x20, 0x21, 0x22, 0x28].contains op then some clORDERED
  else if op = 0x40 then some clURGENT
  else none

/-- A flit's class is its OP's (R320). -/
def DataFlit.classOk (f : DataFlit) : Bool :=
  if f.op = 0x05 then f.cls = clBULK || f.cls = clORDERED else opClass f.op = some f.cls

/-- The fields a part fills in when it forms a flit. -/
structure FlitFields where
  cls : Nat
  op : Nat
  dst : Nat
  ctx : Nat := 0
  gen : Nat := 0
  addr : Nat := 0
  tag : Nat := 0
  len : Nat := 0
  status : Nat := 0
  be : Nat := 0
  aux : Nat := 0
  body : List Byte := []
  deriving DecidableEq, Repr

/-- The part's own ID. -/
def State.ownPart (s : State) : Nat := s.rd FABRIC.FAB_ID_PART

/-- A DATA flit of this part (Table 10-2). -/
def State.mkFlit (s : State) (h : FlitFields) : DataFlit :=
  { cls := h.cls
    data := toLE (h.dst * 2 ^ 52 + s.ownPart * 2 ^ 40 + h.op * 2 ^ 32 + h.gen * 2 ^ 24 + h.ctx * 2 ^ 11) 8 ++
      toLE h.addr 8 ++ toLE (h.tag * 2 ^ 32 + h.len * 2 ^ 24 + h.status * 2 ^ 16) 8 ++ toLE h.be 8 ++ zeros 8 ++
      toLE s.boot.nonce 8 ++ toLE h.aux 4 ++ (h.body ++ zeros 192).take 192 }

/-- A flit with the 64-bit field at payload offset o changed. -/
def DataFlit.set (f : DataFlit) (o v : Nat) : DataFlit := { f with data := putLE f.data o 8 v }

/-! ### Ports -/

/-- Set a port's state; NL_UP bit p follows it, and the service level with it (R308). -/
def State.setNl (s : State) (p v : Nat) : State :=
  let s := s.wr NL.NL_STAT_STATE v p
  let up := v = nlUP || v = nlRETRAIN
  let m := s.rd CHIP.SVC_LEVEL_NL_UP
  let s := s.wr CHIP.SVC_LEVEL_NL_UP (if up then setBit m p else clearBit m p)
  s.setLevel

/-- A count held in a small map. -/
def countAt (m : List (Nat × Nat)) (k : Nat) : Nat := SMap.get m k 0
def addAt (m : List (Nat × Nat)) (k n : Nat) : List (Nat × Nat) := SMap.put m k (countAt m k + n)

/-- Receive credits each port offers (R309). -/
def offered (cls : Nat) : Nat := if cls = clURGENT then 64 else if cls = clORDERED then 1024 else 3008

/-- Queue a DATA flit on a port by its class. -/
def NlPort.enqueue (n : NlPort) (f : DataFlit) : NlPort :=
  if f.cls = clURGENT then { n with urgent := n.urgent ++ [f] }
  else if f.cls = clORDERED then { n with ordered := n.ordered ++ [f] }
  else { n with bulk := n.bulk ++ [f] }

/-! ### Routes (R321–R324) -/

/-- The paths of the route entry for a destination, lowest first. -/
def State.paths (s : State) (dst : Nat) : List Nat :=
  let e := SMap.get s.fabric.routes dst 0
  (List.range 4).filterMap (fun k => if bit e (16 + k) then some (bits e (4 * k + 3) (4 * k)) else none)

/-- A port is usable: UP or RETRAIN with a routable partner. -/
def State.usable (s : State) (p : Nat) : Bool := s.nlUp p && s.on NL.NL_STAT_P_ROUTABLE p

/-- A port is in HOLD: its retry timer runs, whatever step its new negotiation has reached (R315; log 44). -/
def State.nlHeld (s : State) (p : Nat) : Bool := (s.port p).retryFrom.isSome

/-- A port in HOLD keeps a flit of the same source and destination in its replay buffer (R316). -/
def State.heldPair (s : State) (f : DataFlit) : Bool :=
  (List.range 16).any (fun p => s.nlHeld p &&
    (s.port p).replay.any (fun e => e.2.src = f.src && e.2.dst = f.dst))

/-- Where a flit goes: a port, or it waits for one in HOLD, or nowhere. -/
inductive Hop where
  | port (p : Nat) | wait | lost
  deriving DecidableEq, Repr

/-- The next hop of a flit (R323, R324, R316). Below level F the part sends and forwards none: the flit has no way out (R32; log 179). -/
def State.hop (s : State) (f : DataFlit) : Hop :=
  let ps := s.paths f.dst
  let ok := ps.filter s.usable
  if !s.routable then .lost
  else if f.cls = clORDERED && s.heldPair f then .wait
  else
    let best := if f.cls = clBULK then
        bestBy (fun a b => countAt (s.port b).credit clBULK < countAt (s.port a).credit clBULK) ok
      else ok.head?
    match best with
    | some p => .port p
    | none => if ps.any s.nlHeld then .wait else .lost

/-! ### Losses (R331, R337) -/

/-- The outstanding remote writes of a dispatch, and of one group of it. -/
def State.remoteWrites (s : State) (d : Nat) : Nat := (s.fabric.remotes.filter (fun r => r.disp = d && r.op != 0x01)).length
def State.groupWrites (s : State) (d g : Nat) : Nat :=
  (s.fabric.remotes.filter (fun r => r.disp = d && r.group = g && r.op != 0x01)).length

/-- The next ORDERED flit to a part opens a session (R325). -/
def State.reopen (s : State) (dst : Nat) : State :=
  { s with fabric := { s.fabric with
      tx := s.fabric.tx.map (fun (e : Nat × TxSession) => if e.1 = dst then (e.1, { e.2 with reopen := true }) else e) } }

/-- A remote request completes with PEER_LOST: the token bears the request's generation, and its dispatch ends where that generation is
still the context's (R331, R264). -/
def State.remoteLost (s : State) (r : Remote) : State :=
  let s := { s with fabric := { s.fabric with remotes := s.fabric.remotes.filter (fun e => e.tag != r.tag) } }
  let s := (s.when (r.op = 0x04) (fun s => s.reopen r.dst)).count FABRIC.FAB_CNT_LOST
  let s := s.raiseTok { src := pgFABRIC, kind := kPEER_LOST, cls := defaultClass kPEER_LOST pgFABRIC, ctx := r.ctx, gen := r.gen
                        addr := r.sector % 2 ^ 48, detail := r.dst }
  if (s.ctx r.ctx).gen = r.gen then s.endDispatch r.core r.disp stPEER_LOST 0 else s

/-- The tree neighbours of a member: its parent first, then its children (Mechanism, Collectives). -/
def Coll.parent (c : Coll) : Option Nat := if c.index = 0 then none else some ((c.index - 1) / 4)
def Coll.kids (c : Coll) : List Nat :=
  ((List.range 4).map (fun k => 4 * c.index + 1 + k)).filter (fun i => i < c.members.length)
def Coll.part (c : Coll) (i : Nat) : Nat := c.members.getD i 0

/-- The size of a collective's output (R333). -/
def Coll.outLen (c : Coll) : Nat := if c.op = 2 then c.members.length * c.len else c.len

/-- Copy staging to the destination (COMMIT), and go on where both could be used. -/
def State.collWrite (s : State) (c : Coll) (f : State → State) : State :=
  (s.chargeStack c.ctx c.dst c.outLen).reading c.stage c.outLen (fun s bs => s.writing c.dst bs f)

/-! ### Sending -/

/-- Give an ORDERED flit its session and sequence number, opening a session where R325 says so. -/
def State.sessioned (s : State) (f : DataFlit) : State × DataFlit :=
  let d := f.dst
  let fresh := match SMap.find s.fabric.tx d with | some t => t.reopen | none => true
  let s := if fresh && s.fabric.counter.isNone then
      { s.drew with fabric := { s.fabric with counter := some (s.drawn 0x1_0000) } } else s
  let ctr := if fresh then (s.fabric.counter.getD 0 + 1) % 0x1_0000 else s.fabric.counter.getD 0
  let old := match SMap.find s.fabric.tx d with | some t => t | none => { session := 0 }
  let t : TxSession := if fresh then { session := ctr, unacked := old.unacked } else old
  let f := f.set 0x10 (leAt f.data 0x10 8 + t.next)
  let f := f.set 0x20 (leAt f.data 0x20 8 + t.session * 2 ^ 48)
  let f := if fresh then f.set 0 (leAt f.data 0 8 + 2 ^ 6) else f
  let t := { t with next := (t.next + 1) % 0x1_0000, unacked := t.unacked ++ [(t.next, s.ftime, f)] }
  ({ s with fabric := { s.fabric with tx := SMap.put s.fabric.tx d t
                                      counter := if fresh then some ctr else s.fabric.counter } }, f)

/-- The receiver returns the credit of a flit that came by a port (16 for none) (R309). -/
def State.oweCredit (s : State) (p cls : Nat) : State :=
  if p < 16 then s.modPort p (fun n => { n with owed := addAt n.owed cls 1 }) else s

/-- Put a flit that came by a port on its way; the flag says whether it has one (R323, R324). -/
def State.launch (s : State) (f : DataFlit) (from_ : Nat := 16) : State × Bool :=
  match s.hop f with
  | .port p => ((s.modPort p (fun n => n.enqueue f)).oweCredit from_ f.cls, true)
  | .wait => ({ s with fabric := { s.fabric with stuck := s.fabric.stuck ++ [⟨s.ftime, from_, f⟩] } }, true)
  | .lost => (s.oweCredit from_ f.cls, false)

/-- The tree flits of a collective's abort, to the parent and the children, other than member `not_`. -/
def State.abortFlits (s : State) (c : Coll) (not_ : Option Nat) : List DataFlit :=
  ((match c.parent with | some p => [p] | none => []) ++ c.kids).filterMap (fun i =>
    if some i = not_ then none
    else some (s.mkFlit { cls := clORDERED, op := 0x16, dst := c.part i, ctx := c.ctx, gen := (s.ctx c.ctx).gen
                          be := c.index * 2 ^ 32 + c.cgen }))

/-- A member ends its collective with COLLECTIVE_ABORT (R337), completing its write of DST first where COMMIT had
arrived. -/
def State.collFail (s : State) (c : Coll) : State :=
  let committed := c.phase = .commit || c.phase = .done
  let s := if c.phase = .commit then s.collWrite c id else s
  let s := { s with fabric := { s.fabric with colls := s.fabric.colls.filter (fun e => e.ctx != c.ctx || e.cgen != c.cgen) } }
  let s := s.finish c.ctx c.queue c.ssn stCOLLECTIVE_ABORT (if committed then 2 else 1)
  s.raiseCtx pgFABRIC kCOLL_ABORT c.ctx c.cgen (if committed then 2 else 1)

/-- The outstanding request that a flit of this part carries, and the collective whose flit it is. -/
def State.requestOf (s : State) (f : DataFlit) : Option Remote :=
  s.fabric.remotes.find? (fun e => e.tag = f.tag && [0x01, 0x03, 0x04].contains f.op)
def State.collectiveOf (s : State) (f : DataFlit) : Option Coll :=
  s.fabric.colls.find? (fun c => 0x10 ≤ f.op && f.op < 0x20 && f.op != 0x16 && c.ctx = f.ctx && c.cgen = f.be % 2 ^ 32)

/-- A flit of this part's is lost: its request ends with PEER_LOST, or its collective is aborted, whose own flits `tell` then sends; a
lost ORDERED request opens a new session (R325, R327, R337). -/
def State.ownLostBy (s : State) (f : DataFlit) (tell : State → List DataFlit → State) : State :=
  match s.requestOf f with
  | some e => s.remoteLost e
  | none =>
    match s.collectiveOf f with
    | some c => tell ((s.when (f.cls = clORDERED) (fun s => s.reopen f.dst)).collFail c) (s.abortFlits c none)
    | none => s

/-- The LOST_NOTICE that answers a flit of another part (R327). -/
def State.lostNotice (s : State) (f : DataFlit) : DataFlit :=
  s.mkFlit { cls := clORDERED, op := 0x06, dst := f.src, ctx := f.ctx, tag := f.tag, be := f.be, status := f.op }

/-- Send flits, each ORDERED one in its session. A flit with no way out is discarded: this part's own completes locally, one of another
part is answered (R327). `n` bounds the chain of answers. -/
def State.sendAll (s : State) : Nat → List DataFlit → State
  | 0, _ => s
  | n + 1, fs => s.each fs (fun s f =>
    let own := f.src = s.ownPart
    let r := if own && f.cls = clORDERED && f.op != 0x28 && f.session = 0 && !f.opens then s.sessioned f else (s, f)
    let l := r.1.launch r.2
    if l.2 then l.1
    else
      let s := l.1.count FABRIC.FAB_CNT_DROP
      if own then s.ownLostBy f (fun s fs => s.sendAll n fs) else s.sendAll n [s.lostNotice f])

/-- Send flits. -/
def State.send (s : State) (fs : List DataFlit) : State := s.sendAll 4 fs

/-- A flit of this part's that is lost: its request or its collective ends. -/
def State.ownLost (s : State) (f : DataFlit) : State := s.ownLostBy f State.send

/-- Answer a flit that this part holds and cannot forward (R327, R306). -/
def State.answerLost (s : State) (f : DataFlit) : State :=
  if f.src = s.ownPart then s.ownLost f else s.send [s.lostNotice f]

/-- Discard a flit under R321 or R324, and answer it. -/
def State.discard (s : State) (f : DataFlit) : State := (s.count FABRIC.FAB_CNT_DROP).answerLost f

/-- Flits that waited for a path are tried again when a port's state changes. -/
def State.retryStuck (s : State) : State :=
  let fs := s.fabric.stuck
  let s := { s with fabric := { s.fabric with stuck := [] } }
  s.each fs (fun s e =>
    match s.hop e.flit with
    | .port p => (s.modPort p (fun n => n.enqueue e.flit)).oweCredit e.port e.flit.cls
    | .wait => { s with fabric := { s.fabric with stuck := s.fabric.stuck ++ [e] } }
    | .lost => (s.oweCredit e.port e.flit.cls).discard e.flit)

/-! ### HOLD and loss of a link -/

/-- A port at work loses its link, or its negotiation: HOLD, the retry timer, LINK_HOLD; it negotiates again from DETECT (R315). A retry
timer that runs goes on (log 177). -/
def State.enterHold (s : State) (p : Nat) : State :=
  if s.nlState p = nlOFF || s.nlState p = nlHOLD then s
  else
    let up := s.nlUp p
    let s := s.setNl p nlHOLD
    let s := s.wr NL.NL_DELAY_VALID 0 p
    let s := s.modPort p (fun n => { n with
      retryFrom := some (n.retryFrom.getD s.ftime), resumable := n.resumable || up, again := [], failed := 0, identSent := false
      identDue := false, keptIdent := none, keptCredit := none, retries := 0, outcome := 0, widthOwed := 0, probes := [] })
    s.raise (pgNL p) kLINK_HOLD 0 (s.rd NL.NL_STAT_P_PART p)

/-- The new-link steps of R306: the replay buffer is discarded, its requests end with PEER_LOST, and the route
generation advances. -/
def State.newLink (s : State) (p : Nat) : State :=
  let fs := (s.port p).replay
  let s := s.modPort p (fun n => { n with replay := [], again := [], seqTx := 0, rxNext := 0, resumable := false
                                          retryFrom := none, retries := 0, owed := [] })
  let s := s.each fs (fun s e => if [0x01, 0x03, 0x04].contains e.2.op || (0x10 ≤ e.2.op && e.2.op < 0x28)
    then s.answerLost e.2 else s)
  (s.bump FABRIC.ROUTE_GEN_GEN).retryStuck

/-- PEER_CTX holds a context (R329, R334). -/
def State.peerCtx (s : State) (x : Nat) : Bool :=
  s.rd FABRIC.PEER_CTX_BASE ≤ x && x < s.rd FABRIC.PEER_CTX_BASE + s.rd FABRIC.PEER_CTX_COUNT

end Sys2Proof.Machine
end

