-- ==== Sys2Proof/Machine/NlLinks.lean ====
section
/-! DEFINITION. Neleraelm ports (*Neleraelm Links and Negotiation*): negotiation, identity, credits and replay, lanes
and width, HOLD, and the delay probes. -/
namespace Sys2Proof.Machine

/-! ### Modes (R302) -/

/-- The lowest w lanes set in a mask. -/
def lowestLanes (mask w : Nat) : Nat :=
  (List.range 4).foldl (fun m l => if bit mask l && popcount m 4 < w then setBit m l else m) 0

/-- The mode of R302 for common rates and lanes: the rate code and the width. -/
def bestMode (rates lanes : Nat) : Option (Nat × Nat) :=
  let all := (List.range 3).flatMap (fun r => [4, 2, 1].map (fun w => (r, w)))
  bestBy (fun a b => decide (2 ^ b.1 * b.2 < 2 ^ a.1 * a.2 ∨ (2 ^ a.1 * a.2 = 2 ^ b.1 * b.2 ∧ b.1 < a.1)))
    (all.filter (fun m => bit rates m.1 && m.2 ≤ popcount lanes 4))

/-- NL_STAT.WIDTH of a width. -/
def widthCode (w : Nat) : Nat := if w = 4 then 3 else w

/-- The lanes a port can use: enabled at the last negotiation, not fenced then or since, with signal, not left out of it (Table 9-3, R303,
R314, R319). -/
def State.usableLanes (s : State) (p : Nat) : Nat :=
  let n := s.port p
  (List.range 4).foldl (fun m l =>
    if bit n.cfg.lanes l && !bit n.fenced l && bit n.signal l && !bit n.failed l then setBit m l else m) 0

/-- NL_CFG as a negotiation takes it (R319). -/
def State.nlCfg (s : State) (p : Nat) : NlCfg :=
  { rates := s.rd NL.NL_CFG_RATES p, lanes := s.rd NL.NL_CFG_LANE_EN p, fec53 := s.rd NL.NL_CFG_FEC53 p
    retryMs := s.rd NL.NL_CFG_RETRY_MS p, ackUs := s.rd NL.NL_CFG_ACK_US p, replayMax := s.rd NL.NL_CFG_REPLAY_MAX p }

/-- The retry timer of a port in ticks of field time. -/
def NlPort.retryTicks (n : NlPort) : Nat := max 1 n.cfg.retryMs * 100_000

/-! ### Control records (R300, Table 9-3) -/

def recCAP (rates lanes fec : Nat) : List Byte := [0x01#8, BitVec.ofNat 8 (rates + lanes * 8 + fec * 128)]
def recWIDTH (mask : Nat) : List Byte := [0x04#8, BitVec.ofNat 8 mask]
def recCREDIT : List Byte := 0x03#8 :: (toLE (offered clURGENT) 2 ++ toLE (offered clORDERED) 2 ++ toLE (offered clBULK) 2)

/-- This port's IDENT record. -/
def State.recIDENT (s : State) (p : Nat) : List Byte :=
  let n := s.port p
  0x02#8 :: (toLE s.sec.serial 8 ++ toLE s.boot.nonce 8 ++ toLE (s.rd NL.NL_FIELD_FIELD_TAG p) 4 ++
    toLE (s.ownPart + p * 0x1000) 2 ++ toLE (b2n s.routable + 2 * b2n (n.resumable && n.retryFrom.isSome)) 1 ++
    toLE n.rxNext 2)

/-- The payload of a good CTRL flit of a subtype. -/
def ctrlOf (f : Flit) (sub : Nat) : Option (List Byte) :=
  if flitOk f.bytes && flitType f.bytes = tCTRL && leAt f.bytes 8 1 = sub then some (flitPayload f.bytes) else none

/-! ### Negotiation (Table 9-4) -/

/-- A port takes part in negotiation: SERVICE, its transmitters calibrated, enabled, some rate allowed (R301, R61). -/
def State.nlEnabled (s : State) (p : Nat) : Bool :=
  s.inService && s.boot.fltUp && s.pins.nlDriven && p < 16 && s.on NL.NL_CFG_ENABLE p && s.rd NL.NL_CFG_RATES p != 0

/-- Step 2: the CAP record goes out. -/
def State.negotiate (s : State) (p : Nat) : State :=
  let n := s.port p
  (s.setNl p nlNEGOTIATE).sendCtrl p tCTRL (recCAP n.cfg.rates (s.usableLanes p) n.cfg.fec53)

/-- Step 1 with signal on some lanes: negotiation begins, with NL_CFG and the fenced lanes as they stand (R314, R319). -/
def State.beginNeg (s : State) (p lanes : Nat) : State :=
  (s.modPort p (fun n => { n with
    cfg := s.nlCfg p, fenced := s.rd NL.NL_LANE_FENCED p, signal := lanes % 16, failed := 0, ctrl := [], identSent := false
    identDue := false, keptIdent := none, keptCredit := none, outcome := 0, probes := [], widthOwed := 0 })).negotiate p

/-- NL_DETECT: signal on the lanes of a mask. -/
def execNlDetect (port lanes : Nat) (s : State) : Out :=
  .next (if s.nlEnabled port && lanes % 16 != 0 && [nlOFF, nlDETECT, nlHOLD].contains (s.nlState port)
    then s.beginNeg port lanes else s)

/-- NEG_FAIL at most once per 60 s, and FAILED (R302, R304). -/
def State.negFail (s : State) (p : Nat) : State :=
  let s := s.setNl p nlFAILED
  let quiet := match (s.port p).negFailAt with | some t => decide (s.ftime < t + 6_000_000_000) | none => false
  if quiet then s else (s.raise (pgNL p) kNEG_FAIL).modPort p (fun n => { n with negFailAt := some s.ftime })

/-- NL_CAP_RECEIVE: the mode both ends choose, or FAILED. -/
def execNlCapReceive (port : Nat) (flit : Flit) (s : State) : Out :=
  .next (match ctrlOf flit 0x01, decide (s.nlState port = nlNEGOTIATE) with
  | some d, true =>
    let c := leAt d 1 1
    let lanes := Nat.land (s.usableLanes port) (bits c 6 3)
    let cfg := (s.port port).cfg
    match bestMode (Nat.land cfg.rates (bits c 2 0)) lanes with
    | none => s.negFail port
    | some m =>
      let s := s.modPort port (fun n => { n with partnerLanes := bits c 6 3 })
      let s := (s.wr NL.NL_STAT_RATE m.1 port).wr NL.NL_STAT_WIDTH (widthCode m.2) port
      let s := s.wr NL.NL_STAT_LANES_USED (lowestLanes lanes m.2) port
      let s := s.wr NL.NL_STAT_FEC_ON (b2n (0 < m.1 || bit c 7 || cfg.fec53 = 1)) port
      s.setNl port nlTRAIN
  | _, _ => s)

/-- Fence a lane: its bit and LANE_FENCED (R312, R303). -/
def State.fenceLane (s : State) (p l : Nat) : State :=
  ((s.wr NL.NL_LANE_FENCED (setBit (s.rd NL.NL_LANE_FENCED p) l) p).modPort p (fun n => { n with fenced := setBit n.fenced l })).raise
    (pgNL p) kLANE_FENCED 0 l

/-- Sixteen delay probes become due (R317). -/
def State.startProbes (s : State) (p : Nat) : State :=
  let s := s.modPort p (fun n => { n with probes := [] })
  s.each (List.range 16) (fun s k => s.sendCtrl p tPROBE (toLE k 1))

/-- The new-link steps before the retry timer, where a port in HOLD was last UP with another serial (R306). -/
def State.otherSerial (s : State) (p serial : Nat) : State :=
  let n := s.port p
  if n.retryFrom.isSome && (n.recorded.map (fun r => r.1 != serial)).getD false then s.newLink p else s

/-- The partner's IDENT at step 4: the first matching row of Table 9-5. -/
def State.identArrives (s : State) (p : Nat) (d : List Byte) : State :=
  let n := s.port p
  let serial := leAt d 1 8
  let nonce := leAt d 9 8
  let tag := leAt d 0x11 4
  let part := leAt d 0x15 2 % 0x1000
  let s := (s.wr NL.NL_PSERIAL_SERIAL serial p).wr NL.NL_PNONCE_NONCE nonce p
  let s := (s.wr NL.NL_PFIELD_FIELD_TAG tag p).wr NL.NL_STAT_P_PART part p
  let s := (s.wr NL.NL_STAT_P_PORT (leAt d 0x15 2 / 0x1000) p).wr NL.NL_STAT_P_ROUTABLE (leAt d 0x17 1) p
  let mine := n.resumable && n.retryFrom.isSome
  if serial = s.sec.serial && nonce = s.boot.nonce then
    (((s.otherSerial p serial).setNl p nlLOOPBACK).raise (pgNL p) kLOOPBACK).startProbes p
  else if tag != s.rd NL.NL_FIELD_FIELD_TAG p then
    ((s.otherSerial p serial).setNl p nlFOREIGN).raise (pgNL p) kPARTNER_FOREIGN tag part
  else if n.recorded = some (serial, nonce) && mine && bit (leAt d 0x17 1) 1 then
    ((s.modPort p (fun n => { n with outcome := 1, resumeFrom := leAt d 0x18 2 })).raise (pgNL p) kLINK_RESUMED 0 part).startProbes p
  else
    (((s.newLink p).modPort p (fun n => { n with outcome := 2 })).raise (pgNL p) kPARTNER_NEW 0 part).startProbes p

/-- Step 4: IDENT goes out, or waits for FAB_ID (R348); the partner's may have come already. -/
def State.identify (s : State) (p : Nat) : State :=
  let s := s.setNl p nlIDENTIFY
  if s.on FABRIC.FAB_ID_VALID then
    let kept := (s.port p).keptIdent
    let s := (s.sendCtrl p tCTRL (s.recIDENT p)).modPort p (fun n => { n with identSent := true, identDue := false, keptIdent := none })
    match kept with
    | some d => s.identArrives p d
    | none => s
  else s.modPort p (fun n => { n with identDue := true })

/-- NL_TRAIN_DONE: the lanes of a mask have trained. Others leave the mask; one left out of three consecutive
negotiations is fenced (R303). -/
def execNlTrainDone (port lanes : Nat) (s : State) : Out :=
  .next (if s.nlState port != nlTRAIN then s
  else
    let used := s.rd NL.NL_STAT_LANES_USED port
    let bad := (List.range 4).filter (fun l => bit used l && !bit lanes l)
    let good := (List.range 4).filter (fun l => bit used l && bit lanes l)
    let s := s.modPort port (fun n => { n with
      failed := bad.foldl setBit n.failed
      leftOut := good.foldl (fun m l => SMap.drop m l) (bad.foldl (fun m l => addAt m l 1) n.leftOut) })
    if bad.isEmpty then (s.wr NL.NL_LANE_LOCKED used port).identify port
    else
      let s := s.each (bad.filter (fun l => 3 ≤ countAt (s.port port).leftOut l)) (fun s l =>
        (s.fenceLane port l).modPort port (fun n => { n with leftOut := SMap.drop n.leftOut l }))
      s.negotiate port)

/-- NL_IDENT_RECEIVE: one that comes before this port has sent its own is kept until then (R301, R348). -/
def execNlIdentReceive (port : Nat) (flit : Flit) (s : State) : Out :=
  let st := s.nlState port
  .next (match ctrlOf flit 0x02 with
  | none => s
  | some d =>
    if st = nlIDENTIFY && (s.port port).identSent then (if (s.port port).outcome = 0 then s.identArrives port d else s)
    else if st = nlNEGOTIATE || st = nlTRAIN || st = nlIDENTIFY then s.modPort port (fun n => { n with keptIdent := some d })
    else s)

/-- The mean of the delay samples with the eight smallest round trips (R317). -/
def delayMean (samples : List (Int × Nat × Int)) : Int :=
  let best := (samples.foldl (fun (l : List Int) e => insertInt e.1 l) []).take 8
  (best.foldl (· + ·) 0) / 2 / 8
where
  insertInt (x : Int) : List Int → List Int
    | [] => [x]
    | y :: r => if x ≤ y then x :: y :: r else y :: insertInt x r

/-- The barrier's parent port (R340). -/
def State.isParentPort (s : State) (p : Nat) : Bool :=
  !s.on BARRIER.BAR_TREE_IS_ROOT && s.rd BARRIER.BAR_TREE_PARENT = p

/-- The probe round of the parent port gives the rate ratio (R340). -/
def State.rateRound (s : State) (own : Nat) (parent : Int) : State :=
  let at_ := (own, parent.toNat)
  match s.barrier.ratePrev with
  | none => { s with barrier := { s.barrier with ratePrev := some at_ } }
  | some r =>
    { s with barrier := { s.barrier with ratePrev := some at_, rate := some (own - r.1, parent.toNat - r.2) } }.wr
      BARRIER.BAR_STAT_RATE_VALID 1

/-- A sequence number a lies before b, in serial arithmetic on 16 bits. -/
def before16 (a b : Nat) : Bool :=
  let d := (b + 0x1_0000 - a % 0x1_0000) % 0x1_0000
  1 ≤ d && d < 0x8000

/-- Step 6 of Table 9-4: the partner's credits are in and the port is UP. -/
def State.linkUp (s : State) (p : Nat) (d : List Byte) : State :=
  let n := s.port p
  let keep := if n.outcome = 1 then n.replay.filter (fun e => !before16 e.1 n.resumeFrom) else []
  let s := s.modPort p (fun n => { n with
    credit := [(clURGENT, leAt d 1 2), (clORDERED, leAt d 3 2), (clBULK, leAt d 5 2)]
    recorded := some (s.rd NL.NL_PSERIAL_SERIAL p, s.rd NL.NL_PNONCE_NONCE p), keptCredit := none
    resumable := true, retryFrom := none, retries := 0, replay := keep, again := keep, ackAt := s.ftime, outcome := 0 })
  let s := s.wr NL.NL_STAT_RESUMED (b2n (n.outcome = 1)) p
  let s := if s.isParentPort p then
      { s with barrier := { s.barrier with ratePrev := none, rate := none } }.wr BARRIER.BAR_STAT_RATE_VALID 0
    else s
  (s.setNl p nlUP).retryStuck

/-- NL_PROBES_DONE: sixteen replies are in; NL_DELAY becomes valid, and at step 5 CREDIT_INIT goes out; the partner's may have come
already. -/
def execNlProbesDone (port : Nat) (s : State) : Out :=
  let n := s.port port
  .next (if n.probes.length < 16 then s
  else
    let s := (s.wr NL.NL_DELAY_ONE_WAY (delayMean n.probes).toNat port).wr NL.NL_DELAY_VALID 1 port
    let s := if s.isParentPort port then
        match n.probes.getLast? with
        | some e => s.rateRound e.2.1 e.2.2
        | none => s
      else s
    let s := s.modPort port (fun n => { n with probes := [] })
    if s.nlState port = nlIDENTIFY then
      let s := s.sendCtrl port tCTRL recCREDIT
      match n.keptCredit, n.outcome with
      | some d, _ + 1 => s.linkUp port d
      | _, _ => s
    else s)

/-- NL_CREDIT_INIT: the partner's credits; those that come before this port's own delay is measured are kept until then. -/
def execNlCreditInit (port : Nat) (flit : Flit) (s : State) : Out :=
  let st := s.nlState port
  .next (match ctrlOf flit 0x03 with
  | none => s
  | some d =>
    if st = nlIDENTIFY && (s.port port).outcome != 0 && s.on NL.NL_DELAY_VALID port then s.linkUp port d
    else if st = nlTRAIN || st = nlIDENTIFY then s.modPort port (fun n => { n with keptCredit := some d })
    else s)

/-- NL_FAILED_RETRY (R304). -/
def execNlFailedRetry (port lanes : Nat) (s : State) : Out :=
  .next (if s.nlEnabled port && lanes % 16 != 0 && s.nlState port = nlFAILED then s.beginNeg port lanes else s)

/-- NL_FOREIGN_RETRY (R305). -/
def execNlForeignRetry (port lanes : Nat) (s : State) : Out :=
  .next (if s.nlEnabled port && lanes % 16 != 0 && s.nlState port = nlFOREIGN then s.beginNeg port lanes else s)

/-! ### Flits in and out -/

/-- What ACK and the returned credits of an arriving flit do (Table 9-2, R309, R311). -/
def State.linkHeader (s : State) (p : Nat) (f : List Byte) : State :=
  s.modPort p (fun n =>
    let left := n.replay.filter (fun e => !before16 e.1 (flitAck f))
    { n with replay := left, again := n.again.filter (fun e => !before16 e.1 (flitAck f))
             ackAt := if left.length < n.replay.length then s.ftime else n.ackAt
             retries := if left.length < n.replay.length then 0 else n.retries
             credit := addAt n.credit (flitCrClass f) (flitCrCount f) })

/-- A DATA flit that is this part's to forward (R321). -/
def State.forward (s : State) (p : Nat) (f : DataFlit) : State :=
  if 15 ≤ f.hops + 1 then
    ((s.oweCredit p f.cls).raise pgFABRIC kHOP_LIMIT 0 f.dst).discard f
  else
    let g := f.set 0 (setBits (leAt f.data 0 8) 10 7 (f.hops + 1))
    let r := s.launch g p
    if r.2 then r.1 else r.1.discard g

/-- A flit that comes to its destination has the class of its OP, and a PUT_ACK that of its request (R320). -/
def State.classFits (s : State) (f : DataFlit) : Bool :=
  f.classOk && (f.op != 0x05 || f.dst != s.ownPart ||
    (match s.fabric.remotes.find? (fun e => e.tag = f.tag && e.dst = f.src) with
    | some r => opClass r.op = some f.cls
    | none => true))

/-- A good DATA flit in sequence: consumed, forwarded, or discarded for its class (R320, R321). -/
def State.acceptFlit (s : State) (p : Nat) (f : DataFlit) : State :=
  if !s.classFits f then
    (((s.oweCredit p f.cls).count FABRIC.FAB_CNT_DROP).raise pgFABRIC kFLIT_BAD 0 p)
  else if f.dst != s.ownPart then s.forward p f
  else if f.cls = clORDERED && f.op != 0x28 then
    { s with fabric := { s.fabric with inOrdered := s.fabric.inOrdered ++ [(p, f)] } }
  else { s with fabric := { s.fabric with inbox := s.fabric.inbox ++ [(p, f)] } }

/-- DATA_FLIT_RECEIVE (R299, R309): checked by CRC and sequence; otherwise a NAK becomes due. An IDLE flit brings its header alone. While a chip reset is being
prepared no new DATA flit is accepted (Table 14-7). -/
def execDataFlitReceive (port : Nat) (flit : Flit) (s : State) : Out :=
  .next (if !s.nlUp port then s
  else if !flitOk flit.bytes then s.sendCtrl port tNAK []
  else if flitType flit.bytes != tDATA then (if flitType flit.bytes = tIDLE then s.linkHeader port flit.bytes else s)
  else
    let s := s.linkHeader port flit.bytes
    if s.ladder.chip.isSome then s
    else if flitSeq flit.bytes != (s.port port).rxNext then s.sendCtrl port tNAK []
    else
      let s := s.modPort port (fun n => { n with rxNext := (n.rxNext + 1) % 0x1_0000 })
      s.acceptFlit port { cls := flitClass flit.bytes, data := flitPayload flit.bytes })

/-- The header word of a flit. -/
def linkWord (seq ack type cls crClass crCount : Nat) : Nat :=
  seq * 2 ^ 48 + ack * 2 ^ 32 + type * 2 ^ 28 + cls * 2 ^ 26 + crClass * 2 ^ 24 + crCount * 2 ^ 12

/-- Send one flit: ACK goes with it, and on a port that is UP the owed credits of one class. -/
def State.emitFlit (s : State) (p seq type cls : Nat) (payload : List Byte) : State :=
  let n := s.port p
  let c := ((List.range 3).find? (fun k => 0 < countAt n.owed k)).getD 0
  let k := if s.nlUp p then min 4095 (countAt n.owed c) else 0
  (s.modPort p (fun n => { n with owed := SMap.put n.owed c (countAt n.owed c - k) })).emit
    (.flit p (flitOf (linkWord seq n.rxNext type cls c k) payload))

/-- Send a new DATA flit: it takes a sequence number, a credit and a place in the replay buffer. -/
def State.emitData (s : State) (p : Nat) (f : DataFlit) : State :=
  let n := s.port p
  (s.emitFlit p n.seqTx tDATA f.cls f.data).modPort p (fun n => { n with
    seqTx := (n.seqTx + 1) % 0x1_0000, replay := n.replay ++ [(n.seqTx, f)], ackAt := if n.replay.isEmpty then s.ftime else n.ackAt
    credit := SMap.put n.credit f.cls (countAt n.credit f.cls - 1) })

/-- The next new DATA flit by class: URGENT, then ORDERED and BULK alternately (R310). -/
def State.emitNext (s : State) (p : Nat) : State :=
  let n := s.port p
  let can := fun c => decide (0 < countAt n.credit c) && n.replay.length < 4096
  let urgent := fun (s : State) => match n.urgent with
    | f :: r => (s.modPort p (fun n => { n with urgent := r })).emitData p f
    | [] => s
  let ordered := fun (s : State) => match n.ordered with
    | f :: r => (s.modPort p (fun n => { n with ordered := r, bulkTurn := true })).emitData p f
    | [] => s
  let bulk := fun (s : State) => match n.bulk with
    | f :: r => (s.modPort p (fun n => { n with bulk := r, bulkTurn := false })).emitData p f
    | [] => s
  let o := !n.ordered.isEmpty && can clORDERED
  let b := !n.bulk.isEmpty && can clBULK
  if !n.urgent.isEmpty && can clURGENT then urgent s
  else if o && (!b || !n.bulkTurn) then ordered s
  else if b then bulk s
  else s.emitFlit p n.seqTx tIDLE 0 []

/-- A retransmission from the partner's ACK, or HOLD after REPLAY_MAX of them without progress; with nothing unacknowledged there is none
(R311). -/
def State.retransmit (s : State) (p : Nat) : State :=
  let n := s.port p
  if n.replay.isEmpty then s
  else if max 1 n.cfg.replayMax ≤ n.retries then s.enterHold p
  else
    ((s.modPort p (fun n => { n with again := n.replay, ackAt := s.ftime, retries := n.retries + 1 })).count NL.NL_CNT_REPLAY p).raise
      (pgNL p) kREPLAY 0 1

/-- A replay buffer full of unacknowledged flits, none of which waits to go out again, is retransmitted (R311). -/
def State.fullReplay (s : State) (p : Nat) : State :=
  let n := s.port p
  if n.again.isEmpty && 4096 ≤ n.replay.length then s.retransmit p else s

/-- The next flit of a port that is UP: a replayed one, or the next by class. Below level F it is an IDLE one (R32). -/
def State.emitUp (s : State) (p : Nat) : State :=
  let n := s.port p
  if s.nlState p != nlUP then s
  else if !s.routable then s.emitFlit p n.seqTx tIDLE 0 []
  else match n.again with
    | (q, f) :: r => (s.modPort p (fun n => { n with again := r })).emitFlit p q tDATA f.cls f.data
    | [] => s.emitNext p

/-- FLIT_TRANSMIT (R310): a control flit that is due, a replayed flit, or the next by class. Before UP and in
LOOPBACK only control flits and probes go out. -/
def execFlitTransmit (port : Nat) (s : State) : Out :=
  let n := s.port port
  .next (match n.ctrl with
  | (t, d) :: r =>
    if s.nlState port = nlOFF || s.nlState port = nlFAILED then s
    else (s.modPort port (fun n => { n with ctrl := r })).emitFlit port n.seqTx t 0 d
  | [] => if s.nlState port = nlUP && s.routable then (s.fullReplay port).emitUp port else s.emitUp port)

/-- NAK_RECEIVE. -/
def execNakReceive (port : Nat) (flit : Flit) (s : State) : Out :=
  .next (if s.nlUp port && flitOk flit.bytes && flitType flit.bytes = tNAK then
    ((s.linkHeader port flit.bytes).count NL.NL_CNT_NAK port).retransmit port else s)

/-- ACK_TIMEOUT: no ACK progress for ACK_US while flits are unacknowledged. -/
def execAckTimeout (port : Nat) (s : State) : Out :=
  let n := s.port port
  .next (if s.nlUp port && n.ackAt + max 1 n.cfg.ackUs * 100 ≤ s.ftime then s.retransmit port else s)

/-! ### Lanes and width (R312–R314) -/

/-- Apply R302 at the same lane rate to the AND of the two usable masks: RETRAIN, or HOLD without a lane. -/
def State.narrowLink (s : State) (p : Nat) : State :=
  let lanes := Nat.land (s.usableLanes p) (s.port p).partnerLanes
  match bestMode (2 ^ s.rd NL.NL_STAT_RATE p) lanes with
  | none => s.enterHold p
  | some m =>
    let mask := lowestLanes lanes m.2
    let s := (s.wr NL.NL_STAT_WIDTH (widthCode m.2) p).wr NL.NL_STAT_LANES_USED mask p
    (s.setNl p nlRETRAIN).raise (pgNL p) kWIDTH_DEGRADED 0 mask

/-- This port's WIDTH record goes out. -/
def State.sendWidth (s : State) (p : Nat) : State := s.sendCtrl p tCTRL (recWIDTH (s.usableLanes p))

/-- WIDTH_RECEIVE (R313): it answers a record of this port's that still waits for one, or it is answered. -/
def execWidthReceive (port : Nat) (flit : Flit) (s : State) : Out :=
  .next (match ctrlOf flit 0x04, s.nlUp port with
  | some d, true =>
    let owed := (s.port port).widthOwed
    let s := (s.linkHeader port flit.bytes).modPort port (fun n => { n with
      partnerLanes := leAt d 1 1 % 16, widthOwed := owed - 1 })
    (if owed = 0 then s.sendWidth port else s).narrowLink port
  | _, _ => s)

/-- RETRAIN_DONE: UP again at the reduced width, and a delay measurement (R313, R317). -/
def execRetrainDone (port : Nat) (s : State) : Out :=
  .next (if s.nlState port = nlRETRAIN then
    (s.setNl port nlUP).startProbes port else s)

/-- LANE_FENCE (R312): a lane of a port that is UP lost lock twice, or its FEC corrected `corrected` symbols within 1 s. -/
def execLaneFence (port lane corrected : Nat) (s : State) : Out :=
  .next (if !s.nlUp port || 4 ≤ lane || bit (s.rd NL.NL_LANE_FENCED port) lane then s
  else
    let s := (s.addSat NL.NL_FEC_CE_COUNT corrected port lane).fenceLane port lane
    if !bit (s.rd NL.NL_STAT_LANES_USED port) lane then s
    else if s.usableLanes port = 0 then s.enterHold port
    else (s.sendWidth port).modPort port (fun n => { n with widthOwed := n.widthOwed + 1 }))

/-- PMA_LOCK_LOSS on every lane in use (R315). -/
def execPmaLockLoss (port : Nat) (s : State) : Out :=
  .next (if s.nlState port = nlOFF then s
  else (s.wr NL.NL_LANE_LOCKED (Nat.land (s.rd NL.NL_LANE_LOCKED port) (15 - s.rd NL.NL_STAT_LANES_USED port)) port).enterHold port)

/-- FEC_ALIGN_LOSS (R315). -/
def execFecAlignLoss (port : Nat) (s : State) : Out := .next (s.enterHold port)

/-- RETRY_TIMER_EXPIRE (R306): RETRY_MS have passed in HOLD. Once step 4 has counted the partner as the same, the timer has no say any more
(R305; log 177). -/
def execRetryTimerExpire (port : Nat) (s : State) : Out :=
  let n := s.port port
  .next (match n.retryFrom with
  | none => s
  | some t0 =>
    if s.ftime < t0 + n.retryTicks || n.outcome = 1 then s
    else (s.newLink port).raise (pgNL port) kLINK_LOST 0 (s.rd NL.NL_STAT_P_PART port))

/-- The offsets of an NL page. -/
def offNl (p o : Nat) : Nat := pgNL p * 4096 + o

/-- NL_RENEG: a write of 1 to NL_CFG.RENEG (R315). -/
def execNlReneg (port : Authority) (nl : Nat) (s : State) : Out :=
  .next (s.gated port (offNl nl 0x40) 4 (fun s => if s.mayWrite port NL.NL_CFG_RENEG then s.enterHold nl else s))

/-- NL_LANE_UNFENCE: a write of 1 to bits of NL_LANE.FENCED (R314). -/
def execNlLaneUnfence (port : Authority) (nl lanes : Nat) (s : State) : Out :=
  .next (s.gated port (offNl nl 0x68) 4 (fun s => s.writeFields port (offNl nl 0x68) 4 (lanes % 16 * 16)))

/-! ### Route state and probes -/

/-- ROUTE_STATE_RECEIVE (R308). -/
def execRouteStateReceive (port : Nat) (flit : Flit) (s : State) : Out :=
  .next (match ctrlOf flit 0x05, s.nlUp port with
  | some d, true => ((s.linkHeader port flit.bytes).wr NL.NL_STAT_P_ROUTABLE (leAt d 1 1) port).retryStuck
  | _, _ => s)

/-- The header of a probe flit counts where the port is UP (Table 9-2). -/
def State.headerUp (s : State) (p : Nat) (f : List Byte) : State := if s.nlUp p then s.linkHeader p f else s

/-- A moment of field time in units of 78.125 ps: the tick, and a free place within it (log 10). -/
def State.unitTime (s : State) : Nat := s.ftime * 128 + s.drawn 128

/-- PROBE_RECEIVE (R317, R340): the reply carries T2, T3 and the aligned field time at T3 (log 45). -/
def execProbeReceive (port : Nat) (flit : Flit) (t2 t3 : Nat) (s : State) : Out :=
  .next (if flitOk flit.bytes && flitType flit.bytes = tPROBE && s.nlState port != nlOFF then
    (s.headerUp port flit.bytes).drew.sendCtrl port tPROBE_REPLY (toLE t2 8 ++ toLE t3 8 ++
      toLE ((s.unitTime + s.rd BARRIER.FT_OFFSET_OFFSET) % 2 ^ 64) 8)
  else s)

/-- PROBE_REPLY_RECEIVE (R317, R340): one sample, with this port's own stamps T1 and T4. -/
def execProbeReplyReceive (port : Nat) (flit : Flit) (t1 t4 : Nat) (s : State) : Out :=
  .next (if flitOk flit.bytes && flitType flit.bytes = tPROBE_REPLY && (s.port port).probes.length < 16 then
    let s := s.headerUp port flit.bytes
    let d := flitPayload flit.bytes
    let trip : Int := ((t4 : Int) - t1) - ((leAt d 8 8 : Int) - leAt d 0 8)
    let own := s.unitTime
    let aligned : Int := leAt d 0x10 8
    let s := s.drew.modPort port (fun n => { n with probes := n.probes ++ [(trip, own, aligned)] })
    if s.isParentPort port then s.wr BARRIER.FT_OFFSET_OFFSET (ofInt 64 (aligned + trip / 2 - own)) else s
  else s)

/-- NL_PROBE_TIMER: each second while UP (R317). -/
def execNlProbeTimer (port : Nat) (s : State) : Out :=
  .next (if s.nlState port = nlUP then s.startProbes port else s)

end Sys2Proof.Machine
end

