-- ==== Sys2Proof/Machine/ThreadOps.lean ====
section
/-! DEFINITION. The shared forms of the thread instructions (Table 5-4): the frame every instruction goes through
(choice of the group's next issue, opcode, V mark, register runs), the register-to-register form, and the forms
of memory instructions. -/
namespace Sys2Proof.Machine

/-! ### The fetch (R203) -/

/-- The line of core c's instruction cache that holds a 64-byte piece of memory, where the part does not fetch it again (log 171). -/
def State.heldLine (s : State) (c n : Nat) : Option (List Byte) :=
  match SMap.find (s.core c).icache n with
  | some l => if Config.refetches c n (s.rd HDR.BLK_PROG (pgFE c)) then none else some l
  | none => none

/-- The 64-byte line n as core c fetches it for context x: from its cache, or from memory, where an uncorrectable error leaves nothing
(R203, R213, R219). A line from memory counts in the progress of PROG (Table 14-2). -/
def State.fetchLine (s : State) (c x n : Nat) : State × Option (List Byte) :=
  match s.heldLine c n with
  | some l => (s, some l)
  | none =>
    match (s.chargeStack x (n * 64) 64).readMem (n * 64) 64 with
    | (s, some l) => ((s.modCore c (fun k => { k with icache := SMap.put k.icache n l })).bump HDR.BLK_PROG (pgPROG c), some l)
    | (s, none) => (s, none)

/-- The next issue of the group at a place of a core, where the group can issue at all. A group whose remote get
waits for its reply issues nothing. -/
def State.issuePoint (s : State) (c p : Nat) : Option Issue :=
  match (s.core c).group p with
  | none => none
  | some g =>
    match (s.core c).disp g.disp, g.choose with
    | some d, some (pc, starved) =>
      if s.coreIssues c && s.ctxIssues g.ctx g.gen && !g.ksync && !g.waitp && d.fault.isNone &&
          !s.fabric.remotes.any (fun r => r.op = 0x01 && r.disp = g.disp && r.group = g.index) then
        let lanes := g.candidates.filter (fun l => (g.thread l).pc = pc)
        let k := d.kernel
        let inRange := decide (k.progAddr ≤ pc ∧ pc + 8 ≤ k.progAddr + k.progLen)
        let line := if inRange then (s.fetchLine c g.ctx (pc / 64)).2 else none
        some ⟨c, p, pc, leAt (line.getD []) (pc % 64) 8, lanes, starved, inRange, line.isSome, g, d⟩
      else none
    | _, _ => none

/-- The state once the word of an issue has been fetched. -/
def State.fetched (s : State) (i : Issue) : State :=
  if i.inRange then (s.fetchLine i.core i.g.ctx (i.pc / 64)).1 else s

/-- An instruction of a group: it happens when the group's next issue is this opcode. A fetch that meets an uncorrectable error has
that effect alone (R213). A V-marked one is refused in
a kernel with V_ALLOW = 0 (R200); one whose register run passes x63 or whose selector is undefined does not
execute (R612); a V-marked one that executes marks the context (R199). -/
def State.ins (s : State) (c p op : Nat) (v : Bool) (legal : Nat → Bool) (f : Issue → State → State) : State :=
  match s.issuePoint c p with
  | none => s
  | some i =>
    if i.inRange && !i.got then s.fetched i
    else if !(i.inRange && insOp i.word = op) then s
    else
    let s := s.fetched i
    if v && !i.d.kernel.vAllow then s.fault i (pgFE c) kV_DENIED stV_DENIED i.lane i.off i.lane
    else if !legal i.word then s.illegal i
    else f i (if v then s.modCtx i.g.ctx (fun x => { x with vmark := true }) else s)

/-- A register-to-register instruction: each participating lane writes a word to xd. -/
def State.alu (s : State) (c p op : Nat) (legal : Nat → Bool) (f : Group → Nat → Nat → Word) : State :=
  s.ins c p op false legal (fun i s =>
    s.retire i (i.perLane (fun l g => g.setReg l (insXD i.word) (f i.g l i.word))))

/-- An instruction on two registers of a lane. -/
def State.alu2 (s : State) (c p op : Nat) (f : Word → Word → Word) : State :=
  s.alu c p op (fun _ => true) (fun g l w => f (g.reg l (insXA w)) (g.reg l (insXB w)))

/-- An FP instruction waits while an Exact Unit pass runs on its core (R181). -/
def State.fp (s : State) (c p op : Nat) (legal : Nat → Bool) (f : Group → Nat → Nat → Word) : State :=
  if (s.core c).exu.running.isSome || (s.core c).exu.serac.isSome then s else s.alu c p op legal f

/-- An FP instruction on two registers. -/
def State.fp2 (s : State) (c p op : Nat) (f : Nat → Nat → Nat) : State :=
  s.fp c p op (fun _ => true) (fun g l w =>
    BitVec.ofNat 32 (f (g.reg l (insXA w)).toNat (g.reg l (insXB w)).toNat))

/-! ### Memory instructions -/

/-- The local offset of a global address that names this part, where it does (R185). -/
def State.localOf (s : State) (a : Nat) : Option Nat :=
  if a / 2 ^ 52 = s.rd FABRIC.FAB_ID_PART then some (a % 2 ^ 52) else none

/-- How one access of a thread fares before it is made. -/
inductive AddrCheck where
  | ok (off : Nat) | foreign | misaligned | absent
  deriving DecidableEq, Repr

/-- The check of one access: this part, an extent of the context, a present bank, then alignment (R185, R186, R215). -/
def State.checkAddr (s : State) (x a size : Nat) : AddrCheck :=
  match s.localOf a with
  | none => .foreign
  | some o =>
    if !s.inExtent x (o - o % size) size then .foreign
    else if (match localPlace o with | .spad c k => !s.bankPresent c (k / bankSize) | _ => false) then .absent
    else if o % size != 0 then .misaligned
    else .ok o

/-- The accesses of the participating lanes, or the first lane whose access fails. -/
def State.checkLanes (s : State) (i : Issue) (size : Nat) : List (Nat × Nat × AddrCheck) :=
  i.lanes.map (fun l => (l, i.g.addr l i.word, s.checkAddr i.g.ctx (i.g.addr l i.word) size))

/-- The fault of a failed access: ADDR_FAULT or MISALIGNED, or the end of the dispatch with BANK_LOST. -/
def State.accessFault (s : State) (i : Issue) (lane a : Nat) (k : AddrCheck) : State :=
  match k with
  | .foreign => s.fault i (pgFE i.core) kADDR_FAULT stKERNEL_FAULT lane a lane
  | .misaligned => s.fault i (pgFE i.core) kMISALIGNED stKERNEL_FAULT lane a lane
  | .absent => s.endDispatch i.core i.g.disp stBANK_LOST 0
  | .ok _ => s

/-- A list in the order of the draws that stand for an order the spec leaves open (R188, R166; log 10). -/
def orderBy (key : Nat → Nat) : List (Nat × Nat) → List (Nat × Nat)
  | [] => []
  | x :: r => ins x (orderBy key r)
where
  ins (x : Nat × Nat) : List (Nat × Nat) → List (Nat × Nat)
    | [] => [x]
    | y :: r => if key x.1 ≤ key y.1 then x :: y :: r else y :: ins x r

/-- Whether two accesses of an issue fall on one address. -/
def sharesAddr : List (Nat × Nat) → Bool
  | [] => false
  | x :: r => r.any (fun y => y.2 = x.2) || sharesAddr r

/-- The order in which the lanes' accesses take effect: ascending, or drawn where two of them meet (R188). -/
def State.laneOrder (s : State) (acc : List (Nat × Nat)) : State × List (Nat × Nat) :=
  if sharesAddr acc then
    ({ s with draws := s.draws + 64 }, orderBy (fun l => Config.free (s.draws + l)) acc)
  else (s, acc)

/-- The body of a memory instruction: all accesses are checked, in ascending lane order, and then made one after
the other. A read or write that meets an uncorrectable error stops the instruction (R213, R219). -/
def State.memIns (s : State) (i : Issue) (size : Nat)
    (f : State → Group → Nat → Nat → State × Option Group) : State :=
  let chk := s.checkLanes i size
  match chk.find? (fun e => match e.2.2 with | .ok _ => false | _ => true) with
  | some (l, a, k) => s.accessFault i l a k
  | none =>
    let acc := chk.filterMap (fun e => match e.2.2 with | .ok o => some (e.1, o) | _ => none)
    let (s, acc) := s.laneOrder acc
    let r := acc.foldl (fun (st : State × Option Group) e =>
      match st.2 with
      | none => st
      | some g => f (st.1.chargeStack i.g.ctx e.2 size) g e.1 e.2) (s, some i.g)
    match r.2 with
    | none => r.1
    | some g => r.1.retire i (fun g0 => { g0 with regs := g.regs })

/-- Read, change and write one operand in memory: the result of a register write on the old value, or none where
the word is lost. -/
def State.rmw (s : State) (o size : Nat) (new : Nat → Option Nat) (back : Nat → Group) : State × Option Group :=
  match s.readMem o size with
  | (s, none) => (s, none)
  | (s, some bs) =>
    let old := ofLE bs
    match new old with
    | none => (s, some (back old))
    | some v =>
      let (s, ok) := s.writeMem o (toLE v size)
      (s, if ok then some (back old) else none)

/-- A memory instruction's registers do not run past x63: pair xa, and for 8 bytes the data registers named. -/
def memLegal (regs : Nat → List Nat) (w : Nat) : Bool :=
  !runsPast (insXA w) 2 && (insSize w != 8 || (regs w).all (fun r => !runsPast r 2))

/-- The float format of an atomic float add: binary32 for 4 bytes, bfloat16 for 2 (R166, R612). -/
def atomFmt (w : Nat) : FFmt := if insSize w = 4 then f32 else bf16

/-- The sizes an atomic float add takes. -/
def faddLegal (w : Nat) : Bool := !runsPast (insXA w) 2 && (insSize w = 4 || insSize w = 2)

end Sys2Proof.Machine
end

