-- ==== Sys2Proof/Machine/ThreadsCtl.lean ====
section
/-! DEFINITION. Feeding, branches, group operations, passes, synchronisation and special instructions of the front
end (Table 5-4, OP 0x60–0x7F), and what happens at an undefined opcode or a fetch out of range (R202). -/
namespace Sys2Proof.Machine

/-- The operand store of a dispatch on core c for a unit, as a local offset, where the kernel names one. -/
def Kernel.storeBase (k : Kernel) (c : Nat) (exact : Bool) : Option Nat :=
  let o := if exact then k.opsExu else k.opsDsa
  if o = noStore then none else some (sliceBase c + o)

/-! ### FEED (R191, R194) -/

def feedExact (w : Nat) : Bool := bit w 31
def feedSide (w : Nat) : Nat := bits w 30 30
def feedBank (w : Nat) : Nat := bits w 29 29
def feedLine (w : Nat) : Nat := bits w 28 20
def feedOff (w : Nat) : Nat := bits w 10 0

/-- A lane's FEED lies inside the store: its line, and its eight bytes inside the line (log 34). -/
def feedFits (w lane : Nat) : Bool :=
  feedLine w + lane < (if feedExact w then 64 else 512) && feedOff w % 8 = 0 &&
  feedOff w + 8 ≤ (if feedExact w then 0x400 else 0x800)

/-- The local offset a lane of a FEED writes. -/
def feedAddr (store w lane : Nat) : Nat :=
  store + lineOff (feedExact w) (feedBank w) (feedSide w) (feedLine w + lane) + feedOff w

/-- FEED (0x60): while the bank is held it waits (R194, R379). -/
def execFeed (core place : Nat) (s : State) : Out :=
  .next (s.ins core place 0x60 false (fun w => !runsPast (insXA w) 2) (fun i s =>
    match i.d.kernel.storeBase core (feedExact i.word) with
    | none => s.illegal i
    | some st =>
      match i.lanes.find? (fun l => !feedFits i.word l) with
      | some l => s.fault i (pgFE core) kFEED_RANGE stKERNEL_FAULT l i.off l
      | none =>
        if i.lanes.any (fun l => !s.bankPresent core ((feedAddr st i.word l - sliceBase core) / bankSize)) then
          s.endDispatch core i.g.disp stBANK_LOST 0
        else if s.bankHeld core (feedExact i.word) st (feedBank i.word) then s
        else
          let r := i.lanes.foldl (fun (st' : State × Bool) l =>
            if st'.2 then st'.1.writeMem (feedAddr st i.word l) (toLE (i.g.pair l (insXA i.word)) 8) else st') (s, true)
          if r.2 then r.1.retire i id else r.1))

/-! ### Branches and EXIT -/

/-- The target of a branch: PC + 8 × sign-extended IMM, modulo 2^64. -/
def Issue.target (i : Issue) : Nat := (((i.pc : Nat) + 8 * toInt 32 (insImm i.word)) % (2 ^ 64 : Nat)).toNat

/-- The group with the PC of some lanes set. -/
def Group.jump (g : Group) (lanes : List Nat) (pc : Nat) : Group :=
  g.mapThreads (fun l t => if lanes.contains l then { t with pc := pc } else t)

/-- BRA (0x70): each thread whose xa is not 0 branches. -/
def execBra (core place : Nat) (s : State) : Out :=
  .next (s.ins core place 0x70 false (fun _ => true) (fun i s =>
    s.retire i (fun g => g.jump (i.lanes.filter (fun l => i.g.reg l (insXA i.word) != 0#32)) i.target)))

/-- JMP (0x71). -/
def execJmp (core place : Nat) (s : State) : Out :=
  .next (s.ins core place 0x71 false (fun _ => true) (fun i s => s.retire i (fun g => g.jump i.lanes i.target)))

/-- What a GSYNC or an EXIT leaves of a group (R182). -/
inductive SyncEnd where
  | waits | released (g : Group) | mismatch (pc lane : Nat)
  deriving DecidableEq, Repr

/-- Every non-exited thread waits at a GSYNC: released together when at one PC, else a mismatch at the PC of the
lowest such lane. -/
def Group.gsyncEnd (g : Group) : SyncEnd :=
  let alive := (List.range g.threads.length).filter (fun l => !(g.thread l).exited)
  match alive with
  | [] => .waits
  | l :: _ =>
    if !alive.all (fun j => (g.thread j).gsync) then .waits
    else
      let pc := (g.thread l).pc
      if alive.all (fun j => (g.thread j).pc = pc) then
        .released (g.mapThreads (fun _ t => if t.gsync then { t with gsync := false, pc := (t.pc + 8) % 2 ^ 64 } else t))
      else .mismatch pc l

/-- Settle the GSYNC of the group of an issue after its state changed. -/
def State.settleGsync (s : State) (i : Issue) : State :=
  match (s.core i.core).group i.place with
  | none => s
  | some g =>
    match g.gsyncEnd with
    | .waits => s
    | .released g => s.modCore i.core (fun c => c.setGroup i.place g)
    | .mismatch pc l =>
      let off := (pc + 2 ^ 64 - i.d.kernel.progAddr) % 2 ^ 64
      let s := s.raiseCtx (pgFE i.core) kGSYNC_MISMATCH i.g.ctx off l
      let s := s.logFault i.core i.place l kGSYNC_MISMATCH off
      s.endDispatch i.core i.g.disp stKERNEL_FAULT 0

/-- A group whose threads have all exited ends: its slots and place are free (R175). -/
def State.groupEnd (s : State) (i : Issue) : State :=
  s.modCore i.core (fun c =>
    let c := c.dropGroup i.place
    match c.disp i.g.disp with
    | some d => c.setDisp { d with ended := d.ended + 1 }
    | none => c)

/-- EXIT (0x72): the threads end, the group with its last one. -/
def execExit (core place : Nat) (s : State) : Out :=
  .next (s.ins core place 0x72 false (fun _ => true) (fun i s =>
    let s := s.retire i (fun g => g.mapThreads (fun l t => if i.lanes.contains l then { t with exited := true } else t))
    match (s.core core).group place with
    | some g => if g.threads.all (·.exited) then s.groupEnd i else s.settleGsync i
    | none => s))

/-- GSYNC (0x73): each thread that executes it waits; it keeps its PC until the release (R182, log 39). -/
def execGsync (core place : Nat) (s : State) : Out :=
  .next (s.ins core place 0x73 false (fun _ => true) (fun i s =>
    let s := s.retire i (fun g => g.mapThreads (fun l t =>
      if i.lanes.contains l then { t with gsync := true, pc := i.pc } else t))
    s.settleGsync i))

/-- KSYNC (0x74): the group waits until every group of its dispatch has executed a KSYNC (R184). -/
def execKsync (core place : Nat) (s : State) : Out :=
  .next (s.ins core place 0x74 false (fun _ => true) (fun i s =>
    if !i.d.kernel.ksyncOk then s.illegal i
    else
      let s := s.retire i (fun g => { g with ksync := true })
      s.modCore core (fun c =>
        match c.disp i.g.disp with
        | none => c
        | some d =>
          if d.ksynced + 1 < d.kernel.groups then c.setDisp { d with ksynced := d.ksynced + 1 }
          else { c.setDisp { d with ksynced := 0 } with
                 groups := c.groups.map (fun e => if e.2.disp = d.id then (e.1, { e.2 with ksync := false }) else e) })))

/-! ### SHFL and VOTE (R183) -/

/-- SHFL (0x75). -/
def execShfl (core place : Nat) (s : State) : Out :=
  .next (s.ins core place 0x75 false (fun _ => true) (fun i s =>
    s.retire i (i.perLane (fun l g =>
      let src := (i.g.reg l (insXB i.word)).toNat % i.g.width
      g.setReg l (insXD i.word) (if i.lanes.contains src then i.g.reg src (insXA i.word) else 0#32)))))

/-- VOTE (0x76): ANY, ALL, BALLOT by IMM[1:0]; 0b11 raises ILLEGAL_OP (R612). -/
def execVote (core place : Nat) (s : State) : Out :=
  .next (s.ins core place 0x76 false
    (fun w => bits w 1 0 != 3 && !(bits w 1 0 = 2 && runsPast (insXD w) 2)) (fun i s =>
    let vals := i.lanes.map (fun l => (l, i.g.reg l (insXA i.word)))
    s.retire i (i.perLane (fun l g =>
      match bits i.word 1 0 with
      | 0 => g.setReg l (insXD i.word) (flagWord (voteAny vals))
      | 1 => g.setReg l (insXD i.word) (flagWord (voteAll vals))
      | _ => g.setPair l (insXD i.word) (voteBallot vals)))))

/-! ### Passes (R192–R198) -/

/-- The pass record of a PASS as the registers of the lowest participating lane hold it (Table 5-1). -/
def Issue.record (i : Issue) (k : Nat) : Nat := (i.g.reg i.lane (insXA i.word + k)).toNat
def Issue.recPair (i : Issue) (k : Nat) : Nat := i.g.pair i.lane (insXA i.word + k)

/-- A 64-byte descriptor lies at a local address of context x. DESIGN CHOICE (log 168): the address need not be a multiple of 64. -/
def State.descOff (s : State) (x a : Nat) : Option Nat :=
  match s.localOf a with
  | some o => if s.inExtent x o 64 then some o else none
  | none => none

/-- The rows of a tile lie in the extents of context x (R198). -/
def State.rowsIn (s : State) (x a rows pitch bytes : Nat) : Bool :=
  match s.localOf a with
  | some o => (List.range rows).all (fun r => s.inExtent x (o + r * pitch) bytes)
  | none => false

/-- The descriptor of a PASS for its dispatch: the copy validated before, or the one read now (R169); none where
the read meets an uncorrectable error. -/
def State.fetchDesc (s : State) (i : Issue) (a o : Nat) : State × Option (List Byte) :=
  match SMap.find i.d.descs a with
  | some d => (s, some d)
  | none =>
    match s.readMem o 64 with
    | (s, none) => (s, none)
    | (s, some d) =>
      let s := s.modCore i.core (fun c => match c.disp i.g.disp with
        | some e => c.setDisp { e with descs := SMap.put e.descs a d }
        | none => c)
      let s := if ldReason d = 0 && ldMode d != mEXACT then s.wr DSA.DSA_LAYER_LAYER_ID (ldLayerId d) i.core else s
      (s, some d)

/-- DESC_VALIDATE (R170): the dispatch ends with DESC_INVALID and no pass of it runs further. -/
def State.descRefused (s : State) (i : Issue) (a : Nat) (d : List Byte) : State :=
  let src := if ldMode d = mEXACT then pgEXU i.core else pgDSA i.core
  (s.raiseCtx src kDESC_INVALID i.g.ctx a (ldReason d)).endDispatch i.core i.g.disp stDESC_INVALID (ldReason d)

/-- PASS.D or PASS.E: reads the pass record and issues exactly one pass to the unit's pending place. -/
def State.passIns (s : State) (core place op : Nat) (exact : Bool) : State :=
  s.ins core place op false (fun w => !runsPast (insXA w) 8) (fun i s =>
    match i.d.kernel.storeBase core exact with
    | none => s.illegal i
    | some st =>
      let a := i.recPair 0
      match s.descOff i.g.ctx a with
      | none => s.fault i (pgFE core) kADDR_FAULT stKERNEL_FAULT i.lane a i.lane
      | some o =>
        if ((s.core core).unit exact).pending.isSome then s
        else match s.fetchDesc i a o with
        | (s, none) => s
        | (s, some d) =>
          let pitch := i.record 7 / 256
          let out := i.recPair 2
          let part := i.recPair 4
          if ldReason d != 0 then s.descRefused i a d
          else if ldV d && !i.d.kernel.vAllow then
            s.fault i (pgFE core) kV_DENIED stV_DENIED i.lane i.off i.lane
          else if (ldMode d = mEXACT) != exact || bits (i.record 7) 7 1 != 0 || pitch % 64 != 0 then s.illegal i
          else if !s.rowsIn i.g.ctx out (ldM d) pitch (rowBytes d) then
            s.fault i (pgFE core) kADDR_FAULT stKERNEL_FAULT i.lane out i.lane
          else if ldAccIn d && !s.rowsIn i.g.ctx part (ldM d) (partialPitch d) (ldN d * partialBytes d) then
            s.fault i (pgFE core) kADDR_FAULT stKERNEL_FAULT i.lane part i.lane
          else
            let p : Pass := { disp := i.g.disp, place := place, ctx := i.g.ctx, gen := i.g.gen, exact := exact
                              desc := d, descAddr := a, out := out % 2 ^ 52, part := part % 2 ^ 52
                              tile := (i.d.kernel.tileBase + i.record 6) % 2 ^ 32, step := i.d.kernel.step
                              pitch := pitch, bank := i.record 7 % 2, store := st, group := i.g.index }
            let s := s.retire i (fun g => { g with passes := g.passes + 1 })
            let s := s.modUnit core exact (fun u => { u with pending := some p })
            s.modCore core (fun c => match c.disp i.g.disp with
              | some e => c.setDisp { e with passes := e.passes + 1 }
              | none => c))

/-- PASS.D (0x77). -/
def execPassD (core place : Nat) (s : State) : Out := .next (s.passIns core place 0x77 false)
/-- PASS.E (0x78). -/
def execPassE (core place : Nat) (s : State) : Out := .next (s.passIns core place 0x78 true)

/-- WAITP (0x79): the group waits until its passes have finished (R197). -/
def execWaitp (core place : Nat) (s : State) : Out :=
  .next (s.ins core place 0x79 false (fun _ => true) (fun i s =>
    if i.g.passes = 0 then s.retire i id
    else s.modCore core (fun c => c.setGroup place { i.g with waitp := true })))

/-! ### Synchronisation objects (R266) and FENCE (R188) -/

/-- SIGNAL (0x7A): x(xb) of the lowest participating thread to object x(xa)[3:0], once per issue, after the group's
earlier writes have taken effect. -/
def execSignal (core place : Nat) (s : State) : Out :=
  .next (s.ins core place 0x7A false (fun _ => true) (fun i s =>
    if 0 < s.groupWrites i.g.disp i.g.index then s
    else
      let s := s.retire i id
      s.syncAdd i.g.ctx ((i.g.reg i.lane (insXA i.word)).toNat % 16) (i.g.reg i.lane (insXB i.word)).toNat))

/-- WAITS (0x7B): the participating threads wait until object x(xa)[3:0] reaches the pair xb. -/
def execWaits (core place : Nat) (s : State) : Out :=
  .next (s.ins core place 0x7B false (fun w => !runsPast (insXB w) 2) (fun i s =>
    let j := (i.g.reg i.lane (insXA i.word)).toNat % 16
    let v := i.g.pair i.lane (insXB i.word)
    s.retire i (fun g =>
      if v ≤ (s.ctx i.g.ctx).syncVal j then g
      else g.mapThreads (fun l t => if i.lanes.contains l then { t with waits := some (j, v) } else t))))

/-- FENCE (0x7F): waits until every earlier write of the group has taken effect. -/
def execFence (core place : Nat) (s : State) : Out :=
  .next (s.ins core place 0x7F false (fun _ => true) (fun i s =>
    if 0 < s.groupWrites i.g.disp i.g.index then s else s.retire i id))

/-! ### Counters (R612) -/

/-- RDTIME (0x7C), V-marked: field time. -/
def execRdtime (core place : Nat) (s : State) : Out :=
  .next (s.ins core place 0x7C true (fun w => !runsPast (insXD w) 2) (fun i s =>
    s.retire i (i.perLane (fun l g => g.setPair l (insXD i.word) s.ftime))))

/-- RDCORE (0x7D), V-marked: the core index. -/
def execRdcore (core place : Nat) (s : State) : Out :=
  .next (s.ins core place 0x7D true (fun _ => true) (fun i s =>
    s.retire i (i.perLane (fun l g => g.setReg l (insXD i.word) (BitVec.ofNat 32 core)))))

/-- RDCYC (0x7E), V-marked: the core cycle count, which between two ticks of field time stands anywhere in the
tick's cycles, above every count read before (log 124). -/
def execRdcyc (core place : Nat) (s : State) : Out :=
  .next (s.ins core place 0x7E true (fun w => !runsPast (insXD w) 2) (fun i s =>
    let k := s.core core
    let n := max (k.cyc / 4 + s.drawn (s.rd CLKRST.CORE_FREQ_F25 0 core / 4 + 1)) ((k.cycSeen.map (· + 1)).getD 0)
    (s.drew.modCore core (fun k => { k with cycSeen := some n })).retire i (i.perLane (fun l g => g.setPair l (insXD i.word) n))))

/-! ### What is no instruction (R202) -/

/-- The opcodes of Table 5-4. -/
def opcodes : List Nat :=
  (List.range 16).map (· + 0x01) ++ (List.range 11).map (· + 0x20) ++ (List.range 10).map (· + 0x40) ++
  0x60 :: (List.range 16).map (· + 0x70)

/-- UNDEFINED_OPCODE: ILLEGAL_OP from the FE page. -/
def execUndefinedOpcode (core place : Nat) (s : State) : Out :=
  .next (match s.issuePoint core place with
  | none => s
  | some i =>
    if i.inRange && !i.got then s.fetched i
    else if i.inRange && !opcodes.contains (insOp i.word) then (s.fetched i).illegal i else s)

/-- FETCH_OUT_OF_RANGE: FETCH_FAULT from the PROG page, with the fetch address. -/
def execFetchOutOfRange (core place : Nat) (s : State) : Out :=
  .next (match s.issuePoint core place with
  | none => s
  | some i => if i.inRange then s else s.fault i (pgPROG core) kFETCH_FAULT stKERNEL_FAULT i.lane i.pc 0)

end Sys2Proof.Machine
end

