-- ==== Sys2Proof/Machine/ThreadsRemote.lean ====
section
/-! DEFINITION. The remote instructions of the front end (Table 5-4, OP 0x47–0x49; R328–R332). -/
namespace Sys2Proof.Machine

/-- Context x's part of a local address is resident: its slices are not evicted to an image (R329). -/
def State.resident (s : State) (x a : Nat) : Bool :=
  match localPlace a with
  | .hbm .. => true
  | .spad c o => !(s.ctx x).evicted && s.bankPresent c (o / bankSize)
  | .unmapped => false

/-- This part admits a remote request to n bytes at local offset a of context x (R329). -/
def State.admits (s : State) (x a n : Nat) : Bool :=
  s.peerCtx x && ((s.ctx x).state = .owned || (s.ctx x).state = .frozen) && s.inExtent x a n && s.resident x a &&
  !s.imageHit x a n

/-- This part refuses a remote request: REMOTE_DENIED with the local offset and the source part. -/
def State.remoteDenied (s : State) (a src : Nat) : State := s.raise pgFABRIC kREMOTE_DENIED a src

/-- The byte-enable mask of n bytes from offset o of a sector. -/
def beMask (o n : Nat) : Nat := (2 ^ n - 1) * 2 ^ o

/-- The accesses of one request: the lanes whose address lies in one sector of one part (R328). -/
def sectorsOf (acc : List (Nat × Nat)) : List Nat :=
  acc.foldl (fun l e => if l.contains (e.2 / 64) then l else l ++ [e.2 / 64]) []

/-- A sector of bytes with the data of the lanes laid over it, in order. -/
def overlay (size : Nat) (data : Nat → Nat) (acc : List (Nat × Nat)) : List Byte :=
  acc.foldl (fun bs e => putLE bs (e.2 % 64) size (data e.1)) (zeros 64)

/-- Send one request of an instruction and hold it as outstanding. The sector is a global address over 64. -/
def State.sendRemote (s : State) (i : Issue) (op cls sector : Nat) (acc : List (Nat × Nat)) : State :=
  let size := insSize i.word
  let tag := s.fabric.nextTag
  let dst := sector / 2 ^ 46
  let be := acc.foldl (fun m e => Nat.lor m (beMask (e.2 % 64) size)) 0
  let body := if op = 0x01 then [] else overlay size (fun l => i.g.data l (insXB i.word) size) acc
  let r : Remote := { tag := tag, op := op, dst := dst, ctx := i.g.ctx, gen := i.g.gen, core := i.core
                      place := i.place, disp := i.g.disp, group := i.g.index
                      lanes := acc.map (fun e => (e.1, e.2 % 64)), xd := insXD i.word, size := size
                      sector := sector * 64, off := i.off, since := s.ftime }
  let s := { s with fabric := { s.fabric with remotes := s.fabric.remotes ++ [r], nextTag := (tag + 1) % 2 ^ 32 } }
  s.send [s.mkFlit { cls := cls, op := op, dst := dst, ctx := i.g.ctx, gen := i.g.gen, addr := sector * 64
                     tag := tag, len := if op = 0x01 then 0 else 64, be := be, body := body }]

/-- The local part of a remote instruction: the lanes whose address names this part (R328). -/
def State.remoteLocal (s : State) (i : Issue) (get : Bool) (acc : List (Nat × Nat)) : State × Option Group :=
  let size := insSize i.word
  let o := s.laneOrder acc
  o.2.foldl (fun (st : State × Option Group) e =>
    match st.2 with
    | none => st
    | some g =>
      if get then
        match st.1.readMem (e.2 % 2 ^ 52) size with
        | (s, none) => (s, none)
        | (s, some bs) => (s, some (g.setData e.1 (insXD i.word) size (ofLE bs)))
      else
        let w := st.1.writeMem (e.2 % 2 ^ 52) (toLE (i.g.data e.1 (insXB i.word) size) size)
        (w.1, if w.2 then some g else none)) (o.1, some i.g)

/-- RGET, RPUT or RPUT.O: alignment, then the local lanes, then one request per part and sector. -/
def State.remoteIns (s : State) (core place op fop cls : Nat) (v : Bool) (regs : Nat → List Nat) : State :=
  s.ins core place op v (memLegal regs) (fun i s =>
    let size := insSize i.word
    let acc := i.lanes.map (fun l => (l, i.g.addr l i.word))
    match acc.find? (fun e => e.2 % size != 0) with
    | some e => s.fault i (pgFE core) kMISALIGNED stKERNEL_FAULT e.1 e.2 e.1
    | none =>
      let here := acc.filter (fun e => (s.localOf e.2).isSome)
      let away := acc.filter (fun e => (s.localOf e.2).isNone)
      match here.find? (fun e => !s.admits i.g.ctx (e.2 % 2 ^ 52) size) with
      | some e =>
        let s := s.remoteDenied (e.2 % 2 ^ 52) s.ownPart
        (s.logFault core place e.1 kREMOTE_DENIED i.off).endDispatch core i.g.disp stKERNEL_FAULT 0
      | none =>
        match s.remoteLocal i (fop = 0x01) here with
        | (s, none) => s
        | (s, some g) =>
          let s := s.retire i (fun g0 => { g0 with regs := g.regs })
          s.each (sectorsOf away) (fun s sec => s.sendRemote i fop cls sec (away.filter (fun e => e.2 / 64 = sec))))

/-- RGET (0x47), V-marked: one BULK GET_REQ per destination part and sector. -/
def execRget (core place : Nat) (s : State) : Out :=
  .next (s.remoteIns core place 0x47 0x01 clBULK true (fun w => [insXD w]))
/-- RPUT (0x48), V-marked: one BULK PUT per destination part and sector. -/
def execRput (core place : Nat) (s : State) : Out :=
  .next (s.remoteIns core place 0x48 0x03 clBULK true (fun w => [insXB w]))
/-- RPUT.O (0x49): PUT_O in the ORDERED class (R330). -/
def execRputO (core place : Nat) (s : State) : Out :=
  .next (s.remoteIns core place 0x49 0x04 clORDERED false (fun w => [insXB w]))

end Sys2Proof.Machine
end

