-- ==== Sys2Proof/Machine/Fabric.lean ====
section
/-! DEFINITION. The fabric above the links: routes, the part ID, ORDERED sessions, remote get and put at the target
and at the source, and management flits (*Field Addressing, Routing, Collectives and the Start Barrier*). -/
namespace Sys2Proof.Machine

/-! ### Routes and identity -/

def offFabric (o : Nat) : Nat := pgFABRIC * 4096 + o

/-- A write to ROUTE_ENT: the entry at ROUTE_IDX, which then advances (Table 10-5, R322). -/
def State.routeWrite (s : State) (v : Nat) : State :=
  let i := s.rd FABRIC.ROUTE_IDX_IDX
  let e := v % 2 ^ 20
  let s := { s with fabric := { s.fabric with
    routes := if e = 0 then SMap.drop s.fabric.routes i else SMap.put s.fabric.routes i e } }
  (s.wr FABRIC.ROUTE_IDX_IDX (i + 1)).retryStuck

/-- ROUTE_ENT_WRITE. -/
def execRouteEntWrite (port : Authority) (value : Nat) (s : State) : Out :=
  .next (s.gated port (offFabric 0x4C) 4 (fun s => if s.mayWrite port FABRIC.ROUTE_ENT_PORTS then s.routeWrite value else s))

/-- A write to FAB_ID (R348). -/
def State.fabIdWrite (s : State) (a : Authority) (v : Nat) : State :=
  if (List.range 16).any (fun p => s.nlUp p || s.nlHeld p || (s.nlState p = nlIDENTIFY && (s.port p).identSent)) then
    s.cfgDenied a (offFabric 0x40)
  else
    let s := (s.wr FABRIC.FAB_ID_VALID (bits v 31 31)).wr FABRIC.FAB_ID_PART (bits v 11 0)
    s.each (List.range 16) (fun s p => if (s.port p).identDue && s.nlState p = nlIDENTIFY then s.identify p else s)

/-- FAB_ID_WRITE. -/
def execFabIdWrite (port : Authority) (value : Nat) (s : State) : Out :=
  .next (s.gated port (offFabric 0x40) 4 (fun s =>
    if s.mayWrite port FABRIC.FAB_ID_PART then s.fabIdWrite port value else s))

/-- How long a flit waits for a path: the longest retry timer of the ports of its entry that are in HOLD (R324). -/
def State.routeWait (s : State) (f : DataFlit) : Nat :=
  ((s.paths f.dst).filter s.nlHeld).foldl (fun m p => max m (s.port p).retryTicks) 0

/-- ROUTE_WAIT_EXPIRE (R324): the nth waiting flit outlives the retry timer. One that R316 holds waits for the resume. -/
def execRouteWaitExpire (n : Nat) (s : State) : Out :=
  .next (match s.fabric.stuck[n]? with
  | none => s
  | some e =>
    if (e.flit.cls = clORDERED && s.heldPair e.flit) || s.ftime < e.since + s.routeWait e.flit then s
    else
    let s := { s with fabric := { s.fabric with stuck := s.fabric.stuck.eraseIdx n } }
    (s.oweCredit e.port e.flit.cls).discard e.flit)

/-! ### ORDERED flits at the destination (R326) -/

/-- An ORD_ACK to a source: the next OSEQ expected, or the refusal of a session. It travels outside the sessions. -/
def State.ordAck (s : State) (dst session oseq status : Nat) : State :=
  let f := s.mkFlit { cls := clORDERED, op := 0x28, dst := dst, status := status }
  s.send [(f.set 0x10 (leAt f.data 0x10 8 + oseq)).set 0x20 (leAt f.data 0x20 8 + session * 2 ^ 48)]

/-- Held flits that have become next are applied in order. -/
def RxSession.drain (r : RxSession) : Nat → RxSession × List (Nat × DataFlit)
  | 0 => (r, [])
  | n + 1 =>
    match r.held.find? (fun e => e.1 = r.expect) with
    | none => (r, [])
    | some e =>
      let d := RxSession.drain { r with expect := (r.expect + 1) % 0x1_0000
                                        held := r.held.filter (fun h => h.1 != e.1) } n
      (d.1, e.2 :: d.2)

/-- What a destination does with one ORDERED flit that came by port p. -/
def State.orderedFlit (s : State) (p : Nat) (f : DataFlit) : State :=
  let old := SMap.find s.fabric.rx f.src
  let newer := match old with
    | none => true
    | some r => r.snonce != f.snonce || before16 r.session f.session
  let set_ := fun (s : State) (r : RxSession) => { s with fabric := { s.fabric with rx := SMap.put s.fabric.rx f.src r } }
  let r := if f.opens && newer then some { snonce := f.snonce, session := f.session : RxSession } else old
  match r with
  | none => (s.oweCredit p clORDERED).ordAck f.src f.session 0 stPEER_LOST
  | some r =>
    if r.snonce != f.snonce || r.session != f.session then
      if f.opens then s.oweCredit p clORDERED
      else (s.oweCredit p clORDERED).ordAck f.src f.session 0 stPEER_LOST
    else if f.oseq = r.expect then
      let d := RxSession.drain { r with expect := (r.expect + 1) % 0x1_0000 } 64
      let s := set_ s d.1
      let s := { s with fabric := { s.fabric with inbox := s.fabric.inbox ++ (p, f) :: d.2 } }
      s.ordAck f.src r.session d.1.expect 0
    else if before16 r.expect f.oseq then
      if r.held.length < 64 && !r.held.any (fun h => h.1 = f.oseq) then set_ s { r with held := r.held ++ [(f.oseq, p, f)] }
      else (set_ s r).oweCredit p clORDERED
    else ((set_ s r).oweCredit p clORDERED).ordAck f.src r.session r.expect 0

/-- ORDERED_FLIT_RECEIVE: the oldest arrived ORDERED flit; in DOZE it waits for RUN (R548). -/
def execOrderedFlitReceive (s : State) : Out :=
  .next (match s.fabric.inOrdered with
  | [] => s
  | (p, f) :: r => if s.rd DRONE.PWR_STAT_STATE = 2 then s else { s with fabric := { s.fabric with inOrdered := r } }.orderedFlit p f)

/-! ### Arrived flits -/

/-- The lane of an arrived flit: its class, with ORD_ACK apart. Flits of one lane are taken in their order. -/
def DataFlit.lane (f : DataFlit) : Nat := if f.op = 0x28 then 3 else f.cls

/-- The first arrived flit of a lane, where it satisfies p, with the state that has taken it. In DOZE arrived requests wait for RUN
(R548). -/
def State.takeFlit (s : State) (lane : Nat) (p : DataFlit → Bool) : Option (Nat × DataFlit × State) :=
  match s.fabric.inbox.find? (fun e => e.2.lane = lane) with
  | none => none
  | some e =>
    if p e.2 && s.rd DRONE.PWR_STAT_STATE != 2 then
      some (e.1, e.2, { s with fabric := { s.fabric with inbox := s.fabric.inbox.erase e } }.oweCredit e.1 e.2.cls)
    else none

/-- Handle the first arrived flit of a lane when its OP is this one. -/
def State.onFlit (s : State) (lane op : Nat) (f : State → Nat → DataFlit → State) : State :=
  match s.takeFlit lane (fun e => e.op = op) with
  | none => s
  | some (p, e, s) => f s p e

/-! ### ORDERED flits at the source (R327) -/

/-- ORD_ACK_RECEIVE: releases what it covers, or refuses the session (R325–R327). -/
def execOrdAckReceive (s : State) : Out :=
  .next (s.onFlit 3 0x28 (fun s _ f =>
    match SMap.find s.fabric.tx f.src with
    | none => s
    | some t =>
      let mine := fun (e : Nat × Nat × DataFlit) => e.2.2.session = f.session
      if f.status = stPEER_LOST then
        let lost := t.unacked.filter mine
        let t := { t with unacked := t.unacked.filter (fun e => !mine e), reopen := t.reopen || t.session = f.session }
        let s := { s with fabric := { s.fabric with tx := SMap.put s.fabric.tx f.src t } }
        s.each lost (fun s e => s.ownLost e.2.2)
      else
        let t := { t with unacked := t.unacked.filter (fun e => !(mine e && before16 e.1 f.oseq)) }
        { s with fabric := { s.fabric with tx := SMap.put s.fabric.tx f.src t } }))

/-- ORD_RETRANSMIT: the flits to a destination that ORD_US microseconds have left unacknowledged go out again. -/
def execOrdRetransmit (dst : Nat) (s : State) : Out :=
  .next (match SMap.find s.fabric.tx dst with
  | none => s
  | some t =>
    let due := fun (e : Nat × Nat × DataFlit) => decide (e.2.1 + max 1 (s.rd FABRIC.FAB_TMO_ORD_US) * 100 ≤ s.ftime)
    let t' := { t with unacked := t.unacked.map (fun e => if due e then (e.1, s.ftime, e.2.2) else e) }
    { s with fabric := { s.fabric with tx := SMap.put s.fabric.tx dst t' } }.each (t.unacked.filter due) (fun s e =>
      let r := s.launch e.2.2
      if r.2 then r.1 else r.1.discard e.2.2))

/-- LOST_NOTICE_RECEIVE: the request of its TAG, or the collective it names, is lost (R327, R331, R337). -/
def execLostNoticeReceive (s : State) : Out :=
  .next (s.onFlit clORDERED 0x06 (fun s _ f =>
    match s.fabric.remotes.find? (fun e => e.tag = f.tag && (f.status = e.op || f.status = 0)) with
    | some e => s.remoteLost e
    | none =>
      match s.fabric.colls.find? (fun c => 0x10 ≤ f.status && f.status < 0x20 && c.ctx = f.ctx && c.cgen = f.be % 2 ^ 32) with
      | some c => (s.collFail c).send (s.abortFlits c none)
      | none => s))

/-! ### The target of remote requests (R329, R330) -/

/-- The runs of set bits of a byte-enable mask: first byte and length. -/
def beRuns (be : Nat) : List (Nat × Nat) :=
  (List.range 64).foldl (fun l k =>
    if !bit be k then l
    else match l with
      | (o, n) :: r => if o + n = k then (o, n + 1) :: r else (k, 1) :: l
      | [] => [(k, 1)]) []

/-- Write the enabled bytes of a sector at a local offset; the flag says whether every write took effect. -/
def State.writeSector (s : State) (a be : Nat) (body : List Byte) : State × Bool :=
  (beRuns be).foldl (fun (st : State × Bool) r =>
    if st.2 then st.1.writeMem (a + r.1) ((body.drop r.1).take r.2) else st) (s, true)

/-- A reply to a request flit. -/
def State.reply (s : State) (f : DataFlit) (op cls status len : Nat) (body : List Byte) : State :=
  s.send [s.mkFlit { cls := cls, op := op, dst := f.src, ctx := f.ctx, gen := f.gen, tag := f.tag, be := f.be
                     addr := f.addr, status := status, len := len, body := body }]

/-- A PUT_O waits behind another of the same source that is held (R330). -/
def State.putWaits (s : State) (f : DataFlit) : Bool :=
  f.op = 0x04 && s.fabric.heldReqs.any (fun e => e.2.op = 0x04 && e.2.src = f.src)

/-- Serve a GET_REQ, PUT or PUT_O of another part, or hold it while its context recovers. The context's transfers count in its HBM usage
(R287). -/
def State.serve (s : State) (p : Nat) (f : DataFlit) : State :=
  let a := f.addr % 2 ^ 52 / 64 * 64
  let get := decide (f.op = 0x01)
  let rop := if get then 0x02 else 0x05
  if (s.peerCtx f.ctx && (s.ctx f.ctx).state = .recovering) || s.putWaits f then
    { s with fabric := { s.fabric with heldReqs := s.fabric.heldReqs ++ [(p, f)] } }
  else if !s.admits f.ctx a 64 then
    (s.remoteDenied (f.addr % 2 ^ 52) f.src).reply f rop f.cls stADDR_FAULT 0 []
  else
  let s := s.chargeStack f.ctx a 64
  if get then
    match s.readMem a 64 with
    | (s, none) => s
    | (s, some bs) => s.reply f rop clBULK stOK 64 bs
  else
    let w := s.writeSector a f.be f.body
    if w.2 then w.1.reply f rop f.cls stOK 0 [] else w.1

/-- When a context has recovered or is released, the held requests are served again in their order; those that must still wait are held
again (R329, R330). -/
def State.serveHeld (s : State) : State :=
  { s with fabric := { s.fabric with heldReqs := [] } }.each s.fabric.heldReqs (fun s e => s.serve e.1 e.2)

/-- GET_REQ_RECEIVE. -/
def execGetReqReceive (s : State) : Out := .next (s.onFlit clBULK 0x01 State.serve)
/-- PUT_RECEIVE. -/
def execPutReceive (s : State) : Out := .next (s.onFlit clBULK 0x03 State.serve)
/-- PUT_O_RECEIVE. -/
def execPutOReceive (s : State) : Out := .next (s.onFlit clORDERED 0x04 State.serve)

/-! ### The source of remote requests (R330–R332) -/

/-- Take an outstanding request off the list. -/
def State.dropRemote (s : State) (tag : Nat) : State :=
  { s with fabric := { s.fabric with remotes := s.fabric.remotes.filter (fun e => e.tag != tag) } }

/-- The target refused a request: its dispatch ends with KERNEL_FAULT (R329, R201). -/
def State.remoteRefused (s : State) (r : Remote) : State :=
  (s.logFault r.core r.place ((r.lanes.head?.map (·.1)).getD 0) kREMOTE_DENIED r.off).endDispatch r.core r.disp stKERNEL_FAULT 0

/-- A reply for an outstanding request; one of a past generation is dropped (R332). -/
def State.onReply (s : State) (f : DataFlit) (ok : State → Remote → State) : State :=
  match s.fabric.remotes.find? (fun e => e.tag = f.tag && e.dst = f.src) with
  | none => s
  | some r =>
    let s := s.dropRemote r.tag
    if (s.ctx r.ctx).gen != f.gen || r.gen != f.gen then s
    else if f.status != stOK then s.remoteRefused r
    else ok s r

/-- A group with the data of a GET_REPLY. -/
def Remote.deliver (r : Remote) (body : List Byte) (g : Group) : Group :=
  r.lanes.foldl (fun g l => g.setData l.1 r.xd r.size (leAt body l.2 r.size)) g

/-- The data of a GET_REPLY goes to the registers of the issuing lanes, in the core or in the image (R472). -/
def State.deliver (s : State) (r : Remote) (body : List Byte) : State :=
  let mine := fun (g : Group) => g.disp = r.disp && g.index = r.group
  let s := s.modCore r.core (fun k => { k with groups := k.groups.map (fun e =>
    (e.1, if mine e.2 then r.deliver body e.2 else e.2)) })
  { s with firn := { s.firn with images := s.firn.images.map (fun (m : Nat × Image) => (m.1, { m.2 with
      groups := m.2.groups.map (fun (e : Nat × Nat × Group) => (e.1, e.2.1, if e.1 = r.core && mine e.2.2 then r.deliver body e.2.2 else e.2.2)) })) } }

/-- GET_REPLY_RECEIVE. -/
def execGetReplyReceive (s : State) : Out :=
  .next (s.onFlit clBULK 0x02 (fun s _ f => s.onReply f (fun s r => s.deliver r f.body)))

/-- PUT_ACK_RECEIVE: the write counts as taken effect. It comes in the class of its request. -/
def execPutAckReceive (s : State) : Out :=
  .next (match s.takeFlit clORDERED (fun e => e.op = 0x05) with
  | some (_, f, s) => s.onReply f (fun s _ => s)
  | none => s.onFlit clBULK 0x05 (fun s _ f => s.onReply f (fun s _ => s)))

/-- REMOTE_TIMEOUT (R331): RMT_MS have passed without a reply. -/
def execRemoteTimeout (tag : Nat) (s : State) : Out :=
  .next (match s.fabric.remotes.find? (fun e => e.tag = tag) with
  | some r => if r.since + max 1 (s.rd FABRIC.FAB_TMO_RMT_MS) * 100_000 ≤ s.ftime then s.remoteLost r else s
  | none => s)

/-! ### Management flits (R565) -/

/-- PEER_INFO_RECEIVE: an answer with the part's identity, or FLIT_BAD for any other subtype. -/
def execPeerInfoReceive (s : State) : Out :=
  .next (s.onFlit clURGENT 0x40 (fun s p f =>
    if leAt f.body 0 1 = 1 then
      s.send [s.mkFlit { cls := clURGENT, op := 0x40, dst := f.src, tag := f.tag, len := 14
                         body := toLE s.sec.serial 8 ++ toLE s.ownPart 2 ++ toLE (s.rd CHIP.SVC_LEVEL_LEVEL) 1 ++
                           toLE s.lc 1 ++ toLE (s.rd CHIP.CORE_MAP_LIVE) 2 }]
    else s.raise pgFABRIC kFLIT_BAD 0 p))

end Sys2Proof.Machine
end

