-- ==== Sys2Proof/Machine/Coll.lean ====
section
/-! DEFINITION. Hardware collectives (R333–R339): the descriptor and its checks, the phases of Table 10-1, the
combination of partial results, and abort. -/
namespace Sys2Proof.Machine

/-! ### The descriptor (Tables 10-4 and R334) -/

/-- Members in the subtree of member i, itself first (the tree is 4-ary over n members). -/
def subtree (n : Nat) : Nat → List Nat → List Nat
  | 0, _ => []
  | d + 1, level =>
    if level.isEmpty then []
    else level ++ subtree n d (level.flatMap (fun i => ((List.range 4).map (fun k => 4 * i + 1 + k)).filter (fun j => j < n)))

/-- The size of an element. -/
def collSize (dtype : Nat) : Nat := if dtype = 1 then 8 else 4

/-- The number of members of a descriptor, and the member list in the bytes that MEMBERS names. -/
def collNmem (d : List Byte) : Nat := leAt d 0x10 2 % 0x2000
def collMembers (d list : List Byte) : List Nat := (List.range (collNmem d)).map (fun k => leAt list (2 * k) 2 % 0x1000)

/-- No element twice. -/
def noRepeat : List Nat → Bool
  | [] => true
  | x :: r => !r.contains x && noRepeat r

/-- The n bytes at an address lie in the extents of context x. -/
def State.spanOk (s : State) (x a n : Nat) : Bool :=
  match s.localOf a with
  | some o => s.inExtent x o n
  | none => false

/-- An address lies in a scratchpad slice. -/
def isSpad (a : Nat) : Bool := match localPlace (a % 2 ^ 52) with | .spad .. => true | _ => false

/-- A descriptor's field that must not be other than its kind allows, or a reserved one, is wrong (0x11). LEN is a
non-zero multiple of the element size, and NMEM is 1 to 4,096 (log 48). -/
def collShapeBad (d : List Byte) : Bool :=
  bits (leAt d 0 4) 31 24 != 1 || bits (leAt d 0 4) 14 0 != 0 || leAt d 0x10 2 / 0x2000 != 0 || leAt d 0x12 2 != 0 ||
  leAt d 0x30 8 != 0 || leAt d 0x38 4 != 0 || leAt d 0x3E 2 != 0 ||
  leAt d 0x10 2 = 0 || 4096 < leAt d 0x10 2 || leAt d 0x2C 4 = 0

/-- The DETAIL with which a descriptor is refused before its member list is read, 0 where it is not (R334). -/
def collEarly (d : List Byte) : Nat :=
  let w := leAt d 0 4
  if crc16 (d.take 0x3C) != leAt d 0x3C 2 then 0x10
  else if collShapeBad d then 0x11
  else if 2 < bits w 23 20 || 2 < bits w 19 16 || leAt d 0x2C 4 % collSize (bits w 19 16) != 0 then 0x12
  else 0

/-- The DETAIL with which a COLL of members `mem` is refused, 0 where it is not (R334). -/
def State.collDetail (s : State) (x : Nat) (d : List Byte) (mem : List Nat) : Nat :=
  let w := leAt d 0 4
  let len := leAt d 0x2C 4
  let out := if bits w 23 20 = 2 then leAt d 0x10 2 * len else len
  let last := SMap.find s.fabric.lastCgen x
  if collEarly d != 0 then collEarly d
  else if !mem.contains s.ownPart || !noRepeat mem then 0x13
  else if (match last with | some g => !before32 g (leAt d 4 4) | none => false) then 0x14
  else if !s.spanOk x (leAt d 0x24 8) out || !isSpad (leAt d 0x24 8) || !s.spanOk x (leAt d 0x14 8) len ||
      !s.spanOk x (leAt d 0x1C 8) out then 0x15
  else if !s.peerCtx x then 0x16
  else 0

/-! ### The running collectives -/

/-- The collective of a context and generation. -/
def State.coll (s : State) (x g : Nat) : Option Coll := s.fabric.colls.find? (fun c => c.ctx = x && c.cgen = g)
def State.setColl (s : State) (c : Coll) : State :=
  { s with fabric := { s.fabric with colls := s.fabric.colls.map (fun e => if e.ctx = c.ctx && e.cgen = c.cgen then c else e) } }
def State.dropColl (s : State) (c : Coll) : State :=
  { s with fabric := { s.fabric with colls := s.fabric.colls.filter (fun e => e.ctx != c.ctx || e.cgen != c.cgen) } }

/-- A control flit of a collective to a member. -/
def State.collFlit (s : State) (c : Coll) (op aux who : Nat) : DataFlit :=
  s.mkFlit { cls := clORDERED, op := op, dst := c.part who, ctx := c.ctx, gen := (s.ctx c.ctx).gen
             be := c.index * 2 ^ 32 + c.cgen, aux := aux }

/-- Control flits to every child, and to the parent. -/
def State.tellKids (s : State) (c : Coll) (op aux : Nat) : State := s.send (c.kids.map (s.collFlit c op aux))
def State.tellParent (s : State) (c : Coll) (op aux : Nat) : State :=
  match c.parent with
  | some p => s.send [s.collFlit c op aux p]
  | none => s

/-- The DATA flits that carry bytes from an offset of staging to a member, 192 bytes at a time. -/
def State.collData (s : State) (c : Coll) (who off : Nat) (bs : List Byte) : List DataFlit :=
  (List.range ((bs.length + 191) / 192)).map (fun k =>
    s.mkFlit { cls := clBULK, op := 0x12, dst := c.part who, ctx := c.ctx, gen := (s.ctx c.ctx).gen
               addr := off + 192 * k, be := c.index * 2 ^ 32 + c.cgen
               len := min 192 (bs.length - 192 * k), body := (bs.drop (192 * k)).take 192 })

/-! ### Combination (R336) -/

/-- The greater of two binary32 codes: a NaN beats any number, and +0 beats −0. -/
def maxF32 (a b : Nat) : Nat :=
  if isNan32 a then a
  else if isNan32 b then b
  else if (f32.decode a).lt (f32.decode b) then b
  else if (f32.decode b).lt (f32.decode a) then a
  else if bit a 31 then b else a

/-- Two elements combined. -/
def combineElem (dtype : Nat) (max_ : Bool) (a b : Nat) : Nat :=
  if dtype = 2 then (if max_ then maxF32 a b else f32.add a b)
  else
    let w := 8 * collSize dtype
    if max_ then (if toInt w a < toInt w b then b else a) else (a + b) % 2 ^ w

/-- Two vectors combined element by element. -/
def combineBytes (dtype : Nat) (max_ : Bool) (n : Nat) (a b : List Byte) : List Byte :=
  let z := collSize dtype
  (List.range (n / z)).flatMap (fun k => toLE (combineElem dtype max_ (leAt a (z * k) z) (leAt b (z * k) z)) z)

/-- Child i's partial as it arrived. -/
def Coll.partialOf (c : Coll) (i : Nat) : List Byte := Memory.readBytes (SMap.get c.partials i []) 0 c.len

/-- This member's partial of an ALLREDUCE: its own input, then each child's in ascending index. -/
def Coll.reduce (c : Coll) (own : List Byte) : List Byte :=
  c.kids.foldl (fun a i => combineBytes c.dtype c.red c.len a (c.partialOf i)) own

/-! ### The phases -/

/-- The bytes that a child's subtree sends up. -/
def Coll.upBytes (c : Coll) (i : Nat) : Nat :=
  if c.op = 0 then c.len else if c.op = 2 then (subtree c.members.length 13 [i]).length * c.len else 0

/-- Every child's data has come up. -/
def Coll.upDone (c : Coll) : Bool := c.kids.all (fun i => c.upBytes i ≤ countAt c.partialLen i)

/-- FINISH: children are told and the command completes OK (R338). -/
def State.collFinish (s : State) (c : Coll) : State :=
  let s := s.tellKids c 0x15 1
  (s.dropColl c).finish c.ctx c.queue c.ssn stOK 0

/-- A member that has written its destination sends DONE once every child has; the root then finishes. -/
def State.collDone (s : State) (c : Coll) : State :=
  if c.phase = .done && c.kids.all c.dones.contains then
    if c.index = 0 then s.collFinish c else s.tellParent c 0x15 0
  else s

/-- A member treats another as lost: its part of the collective ends and the tree is told (R337). -/
def State.collAbort (s : State) (c : Coll) : State := (s.collFail c).send (s.abortFlits c none)

/-- A collective of a FROZEN context would write its image region: it ends with ADDR_FAULT, and the others' with an abort
(R469). -/
def State.collBarred (s : State) (c : Coll) : Bool := s.imageHit c.ctx c.stage c.outLen || s.imageHit c.ctx c.dst c.outLen
def State.collRefuse (s : State) (c : Coll) : State := (s.finish c.ctx c.queue c.ssn stADDR_FAULT 0).collAbort c

/-- COMMIT: children are told, and staging is copied to the destination (R335). -/
def State.collCommit (s : State) (c : Coll) : State :=
  if s.collBarred c then s.collRefuse c else
  (s.tellKids c 0x14 0).collWrite c (fun s =>
    let c := { c with phase := .done }
    (s.setColl c).collDone c)

/-- A member whose output is complete, with every child READY, sends READY; the root commits. -/
def State.collReady (s : State) (c : Coll) : State :=
  if c.phase = .read && c.whole && c.kids.all c.readies.contains then
    let c := { c with phase := .ready }
    let s := s.setColl c
    if c.index = 0 then s.collCommit c else s.tellParent c 0x13 0
  else s

/-- The output is complete in staging: it is copied down to the children. -/
def State.collWhole (s : State) (c : Coll) : State :=
  s.reading c.stage c.outLen (fun s bs =>
    let s := s.send (c.kids.flatMap (fun i => s.collData c i 0 bs))
    let c := { c with whole := true }
    (s.setColl c).collReady c)

/-- The part of the READ phase that goes up: once every child's data is in, this member's partial is formed. -/
def State.collUp (s : State) (c : Coll) : State :=
  if c.phase != .read || !c.upDone || c.whole then s
  else if s.collBarred c then s.collRefuse c
  else if c.op = 1 && c.index != 0 then s
  else (s.chargeStack c.ctx c.src c.len).reading c.src c.len (fun s own =>
    if c.op = 1 then s.writing c.stage own (fun s => s.collWhole c)
    else if c.op = 0 then
      let bs := c.reduce own
      s.writing c.stage bs (fun s =>
        match c.parent with
        | some p => s.send (s.collData c p 0 bs)
        | none => s.collWhole c)
    else
      s.writing (c.stage + c.index * c.len) own (fun s =>
        match c.parent with
        | some p => s.reading c.stage c.outLen (fun s bs =>
            s.send ((subtree c.members.length 13 [c.index]).flatMap (fun j =>
              s.collData c p (j * c.len) ((bs.drop (j * c.len)).take c.len))))
        | none => s.collWhole c))

/-- READ begins: children get GO (R335). -/
def State.collRead (s : State) (c : Coll) : State :=
  let s := s.tellKids c 0x10 1
  let c := { c with phase := .read }
  (s.setColl c).collUp c

/-- Every child has joined: JOIN goes up, or the root starts READ. -/
def State.collJoin (s : State) (c : Coll) : State :=
  if c.phase = .join && c.kids.all c.joined.contains then
    if c.index = 0 then s.collRead c else s.tellParent c 0x10 0
  else s

/-- A COLL command goes on with its member list (R333, R334). -/
def State.collBegin (s : State) (x q ssn : Nat) (d : List Byte) (mem : List Nat) : State :=
  let r := s.collDetail x d mem
  if r != 0 then s.finish x q ssn stCMD_INVALID r
  else
    let g := leAt d 4 4
    let w := leAt d 0 4
    let idx := (mem.findIdx? (fun p => p = s.ownPart)).getD 0
    let mine := fun (e : Nat × DataFlit) => decide (e.2.ctx = x ∧ e.2.be % 2 ^ 32 = g)
    let c : Coll := { ctx := x, queue := q, ssn := ssn, cgen := g, op := bits w 23 20, dtype := bits w 19 16
                      red := bit w 15, members := mem, index := idx
                      src := leAt d 0x14 8 % 2 ^ 52, dst := leAt d 0x1C 8 % 2 ^ 52, stage := leAt d 0x24 8 % 2 ^ 52
                      len := leAt d 0x2C 4
                      joined := (s.fabric.earlyJoins.filter mine).map (fun e => e.2.be / 2 ^ 32), started := s.ftime }
    let s := { s with fabric := { s.fabric with
      colls := s.fabric.colls ++ [c], lastCgen := SMap.put s.fabric.lastCgen x g
      earlyJoins := s.fabric.earlyJoins.filter (fun e => !mine e) } }
    s.collJoin c

/-- A COLL command starts with the descriptor it read: it reads the member list where the descriptor stands (R333, R334). -/
def State.collStart (s : State) (x q ssn : Nat) (d : List Byte) : State :=
  if collEarly d != 0 then s.finish x q ssn stCMD_INVALID (collEarly d)
  else
    let a := leAt d 8 8 % 2 ^ 52
    (s.chargeStack x a (2 * collNmem d)).reading a (2 * collNmem d) (fun s list => s.collBegin x q ssn d (collMembers d list))

/-! ### Arriving flits -/

/-- A flit names a COLL that its context has accepted and not yet started: a command that has been fetched, whose descriptor holds that
CGEN (R339). -/
def State.collAhead (s : State) (e : DataFlit) : Bool :=
  (s.ctx e.ctx).queues.any (fun q => q.2.cmds.any (fun k => k.phase = .fetched && k.opc = 0x20 &&
    s.load (k.at 0x10 % 2 ^ 52 + 4) 4 = e.be % 2 ^ 32))

/-- A flit of a collective may be handled: its COLL runs, past JOIN where the flit carries data, or no COLL of that CGEN is to come. -/
def State.collReadyFor (s : State) (e : DataFlit) : Bool :=
  match s.coll e.ctx (e.be % 2 ^ 32) with
  | some c => !(c.phase = .join && e.op = 0x12)
  | none => !s.collAhead e

/-- Handle a collective flit for the collective it names; one of a COLL that is still to start, and data that has overtaken its GO, wait,
and any other is discarded (R335, R339). -/
def State.onColl (s : State) (lane op aux : Nat) (f : State → Coll → Nat → DataFlit → State) : State :=
  match s.takeFlit lane (fun e => e.op = op && e.aux % 2 = aux && s.collReadyFor e) with
  | none => s
  | some (_, e, s) =>
    match s.coll e.ctx (e.be % 2 ^ 32) with
    | none => s
    | some c => f s c (e.be / 2 ^ 32) e

/-- COLL_JOIN_RECEIVE: from a child, or held as early while fewer than 1,024 are; further ones wait (R339). -/
def execCollJoinReceive (s : State) : Out :=
  .next (match s.takeFlit clORDERED (fun e => e.op = 0x10 && e.aux % 2 = 0) with
  | none => s
  | some (_, e, t) =>
    let g := e.be % 2 ^ 32
    match t.coll e.ctx g with
    | some c =>
      let c := { c with joined := e.be / 2 ^ 32 :: c.joined }
      (t.setColl c).collJoin c
    | none =>
      let stale := match SMap.find t.fabric.lastCgen e.ctx with | some l => !before32 l g | none => false
      if stale then t
      else if t.fabric.earlyJoins.length < 1024 then
        { t with fabric := { t.fabric with earlyJoins := t.fabric.earlyJoins ++ [(e.ctx, e)] } }
      else s)

/-- COLL_GO_RECEIVE. -/
def execCollGoReceive (s : State) : Out :=
  .next (s.onColl clORDERED 0x10 1 (fun s c i _ => if c.phase = .join && c.parent = some i then s.collRead c else s))

/-- COLL_DATA_RECEIVE: from the parent into staging, from a child into the partial results (R336). -/
def execCollDataReceive (s : State) : Out :=
  .next (s.onColl clBULK 0x12 0 (fun s c i e =>
    let bs := e.body.take e.len
    if c.phase != .read then s
    else if c.parent = some i then
      s.writing (c.stage + e.addr) bs (fun s =>
        let c := { c with got := c.got + e.len }
        let s := s.setColl c
        if c.outLen ≤ c.got then s.collWhole c else s)
    else if c.kids.contains i then
      let go := fun (s : State) =>
        let c := { c with partialLen := addAt c.partialLen i e.len
                          partials := if c.op = 2 then c.partials
                            else SMap.put c.partials i (Memory.writeBytes (SMap.get c.partials i []) e.addr bs) }
        (s.setColl c).collUp c
      if c.op = 2 then s.writing (c.stage + e.addr) bs go else go s
    else s))

/-- COLL_READY_RECEIVE. -/
def execCollReadyReceive (s : State) : Out :=
  .next (s.onColl clORDERED 0x13 0 (fun s c i _ =>
    let c := { c with readies := i :: c.readies }
    (s.setColl c).collReady c))

/-- COLL_COMMIT_RECEIVE. -/
def execCollCommitReceive (s : State) : Out :=
  .next (s.onColl clORDERED 0x14 0 (fun s c _ _ => if c.phase = .ready then s.collCommit c else s))

/-- COLL_DONE_RECEIVE. -/
def execCollDoneReceive (s : State) : Out :=
  .next (s.onColl clORDERED 0x15 0 (fun s c i _ =>
    let c := { c with dones := i :: c.dones }
    (s.setColl c).collDone c))

/-- COLL_FINISH_RECEIVE. -/
def execCollFinishReceive (s : State) : Out :=
  .next (s.onColl clORDERED 0x15 1 (fun s c _ _ => if c.phase = .done then s.collFinish c else s))

/-- COLL_ABORT_RECEIVE. -/
def execCollAbortReceive (s : State) : Out :=
  .next (s.onColl clORDERED 0x16 0 (fun s c _ _ => s.collAbort c))

/-- COLL_TIMEOUT: COLL_TMO milliseconds have passed from the start of the command. -/
def execCollTimeout (ctx cgen : Nat) (s : State) : Out :=
  .next (match s.coll ctx cgen with
  | some c => if c.started + max 1 (s.rd FABRIC.COLL_TMO_MS) * 100_000 ≤ s.ftime then s.collAbort c else s
  | none => s)

end Sys2Proof.Machine
end

