-- ==== Sys2Proof/Machine/Barrier.lean ====
section
/-! DEFINITION. The start barrier and the field step (R340–R347), with the checkpoint DUE bit a release carries (R489). -/
namespace Sys2Proof.Machine

def offBarrier (o : Nat) : Nat := pgBARRIER * 4096 + o
def barIDLE : Nat := 0
def barGATHER : Nat := 1
def barARRIVED : Nat := 2
def barCOUNTDOWN : Nat := 3
def State.barState (s : State) : Nat := s.rd BARRIER.BAR_STAT_STATE
/-- The BGEN being gathered. -/
def State.nextBgen (s : State) : Nat := (s.rd BARRIER.BAR_GEN_BGEN + 1) % 2 ^ 32
def State.childPorts (s : State) : List Nat := (List.range 16).filter (bit (s.rd BARRIER.BAR_TREE_CHILD))
def State.isRoot (s : State) : Bool := s.on BARRIER.BAR_TREE_IS_ROOT
def State.modBarrier (s : State) (f : Barrier → Barrier) : State := { s with barrier := f s.barrier }

/-- Send an ORDERED flit on one port, to the partner of that port. A BAR_RELEASE that the part forwards down the tree has the hops it has
taken from the root in HOPS, which R321 raises at each part; the root sends 0 (Table 10-2). -/
def State.sendOn (s : State) (p op bgen aux hops : Nat) (body : List Byte) : State :=
  let f := s.mkFlit { cls := clORDERED, op := op, dst := s.rd NL.NL_STAT_P_PART p, be := bgen, aux := aux, body := body
                      len := body.length }
  let r := s.sessioned (f.set 0 (leAt f.data 0 8 + hops % 16 * 2 ^ 7))
  r.1.modPort p (fun n => n.enqueue r.2)

/-- The DUE bit a release carries (R489). -/
def State.ckptDue (s : State) (step time : Nat) : Bool :=
  let mode := s.rd FIRN.TRIG_MODE
  (bit mode 0 && s.rd FIRN.TRIG_STEPS_N_M1 + 1 ≤ dist32 (s.rd FIRN.LAST_STEP_STEP) step) ||
  (bit mode 1 && max 1 (min 86400 (s.rd FIRN.TRIG_PERIOD_S)) * 100000000 ≤ time - s.rd FIRN.LAST_TIME_TIME)

/-- BAR_RELEASE to every child: REMAIN at departure, `dwell` units after the arrival. -/
def State.releaseDown (s : State) (skew : Bool) (remain : Int) (dwell hops step : Nat) (due : Bool) : State :=
  s.each s.childPorts (fun s p =>
    s.sendOn p 0x21 s.nextBgen (b2n skew * 2 ^ 31 + ((remain - dwell).toNat) % 2 ^ 31) hops (toLE step 4 ++ [BitVec.ofNat 8 (b2n due)]))

/-- The root arrives: it fixes its release instant and tells its children (R342, R489). -/
def State.rootFix (s : State) (dwell : Nat) : State :=
  let step := (s.rd BARRIER.STEP_STEP + b2n (s.barrier.cmds.any (·.stepInc))) % 2 ^ 32
  let lead := s.rd BARRIER.BAR_LEAD_US * 12800
  let due := s.ckptDue step (s.ftime + lead / 128)
  let s := s.wr BARRIER.STEP_STEP step
  let s := s.modBarrier (fun b => { b with remain := lead, carried := some (step, due, true), hops := 0, arrived := true })
  (s.releaseDown true lead dwell 0 step due).wr BARRIER.BAR_STAT_STATE barCOUNTDOWN

/-- The part arrives once its own commands and every child are in (R341). -/
def State.tryArrive (s : State) (dwell : Nat) : State :=
  if !s.barrier.arrived && max 1 (s.rd BARRIER.BAR_TREE_LOCAL) ≤ s.barrier.cmds.length &&
      s.childPorts.all s.barrier.children.contains then
    if s.isRoot then s.rootFix dwell
    else
      let s := s.modBarrier (fun b => { b with arrived := true })
      (s.sendOn (s.rd BARRIER.BAR_TREE_PARENT) 0x20 s.nextBgen 0 0 []).wr BARRIER.BAR_STAT_STATE barARRIVED
  else if s.barState = barIDLE then s.wr BARRIER.BAR_STAT_STATE barGATHER else s

/-- A BARRIER command starts (R341): CMD_INVALID with DETAIL 0x17, or it waits for the release. -/
def State.barrierCmd (s : State) (x q ssn bgen : Nat) (stepInc : Bool) (dwell : Nat) : State :=
  if bgen != s.nextBgen || !s.peerCtx x then s.finish x q ssn stCMD_INVALID 0x17
  else (s.modBarrier (fun b => { b with cmds := b.cmds ++ [⟨x, q, ssn, stepInc⟩], since := some (b.since.getD s.ftime) })).tryArrive dwell

/-- After a barrier ends: the next one starts from the arrivals that came early. -/
def State.nextBarrier (s : State) : State :=
  let now := s.barrier.early.filter (fun e => e.1 = s.nextBgen)
  let s := s.modBarrier (fun b => { b with
    cmds := [], children := now.map (·.2), early := b.early.filter (fun e => e.1 != s.nextBgen)
    since := none, arrived := false, remain := 0, carried := none })
  s.wr BARRIER.BAR_STAT_STATE (if now.isEmpty then barIDLE else barGATHER)

/-- The release instant (R344): every local command completes OK, and BAR_GEN, STEP, LAST_REL, SKEW_OK and DUE are set. -/
def State.barRelease (s : State) : State :=
  match s.barrier.carried with
  | none => s
  | some (step, due, skew) =>
    let s := s.each s.barrier.cmds (fun s c => s.finish c.ctx c.queue c.ssn stOK 0)
    let s := (s.wr BARRIER.BAR_GEN_BGEN s.nextBgen).wr BARRIER.STEP_STEP step
    let s := (s.wr BARRIER.LAST_REL_TIME s.ftime).wr BARRIER.BAR_STAT_SKEW_OK (b2n skew)
    let s := (s.wr BARRIER.BAR_STAT_HOPS s.barrier.hops).wr FIRN.TRIG_STAT_DUE (b2n due)
    s.nextBarrier

/-- BAR_ARRIVE_RECEIVE: from a child port; one of a later BGEN is kept. -/
def execBarArriveReceive (dwell : Nat) (s : State) : Out :=
  .next (s.onFlit clORDERED 0x20 (fun s p f =>
    let g := f.be % 2 ^ 32
    if !s.childPorts.contains p then s
    else if g = s.nextBgen then (s.modBarrier (fun b => { b with children := p :: b.children })).tryArrive dwell
    else if before32 s.nextBgen g then s.modBarrier (fun b => { b with early := b.early ++ [(g, p)] })
    else s))

/-- The remaining time in this part's own units (R343; log 46 on the direction of the ratio). -/
def State.ownRemain (s : State) (field : Int) (p : Nat) : Int :=
  let r := field - s.rd NL.NL_DELAY_ONE_WAY p
  match s.barrier.rate with
  | some (own, parent) => if parent = 0 then r else r * own / parent
  | none => r

/-- BAR_RELEASE_RECEIVE (R343): the countdown starts and the children are told; without time left the part releases at
once, late (R344). -/
def execBarReleaseReceive (dwell : Nat) (s : State) : Out :=
  .next (s.onFlit clORDERED 0x21 (fun s p f =>
    if f.be % 2 ^ 32 != s.nextBgen || !s.isParentPort p then s
    else
      let remain := s.ownRemain (f.aux % 2 ^ 31 : Nat) p
      let skew := bit f.aux 31 && s.on BARRIER.BAR_STAT_RATE_VALID && s.on NL.NL_DELAY_VALID p && decide (0 < remain)
      let step := leAt f.body 0 4
      let due := bit (leAt f.body 4 1) 0
      let hops := (f.hops + 1) % 16
      let s := s.modBarrier (fun b => { b with remain := remain, carried := some (step, due, skew), hops := hops })
      let s := (s.releaseDown skew remain dwell hops step due).wr BARRIER.BAR_STAT_STATE barCOUNTDOWN
      if 0 < remain then s
      else
        let x := (s.barrier.cmds.head?.map (·.ctx)).getD 0
        ((s.raiseCtx pgBARRIER kBARRIER_LATE x s.nextBgen).wr BARRIER.BAR_STAT_LATE 1).barRelease))

/-- BARRIER_RELEASE: the countdown has ended. -/
def execBarrierRelease (s : State) : Out :=
  .next (if s.barState = barCOUNTDOWN && s.barrier.remain ≤ 0 then s.barRelease else s)

/-- The barrier of the current BGEN is aborted (R346): commands end with PEER_LOST, BAR_GEN advances, and the tree is
told, but for the port an abort came by. -/
def State.barAbort (s : State) (from_ : Option Nat) : State :=
  let g := s.nextBgen
  let x := (s.barrier.cmds.head?.map (·.ctx)).getD 0
  let ports := (s.childPorts ++ if s.isRoot then [] else [s.rd BARRIER.BAR_TREE_PARENT]).filter (fun p => some p != from_)
  let s := s.each s.barrier.cmds (fun s c => s.finish c.ctx c.queue c.ssn stPEER_LOST 0)
  let s := (s.wr BARRIER.BAR_STAT_TIMEOUT 1).raiseCtx pgBARRIER kBARRIER_TIMEOUT x g
  let s := s.each ports (fun s p => s.sendOn p 0x22 g 0 0 [])
  (s.wr BARRIER.BAR_GEN_BGEN g).nextBarrier

/-- BAR_ABORT_RECEIVE. -/
def execBarAbortReceive (s : State) : Out :=
  .next (s.onFlit clORDERED 0x22 (fun s p f => if f.be % 2 ^ 32 = s.nextBgen then s.barAbort (some p) else s))

/-- BARRIER_TIMEOUT: BAR_TMO milliseconds have passed between the first command's acceptance and the release. -/
def execBarrierTimeout (s : State) : Out :=
  .next (match s.barrier.since with
  | some t0 => if t0 + max 1 (s.rd BARRIER.BAR_TMO_MS) * 100_000 ≤ s.ftime then s.barAbort none else s
  | none => s)

/-- A write to STEP: only while IDLE (R347). -/
def State.stepWrite (s : State) (a : Authority) (v : Nat) : State :=
  if s.barState = barIDLE then s.wr BARRIER.STEP_STEP v else s.cfgDenied a (offBarrier 0x50)

/-- STEP_WRITE. -/
def execStepWrite (port : Authority) (value : Nat) (s : State) : Out :=
  .next (s.gated port (offBarrier 0x50) 4 (fun s =>
    if s.mayWrite port BARRIER.STEP_STEP then s.stepWrite port value else s))

/-- A new place in the tree: the root's offset is 0, and what successive probes gave for another parent's rate is void (R340). -/
def State.newTree (s : State) (root : Bool) (parent : Nat) : State :=
  let s := if s.isRoot then s.wr BARRIER.FT_OFFSET_OFFSET 0 else s
  if s.isRoot = root && s.rd BARRIER.BAR_TREE_PARENT = parent then s
  else { s with barrier := { s.barrier with ratePrev := none, rate := none } }.wr BARRIER.BAR_STAT_RATE_VALID 0

/-- A write to BAR_TREE: only while IDLE (R349). -/
def State.barTreeWrite (s : State) (a : Authority) (v : Nat) : State :=
  if s.barState = barIDLE then (s.writeFields a (offBarrier 0x40) 4 v).newTree s.isRoot (s.rd BARRIER.BAR_TREE_PARENT)
  else s.cfgDenied a (offBarrier 0x40)

/-- BAR_TREE_WRITE. -/
def execBarTreeWrite (port : Authority) (value : Nat) (s : State) : Out :=
  .next (s.gated port (offBarrier 0x40) 4 (fun s => s.barTreeWrite port value))

end Sys2Proof.Machine
end

