-- ==== Sys2Proof/Machine/Ecdsa.lean ====
section
/-! DEFINITION. Verification of an ECDSA P-384 signature (FIPS 186-5), which firmware, test packs and vendor tokens carry
(Table 0-5). The spec gives no public key, so the keys are constants of Config. -/
namespace Sys2Proof.Machine

/-- The prime of the field of P-384. -/
def p384 : Nat := 2 ^ 384 - 2 ^ 128 - 2 ^ 96 + 2 ^ 32 - 1

/-- The order of the base point. -/
def p384Order : Nat :=
  0xffffffffffffffffffffffffffffffffffffffffffffffffc7634d81f4372ddf581a0db248b0a77aecec196accc52973

/-- A point of the curve; none is the point at infinity. -/
abbrev CurvePoint := Option (Nat × Nat)

/-- The base point. -/
def p384Base : CurvePoint := some
  (0xaa87ca22be8b05378eb1c71ef320ad746e1d3b628ba79b9859f741e082542a385502f25dbf55296c3a545e3872760ab7,
   0x3617de4a96262c6f5d9e98bf9292dc29f8f41dbd289a147ce9da3113b5f0b8c00a60b1ce1d7e819d7a431d7c90ea0e5f)

/-- x ^ e modulo m, by the low k bits of e from the top. -/
def powMod (m x e : Nat) : Nat → Nat
  | 0 => 1 % m
  | k + 1 =>
    let h := powMod m x (e / 2) k
    if e % 2 = 1 then h * h % m * x % m else h * h % m

/-- The inverse of x modulo a prime m below 2^384 (Fermat). -/
def invMod (m x : Nat) : Nat := powMod m x (m - 2) 384

/-- The third point of the line of slope a/b through (x1, y1) and a point of abscissa x2, mirrored. -/
def chord (a b x1 y1 x2 : Nat) : CurvePoint :=
  let l := a * invMod p384 b % p384
  let x := (l * l + 2 * p384 - x1 - x2) % p384
  some (x, (l * (x1 + p384 - x) + p384 - y1) % p384)

/-- Addition on the curve y² = x³ - 3x + b. -/
def addPoints : CurvePoint → CurvePoint → CurvePoint
  | none, q => q
  | p, none => p
  | some (x1, y1), some (x2, y2) =>
    if x1 != x2 then chord (y2 + p384 - y1) ((x2 + p384 - x1) % p384) x1 y1 x2
    else if (y1 + y2) % p384 = 0 then none
    else chord (3 * x1 * x1 + p384 - 3) (2 * y1 % p384) x1 y1 x1

/-- The multiple of a point by the low k bits of e. -/
def mulPoint (p : CurvePoint) (e : Nat) : Nat → CurvePoint
  | 0 => none
  | k + 1 =>
    let h := mulPoint p (e / 2) k
    let d := addPoints h h
    if e % 2 = 1 then addPoints d p else d

/-- Whether a signature (r, then s, each 48 bytes little-endian) of a digest verifies against a public key. -/
def ecdsaVerifies (key : Nat × Nat) (digest signature : List Byte) : Bool :=
  let r := leAt signature 0 48
  let s := leAt signature 48 48
  let w := invMod p384Order s
  let u := ofBE digest * w % p384Order
  let v := r * w % p384Order
  0 < r && r < p384Order && 0 < s && s < p384Order &&
  match addPoints (mulPoint p384Base u 384) (mulPoint (some key) v 384) with
  | some (x, _) => x % p384Order = r
  | none => false

/-- Whether a signature verifies against the part's key for firmware (0), test packs (1) or tokens (2). -/
def signatureOk (key : Nat) (digest signature : List Byte) : Bool :=
  ecdsaVerifies (Config.publicKey key) digest signature

end Sys2Proof.Machine
end

