-- ==== Sys2Proof/Machine/CalOps.lean ====
section
/-! DEFINITION. The calibration store (R554–R560): its slots, what makes a record usable, and the values in use. -/
namespace Sys2Proof.Machine

/-- The slot of a record type: its offset in the store (Table 17-6). -/
def calOff (t : Nat) : Nat := [0, 0x000, 0x100, 0x180, 0x200, 0x300, 0x400, 0x600].getD t 0

/-- The payload bytes of a record type; SERDES holds at most its number (Table 17-6). -/
def calPayload (t : Nat) : Nat := [0, 144, 64, 32, 96, 64, 256, 1004].getD t 0

/-- LEN is right for a type. -/
def calLenOk (t n : Nat) : Bool := if t = 7 then n ≤ 1004 else n = calPayload t

/-- Header fields of a record (Table 17-7). -/
def recMagic (r : List Byte) : Nat := leAt r 2 2
def recType (r : List Byte) : Nat := leAt r 1 1
def recVer (r : List Byte) : Nat := leAt r 0 1
def recSeq (r : List Byte) : Nat := leAt r 6 2
def recLen (r : List Byte) : Nat := leAt r 4 2
def recOrigin (r : List Byte) : Nat := leAt r 8 1
def recPayload (r : List Byte) : List Byte := (r.drop 16).take (recLen r)
def recCrcOk (r : List Byte) : Bool := leAt r (16 + recLen r) 4 = crc32 (r.take (16 + recLen r))

/-- The bytes of the slot of a type. -/
def State.calSlot (s : State) (t : Nat) : List Byte :=
  Memory.readBytes s.cal.store (calOff t) (if t = 7 then 1024 else if t = 6 then 512 else if t = 2 || t = 3 then 128 else 256)

/-- Why a slot's record is not used: 0 where it is, else the reason of CAL_DEFAULTED (R558). -/
def State.calReason (s : State) (t : Nat) : Nat :=
  let r := s.calSlot t
  if s.cal.unreadable then 4
  else if s.cal.torn.contains t then 1
  else if recMagic r != 0x4B43 || recType r != t then 2
  else if !calLenOk t (recLen r) || recVer r != 1 then 3
  else if !recCrcOk r then 1 else 0

def calTypes : List Nat := [1, 2, 3, 4, 5, 6, 7]

/-- Use the record of a slot from now on. -/
def State.calAdopt (s : State) (t : Nat) : State :=
  let c := s.cal
  { s with cal := { c with
      due := c.due.filter (fun k => k != t)
      inUse := if s.calReason t = 0 then SMap.put c.inUse t (recPayload (s.calSlot t)) else SMap.drop c.inUse t } }

/-- Adopt a type whose record waits for its moment. -/
def State.calTake (s : State) (t : Nat) : State := if s.cal.due.contains t then s.calAdopt t else s

/-- Chanter reads every slot (R558): defaults and CAL_DEFAULTED for those that fail, LACK_CAL for a store that cannot be read. -/
def State.calRead (s : State) : State :=
  let s := s.each calTypes (fun s t =>
    let s := s.calAdopt t
    let r := s.calReason t
    if r = 0 then s else s.raiseLater pgCAL kCAL_DEFAULTED t r)
  { s with boot := { s.boot with calOk := !s.cal.unreadable } }

/-- The payload in use of a type. -/
def State.calUse (s : State) (t : Nat) : Option (List Byte) := SMap.find s.cal.inUse t

/-! ### Values -/

/-- x × (1 + gain / 2^k) + offset in whole units; what remains below one unit goes up or not by a free draw (log 53). -/
def calScale (x gain : Int) (k : Nat) (offset : Int) (draw : Nat) : Int :=
  (x * ((2 ^ k : Nat) + gain) + (draw % 2 ^ k : Nat)) / (2 ^ k : Nat) + offset

/-- The reading of sensor i from its raw code (Table 17-6, THERM). -/
def State.thermCode (s : State) (i : Nat) (raw : Int) : Int :=
  match s.calUse 1 with
  | none => raw
  | some p => calScale raw (toInt 8 (leAt p (2 * i + 1) 1)) 12 (toInt 8 (leAt p (2 * i) 1)) (Config.free s.draws)

/-- The code of monitor m from its raw code (Table 17-6, VREF). -/
def State.vmonCode (s : State) (m raw : Nat) : Nat :=
  match s.calUse 3 with
  | none => raw
  | some p => (calScale raw (toInt 16 (leAt p (4 * m + 2) 2)) 16 (toInt 16 (leAt p (4 * m) 2)) (Config.free s.draws)).toNat

/-- V_P, V_MIN and V_MAX of quadrant q in a profile (0 P-EFF, 1 P-NOM, 2 P-MAX), in units of 0.125 mV (VOLT_PROFILE). -/
def State.volts (s : State) (q profile : Nat) : Nat × Nat × Nat :=
  match s.calUse 4 with
  | none => (6400, 5600, 7200)
  | some p =>
    let o := 8 + (q * 3 + profile) * 6
    (leAt p o 2, leAt p (o + 2) 2, leAt p (o + 4) 2)

/-- The TABLE_ID in effect (R560). -/
def State.tableId (s : State) : Nat := ((s.calUse 4).map (fun p => leAt p 0 1)).getD 0

/-- The trim of RC_COMP at a reading of DT: linear between entries, the end values beyond them (R538; rounding log 53). -/
def rcTrimAt (p : List Byte) (t : Int) (draw : Nat) : Int :=
  let at_ := fun i => (toInt 16 (leAt p (4 * i) 2), toInt 16 (leAt p (4 * i + 2) 2))
  if t ≤ (at_ 0).1 then (at_ 0).2
  else match (List.range 15).find? (fun i => t < (at_ (i + 1)).1) with
    | none => (at_ 15).2
    | some i =>
      let a := at_ i
      let b := at_ (i + 1)
      let d := b.1 - a.1
      a.2 + ((b.2 - a.2) * (t - a.1) + (draw % d.toNat : Nat)) / d

/-- The frequency, in MHz, of an entry of a safe table (Table 17-6, SAFE_FREQ): the last one whose voltage the present one
reaches; below the first it is the lowest clock (log 54). -/
def safeMhz (tab : Option (List Byte)) (q volt : Nat) : Nat :=
  match tab with
  | none => 800
  | some p =>
    let ent := fun i => leAt p (64 * q + 2 * i) 2
    match (List.range 32).reverse.find? (fun i => 3600 + 40 * (ent i % 256) ≤ volt) with
    | some i => max 800 (25 * (ent i / 256))
    | none => 800

/-! ### Commit (R556) -/

def calBAD_TYPE : Nat := 1
def calBAD_LEN : Nat := 2
def calBAD_CRC : Nat := 3
def calOUT_OF_RANGE : Nat := 4
def calBUSY : Nat := 5
def calNOT_AVAILABLE : Nat := 6

/-- A reserved field of a record is not 0: the header's, or the rest of a payload. -/
def recReservedBad (t : Nat) (r : List Byte) : Bool :=
  let p := recPayload r
  leAt r 9 7 != 0 || (t = 3 && leAt p 20 12 != 0) || (t = 4 && (leAt p 1 7 != 0 || leAt p 80 16 != 0))

/-- A value of a payload lies outside its limits (log 55 on strictness). -/
def recOutOfRange (t : Nat) (p : List Byte) : Bool :=
  if t = 4 then (List.range 12).any (fun i =>
    let vp := leAt p (8 + 6 * i) 2
    let lo := leAt p (10 + 6 * i) 2
    let hi := leAt p (12 + 6 * i) 2
    lo < 4400 || vp < lo || hi < vp || 7600 < hi)
  else if t = 2 then (List.range 15).any (fun i => toInt 16 (leAt p (4 * i + 4) 2) ≤ toInt 16 (leAt p (4 * i) 2))
  else if t = 6 then (List.range 4).any (fun q => (List.range 31).any (fun i =>
    leAt p (64 * q + 2 * i + 2) 1 ≤ leAt p (64 * q + 2 * i) 1))
  else false

/-- The result of checking a staged record for CAL_CMD.TYPE t, in the order of R556; 0 where it stands. -/
def calCheck (t : Nat) (r : List Byte) : Nat :=
  if t = 0 || 7 < t || recType r != t then calBAD_TYPE
  else if recMagic r != 0x4B43 || recVer r != 1 || !calLenOk t (recLen r) || recReservedBad t r then calBAD_LEN
  else if !recCrcOk r then calBAD_CRC
  else if recOutOfRange t (recPayload r) then calOUT_OF_RANGE
  else 0

/-- A write of CAL_CMD with COMMIT = 1. -/
def State.calCommit (s : State) (t : Nat) : State :=
  if s.cal.writing.isSome then s.wr CAL.CAL_STAT_RESULT calBUSY
  else
    let r := Memory.readBytes s.cal.stage 0 1024
    let res := calCheck t r
    let s := (s.wr CAL.CAL_STAT_RESULT res).wr CAL.CAL_STAT_TYPE t
    if res = 0 then { s with cal := { s.cal with writing := some (t, r.take (20 + recLen r)) } } else s

/-- The validated record reaches its slot: WRSEQ one above the slot's, a new CRC, and CAL_WRITTEN (R557, R559). -/
def State.calWriteDone (s : State) : State :=
  match s.cal.writing with
  | none => s
  | some (t, r) =>
    let old := s.calSlot t
    let seq := satInc 0xFFFF (recSeq old)
    let n := 16 + recLen r
    let body := putLE (r.take n) 6 2 seq
    let bs := body ++ toLE (crc32 body) 4
    let c := s.cal
    let s := { s with cal := { c with
      store := Memory.writeBytes c.store (calOff t) bs, writing := none
      torn := c.torn.filter (fun k => k != t), due := c.due.filter (fun k => k != t) ++ [t] } }
    s.raise pgCAL kCAL_WRITTEN t (recOrigin old * 256 + seq % 256)

/-- The Drone rail is lost: a record being written is left torn (R557). -/
def State.calTear (s : State) : State :=
  match s.cal.writing with
  | none => s
  | some (t, _) =>
    let c := s.cal
    { s with cal := { c with writing := none, torn := c.torn.filter (fun k => k != t) ++ [t] } }

/-- CAL_COMMIT: TRAY writes CAL_CMD; before SERVICE and in DRONE the commit is refused as not available. -/
def execCalCommit (port : Authority) (type : Nat) (s : State) : Out :=
  let off := pgCAL * 4096 + 0x40
  .next (if s.mayWrite port CAL.CAL_CMD_COMMIT && !s.answers port off true then
    (s.gated port off 4 id).wr CAL.CAL_STAT_RESULT calNOT_AVAILABLE
  else s.gated port off 4 (fun s => if s.mayWrite port CAL.CAL_CMD_COMMIT then s.calCommit type else s))

/-- CAL_WRITE_DONE. -/
def execCalWriteDone (s : State) : Out := .next s.calWriteDone

end Sys2Proof.Machine
end

