-- ==== Sys2Proof/Machine/Launch.lean ====
section
/-! DEFINITION. Dispatches: their placement on a core (R277–R279, R465), the launch of their groups (R172–R174, R287)
and their completion (R175, R201). -/
namespace Sys2Proof.Machine

/-! ### Placement -/

/-- The live cores of a context's affinity, as SOLO leaves them (R278, R465). -/
def State.liveAffinity (s : State) (x : Nat) : List Nat :=
  (List.range 16).filter (fun c => bit (s.ctx x).cfg.affinity c && s.live c)
def State.soloCores (s : State) (x : Nat) (cs : List Nat) : List Nat :=
  if s.on QENG.SOLO_EN then
    if x = s.rd QENG.SOLO_CTX then cs.filter (fun c => c = s.rd QENG.SOLO_CORE)
    else cs.filter (fun c => c != s.rd QENG.SOLO_CORE)
  else cs

/-- The number of resident groups of a core. -/
def State.residents (s : State) (c : Nat) : Nat := (s.core c).groups.length

/-- The core of a set that R277 chooses: the fewest resident groups, the lowest index at a tie. -/
def State.leastLoaded (s : State) (cs : List Nat) : Option Nat :=
  bestBy (fun a b => s.residents a < s.residents b) cs

/-- A command of a dispatch that was never placed finishes with a status. -/
def State.dropWaiting (s : State) (d : Dispatch) (status detail : Nat) : State :=
  { s.finish d.ctx d.queue d.ssn status detail with waiting := s.waiting.filter (fun e => e.id != d.id) }

/-- Place a dispatch on core c: the front end validates its kernel descriptor there (R205, R206). -/
def State.placeOn (s : State) (d : Dispatch) (c : Nat) : State :=
  let s := s.bump HDR.BLK_PROG (pgQUAD (c / 4))
  let r := s.kdReason d.ctx c d.raw
  if r != 0 then
    (s.raiseCtx (pgFE c) kKDESC_INVALID d.ctx d.kernel.addr r).dropWaiting d stKDESC_INVALID r
  else
    let s := { s with waiting := s.waiting.filter (fun e => e.id != d.id) }
    s.modCore c (fun k => k.takeDisp { d with kernel := parseKernel d.kernel.addr d.raw })

/-- DISPATCH_PLACE: the waiting dispatch of that number is placed, completes NO_SERVICE, or goes on waiting
(TEST_BUSY). -/
def execDispatchPlace (dispatch : Nat) (s : State) : Out :=
  .next (match s.waiting.find? (fun d => d.id = dispatch) with
  | none => s
  | some d =>
    if !s.ctxIssues d.ctx d.gen then s
    else
      let lv := s.liveAffinity d.ctx
      if lv.isEmpty then s.dropWaiting d stNO_SERVICE 1
      else
        let cs := s.soloCores d.ctx lv
        let free := cs.filter (fun c => !s.inSlice c)
        match s.leastLoaded (free.filter (fun c =>
          s.takesWork (pgFE c) && !s.fencePending c)) with
        | some c => s.placeOn d c
        | none => s)

/-! ### Launch -/

/-- A dispatch has a next group and may launch it now (R173). -/
def Core.launchable (k : Core) (d : Dispatch) : Bool :=
  d.fault.isNone && d.launched < d.kernel.groups &&
  (k.groups.filter (fun e => e.2.disp = d.id)).length < d.kernel.limit &&
  (k.freeRun d.kernel.width).isSome && k.freePlace.isSome

/-- A newly launched group (R174, R176). -/
def newGroup (d : Dispatch) (slot : Nat) : Group :=
  let lanes := List.range d.kernel.width
  let regs := lanes.foldl (fun (m : List (Nat × Word)) l =>
    SMap.put (SMap.put (SMap.put (SMap.put m (l * 64) (BitVec.ofNat 32 l)) (l * 64 + 1) (BitVec.ofNat 32 d.launched))
      (l * 64 + 2) (BitVec.ofNat 32 d.kernel.argAddr)) (l * 64 + 3) (BitVec.ofNat 32 (d.kernel.argAddr / 2 ^ 32))) []
  { ctx := d.ctx, gen := d.gen, disp := d.id, width := d.kernel.width, index := d.launched, slot := slot
    threads := lanes.map (fun _ => { pc := d.kernel.progAddr }), regs := regs }

/-- Launch the next group of a dispatch of core c. -/
def State.launchGroup (s : State) (c : Nat) (d : Dispatch) : State :=
  s.modCore c (fun k =>
    match k.freeRun d.kernel.width, k.freePlace with
    | some slot, some p => (k.setGroup p (newGroup d slot)).setDisp { d with launched := d.launched + 1 }
    | _, _ => k)

/-- What an owner was charged in the last 1 ms (U[o] of R287). -/
def usageOf (s : State) (u : List (Nat × Nat × Nat)) (o : Nat) : Nat :=
  ((u.filter (fun e => s.ftime < e.1 + 100000 && e.2.1 = o)).map (·.2.2)).sum

/-- The owner R287 chooses among those with ready work, by share and usage. -/
def State.chooseOwner (s : State) (q : Nat) (u : List (Nat × Nat × Nat)) (owners : List Nat) : Option Nat :=
  let share := fun o => s.rd QUAD.SHARE q o
  let some_ := owners.filter (fun o => 0 < share o)
  if some_.isEmpty then bestBy (fun a b => a < b) owners
  else bestBy (fun a b =>
    let x := usageOf s u a * share b
    let y := usageOf s u b * share a
    x < y || (x = y && a < b)) some_

/-- What one round adds to a context's deficit: weight × 1,024 core cycles, counted in quarters of a cycle (R287). -/
def Ctx.step (c : Ctx) : Int := (max 1 c.cfg.weight * 4096 : Nat)
/-- The rounds after which some ready context has a deficit of 0 or more. -/
def Ctx.roundsDue (c : Ctx) : Nat := if 0 ≤ c.deficit then 0 else ((-c.deficit + c.step - 1) / c.step).toNat
def State.rounds (s : State) (xs : List Nat) : Nat :=
  ((bestBy (fun (a b : Nat) => a < b) (xs.map (fun x => (s.ctx x).roundsDue))).getD 0)

/-- The next number of a set in ascending order after `last`, wrapping. -/
def nextUp (last : Nat) (xs : List Nat) : Option Nat :=
  match bestBy (fun (a b : Nat) => a < b) (xs.filter (fun x => last < x)) with
  | some x => some x
  | none => bestBy (fun (a b : Nat) => a < b) xs

/-- GROUP_LAUNCH: the launch arbiter of core c launches one group. -/
def execGroupLaunch (core : Nat) (s : State) : Out :=
  let k := s.core core
  let ready := k.disps.filter (fun d => k.launchable d && s.ctxIssues d.ctx d.gen)
  let owners := ready.map (fun d => (s.ctx d.ctx).owner)
  .next (if !s.coreIssues core then s
  else match s.chooseOwner (core / 4) k.usage owners with
  | none => s
  | some o =>
    let xs := ((ready.map (·.ctx)).filter (fun x => (s.ctx x).owner = o))
    let n := s.rounds xs
    let s := s.each xs.dedup (fun s x => s.modCtx x (fun c => { c with deficit := c.deficit + n * c.step }))
    match nextUp (SMap.get k.lastCtx o 0) (xs.filter (fun x => 0 ≤ (s.ctx x).deficit)) with
    | none => s
    | some x =>
      match ready.find? (fun d => d.ctx = x) with
      | none => s
      | some d => (s.modCore core (fun k => { k with lastCtx := SMap.put k.lastCtx o x })).launchGroup core d)

/-! ### Completion -/

/-- A pass of dispatch d has a place in one of the core's units. -/
def Core.hasPass (k : Core) (d : Nat) : Bool :=
  k.withdrawn.any (fun p => p.disp = d) ||
  [k.dsa.pending, k.dsa.running, k.dsa.readout, k.exu.pending, k.exu.running, k.exu.readout].any
    (fun o => match o with | some p => p.disp = d | none => false)

/-- DISPATCH_COMPLETE (R175, R201): its groups have ended, its passes and writes have taken effect. -/
def execDispatchComplete (core dispatch : Nat) (s : State) : Out :=
  .next (match (s.core core).disp dispatch with
  | none => s
  | some d =>
    let ended := match d.fault with
      | some _ => true
      | none => d.launched = d.kernel.groups && d.ended = d.kernel.groups
    if ended && !(s.core core).hasPass d.id && s.remoteWrites d.id = 0 && s.ctxIssues d.ctx d.gen then
      let r := d.fault.getD (stOK, 0)
      (s.modCore core (fun k => { k with disps := k.disps.filter (fun e => e.id != d.id) })).finish
        d.ctx d.queue d.ssn r.1 r.2
    else s)

end Sys2Proof.Machine
end

