-- ==== Sys2Proof/Machine/FirnOps.lean ====
section
/-! DEFINITION. Freezing and thawing a context (R468–R484): the image, eviction, placement at a thaw, and the contexts
that survive a reset. -/
namespace Sys2Proof.Machine

def fNOT_FROZEN : Nat := 0x10
def fIMAGE_RANGE : Nat := 0x11
def fPARTIAL : Nat := 0x12
def fPLACE_LOST : Nat := 0x13
def fTABLE_MISMATCH : Nat := 0x14
def fNO_AREA : Nat := 0x15
def fCKPT_DIGEST : Nat := 0x16
def fSPOILED : Nat := 0x17
def fNO_CHECKPOINT : Nat := 0x18
def fRESTORE_DIGEST : Nat := 0x19
def fREPLICA_DIVERGED : Nat := 0x1A
def fTEST_HELD : Nat := 0x1E

def State.modFirn (s : State) (f : Firn → Firn) : State := { s with firn := f s.firn }
def State.image (s : State) (x : Nat) : Option Image := SMap.find s.firn.images x
def State.setImage (s : State) (x : Nat) (m : Image) : State := s.modFirn (fun r => { r with images := SMap.put r.images x m })
def State.dropImage (s : State) (x : Nat) : State := s.modFirn (fun r => { r with images := SMap.drop r.images x })

/-- The cores of a mask. -/
def coresOf (mask : Nat) : List Nat := (List.range 16).filter (bit mask)

/-- The image region of a context satisfies R468. -/
def Ctx.imageOk (c : Ctx) (evict : Bool) : Bool :=
  let n := popcount c.cfg.affinity 16
  let need := 1 + n + if evict then 2 * c.cfg.spadNb * n else 0
  need ≤ c.cfg.imgMib && c.cfg.imgOff + c.cfg.imgMib ≤ c.cfg.hbmLen * 64

/-- A command of R471 of context x runs. -/
def Ctx.longRunning (c : Ctx) : Bool :=
  c.queues.any (fun q => q.2.cmds.any (fun k => k.phase = .running && [0x18, 0x19, 0x20, 0x21].contains k.opc))

/-- Take the pending pass of context x out of a unit. -/
def MUnit.takeBack (u : MUnit) (x : Nat) : MUnit × List Pass :=
  match u.pending with
  | some p => if p.ctx = x then ({ u with pending := none }, [p]) else (u, [])
  | none => (u, [])

/-- Withdraw the pending passes of context x; each group keeps the records of its own, and the core those of a group that has ended
(R196, R470). -/
def Core.withdrawCtx (k : Core) (x : Nat) : Core :=
  let a := k.dsa.takeBack x
  let b := k.exu.takeBack x
  let ps := a.2 ++ b.2
  let mine := fun (p : Pass) (g : Group) => p.disp = g.disp && p.group = g.index
  { k with dsa := a.1, exu := b.1
           withdrawn := k.withdrawn ++ ps.filter (fun p => !k.groups.any (fun e => mine p e.2))
           groups := k.groups.map (fun e => (e.1, { e.2 with
             withdrawn := e.2.withdrawn ++ ps.filter (fun p => mine p e.2) })) }

/-- A freeze starts (R470, steps 1 to 3). -/
def State.freezeStart (s : State) (op : FirnOp) : State :=
  let s := s.modCtx op.target (fun c => { c with freezing := true })
  let s := { s with cores := s.cores.map (fun (e : Nat × Core) => (e.1, e.2.withdrawCtx op.target)) }
  s.modFirn (fun r => { r with freezes := r.freezes ++ [op] })

/-- No pass or readout of context x is under way (R130). -/
def State.passesDone (s : State) (x : Nat) : Bool :=
  s.cores.all (fun e => [e.2.dsa.running, e.2.dsa.readout, e.2.exu.running, e.2.exu.readout].all
    (fun o => match o with | some p => p.ctx != x | none => true))

/-- The scratchpad extent of context x on core c: its first offset in the slice and its bytes. -/
def Ctx.extentLo (c : Ctx) (core : Nat) : Nat := sliceBase core + c.cfg.spadFirst * bankSize
def Ctx.extentSize (c : Ctx) : Nat := c.cfg.spadNb * bankSize

/-- The cells of the extent on a core, from its base. -/
def State.extentCells (s : State) (c : Ctx) (core : Nat) : List Host.Cell :=
  (s.mem.filter (fun e => c.extentLo core ≤ e.1 && e.1 < c.extentLo core + c.extentSize)).map
    (fun e => (e.1 - c.extentLo core, e.2))

/-- Copy the extent of context x into its image (R474); an uncorrectable error stops the eviction. -/
def State.evict (s : State) (x : Nat) : State × Bool :=
  let c := s.ctx x
  let cores := coresOf c.cfg.affinity
  let r := cores.foldl (fun (st : State × Bool) k => if st.2 then st.1.readCheck (c.extentLo k) c.extentSize else st) (s, true)
  if !r.2 then r
  else
    let s := r.1
    let m := (s.image x).getD {}
    (((s.setImage x { m with evicted := some (cores.map (fun k => (k, s.extentCells c k))) }).modCtx x
      (fun c => { c with evicted := true })).firnMoved (cores.length * c.extentSize), true)

/-- The image of context x as its cores hold it now. -/
def State.imageOf (s : State) (x : Nat) : Image :=
  { groups := s.cores.flatMap (fun e => (e.2.groups.filter (fun g => g.2.ctx = x)).map (fun g => (e.1, g.1, g.2)))
    passes := s.cores.flatMap (fun e => (e.2.withdrawn.filter (fun p => p.ctx = x)).map (fun p => (e.1, p)))
    disps := s.cores.flatMap (fun e => (e.2.disps.filter (fun d => d.ctx = x)).map (fun d => (e.1, d)))
    crcs := (coresOf (s.ctx x).cfg.affinity).map (fun k => (k, (s.core k).tableCrc)) }

/-- Answer the command a freeze or thaw serves. -/
def State.answerOp (s : State) (op : FirnOp) (status detail : Nat) : State :=
  match op.by_ with
  | some (x, q, n) => s.finish x q n status detail
  | none => s

/-! ### Thaw (R476–R478) -/

/-- The cores an image holds live state or an extent on. -/
def Image.cores (m : Image) : List Nat :=
  (List.range 16).filter (fun c => m.groups.any (fun g => g.1 = c) || m.passes.any (fun p => p.1 = c) || m.disps.any (fun d => d.1 = c) ||
    (match m.evicted with | some l => l.any (fun e => e.1 = c) | none => false))

/-- Core k has every bank of the scratchpad extent of a context. -/
def State.hasBanks (s : State) (c : Ctx) (k : Nat) : Bool :=
  (List.range c.cfg.spadNb).all (fun b => s.bankPresent k (c.cfg.spadFirst + b))

/-- The core each image core resumes on, where every one has one (R477; log 52). -/
def State.thawMap (s : State) (x : Nat) (m : Image) : Option (List (Nat × Nat)) :=
  let aff := (s.ctx x).cfg.affinity
  m.cores.foldl (fun (acc : Option (List (Nat × Nat))) c =>
    match acc with
    | none => none
    | some l =>
      let free := fun k => s.live k && bit aff k && s.hasBanks (s.ctx x) k && !l.any (fun e => e.2 = k)
      if m.evicted.isNone then (if s.live c then some (l ++ [(c, c)]) else none)
      else if free c then some (l ++ [(c, c)])
      else match (List.range 16).find? free with
        | some k => some (l ++ [(c, k)])
        | none => none) (some [])

/-- The status a thaw of context x fails with, or the map it uses (R476). -/
def State.thawCheck (s : State) (x : Nat) : Nat × List (Nat × Nat) :=
  let m := (s.image x).getD {}
  match s.thawMap x m with
  | none => (fPLACE_LOST, [])
  | some l =>
    if l.all (fun e => (m.crcs.find? (fun c => c.1 = e.1)).all (fun c => (s.core e.2).tableCrc = c.2)) then (stOK, l)
    else (fTABLE_MISMATCH, [])

/-! ### The end of a freeze -/

/-- An explicit test holds context x frozen (R425). -/
def State.testHolds (s : State) (x : Nat) : Bool := s.test.quads.any (fun e => e.2.held.contains x)

/-- Steps 4 and 5 of R470, once the passes are done; the context is FROZEN. One frozen for a test that has ended since thaws again. -/
def State.freezeEnd (s : State) (op : FirnOp) : State :=
  let x := op.target
  let s := if (s.ctx x).state = .frozen then s
    else
      let s := s.setImage x { s.imageOf x with forReset := op.level, test := op.test }
      { s with cores := s.cores.map (fun e => (e.1, { e.2 with
          groups := e.2.groups.filter (fun g => g.2.ctx != x), withdrawn := e.2.withdrawn.filter (fun p => p.ctx != x)
          disps := e.2.disps.filter (fun d => d.ctx != x) })) }
  let partial_ := op.evict && (s.ctx x).longRunning
  let r := if op.evict && !partial_ then s.evict x else (s, true)
  if !r.2 then r.1.modFirn (fun f => { f with freezes := f.freezes.filter (fun o => o.target != x) })
  else
    let s := r.1.modCtx x (fun c => { c with state := .frozen, deficit := 0, freezing := false })
    let s := s.modFirn (fun f => { f with freezes := f.freezes.filter (fun o => o.target != x) })
    let s := s.answerOp op (if partial_ then fPARTIAL else stOK) 0
    if op.test && !s.testHolds x && (s.thawCheck x).1 = stOK then
      (s.setImage x { (s.image x).getD {} with test := false }).modFirn (fun f => { f with thaws := f.thaws ++ [{ target := x, test := true }] })
    else s

/-- FREEZE_COMPLETE: the passes of the context have drained. -/
def execFreezeComplete (ctx : Nat) (s : State) : Out :=
  .next (match s.firn.freezes.find? (fun o => o.target = ctx) with
  | some op => if s.passesDone ctx then s.freezeEnd op else s
  | none => s)

/-- Put a group of an image at a free place and run of slots of a core, its withdrawn passes with it. -/
def Core.seat (k : Core) (g : Group) : Option (Core × List Pass) :=
  match k.freeRun g.width, k.freePlace with
  | some slot, some p =>
    some (k.setGroup p { g with slot := slot, withdrawn := [] }, g.withdrawn.map (fun w => { w with place := p }))
  | _, _ => none

/-- The groups of an image seated on their cores, each with its withdrawn passes; none where one does not fit. -/
def State.seatAll (s : State) (l : List (Nat × Nat)) (gs : List (Nat × Nat × Group)) : Option (State × List (Nat × Pass)) :=
  gs.foldl (fun (acc : Option (State × List (Nat × Pass))) e =>
    match acc with
    | none => none
    | some (s, ps) =>
      let c := ((l.find? (fun m => m.1 = e.1)).map (·.2)).getD e.1
      match (s.core c).seat e.2.2 with
      | none => none
      | some (k, ws) => some (s.setCore c k, ps ++ ws.map (fun w =>
          (c, { w with store := w.store - sliceBase e.1 + sliceBase c })))) (some (s, []))

/-- The extent of an image back into the slices (R478). -/
def State.putBack (s : State) (x : Nat) (l : List (Nat × Nat)) (ev : List (Nat × List Host.Cell)) : State :=
  let c := s.ctx x
  s.each ev (fun s e =>
    let k := ((l.find? (fun m => m.1 = e.1)).map (·.2)).getD e.1
    let s := (s.zero (c.extentLo k) (c.extentLo k + c.extentSize)).firnMoved c.extentSize
    { s with mem := e.2.foldl (fun m b => Memory.write m (c.extentLo k + b.1) b.2) s.mem })

/-- A withdrawn pass starts on its unit, ahead of one issued since (R195, R196); the flag says whether the unit may start it. -/
def State.startPass (s : State) (c : Nat) (p : Pass) : State × Bool :=
  if s.passStarts c p then ((s.modUnit c p.exact (fun u => { u with running := some p })).markV p, true) else (s, false)

/-- R478 for context x, or no change while something it needs is not free. -/
def State.thawEnd (s : State) (op : FirnOp) : State :=
  let x := op.target
  let m := (s.image x).getD {}
  let chk := s.thawCheck x
  let s0 := s
  let s := match m.evicted with | some ev => s.putBack x chk.2 ev | none => s
  match s.seatAll chk.2 m.groups with
  | none => s0
  | some (s, ps) =>
    let alone := m.passes.map (fun e =>
      let c := ((chk.2.find? (fun k => k.1 = e.1)).map (·.2)).getD e.1
      (c, { e.2 with store := e.2.store - sliceBase e.1 + sliceBase c }))
    let r := (ps ++ alone).foldl (fun (st : State × Bool) e => if st.2 then st.1.startPass e.1 e.2 else st) (s, true)
    if !r.2 then s0
    else
      let s := r.1.each m.disps (fun s e =>
        s.modCore (((chk.2.find? (fun k => k.1 = e.1)).map (·.2)).getD e.1) (fun k => k.takeDisp e.2))
      let s := (s.dropImage x).modFirn (fun f => { f with thaws := f.thaws.filter (fun o => o.target != x) })
      let s := s.modCtx x (fun c => { c with state := .owned, evicted := false, deficit := 0 })
      ((s.wakeWaits x).pumpReads).answerOp op stOK 0

/-- THAW_COMPLETE: once every remote request has been answered (R476). -/
def execThawComplete (ctx : Nat) (s : State) : Out :=
  .next (match s.firn.thaws.find? (fun o => o.target = ctx) with
  | none => s
  | some op =>
    let lost := ((s.image ctx).map (·.lostRemotes)).getD false
    let s := if lost then s.each (s.fabric.remotes.filter (fun r => r.ctx = ctx)) State.remoteLost else s
    if s.fabric.remotes.any (fun r => r.ctx = ctx) then s else s.thawEnd op)

/-! ### Survival (R481–R484) -/

/-- CKPT_FAIL for a context. -/
def State.ckptFail (s : State) (x reason low : Nat) : State := s.raiseCtx pgFIRN kCKPT_FAIL x 0 (reason * 256 + low)

/-- The survival bit of a reset level (2 engine, 3 partition, 4 chip). -/
def Ctx.survives (c : Ctx) (level : Nat) : Bool :=
  if level = 2 then c.cfg.survEng else if level = 3 then c.cfg.survPart else if level = 4 then c.cfg.survChip else false

/-- A context that was frozen before is preserved by a reset of this level (Table 15-3). -/
def Ctx.frozenKept (c : Ctx) (level : Nat) : Bool := c.state = .frozen && (level < 4 || c.evicted)

/-- Firn starts to freeze the contexts of a reset that have its survival bit, in ascending number (R482). -/
def State.surviveStart (s : State) (level : Nat) (xs : List Nat) : State :=
  s.each xs (fun s x =>
    let c := s.ctx x
    if c.survives level && c.state = .owned && !c.freezing && c.imageOk (level = 4) then
      s.freezeStart { target := x, evict := decide (level = 4), level := some level }
    else s)

/-- At the deadline of a reset: its survivors whose freeze has completed are preserved. The lists that remain are to
be reset: those that were never to survive, and those whose freeze did not complete. -/
def State.surviveEnd (s : State) (level : Nat) (xs : List Nat) : List Nat × List Nat :=
  let left := xs.filter (fun x => !(s.ctx x).frozenKept level && (s.ctx x).owned && (s.ctx x).state != .lost)
  (left.filter (fun x => !(s.ctx x).survives level), left.filter (fun x => (s.ctx x).survives level))

/-- Firn thaws the contexts it froze for a reset of a level (R483). -/
def State.surviveThaw (s : State) (level : Nat) : State :=
  s.each ((s.firn.images.filter (fun e => e.2.forReset = some level)).map (·.1)) (fun s x =>
    let m := (s.image x).getD {}
    let s := s.setImage x { m with forReset := none }
    let chk := s.thawCheck x
    if chk.1 = stOK then s.modFirn (fun f => { f with thaws := f.thaws ++ [{ target := x, level := some level }] })
    else s.ckptFail x 2 chk.1)

end Sys2Proof.Machine
end

