-- ==== Sys2Proof/Machine/TokOps.lean ====
section
/-! DEFINITION. Tokens after they are raised: their words, the class that acts and its domain (R354–R358), the rate limit
(R369), the tenant copies (R368) and Moraine's queue and ring (R363–R367). -/
namespace Sys2Proof.Machine

/-! ### Token words (Table 11-1) -/

def Tok.word0 (t : Tok) : Nat :=
  t.src * 2 ^ 52 + t.kind * 2 ^ 44 + t.cls * 2 ^ 41 + b2n t.sec * 2 ^ 40 + b2n t.inj * 2 ^ 39 + b2n t.chk * 2 ^ 38 +
  t.ctx * 2 ^ 25 + t.gen * 2 ^ 17

def Tok.word1 (t : Tok) : Nat := t.addr * 2 ^ 16 + t.detail

/-! ### Class and domain -/

/-- What a token's class starts. -/
inductive React where
  | nothing
  | ctx (x : Nat)
  | engine (c : Nat)
  | part (q : Nat)
  | chip
  | power
  deriving DecidableEq, Repr

/-- A PROGRESS_STALL of the core that SOLO dedicates acts on SOLO.CTX as CONTEXT, whatever its default or override (R465). -/
def State.soloStall (s : State) (t : Tok) : Bool :=
  t.kind = kPROGRESS_STALL && s.on QENG.SOLO_EN && coreOfPage t.src = some (s.rd QENG.SOLO_CORE)

/-- Steps 1 and 2 of R357: the default class, or the override of the raising page (R358). -/
def State.overridden (s : State) (t : Tok) : Nat :=
  if s.soloStall t then cCONTEXT
  else if s.on HDR.TOKCFG_OVR_EN t.src && s.rd HDR.TOKCFG_OVR_KIND t.src = t.kind then s.rd HDR.TOKCFG_OVR_CLASS t.src
  else t.cls

/-- The next higher class that has a domain for the token, from class `cls` up (R354). -/
def State.withDomain (s : State) (t : Tok) (cls : Nat) : Nat :=
  let c3 := if cls = cCONTEXT && !(t.bears || s.soloStall t) then cENGINE else cls
  let c4 := if c3 = cENGINE && (coreOfPage t.src).isNone then cPARTITION else c3
  if c4 = cPARTITION && (quadOfPage t.src).isNone then cCHIP else c4

/-- The context a CONTEXT-class token acts on. -/
def State.tokCtx (s : State) (t : Tok) : Nat := if s.soloStall t then s.rd QENG.SOLO_CTX else t.ctx

/-- What a token of class `cls` starts (Table 11-2). -/
def State.reaction (s : State) (t : Tok) (cls : Nat) : React :=
  if cls = cCONTEXT then .ctx (s.tokCtx t)
  else if cls = cENGINE then match coreOfPage t.src with | some c => .engine c | none => .nothing
  else if cls = cPARTITION then match quadOfPage t.src with | some q => .part q | none => .nothing
  else if cls = cCHIP then .chip
  else if cls = cPOWERCYCLE then .power
  else .nothing

/-! ### Moraine's queue and ring -/

/-- The OVF record of the tokens dropped (Table 11-10, 0xE4). -/
def ovfEntry (o : MorOvf) : MorEntry :=
  ⟨{ src := pgMORAINE, kind := kOVF, cls := cINFO, addr := o.count % 2 ^ 48, detail := o.heavy }, o.time, o.temp, o.volt⟩

/-- The OVF record that goes ahead of a token: the one that is due, where none of what it counts came after the token, so that TIME
never decreases (R364). -/
def Moraine.ahead (m : Moraine) (e : MorEntry) : Option MorOvf := m.ovf.bind (fun o => if o.time ≤ e.time then some o else none)

/-- The places of the 4,095 for tokens that are taken once `o` is queued: the first OVF record stands in the place kept for it (R363). -/
def Moraine.taken (m : Moraine) (o : Option MorOvf) : Nat :=
  let n := m.queue.length + b2n o.isSome
  if o.isSome || m.queue.any (fun e => e.tok.kind = kOVF) then n - 1 else n

/-- A token reaches Moraine: queued behind the OVF record that is due, or dropped (R363). -/
def State.morPut (s : State) (e : MorEntry) : State :=
  let m := s.mor
  let o := m.ahead e
  if 4095 ≤ m.taken o then s.dropTok e
  else { s with mor := { m with queue := m.queue ++ (o.map ovfEntry).toList ++ [e], ovf := if o.isSome then none else m.ovf } }

/-- The ring takes an entry: EN is 1 and there is room (R364). -/
def State.morRoom (s : State) : Bool :=
  s.on MORAINE.MOR_CTL_EN && dist32 (s.rd MORAINE.MOR_CIDX_CIDX) (s.rd MORAINE.MOR_PIDX_PIDX) < 2 ^ s.rd MORAINE.MOR_CTL_LOG2

/-- The 32 bytes of an entry (Table 11-11). -/
def MorEntry.bytes (e : MorEntry) (rseq : Nat) : List Byte :=
  toLE e.tok.word0 8 ++ toLE e.tok.word1 8 ++ toLE e.time 8 ++ toLE rseq 4 ++ toLE e.temp 2 ++ toLE e.volt 2

/-- Moraine sends PF0 vector 1 and starts a new count. -/
def State.morSignal (s : State) : State :=
  let s := s.sendVector 0 1
  { s with mor := { s.mor with unsignalled := 0, firstUnsignalled := none } }

/-- Write the head of the queue to the ring (R364, R367). -/
def State.morWrite (s : State) : State :=
  match s.mor.queue with
  | [] => s
  | e :: rest =>
    if !s.morRoom then s
    else
      let slot := s.rd MORAINE.MOR_BASE_BASE * 4096 + s.rd MORAINE.MOR_PIDX_PIDX % 2 ^ s.rd MORAINE.MOR_CTL_LOG2 * 32
      let s := s.hostStore 0 false slot (e.bytes (s.rd MORAINE.MOR_RSEQ_NEXT))
      let s := ((s.bump MORAINE.MOR_PIDX_PIDX).bump MORAINE.MOR_RSEQ_NEXT).bump HDR.BLK_PROG pgMORAINE
      let n := s.mor.unsignalled + 1
      let s := { s with mor := { s.mor with queue := rest, unsignalled := n
                                            firstUnsignalled := some (s.mor.firstUnsignalled.getD s.ftime) } }
      if max 1 (s.rd MORAINE.MOR_MOD_MOD_CNT) ≤ n || cCONTEXT ≤ e.tok.cls || e.tok.kind = kOVF then s.morSignal else s

/-- Write up to n entries while the ring has room (R365). -/
def State.morFlush (s : State) : Nat → State
  | 0 => s
  | n + 1 => s.morWrite.morFlush n

/-- Every entry left in the queue counts as dropped (R365); an OVF record adds what it counted. -/
def State.morDropAll (s : State) : State :=
  let q := s.mor.queue
  let s := { s with mor := { s.mor with queue := [], unsignalled := 0, firstUnsignalled := none } }
  s.each q (fun s e =>
    if e.tok.kind = kOVF then
      let o := s.mor.ovf.getD ⟨0, 0, e.time, e.temp, e.volt⟩
      { s with mor := { s.mor with ovf := some { o with
          count := o.count + e.tok.addr, heavy := min 0xFFFF (o.heavy + e.tok.detail) } } }
    else s.dropTok e)

/-! ### Copies and the rate limit -/

/-- The copy of a token to a context's event ring (R368). -/
def State.copyTok (s : State) (t : Tok) : State :=
  match copyRule t with
  | .none => s
  | .byCtx =>
    let c := s.ctx t.ctx
    if c.owned && c.gen = t.gen then s.postToken t.ctx { t with ctx := s.localNumber t.ctx }.word0 t.word1 else s
  | .byAddr =>
    match s.ctxAt t.addr with
    | some x => s.postToken x { t with ctx := s.localNumber x, gen := (s.ctx x).gen }.word0 t.word1
    | none => s

/-- The cap of a page in the window of a given number: what an earlier window withheld waits to be reported (R369). -/
def RateWin.inWindow (w : RateWin) (n : Nat) : RateWin :=
  if w.window = n then w else { window := n, due := w.due + w.withheld }

/-- Whether a token passes the rate limit of its page, and what the window then holds (R369). -/
def State.limited (s : State) (t : Tok) : State × Bool :=
  let r := s.rd HDR.TOKCFG_RATE t.src
  let w := (SMap.get s.rate t.src {}).inWindow (s.ftime / 100_000)
  if r = 0 || t.kind = kRATE_LIMITED then (s, true)
  else if cCONTEXT ≤ t.cls || w.passed < r then
    ({ s with rate := SMap.put s.rate t.src { w with passed := w.passed + 1 } }, true)
  else ({ s with rate := SMap.put s.rate t.src { w with withheld := w.withheld + 1 } }, false)

/-- FLT logs a token whose class is fixed: the sticky bit, the count, Moraine and the tenant copy (R360, R361, R368). A parity token of
Chanter's SRAM is recorded until the firmware is verified again (R58). -/
def State.fltLog (s : State) (e : MorEntry) (copy : Bool) : State :=
  let s := (s.stick e.tok.src).count FLT.FLT_CNT_COUNT
  let s := s.when (decide (e.tok.kind = kCHANTER_PARITY)) (fun s => { s with boot := { s.boot with parity := true } })
  let r := s.limited e.tok
  if r.2 then (r.1.morPut e).when copy (fun s => s.copyTok e.tok) else r.1

/-! ### Suspect scores (Table 12-5) -/

/-- What the fields of a token charge. -/
def Tok.tableCharges (t : Tok) : List (Nat × Nat) :=
  let core := (coreOfPage t.src).getD 0
  let quad := (quadOfPage t.src).getD 0
  if t.kind = kSPAD_CE_REPEAT then [(uBANK core t.detail, 4)]
  else if t.kind = kSPAD_UE then [(uBANK core t.detail, 8)]
  else if t.kind = kHBM_CE_REPEAT then [(uSTACK quad, 2)]
  else if t.kind = kHBM_ODECC_RATE then [(uSTACK quad, 4)]
  else if t.kind = kPATH_PARITY && !t.chk then
    match coreOfPage t.src, coreOfPage (t.detail % 4096) with
    | some c, _ => [(uCORE c, 2)]
    | none, some c => [(uCORE c, 2)]
    | none, none => []
  else if t.kind = kRANGE && t.cls = cDEFERRED then [(uCORE core, 1)]
  else if t.kind = kDELAY_PARITY then [(uCOMPARATOR, 2)]
  else if t.kind = kLANE_FENCED then [(uLANE (t.src - 0x300) t.detail, 16)]
  else []

/-- Serac scores a token (R395, R396). -/
def State.score (s : State) (t : Tok) : State :=
  if t.inj || t.sec || t.cls = cINFO || t.cls = cCORRECTED then s
  else s.each (t.tableCharges ++ t.charges) (fun s c => s.charge c.1 c.2)

/-! ### Shadows (R456) -/

/-- The context set of Table 14-8. -/
def ctxExpected (t : Tok) (x : Nat) : Bool :=
  t.ctx = x && [kDB_STALE, kDB_DISABLED, kPEER_LOST, kCOLL_ABORT, kBARRIER_TIMEOUT, kBARRIER_LATE, kCPL_TIMEOUT,
    kHOST_POISON].contains t.kind && t.bears

/-- The engine set of Table 14-8 for core c. -/
def engineExpected (t : Tok) (c : Nat) (xs : List Nat) : Bool :=
  xs.any (ctxExpected t) || (t.kind = kPROGRESS_STALL && coreOfPage t.src = some c) ||
  (t.kind = kSLICE_ABORTED && t.addr % 16 = c)

/-- A token belongs to the expected set of a shadow (Table 14-8). -/
def Shadow.expects (w : Shadow) (t : Tok) : Bool :=
  let q := fun k xs => (List.range 4).any (fun j => engineExpected t (4 * k + j) xs) ||
    (t.kind = kPROGRESS_STALL && quadOfPage t.src = some k) || (t.kind = kVOLT_ALARM && t.src = pgQUAD k)
  if w.level = 1 then ctxExpected t w.domain
  else if w.level = 2 then engineExpected t w.domain w.suspects
  else if w.level = 3 then q w.domain w.suspects
  else (List.range 4).any (fun k => q k []) || ctxExpected t t.ctx ||
    [kPROGRESS_STALL, kEARLY_WRITE, kLINK_HOLD, kLINK_LOST, kPARTNER_NEW].contains t.kind

/-- A token lies inside a shadow and its expected set (R456). -/
def State.secondary (s : State) (t : Tok) : Bool :=
  s.ladder.shadows.any (fun w => (match w.ends with | none => true | some e => s.ftime ≤ e) && w.expects t)

/-! ### Taking tokens in -/

/-- The tokens that wait, as FLT takes them: those of one moment in ascending SRC, those of one source in the order they were
raised (R359, log 162). -/
def tokOrder (ts : List Tok) : List Tok :=
  ts.foldl (fun l t =>
    let before := fun (e : Tok) => e.since < t.since || (e.since = t.since && e.src ≤ t.src)
    l.filter before ++ [t] ++ l.filter (fun e => !before e)) []

/-- A token that FLT takes in without a reaction: before a chip reset asserts (R360). -/
def State.fltTakeIn (s : State) (t : Tok) : State :=
  let t := { t with cls := s.withDomain t (s.overridden t), sec := s.secondary t }
  (s.fltLog (s.stamped t) true).score t

/-- FLT takes in everything that waits (R360). -/
def State.fltTakeAll (s : State) : State := { s.each (tokOrder s.fltIn) State.fltTakeIn with fltIn := [] }

/-- FLT stops with its clock: of the tokens that wait, those of the Drone domain are kept by it and the others are lost (R360, R362). -/
def State.fltStops (s : State) : State :=
  { s with fltIn := [] }.each ((tokOrder s.fltIn).filter (fun (t : Tok) => droneKind t.kind)) (fun s t =>
    let s := s.stick t.src
    if s.droneToks.length < 16 then { s with droneToks := s.droneToks ++ [s.stamped t] } else s.dropTok (s.stamped t))

end Sys2Proof.Machine
end

