-- ==== Sys2Proof/Machine/Computed.lean ====
section
/-! DEFINITION. The fields that software reads and that follow from the rest of the state: summaries, counts of what is
resident, and the windows that an index register selects. -/
namespace Sys2Proof.Machine

/-- The fence that a page's BLK_CTL.FENCE stands for holds (R609). -/
def State.fenceHolds (s : State) (p : Nat) : Bool :=
  if !fenceable p then false
  else match coreOfPage p with
    | some c => s.coreFenced c
    | none => s.compFenced

/-- A cause of SCREEN_DEGRADED persists (Table 12-7). -/
def State.degraded (s : State) : Bool :=
  s.compFenced || s.rd SERAC.STAT_CKSUM_OFF != 0 || !s.on SERAC.SRC_CTL_SHADOW_EN ||
  s.rd CHIP.CORE_MAP_LIVE_COUNT < 2

/-- HORIZON (R387): every sample whose primary pass ended before it has been settled. -/
def State.horizon (s : State) : Nat := s.serac.samples.foldl (fun t x => min t x.ended) s.ftime

/-- The sum of the shares of a quadrant (R286). -/
def State.shareSum (s : State) (q : Nat) : Nat := ((List.range 64).map (fun o => s.rd QUAD.SHARE q o)).sum

/-- The header fields that follow from the state. -/
def State.headerField (s : State) (r : Row) (p : Nat) : Option Nat :=
  if r = HDR.STAT_ERR_PENDING then
    some (b2n (Nat.land (s.rd HDR.BLK_ERR p) (2 ^ 32 - 1 - s.rd HDR.BLK_ERRMASK p) != 0))
  else if r = HDR.STAT_QUIESCED then some (b2n (s.quiesced p))
  else if r = HDR.STAT_STATE then
    some (if ((coreOfPage p).map (fun c => !s.fused c)).getD false then stOFF
      else if s.rd HDR.STAT_STATE p = stREADY && s.holdsWork p then stBUSY else s.rd HDR.STAT_STATE p)
  else if r = HDR.CTL_FENCE then some (b2n (s.fenceHolds p))
  else if r = HDR.BLK_ERRINJ then some 0
  else none

/-- The fields of the CORE pages that follow from the state. -/
def State.coreField (s : State) (r : Row) (c i : Nat) : Option Nat :=
  let k := s.core c
  if r = FE.FE_RES_DISPATCHES then some ((k.disps.filter (fun d => k.groups.any (fun g => g.2.disp = d.id))).length)
  else if r = FE.FE_RES_GROUPS then some k.groups.length
  else if r = FE.FE_RES_THREADS then some ((k.groups.map (fun g => g.2.width)).sum)
  else if r = DSA.DSA_STAT_READOUT then some (b2n k.dsa.readout.isSome)
  else if r = DSA.DSA_STAT_PASS then some (b2n (k.dsa.running.isSome || k.dsa.serac.isSome))
  else if r = DSA.DSA_STAT_HELD then
    some (b2n (s.on DSA.DSA_CTL_HOLD c && k.dsa.running.isNone && k.dsa.readout.isNone && k.dsa.serac.isNone))
  else if r = LOG.LOG_STAT_CT_CRC then some k.tableCrc
  else if r = LOG.LOG_STAGE_CPLUS then some (k.stagePlus i)
  else if r = LOG.LOG_STAGE_CMINUS then some (k.stageMinus i)
  else if r = LOG.LOG_ACTIVE then some (k.actEntry i)
  else none

/-- The entry of FIRN.HOLD_IDX: the 32 bits of HOLD_ENT. -/
def State.holdEnt (s : State) (i : Nat) : Nat := SMap.get s.firn.hold i 0

/-- The enabled queues of the part (R247). -/
def State.queuesEnabled (s : State) : Nat := (s.ctxs.map (fun c => (c.2.queues.filter (fun q => q.2.en)).length)).sum

/-- The fields of the other pages that follow from the state. -/
def State.blockField (s : State) (r : Row) (k i : Nat) : Option Nat :=
  let score := SMap.find s.serac.scores (s.rd SERAC.SCORE_IDX_IDX)
  let img := (s.ctx (s.rd FIRN.CTX_SEL_CTX)).cfg
  let sel := (s.ctx (s.rd QENG.CTX_SEL_CTX)).cfg
  let route := SMap.get s.fabric.routes (s.rd FABRIC.ROUTE_IDX_IDX) 0
  if r = CHIP.STICKY_SUM_ANY then
    some ((List.range 32).foldl (fun m b => if s.rd FLT.STICKY 0 (32 * i + b) != 0 then setBit m b else m) 0)
  else if r = CHIP.CORE_MAP_PMAX_OK then some (b2n s.pmaxOk)
  else if r = CHIP.PROV_ID_CLOCK_ID then some (s.rd CLKRST.PROFILE_ACTIVE)
  else if r = CHIP.PROV_ID_POWER_ID then some (s.rd AVS.AVS_STAT_POWER_ID)
  else if r = DRONE.FTIME_TIME then some s.ftime
  else if r = HOSTIF.ERR_SUM then
    some ((List.range 7).foldl (fun m b => if allPages.any (fun p => decide (p / 128 = b) &&
      Nat.land (s.rd HDR.BLK_ERR p) (2 ^ 32 - 1 - s.rd HDR.BLK_ERRMASK p) != 0) then setBit m b else m) 0)
  else if r = CAL.STAGE then some (ofLE (Memory.readBytes s.cal.stage (4 * i) 4))
  else if r = CAL.STORE then some (ofLE (Memory.readBytes s.cal.store (2048 * s.rd CAL.CAL_WIN_HALF + 4 * i) 4))
  else if r = CAL.CAL_STAT_BUSY then some (b2n s.cal.writing.isSome)
  else if r = CAL.CAL_REC_VALID then some (if i = 0 then 0 else b2n (s.calReason i = 0))
  else if r = CAL.CAL_REC_DEFAULTED then some (if i = 0 then 0 else b2n (s.calReason i != 0))
  else if r = CAL.CAL_REC_ORIGIN then some (if i = 0 then 0 else recOrigin (s.calSlot i))
  else if r = CAL.CAL_REC_WRSEQ then some (if i = 0 then 0 else recSeq (s.calSlot i))
  else if r = CHANTER.PACK_ID_ID then some ((s.test.pack.map (fun p => leAt p 8 4)).getD 0)
  else if r = CHANTER.PACK_SEQ_SEQ then some ((s.test.pack.map (fun p => leAt p 0x0C 4)).getD 0)
  else if r = CHANTER.PACK_STAT_BUSY then some (b2n s.test.loading.isSome)
  else if r = QENG.Q_ENABLED_COUNT then some s.queuesEnabled
  else if r = QENG.CTX_CMD_STAT_BUSY then
    some (b2n (s.ctxs.any (fun e => e.2.zeroing || (e.2.reset.map (·.release)).getD false)))
  else if r = MORAINE.MOR_DROP_PENDING then some (((s.mor.ovf.map (·.count)).getD 0) % 2 ^ 32)
  else if r = MORAINE.MOR_STAT_OVF_PENDING then some (b2n s.mor.ovf.isSome)
  else if r = MORAINE.MOR_STAT_QUEUED then some s.mor.queue.length
  else if r = SERAC.SRC_CTL_COMP_FENCED then some (b2n s.compFenced)
  else if r = SERAC.STAT_DEGRADED then some (b2n s.degraded)
  else if r = SERAC.STAT_DELAY_USED then some s.serac.samples.length
  else if r = SERAC.HORIZON_TIME then some s.horizon
  else if r = SERAC.SCORE_ENT_SCORE then some ((score.map (·.score)).getD 0)
  else if r = SERAC.SCORE_ENT_VALID then some (b2n score.isSome)
  else if r = SERAC.SCORE_ENT_UNIT then some ((score.map (·.unit)).getD 0)
  else if r = FIRN.HOLD_ENT_VALID then some (bits (s.holdEnt (s.rd FIRN.HOLD_IDX_IDX)) 31 31)
  else if r = FIRN.HOLD_ENT_STACK then some (bits (s.holdEnt (s.rd FIRN.HOLD_IDX_IDX)) 29 28)
  else if r = FIRN.HOLD_ENT_OFFSET then some (bits (s.holdEnt (s.rd FIRN.HOLD_IDX_IDX)) 27 20)
  else if r = FIRN.HOLD_ENT_SIZE then some (bits (s.holdEnt (s.rd FIRN.HOLD_IDX_IDX)) 19 12)
  else if r = FIRN.HOLD_ENT_PART then some (bits (s.holdEnt (s.rd FIRN.HOLD_IDX_IDX)) 11 0)
  else if r = FIRN.CTX_IMG_IMG_OFF then some img.imgOff
  else if r = FIRN.CTX_IMG_IMG_MIB then some img.imgMib
  else if r = FIRN.CTX_IMG_SURV_CHIP then some (b2n img.survChip)
  else if r = FIRN.CTX_IMG_SURV_PART then some (b2n img.survPart)
  else if r = FIRN.CTX_IMG_SURV_ENG then some (b2n img.survEng)
  else if r = FIRN.STAT_CKPT_BUSY then some (b2n s.firn.ckpt.isSome)
  else if r = FIRN.STAT_RESTORE_BUSY then some (b2n s.firn.restore.isSome)
  else if r = FIRN.STAT_FROZEN then some ((s.ctxs.filter (fun e => e.2.state = .frozen)).length)
  else if r = QENG.CTX_CFG_MOD_US then some sel.modUs
  else if r = QENG.CTX_CFG_MOD_CNT then some sel.modCnt
  else if r = QENG.CTX_CFG_VECTOR then some sel.vector
  else if r = QENG.CTX_CFG_WEIGHT then some sel.weight
  else if r = QENG.CTX_CFG_INT_EN then some (b2n sel.intEn)
  else if r = QENG.CTX_CFG_HOME then some sel.home
  else if r = QENG.CTX_CFG_AFFINITY then some sel.affinity
  else if r = QENG.CTX_SPAD_SPAD_NB then some sel.spadNb
  else if r = QENG.CTX_SPAD_SPAD_FIRST then some sel.spadFirst
  else if r = QENG.CTX_HBM_HBM_LEN then some sel.hbmLen
  else if r = QENG.CTX_HBM_HBM_BASE then some sel.hbmBase
  else if r = CLKRST.RST_STAT_PART_BUSY then
    some (s.ladder.running.foldl (fun m x => if x.level = 3 then setBit m x.domain else m) 0)
  else if r = CLKRST.RST_STAT_ENG_BUSY then
    some (s.ladder.running.foldl (fun m x => if x.level = 2 then setBit m x.domain else m) 0)
  else if r = QUAD.SHARE_SUM_SUM then some (s.shareSum k)
  else if r = FABRIC.ROUTE_ENT_PATH_EN then some (bits route 19 16)
  else if r = FABRIC.ROUTE_ENT_PORTS then some (bits route 15 0)
  else none

/-- The value of a field as software reads it, instance k of its page and index i. -/
def State.field (s : State) (r : Row) (k i : Nat) : Nat :=
  ((if r.page = 0 && r.pstep = 1 then s.headerField r k
    else if 0x100 ≤ r.page && r.page < 0x200 then s.coreField r k i
    else s.blockField r k i).getD (s.rd r k i))

/-- The fixed words of a page header (R609, Tables 3-7 and 3-14). -/
def headerFixed (p o : Nat) : Option Nat :=
  if o = 0 then some (pageType p * 2 ^ 20 + pageInstanceOf p * 2 ^ 8 + 1)
  else if o = 4 then some ((if reservedPage p then 0 else 0x0100_0000) + 0xB0)
  else if o = 8 then some (b2n (hasProg p) * 2 ^ 31 + (if reservedPage p then 0 else 3 * 2 ^ 29) + b2n (fenceable p) * 2 ^ 28 +
    b2n (0x200 ≤ p && p < 0x240 && p % 16 = 1))
  else none
where
  /-- INSTANCE of a page, reserved pages included. -/
  pageInstanceOf (p : Nat) : Nat :=
    if 0x010 ≤ p && p < 0x014 then p - 0x010
    else if 0x100 ≤ p && p < 0x200 then (p - 0x100) / 16
    else if 0x200 ≤ p && p < 0x240 then (p - 0x200) / 16
    else if 0x300 ≤ p && p < 0x310 then p - 0x300
    else 0

/-- One aligned word of 32 bits of a register page, as the part holds it for software. -/
def State.regWord (s : State) (off : Nat) : Nat :=
  let p := off / 4096
  let o := off % 4096
  match headerFixed p o with
  | some v => v
  | none => (covered p o 4).foldl (fun w c =>
      let v := s.field c.row c.k c.i * 2 ^ c.bit / 2 ^ (8 * o) % 2 ^ 32
      Nat.lor w (if c.row.acc = .wo then 0 else v)) 0

end Sys2Proof.Machine
end

