-- ==== Sys2Proof/Machine/ResetOps.lean ====
section
/-! DEFINITION. The ladder's shared operations (*Hangs, the Escalation Ladder and Recovery*): the start of a context, engine,
partition and chip reset, the capture record, what each reset clears, and shadows. -/
namespace Sys2Proof.Machine

def State.modLadder (s : State) (f : Ladder → Ladder) : State := { s with ladder := f s.ladder }

/-! ### What a reset clears -/

/-- How much a reset takes: a block alone, the part, the part with PERST_n asserted, the main rails, the Drone rail. -/
inductive Wipe where
  | block | chip | perst | main | drone
  deriving DecidableEq, Repr

/-- A field keeps its value through a reset of that kind. -/
def Keep.through (k : Keep) (w : Wipe) : Bool :=
  match k, w with
  | .fuse, _ => true
  | .none, _ => false
  | _, .block => true
  | _, .chip => true
  | .warm, .perst => false
  | _, .perst => true
  | .drone, .main => true
  | _, .main => false
  | _, .drone => false

/-- A row holds the field at a bit of the register space, as instance k of its page. -/
def Row.holds (r : Row) (k b : Nat) : Bool :=
  if r.count = 1 then b = r.bit k 0
  else r.bit k 0 ≤ b && (b - r.bit k 0) % (8 * r.stride) = 0 && (b - r.bit k 0) / (8 * r.stride) < r.count

/-- The row of the field at a bit of the register space. -/
def rowAt (b : Nat) : Option Row :=
  let p := b / 0x8000
  match rowsHDR.find? (fun r => r.holds p b) with
  | some r => some r
  | none => (pageRows p).bind (fun rk => rk.1.find? (fun r => r.holds rk.2 b))

/-- The registers of the pages that satisfy `p` after a reset. DRONE and CAL are blocks of the Drone domain: their headers reset with it alone
(R116, R119). -/
def State.wipe (s : State) (w : Wipe) (p : Nat → Bool) : State :=
  let stays := fun b => w != .drone && (b / 0x8000 = pgDRONE || b / 0x8000 = pgCAL) && b % 0x8000 < 0x200
  { s with regs := s.regs.filter (fun e =>
      !p (e.1 / 0x8000) || stays e.1 || (match rowAt e.1 with | some r => r.keep.through w | none => false)) }

/-- A reset of the blocks of a list of pages completes: registers cleared, BLK_GEN incremented (R115), state set. -/
def State.resetPages (s : State) (ps : List Nat) (st : Nat) : State :=
  (s.wipe .block (fun p => ps.contains p)).each ps (fun s p => (s.bump HDR.BLK_GEN p).wr HDR.STAT_STATE st p)

/-! ### Queue state (Table 7-9) -/

/-- A dispatch waits because every core it may use is in a test slice or another context's (R268, R279, R465). -/
def State.dispBusy (s : State) (d : Dispatch) : Bool :=
  !(s.liveAffinity d.ctx).isEmpty && (s.soloCores d.ctx (s.liveAffinity d.ctx)).all (fun c => s.inSlice c)

/-- A dispatch of the queue waits TEST_BUSY. -/
def State.testBusy (s : State) (x q : Nat) : Bool := s.waiting.any (fun d => d.ctx = x && d.queue = q && s.dispBusy d)

/-- QSTATE: 0 IDLE, 1 RUN, 2 SYNC_WAIT, 3 TEST_BUSY, 4 HELD, 5 CQ_WAIT. -/
def State.qstate (s : State) (x qn : Nat) : Nat :=
  let c := s.ctx x
  let q := c.queue qn
  if q.done = q.expect then 0
  else if c.state = .frozen || c.state = .recovering then 4
  else if c.cqFull && q.holds then 5
  else if q.cmds.any (fun k => k.phase = .running && k.opc = 0x05) then 2
  else if s.testBusy x qn then 3
  else 1

/-! ### The capture record (R460–R462) -/

/-- A section of a capture record: its type and its items. -/
structure Section where
  type : Nat
  items : List (List Byte)
  deriving DecidableEq, Repr

def padTo (n : Nat) (bs : List Byte) : List Byte := bs ++ zeros ((n - bs.length % n) % n)

def Section.bytes (x : Section) : List Byte :=
  let body := padTo 16 x.items.flatten
  toLE (x.type + 0x100) 4 ++ toLE (16 + body.length) 4 ++ toLE x.items.length 4 ++ zeros 4 ++ body

/-- Every resident group of a context waits (the WAITING bit). -/
def Group.stopped (g : Group) : Bool := g.ksync || g.waitp || g.candidates.isEmpty

/-- The groups of context x, over every core. -/
def State.groupsOf (s : State) (x : Nat) : List Group :=
  s.cores.flatMap (fun e => (e.2.groups.filter (fun g => g.2.ctx = x)).map (·.2))

/-- A pass of context x is pending or running. -/
def State.passOf (s : State) (x : Nat) : Bool :=
  s.cores.any (fun e => [e.2.dsa.pending, e.2.dsa.running, e.2.exu.pending, e.2.exu.running].any
    (fun o => match o with | some p => p.ctx = x | none => false))

def State.suspectItem (s : State) (x : Nat) : List Byte :=
  let gs := s.groupsOf x
  toLE ((s.ctx x).gen * 2 ^ 24 + min 255 gs.length * 2 ^ 16 + b2n (s.passOf x) * 2 ^ 15 +
    b2n (!gs.isEmpty && gs.all Group.stopped) * 2 ^ 14 + b2n ((s.ctx x).state = .frozen) * 2 ^ 13 + x) 4

def State.queueItems (s : State) (x : Nat) : List (List Byte) :=
  ((s.ctx x).queues.filter (fun e => e.2.en)).map (fun e =>
    let q := e.2
    let oldest := match q.cmds.find? (fun k => k.phase = .running) with | some k => k.ssn | none => q.done
    toLE (b2n q.urgent * 2 ^ 31 + s.qstate x e.1 * 2 ^ 27 + q.dbGen * 2 ^ 19 + e.1 * 2 ^ 13 + x) 4 ++
    toLE q.expect 4 ++ toLE q.done 4 ++ toLE oldest 4)

def State.syncItem (s : State) (x : Nat) : List Byte :=
  toLE x 8 ++ (List.range 16).flatMap (fun j => toLE ((s.ctx x).syncVal j) 8)

/-- The entry of one resident group (Table 11-11 of the record's ENGINE section, 32 bytes). -/
def Core.groupItem (k : Core) (place : Nat) (g : Group) : List Byte :=
  let kd := (k.disp g.disp).map (·.kernel)
  let off := match g.choose, kd with
    | some (pc, _), some d => (pc + 2 ^ 64 - d.progAddr) % 2 ^ 32
    | _, _ => 0
  let width := if g.width = 8 then 0 else if g.width = 16 then 1 else if g.width = 32 then 2 else 3
  let mine := fun (o : Option Pass) => match o with | some p => p.disp = g.disp && p.group = g.index | none => false
  let live := g.threads.filter (fun t => !t.exited)
  toLE (width * 2 ^ 28 + place * 2 ^ 21 + g.gen * 2 ^ 13 + g.ctx) 4 ++ toLE g.index 4 ++
  toLE ((kd.map (·.addr)).getD 0) 8 ++ toLE off 4 ++
  toLE ((g.threads.filter (fun t => t.exited)).length * 2 ^ 24 + (live.filter (fun t => t.waits.isSome)).length * 2 ^ 16 +
    (live.filter (fun t => t.gsync)).length * 2 ^ 8 + g.candidates.length) 4 ++
  toLE g.retired 4 ++
  toLE (b2n g.waitp * 8 + b2n g.ksync * 4 + b2n (mine k.dsa.running || mine k.exu.running) * 2 +
    b2n (mine k.dsa.pending || mine k.exu.pending)) 4

def State.engineItems (s : State) (c : Nat) : List (List Byte) :=
  let k := s.core c
  let w := fun p o => toLE (s.regWord (p * 4096 + o)) 4
  ([toLE (k.groups.length * 256 + c) 4, w (pgFE c) 0x40, w (pgFE c) 0x48, w (pgFE c) 0x4C, w (pgDSA c) 0x44, w (pgDSA c) 0x94,
    w (pgDSA c) 0x90, zeros 4].flatten ++ (corePages c).flatMap (fun p => w p 0x28)) ::
  k.groups.map (fun e => k.groupItem e.1 e.2)

/-- Where the 4 KiB sample of a context's scratchpad extent lies: its core and its offset in the slice (R462). -/
def State.sampleAt (s : State) (x : Nat) : Option (Nat × Nat) :=
  let cf := (s.ctx x).cfg
  let pg := s.rd CLKRST.CAP_CTL_SAMPLE_PG * 4096
  match s.liveAffinity x with
  | [] => none
  | c :: _ => if cf.spadNb * bankSize < pg + 4096 then none else some (c, cf.spadFirst * bankSize + pg)

/-- The sample of a context, with words that SECDED cannot correct as 0 (R462). -/
def State.sampleItem (s : State) (x : Nat) : Option (List Byte) :=
  (s.sampleAt x).map (fun e =>
    let a := sliceBase e.1 + e.2
    let bad := touched s.marksU a 4096
    toLE (e.1 * 2 ^ 16 + x) 4 ++ toLE e.2 4 ++ toLE bad.length 8 ++
      (List.range 4096).map (fun j => if bad.any (fun m => m ≤ a + j && a + j < m + 8) then 0#8 else s.byte (a + j)))

/-- Reading the samples of contexts corrects what SECDED can (R211). -/
def State.samplesRead (s : State) (xs : List Nat) : State :=
  s.each ((xs.filterMap s.sampleAt).take 64) (fun s e => s.mend (touched s.marksC (sliceBase e.1 + e.2) 4096))

/-- The sections of a record of a level over the contexts and cores it reaches. -/
def State.sections (s : State) (level : Nat) (xs cores : List Nat) : List Section :=
  [⟨1, xs.map s.suspectItem⟩, ⟨2, xs.flatMap s.queueItems⟩, ⟨3, xs.map s.syncItem⟩] ++
  (if level = 1 then [] else [⟨4, cores.flatMap s.engineItems⟩]) ++
  [⟨5, (xs.filterMap s.sampleItem).take 64⟩] ++
  (if 4 ≤ level then [⟨6, (List.range 4).map (fun k => toLE (s.regWord (pgSTACK k * 4096 + 0x58)) 4 ++
    toLE (s.regWord (pgSTACK k * 4096 + 0x5C)) 4)⟩] else [])

/-- Leave out sections in reverse order until the record fits in 16 MiB (R460). -/
def fitSections : Nat → List Section → List Section
  | 0, xs => xs
  | n + 1, xs =>
    if 64 + ((xs.map (fun x => x.bytes.length)).sum) ≤ 0x100_0000 then xs else fitSections n xs.dropLast

/-- The record's bytes (Tables 14-9 to 14-11). -/
def State.captureBytes (s : State) (level domain : Nat) (cause : Option Tok) (all : List Section) : List Byte :=
  let secs := fitSections 8 all
  let body := padTo 64 (secs.flatMap Section.bytes)
  let head := fun crc =>
    toLE 0x4B43_4150 4 ++ toLE (s.rd CLKRST.CAP_SEQ_SEQ + 1) 4 ++ toLE (64 + body.length) 4 ++
    toLE (b2n (secs.length < all.length) * 2 ^ 31 + domain * 2 ^ 16 + secs.length * 2 ^ 8 + level) 4 ++
    toLE ((cause.map Tok.word0).getD 0) 8 ++ toLE ((cause.map Tok.word1).getD 0) 8 ++ toLE s.ftime 8 ++
    toLE (s.rd HDR.BLK_GEN pgCHIP) 4 ++ toLE (s.rd CHIP.CORE_MAP_MAP_GEN * 2 ^ 24 + s.rd CHIP.CORE_MAP_LIVE) 4 ++
    zeros 12 ++ toLE crc 4
  head (crc32 (head 0 ++ body)) ++ body

/-- The local offset of the CAPTURE carve-out of stack 0, and the bounds of its ring (R460, Table 6-2). -/
def captureBase : Nat := 0x7_F400_0000
def ringLo : Nat := 0x0100_0000
def ringHi : Nat := 0x0800_0000

/-- CAP_CTL enables a record of the level; a power cycle always captures. -/
def State.captures (s : State) (level : Nat) : Bool :=
  (level = 6 || bit (s.rd CLKRST.CAP_CTL_EN) (level - 1)) && s.on HBM.HBM_STAT_IN_SERVICE 0

/-- Write the capture record of a reset (R460). -/
def State.capture (s : State) (level domain : Nat) (cause : Option Tok) (xs cores : List Nat) : State :=
  if !s.captures level then s
  else
    let s := s.samplesRead xs
    let bs := s.captureBytes level domain cause (s.sections level xs cores)
    let off := if s.rd CLKRST.CAP_NEXT_OFFSET + bs.length ≤ ringHi then s.rd CLKRST.CAP_NEXT_OFFSET else ringLo
    let s := (s.writeMem (captureBase + off) bs).1
    let s := s.modLadder (fun l => { l with caps := (l.caps.filter (fun k =>
      k.2.1 + k.2.2 ≤ off || off + bs.length ≤ k.2.1)) ++ [(s.rd CLKRST.CAP_SEQ_SEQ + 1, off, bs.length)] })
    (s.bump CLKRST.CAP_SEQ_SEQ).wr CLKRST.CAP_NEXT_OFFSET (off + bs.length)

/-! ### Starting a reset -/

/-- What starts a reset. -/
structure Start where
  level : Nat
  domain : Nat
  cause : Option Tok := none
  host : Bool := false
  counted : Bool := false
  ovr : Bool := false
  casc : Bool := false
  deriving DecidableEq, Repr

/-- LAST_RST and LAST_RST_TIME take the reset the ladder starts (Table 14-12). -/
def State.recordLast (s : State) (r : Start) : State :=
  let s := (s.wr CLKRST.LAST_RST_LEVEL r.level).wr CLKRST.LAST_RST_SRC ((r.cause.map (·.src)).getD 0)
  let s := (s.wr CLKRST.LAST_RST_KIND ((r.cause.map (·.kind)).getD 0)).wr CLKRST.LAST_RST_HOST (b2n r.host)
  let s := (s.wr CLKRST.LAST_RST_OVR (b2n r.ovr)).wr CLKRST.LAST_RST_CASC (b2n r.casc)
  s.wr CLKRST.LAST_RST_TIME_TIME s.ftime

/-- The domain of a request lies within a reset that runs at the same or a higher level (R453). -/
def Reset.encloses (r : Reset) (level domain : Nat) : Bool :=
  if 4 ≤ r.level then true
  else if level = 1 then (r.level = 1 && r.domain = domain) || r.suspects.contains domain
  else if level = 2 then (r.level = 2 && r.domain = domain) || (r.level = 3 && r.domain = domain / 4)
  else r.level = 3 && level = 3 && r.domain = domain

/-- A request joins a reset that runs. -/
def State.joins (s : State) (level domain : Nat) : Bool :=
  s.ladder.running.any (fun r => r.encloses level domain) || (s.ladder.chip.isSome && level ≤ 4)

/-- A running reset that a new one takes over: its domain lies within the new one's (R454). -/
def Reset.within (r : Reset) (level domain : Nat) (xs : List Nat) : Bool :=
  if 4 ≤ level then true
  else if r.level = 1 then xs.contains r.domain
  else r.level = 2 && level = 3 && r.domain / 4 = domain

/-- A context reset cuts off freezes and thaws of the context: a FREEZE waits for RECOVERED and runs again, a THAW
finds the context not frozen (Table 15-1). -/
def State.cutFirn (s : State) (x : Nat) : State :=
  let fs := s.firn.freezes.filter (fun o => o.target = x)
  let ts := s.firn.thaws.filter (fun o => o.target = x)
  let s := s.modFirn (fun f => { f with freezes := f.freezes.filter (fun o => o.target != x)
                                        thaws := f.thaws.filter (fun o => o.target != x)
                                        ckpt := f.ckpt.bind (fun k => if k.ctx = x then none else some k)
                                        restore := f.restore.bind (fun k => if k.ctx = x then none else some k) })
  let s := s.each fs (fun s o => match o.by_ with
    | some (y, q, n) => s.modCtx y (fun c => c.setQueue q { c.queue q with cmds := (c.queue q).cmds.map (fun k =>
        if k.ssn = n && k.phase = .running then { k with phase := .fetched } else k) })
    | none => s)
  (s.each ts (fun s o => s.answerOp o fNOT_FROZEN 0)).dropImage x

/-- The level of a reset that another one joins (R452): the larger one, where a Function Level Reset (0x5) ranks with a
context reset and the level that runs stays between the two. -/
def joinLevel (running new : Nat) : Nat :=
  let rank := fun l => if l = 5 then 1 else l
  if rank running < rank new then new else running

/-- A reset that reaches a context discards its pending count and moderation timer (R285). -/
def Ctx.unsignal (c : Ctx) : Ctx := { c with pending := 0, firstPending := none }

/-- Steps 1 to 3 of a context reset of x (Table 14-4): RECOVERING, everything of x stopped on every core, its samples,
collective and barrier aborted, its image discarded (R480). A context already RECOVERING joins (R452). -/
def State.ctxResetStart (s : State) (x level : Nat) (failed : Bool := false) (release : Bool := false) : State :=
  let c := s.ctx x
  if c.state = .unowned || c.state = .lost || c.zeroing then s
  else match c.reset with
  | some r => s.setCtx x { c with reset := some { r with level := joinLevel r.level level, release := r.release || release } }
  | none =>
    let s := s.cutFirn x
    let s := s.modCtx x (fun c => { c with state := .recovering, freezing := false, evicted := false, pending := 0
                                           firstPending := none, deficit := 0
                                           reset := some { level := level, failed := failed, release := release } })
    let s := (s.stopCtx x).abandon (fun p => p.pass.ctx = x)
    let s := s.each (s.fabric.colls.filter (fun k => k.ctx = x)) State.collAbort
    if s.barrier.cmds.any (fun b => b.ctx = x) then s.barAbort none else s

/-- A context reset by itself: the capture record and its shadow; `level` is the level its records name, 0x1 or 0x5. -/
def State.resetContext (s : State) (r : Start) (release : Bool := false) (level : Nat := 1) : State :=
  let x := r.domain
  let c := s.ctx x
  if !c.owned || c.state = .lost then s
  else if s.joins 1 x || c.state = .recovering then s.ctxResetStart x level false release
  else
    let s := if r.cause.isSome then s.recordLast r else s
    let s := s.capture 1 x r.cause [x] []
    let s := s.ctxResetStart x level false release
    s.modLadder (fun l => { l with
      running := l.running ++ [⟨1, x, r.cause, r.host, r.counted, [x]⟩]
      shadows := l.shadows ++ [⟨1, x, [x], none⟩] })

/-- The contexts with work on a list of cores, or homed in a quadrant (R441); those already RECOVERING have none. -/
def State.suspectsOn (s : State) (cores : List Nat) (home : Option Nat) : List Nat :=
  (s.ctxs.filter (fun e => e.2.owned && e.2.state != .lost && e.2.state != .recovering &&
    (cores.any (fun c => (s.core c).usedBy e.1) || home = some e.2.cfg.home))).map (·.1)

/-- The slice credit is charged for the time a slice or window took (R414). -/
def State.profileMhz (s : State) : Nat :=
  match s.rd CLKRST.PROFILE_ACTIVE with
  | 0 => 1400
  | 2 => 2000
  | _ => 1800
def State.sliceCredit (s : State) (q : Nat) : Int := SMap.get s.serac.sliceCredit q 0
def State.chargeSlice (s : State) (c : Nat) : State :=
  match (s.tcore c).started with
  | none => s
  | some t =>
    let q := c / 4
    let cost : Int := ((s.ftime - t) * s.profileMhz * 256 * 1024 / 100 : Nat)
    s.modSerac (fun r => { r with sliceCredit := SMap.put r.sliceCredit q (SMap.get r.sliceCredit q 0 - cost) })

/-- The core clock of an overdrive pair switches back, with an ALIGN pulse (R418, R419). -/
def State.odOff (s : State) (c : Nat) : State :=
  if s.on CLKRST.CORE_FREQ_OVERDRIVE 0 c then
    ((s.wr CLKRST.CORE_FREQ_OVERDRIVE 0 0 c).wr CLKRST.CORE_FREQ_F25 (s.profileMhz / 25) 0 c).bump CLKRST.ALIGN_ALIGN_GEN
  else s

/-- A slice of core c ends: it starts no other until the dispatches that waited TEST_BUSY for it are placed (R279). -/
def State.noteWaiters (s : State) (c : Nat) : State :=
  let ids := (s.waiting.filter (fun d => s.dispBusy d && (s.soloCores d.ctx (s.liveAffinity d.ctx)).contains c)).map (·.id)
  s.modCore c (fun k => { k with waitFor := (k.waitFor.filter (fun i => s.waiting.any (fun d => d.id = i)) ++ ids).dedup })

/-- Cut off the slice or window that core c runs or has been chosen for (R419). -/
def State.sliceAbort (s : State) (c cause : Nat) : State :=
  if !(s.tcore c).chosen then s
  else
    let s := (((s.noteWaiters c).chargeSlice c).odOff c).count TEST.TST_CNT_ABORTED c
    let s := (s.wr TEST.TST_STAT_STATE 0 c).wr TEST.TST_STAT_OVERDRIVE 0 c
    let s := s.modTcore c (fun t => { t with chosen := false, window := false, overdrive := false, started := none })
    let s := if s.rd HDR.STAT_STATE (pgFE c) = stTEST then s.setStates (corePages c) stREADY else s
    s.raise pgSERAC kSLICE_ABORTED c cause

/-- An explicit test of quadrant q ends with a result and a reason; Chanter thaws the contexts it froze for it, those whose freeze still runs
once it has completed (R425). -/
def State.endTest (s : State) (q result reason : Nat) : State :=
  let t := s.qtest q
  if t.phase = .none then s
  else
    let s := ((s.wr QUAD.QTEST_STAT_BUSY 0 q).wr QUAD.QTEST_STAT_RESULT result q).wr QUAD.QTEST_STAT_REASON reason q
    let s := s.each ((List.range 4).map (fun j => 4 * q + j)) (fun s c =>
      if s.drained c then
        let s := ((s.odOff c).wr TEST.TST_STAT_STATE 0 c).modTcore c (fun k => { k with held := false })
        if s.rd HDR.STAT_STATE (pgFE c) = stTEST then s.setStates (corePages c) stREADY else s
      else s)
    let s := s.modQtest q (fun t => { t with phase := .none, held := [], result := result, reason := reason })
    s.each t.held (fun s x =>
      match s.image x with
      | some m =>
        if m.test then
          let s := s.setImage x { m with test := false }
          if (s.thawCheck x).1 = stOK then s.modFirn (fun f => { f with thaws := f.thaws ++ [{ target := x, test := true }] })
          else s
        else s
      | none => s)

/-- An engine or partition reset begins (Tables 14-5 and 14-6, steps 1 to 4): the pages read RESET, slices are cut off,
the capture record is written, Firn begins to freeze the suspects that must survive, and the others are reset. -/
def State.resetDomain (s : State) (r : Start) (extra : List Nat) (pages cores : List Nat) (home : Option Nat) : State :=
  let xs := s.suspectsOn cores home
  let lower := s.ladder.running.filter (fun k => k.within r.level r.domain (xs ++ extra))
  let all := (xs ++ extra ++ lower.flatMap (·.suspects)).dedup
  let s := (s.recordLast r).capture r.level r.domain r.cause xs cores
  let s := s.each cores (fun s c => (s.sliceAbort c 2).when (s.drained c) (fun s => s.endTest (c / 4) 5 0))
  let s := s.setStates pages stRESET
  let s := s.modLadder (fun l => { l with
    running := l.running.filter (fun k => !k.within r.level r.domain (xs ++ extra)) ++
      [⟨r.level, r.domain, r.cause, r.host, r.counted, all⟩]
    shadows := l.shadows ++ [⟨r.level, r.domain, all, none⟩] })
  let s := s.surviveStart r.level xs
  let kept := fun (c : Ctx) => c.frozenKept r.level || (c.freezing && c.survives r.level)
  s.each all (fun s x => if kept (s.ctx x) then s.modCtx x Ctx.unsignal else s.ctxResetStart x r.level)

def State.resetEngine (s : State) (r : Start) (extra : List Nat := []) : State :=
  if s.joins 2 r.domain then s else s.resetDomain r extra (corePages r.domain) [r.domain] none

/-- A partition reset keeps its quadrant's stack in self-refresh (R221). -/
def State.resetPartition (s : State) (r : Start) (extra : List Nat := []) : State :=
  if s.joins 3 r.domain then s
  else
    let s := s.resetDomain r extra (quadPages r.domain) ((List.range 4).map (fun j => 4 * r.domain + j)) (some r.domain)
    if s.on HBM.HBM_STAT_IN_SERVICE r.domain then s.wr HBM.HBM_STAT_SELF_REFRESH 1 r.domain else s

/-! ### Chip reset and power cycle -/

/-- The contexts a chip reset reaches (R441). -/
def State.reached (s : State) : List Nat :=
  (s.ctxs.filter (fun e => e.2.owned && e.2.state != .lost)).map (·.1)

/-- Steps 1 to 4 of Table 14-7: the record, no further issue, and Firn freezing the survivors of a chip reset. -/
def State.chipPrep (s : State) (r : Start) (captureToo : Bool := true) : State :=
  let s := if r.cause.isSome || r.host then s.recordLast r else s
  let s := s.when captureToo (fun s => s.capture r.level 0 r.cause s.reached ((List.range 16).filter s.live))
  let s := s.each ((List.range 16).filter (fun c => (s.tcore c).chosen)) (fun s c => s.sliceAbort c 2)
  let s := s.modLadder (fun l => { l with
    chip := some ⟨r.level, 0, r.cause, r.host, r.counted, []⟩
    shadows := l.shadows ++ [⟨4, 0, [], none⟩] })
  if r.level = 4 then s.surviveStart 4 s.reached else s

/-- A context as the restore area carries it through a chip reset (R243): a reset that runs becomes a chip reset. -/
def Ctx.throughChip (c : Ctx) : Ctx :=
  { c.unsignal with
           freezing := false, deficit := 0
           reset := c.reset.map (fun r => { r with level := 4, drained := true }) }

/-- PROV_EPOCH increments for each item of R517 that a reset of the part returns to its reset value. -/
def State.epochs (s : State) : State :=
  let n := b2n (s.rd CHIP.CORE_MAP_LIVE != 0) + b2n (s.rd CLKRST.PROFILE_ACTIVE != 1) + b2n (s.rd AVS.AVS_STAT_POWER_ID != 0) +
    ((List.range 16).filter (fun c => !s.on LOG.LOG_STAT_IS_DEFAULT c)).length
  s.wr CHIP.PROV_EPOCH_EPOCH (s.rd CHIP.PROV_EPOCH_EPOCH + n)

/-- A reset or a loss of power cuts off a fuse burn and a firmware update: whether a first fuse had been burned is free (R568), and
the header of the slot being written is undefined (R585). -/
def State.secCut (s : State) : State :=
  let s := match s.sec.burning with
    | some b =>
      let hit := s.drawn 2 = 1 && SMap.get s.sec.fuses b 0 = 0
      { s.drew with sec := { s.sec with burning := none, fuses := if hit then SMap.put s.sec.fuses b 1 else s.sec.fuses } }
    | none => s
  match s.sec.update with
  | some _ =>
    let base := (1 - s.sec.runSlot) * s.sec.flashHalf
    let junk := (List.range 4096).map (fun k => Config.freeByte s.draws (base + k))
    { s.drew with sec := { s.sec with update := none, flash := Memory.writeBytes s.sec.flash base junk } }
  | none => s

/-- The host side through a chip reset: the VFs whose Function Level Reset was in progress complete it, and those that clearing VF Enable
was resetting cease to exist (R102, R103). -/
def Pci.throughChip (p : Pci) (vfs : List Nat) : Pci :=
  { p with
    reads := [], vfEnable := p.vfEnable && !p.vfClearing, vfClearing := false
    msix := p.msix.filter (fun e => !vfs.contains (e.1 / 4096))
    cfg := p.cfg.filter (fun e => !vfs.contains (e.1 / 4096)) }

/-- CLKRST asserts the chip reset with a cause of Table 2-2 (R46–R55, R243, R360, R365, R448): what the part keeps is what
Table 14-7 prepared and what the Drone domain and HBM hold. -/
def State.chipAssert (s : State) (code : Nat) : State :=
  let cold := decide (code = 2 || code = 8)
  let gone := (List.range 64).filter (fun v => 1 ≤ v && bit (s.rd HOSTIF.FLR_STAT_BUSY) (v - 1))
  let parts := s.surviveEnd 4 (s.reached.filter (fun x => (s.ctx x).state != .recovering))
  let s := s.each parts.2 (fun s x => s.ctxResetStart x 4 true)
  let s := s.each parts.1 (fun s x => s.ctxResetStart x 4)
  let s := (s.modLadder (fun l => if l.shadows.any (fun w => w.level = 4 && w.ends.isNone) then l
      else { l with shadows := l.shadows ++ [⟨4, 0, [], none⟩] })).fltTakeAll.secCut
  let s := if code = 2 then s.morDropAll else (s.morFlush s.mor.queue.length).morDropAll
  let past := Nat.ble 4 s.stage
  let had := if past then (List.range 4).foldl (fun m k => if s.on HBM.HBM_STAT_IN_SERVICE k then setBit m k else m) 0
    else s.boot.hadStacks
  let logs := (List.range 4).filterMap (fun k => if s.on HBM.HBM_UE_LOG_VALID k then
    some (k * hbmSize + s.rd HBM.HBM_UE_LOG_SECTOR k * 64) else none)
  let s := { s with ctxs := s.ctxs.map (fun (e : Nat × Ctx) => (e.1, e.2.throughChip)) }
  let kept := fun x => (s.ctx x).state = .frozen
  let done : Reset := s.ladder.chip.getD ⟨4, 0, none, false, false, []⟩
  let tests := (s.test.quads.filter (fun e => e.2.phase != .none)).map (·.1)
  let b := s.boot
  let live := if b.clocks then s.rd CHIP.CORE_MAP_LIVE else b.oldLive
  let level := b.lvlFrom.getD (s.rd SEC.SEC_STAT_DEBUG)
  let s := s.epochs
  let s := s.wipe (if code = 2 then .perst else .chip) (fun _ => true)
  let boot : Boot :=
    { droneRail := b.droneRail, counting := b.counting, picked := b.picked, mainUp := b.mainUp, nonce := b.nonce
      coldDue := b.coldDue, resident := if code = 6 || code = 8 then none else b.resident, imgDig := b.imgDig, parity := b.parity, train := b.train
      fenceCores := b.fenceCores, ueLogs := if past then logs else b.ueLogs, hadStacks := had, restoreOk := bit had 0
      oldLive := live, lvlFrom := some level, fromDrone := b.fromDrone }
  let fabric : Fabric :=
    { counter := s.fabric.counter, nextTag := s.fabric.nextTag, routes := s.fabric.routes
      remotes := s.fabric.remotes.filter (fun r => kept r.ctx) }
  let firn : Firn :=
    { images := (s.firn.images.filter (fun (e : Nat × Image) => kept e.1)).map
        (fun (e : Nat × Image) => (e.1, { e.2 with lostRemotes := true }))
      hold := s.firn.hold, verdicts := s.firn.verdicts, lastClean := s.firn.lastClean }
  let s := { s with
    boot := boot, fabric := fabric, firn := firn
    pins := { s.pins with alert := false, nlDriven := false, wake := s.pins.wake && (code = 8 || s.pw.droneWake.isSome) }
    pci := if cold then {} else s.pci.throughChip gone
    lostPaths := []
    rate := [], latchHi := none, waiting := [], cores := [], hbms := [], limits := [], monitors := [], sensors := [], tgroups := []
    ladder := { casc := s.ladder.casc, caps := s.ladder.caps, running := [{ done with level := 4 }], shadows := [⟨4, 0, [], none⟩] }
    pw := { droneWake := s.pw.droneWake }
    cal := { store := s.cal.store, stage := s.cal.stage, writing := s.cal.writing, torn := s.cal.torn, rcTrim := s.cal.rcTrim, unreadable := s.cal.unreadable }
    sec := { s.sec with token := none, tokenBuf := [], update := none, tapDr := 0, burning := none }
    serac := { scores := s.serac.scores, charges := s.serac.charges }
    test := { pack := s.test.pack, highest := s.test.highest, quads := tests.map (fun q => (q, { result := 5 })) }
    nl := [], barrier := {} }
  let s := s.each tests (fun s q => s.wr QUAD.QTEST_STAT_RESULT 5 q)
  let s := s.each ((List.range 4).filter (bit had)) (fun s k => s.wr HBM.HBM_STAT_SELF_REFRESH 1 k)
  ((s.wr DRONE.PWR_STAT_STATE 0).wr CHIP.BOOT_PATH 1).wr CHIP.BOOT_CAUSE code

/-- A request for a chip reset (R55, R448): the steps before it while FLT is in service and PERST_n is not asserted,
otherwise at once. A request while one is in progress restarts the warm path. -/
def State.chipRequest (s : State) (code : Nat) (r : Start) : State :=
  if s.ladder.chip.isSome then
    { s with boot := { s.boot with chipReq := some code } }
  else if s.boot.fltUp && s.inService && !s.pins.perst then
    let s := s.chipPrep r (decide (code != 8))
    { s with boot := { s.boot with chipReq := some code } }
  else s.chipAssert code

/-- A power-cycle request (R449): steps 1 to 3 of Table 14-7; the hold follows. It takes over a chip reset that is being
prepared. -/
def State.powerRequest (s : State) (r : Start) : State :=
  match s.ladder.chip with
  | some c => if c.level = 6 then s
      else { s.modLadder (fun l => { l with chip := some ⟨6, 0, r.cause, r.host, r.counted, []⟩ }) with
             boot := { s.boot with chipReq := none } }
  | none => { s.chipPrep r with boot := { s.boot with chipReq := none } }

/-! ### Shadows and the cascade (R456–R459) -/

/-- A reset completes: its shadow lasts the window of Table 14-8, and it counts towards the cascade where the ladder
counts it (R456, R457). -/
def State.resetOver (s : State) (level domain window : Nat) : State :=
  let counted := s.ladder.running.any (fun r => r.level = level && r.domain = domain && r.counted)
  let key := level * 2 ^ 16 + domain
  s.modLadder (fun l => { l with
    running := l.running.filter (fun r => !(r.level = level && r.domain = domain))
    shadows := (l.shadows.map (fun w => if w.level = level && w.domain = domain && w.ends.isNone then
        { w with ends := some (s.ftime + window) } else w)).filter
        (fun w => match w.ends with | none => true | some e => s.ftime < e)
    casc := if counted then SMap.put l.casc key (s.ftime :: SMap.get l.casc key []) else l.casc })

/-- More than three counted resets of a level in a domain have completed within the last second (R457). -/
def State.cascDue (s : State) (key : Nat) : Bool :=
  3 < ((SMap.get s.ladder.casc key []).filter (fun t => s.ftime < t + 100000000)).length

/-- The key of the reset a reaction would start. -/
def React.key : React → Option Nat
  | .nothing => none
  | .ctx x => some (1 * 2 ^ 16 + x)
  | .engine c => some (2 * 2 ^ 16 + c)
  | .part q => some (3 * 2 ^ 16 + q)
  | .chip => some (4 * 2 ^ 16)
  | .power => none

end Sys2Proof.Machine
end

