-- ==== Sys2Proof/Machine/ClockOps.lean ====
section
/-! DEFINITION. Core clocks and quadrant voltages: the frequency of a core (R39–R41, R533, R534), relocks (R48), the targets
AVS sends (R542), and the margin estimator's references (R430–R434). -/
namespace Sys2Proof.Machine

/-! ### Frequencies -/

/-- The frequency of a profile, in MHz (R40). -/
def mhzOf (profile : Nat) : Nat := if profile = 0 then 1400 else if profile = 2 then 2000 else 1800

/-- The profile a core runs: until CALIB that of ADMIT, 1.4 GHz (R69); the target of a change once the core has relocked for it, else the one in effect (R41). -/
def State.coreProfile (s : State) (c : Nat) : Nat :=
  if s.stage < 6 && !s.boot.clocks then 0
  else if s.on CLKRST.PROFILE_CHANGING && !bit s.boot.relock c then s.boot.clkTarget else s.rd CLKRST.PROFILE_ACTIVE

def State.limit (s : State) (c : Nat) : Limits := SMap.get s.limits c {}
def State.modLimit (s : State) (c : Nat) (f : Limits → Limits) : State :=
  { s with limits := SMap.put s.limits c (f (s.limit c)) }

/-- Sensor i is fenced (R527). -/
def State.sensorFenced (s : State) (i : Nat) : Bool :=
  if i < 64 then bit (s.rd THERM.SFENCE_S0_63) i else bit (s.rd THERM.SFENCE_HI_S64_71) (i - 64)

/-- Quadrant q has a working sensor (R528). -/
def State.quadSensed (s : State) (q : Nat) : Bool := (List.range 16).any (fun k => !s.sensorFenced (16 * q + k))

/-- The lowest of the profile frequency of a core and its thermal, THROTTLE_n and TRIM limits (R534); THROTTLE_n held low acts on every running clock (R67), and a quadrant without a working
sensor holds its cores at 0.8 GHz as a thermal limit (R528). -/
def State.coolMhz (s : State) (c : Nat) : Nat :=
  let p := mhzOf (s.coreProfile c)
  let blind := if s.boot.thermUp && !s.quadSensed (c / 4) then 800 else p
  let low := if s.pins.throttle then 800 else (s.limit c).throttle.getD p
  min (min (min p blind) ((s.limit c).thermal.getD p)) (min low (if s.rd DRONE.PWR_STAT_STATE = 1 then 800 else p))

/-- The running frequency of core c in MHz: the lowest of its limits (R534). -/
def State.coreMhz (s : State) (c : Nat) : Nat := min (s.coolMhz c) ((s.limit c).margin.getD (s.coolMhz c))

/-- An ALIGN pulse (R46, R48). -/
def State.alignPulse (s : State) : State := s.bump CLKRST.ALIGN_ALIGN_GEN

/-- Bring the clock of core c to its limits; a change relocks it with an ALIGN pulse (R48, R534). A stopped clock stays
stopped and a margin PLL keeps its frequency (R418). -/
def State.applyFreq (s : State) (c : Nat) : State :=
  let s := s.wr CLKRST.CORE_FREQ_THROTTLED (b2n (decide (s.coolMhz c < mhzOf (s.coreProfile c)))) 0 c
  let f := s.coreMhz c / 25
  if s.rd CLKRST.CORE_FREQ_F25 0 c = 0 || s.on CLKRST.CORE_FREQ_OVERDRIVE 0 c || s.rd CLKRST.CORE_FREQ_F25 0 c = f then s
  else (s.wr CLKRST.CORE_FREQ_F25 f 0 c).alignPulse

/-- Every core's clock brought to its limits. -/
def State.applyFreqs (s : State) : State := s.each (List.range 16) State.applyFreq

/-- The clocks of the fused cores that no fence holds, at their limits. -/
def State.runClocks (s : State) : State :=
  s.each ((List.range 16).filter (fun c => s.fused c && !s.coreFenced c)) (fun s c =>
    (s.wr CLKRST.CORE_FREQ_F25 (s.coreMhz c / 25) 0 c).wr CLKRST.CORE_FREQ_THROTTLED
      (b2n (decide (s.coolMhz c < mhzOf (s.coreProfile c)))) 0 c)

/-- Start those clocks with one ALIGN pulse. -/
def State.startClocks (s : State) : State := s.runClocks.alignPulse

/-- Stop every core clock. -/
def State.stopClocks (s : State) : State := s.each (List.range 16) (fun s c => s.wr CLKRST.CORE_FREQ_F25 0 0 c)

/-- The overdrive frequency of a profile: the highest step of 25 MHz not above 1.12 times its own (R39). -/
def odMhz (profile : Nat) : Nat := mhzOf profile * 112 / 2500 * 25

/-- The WARN and THROT points of a group, in units of 0.125 °C, each at the nearest bound (R529). -/
def clampC (v : Nat) : Nat := max 60 (min 115 v)
def State.warnPoint (s : State) (g : Nat) : Int := (clampC (s.rd THERM.GRP_CFG_WARN 0 g) * 8 : Nat)
def State.throtPoint (s : State) (g : Nat) : Int := (clampC (s.rd THERM.GRP_CFG_THROT 0 g) * 8 : Nat)

/-! ### Voltages -/

def State.monitor (s : State) (m : Nat) : Monitor := SMap.get s.monitors m {}
def State.modMonitor (s : State) (m : Nat) (f : Monitor → Monitor) : State :=
  { s with monitors := SMap.put s.monitors m (f (s.monitor m)) }

/-- AVS sends quadrant q a target; while a range change runs it holds back one outside 0.55–0.95 V (R542). -/
def State.avsSend (s : State) (q v : Nat) : State :=
  if !s.on AVS.VMON_VALID 0 q && (s.monitor q).sampled && (v < 4400 || 7600 < v) then
    s.modMonitor q (fun m => { m with heldTarget := some v })
  else ((s.wr AVS.TARGET_CODE v 0 q).modMonitor q (fun m => { m with heldTarget := none })).emit (.avs q v)

/-- The voltage thresholds of a profile: 0.90 × V_P and 1.06 × V_P (R543). -/
def State.setAlarm (s : State) (q profile : Nat) : State :=
  let vp := (s.volts q profile).1
  (s.wr AVS.VALARM_LO (vp * 90 / 100) 0 q).wr AVS.VALARM_HI (vp * 106 / 100) 0 q

/-- A VOLT test moves the target of quadrant q (R426). -/
def State.voltTests (s : State) (q : Nat) : Bool := (s.qtest q).kind = 2 && (s.qtest q).phase != .none && (s.qtest q).phase != .drain

/-- The monitor of quadrant q reads within ±3 mV of its target (R41, R426). -/
def State.settled (s : State) (q : Nat) : Bool :=
  s.on AVS.VMON_VALID 0 q && s.rd AVS.VMON_CODE 0 q ≤ s.rd AVS.TARGET_CODE 0 q + 24 &&
  s.rd AVS.TARGET_CODE 0 q ≤ s.rd AVS.VMON_CODE 0 q + 24

/-! ### Reference windows (R431, R434) -/

/-- A valid reference window of core c: AGE returns to 0, the estimator adopts its records, and STALE ends (R430, R434). -/
def State.validWindow (s : State) (c : Nat) : State :=
  let s := s.modTcore c (fun t => { t with
    lastRef := s.ftime, due := false
    gb := match s.calUse 5 with | some p => leAt p (4 * c) 1 | none => 50
    safe := s.calUse 6 })
  let stale := s.on TEST.TST_STAT_STALE c
  let s := (s.wr TEST.REF_AGE_AGE 0 c).wr TEST.TST_STAT_STALE 0 c
  if stale then ((s.modLimit c (fun l => { l with margin := none })).wr TEST.TST_STAT_CAPPED 0 c).applyFreq c else s

/-- Seconds since the last valid reference window of core c (R433). -/
def State.refAge (s : State) (c : Nat) : Nat := (s.ftime - (s.tcore c).lastRef) / 100000000

end Sys2Proof.Machine
end

