-- ==== Sys2Proof/Machine/TestOps.lean ====
section
/-! DEFINITION. Test packs and patterns (R406–R413), failures and their reports (R420, R421), the choice of slices
(R414–R417) and the shared steps of explicit tests (R422–R429). -/
namespace Sys2Proof.Machine

/-! ### Packs (Tables 13-1 to 13-3) -/

/-- Entry i of a pack. -/
def packEntry (p : List Byte) (i : Nat) : List Byte := (p.drop (0x80 + 32 * i)).take 32
def packNpat (p : List Byte) : Nat := leAt p 0x14 2
def packMinMargin (p : List Byte) : Nat := leAt p 0x16 1
def packId (p : List Byte) : Nat := leAt p 8 4
def packSeq (p : List Byte) : Nat := leAt p 0x0C 4

/-- Fields of a pattern entry (Table 13-2). -/
def patId (e : List Byte) : Nat := leAt e 0 2
def patUnit (e : List Byte) : Nat := bits (leAt e 0 4) 19 16
def patSlice (e : List Byte) : Bool := bit (leAt e 0 4) 20
def patOd (e : List Byte) : Bool := bit (leAt e 0 4) 21
def patExplicit (e : List Byte) : Bool := bit (leAt e 0 4) 22
def patWeight (e : List Byte) : Nat := leAt e 3 1
def patMode (e : List Byte) : Nat := bits (leAt e 4 4) 3 0
def patWA (e : List Byte) : Nat := bits (leAt e 4 4) 7 4
def patWB (e : List Byte) : Nat := bits (leAt e 4 4) 11 8
def patSign (e : List Byte) : Nat := bits (leAt e 4 4) 12 12
def patK (e : List Byte) : Nat := bits (leAt e 4 4) 27 14
def patPasses (e : List Byte) : Nat := leAt e 8 2
def patSeed (e : List Byte) : Nat := leAt e 0x10 8
def patSig (e : List Byte) : Nat := leAt e 0x18 8
def uDSA : Nat := 1
def uEXU : Nat := 2
def uLOG : Nat := 3
def uROM : Nat := 4

/-- The core cycles of one pass of a pattern (R125, R126). -/
def patLength (e : List Byte) : Nat := passLength (patMode e) (patWA e) (patWB e) (patK e)

/-- The core cycles a pattern counts in a slice; the spec gives none for a ROM pattern, which counts as one whole slice
(log 56). -/
def patCycles (e : List Byte) : Nat := if patUnit e = uROM then 120000 else patPasses e * patLength e

/-- A pattern entry obeys Table 13-2 and R407. -/
def patOk (e : List Byte) : Bool :=
  let u := patUnit e
  let shape := patSlice e || patOd e
  !bit (leAt e 0 4) 23 && 1 ≤ patWeight e && leAt e 0x0A 2 = 0 && leAt e 0x0C 4 = 0 &&
  (if u = uROM then bits (leAt e 4 4) 31 16 = 0 && 1 ≤ patPasses e
  else
    !bit (leAt e 4 4) 13 && bits (leAt e 4 4) 31 28 = 0 && patSeed e != 0 && 1 ≤ patPasses e && 1 ≤ patK e &&
    ((u = uDSA && (patMode e = mINT || patMode e = mBIN)) || (u = uEXU && patMode e = mEXACT) ||
      (u = uLOG && patMode e = mLOG)) &&
    widthAllowed (patMode e) (patWA e) && widthAllowed (patMode e) (patWB e) &&
    (!(patMode e = mLOG || patMode e = mEXACT) || patWA e = patWB e) && (patMode e = mINT || patSign e = 0) &&
    patLength e ≤ 4096 && (!shape || patCycles e ≤ 120000))

/-- A reserved field of the header is not 0, or a byte between the entries and the signature (R406). -/
def packReservedBad (p : List Byte) : Bool :=
  leAt p 4 2 != 0 || leAt p 0x17 1 != 0 || leAt p 0x18 8 != 0 || leAt p 0x40 64 != 0

/-- The first failing check of Table 13-3 for a pack of PACK_LEN bytes, 0 where it is admitted. -/
def State.packReason (s : State) (p : List Byte) (len : Nat) (readOk : Bool) : Nat :=
  if len % 32 != 0 || 0x100_0000 < len || leAt p 0x10 4 != len then 0x01
  else if leAt p 0 4 != 0x4B50_4B31 || leAt p 7 1 != 1 || packReservedBad p then 0x02
  else if leAt p 6 1 != 0xB0 then 0x03
  else if packNpat p = 0 || len < 0x80 + 32 * packNpat p + 96 then 0x04
  else if sha256 ((p.take (len - 96)).drop 0x80) != (p.drop 0x20).take 32 then 0x05
  else if !signatureOk 1 (sha256 (p.take (len - 96))) (p.drop (len - 96)) then 0x06
  else if packSeq p < s.test.highest.getD 0 then 0x07
  else if packId p = 0 || packSeq p = 0 || !(List.range (packNpat p)).all (fun i => patOk (packEntry p i)) ||
      ((p.take (len - 96)).drop (0x80 + 32 * packNpat p)).any (fun b => b != 0#8) then 0x08
  else if s.test.quads.any (fun q => q.2.phase != .none) then 0x09
  else if !readOk then 0x0A else 0

/-- The entries of the pack in use; the ROM pack's one entry stands for the admission patterns of R69, whose list the
spec does not give (log 56). -/
def romEntry : List Byte := toLE (0x0070_0000 + uROM * 2 ^ 16 + 2 ^ 24) 4 ++ zeros 4 ++ toLE 1 4 ++ zeros 20
def State.entries (s : State) : List (List Byte) :=
  match s.test.pack with
  | some p => (List.range (packNpat p)).map (packEntry p)
  | none => [romEntry]

/-- MIN_MARGIN of the pack in use; the ROM pack's is not given (log 56). -/
def State.minMargin (s : State) : Nat :=
  match s.test.pack with
  | some p => packMinMargin p
  | none => Config.romMargin % 256

/-! ### The pattern engine (R408, R409) -/

/-- One draw of the generator. -/
def genNext (x : Nat) : Nat :=
  let x := Nat.xor x (x * 2 ^ 13 % 2 ^ 64)
  let x := Nat.xor x (x / 2 ^ 7)
  Nat.xor x (x * 2 ^ 17 % 2 ^ 64)

/-- The generator after n draws from a seed. -/
def genAt (seed : Nat) : Nat → Nat
  | 0 => seed
  | n + 1 => genNext (genAt seed n)

/-- An operand element from its draw: no exponent field of all ones (R408). -/
def patElem (mode code x : Nat) : Nat :=
  let v := x % 2 ^ widthOf code
  if mode = mEXACT then clearBit v (widthOf code - 2) else v

/-- Rows and columns of a pattern pass (R407). -/
def patSide (e : List Byte) : Nat := if patUnit e = uEXU then 64 else 512

/-- The operands of pass `i` of a pattern: A row-major, then B with k outer. -/
def patOperands (e : List Byte) (i : Nat) : Operands := fun side line k =>
  let n := patSide e
  let before := i * (2 * n * patK e)
  let idx := if side = 0 then line * patK e + k else n * patK e + k * n + line
  patElem (patMode e) (if side = 0 then patWA e else patWB e) (genAt (patSeed e) (before + idx + 1))

/-- The layer descriptor that a pattern pass behaves as: a full tile with the checksum lanes compared. -/
def patDesc (e : List Byte) : List Byte :=
  let n := patSide e
  toLE (patMode e * 2 ^ 20 + patWA e * 2 ^ 16 + patWB e * 2 ^ 12 + patSign e * 3 * 2 ^ 10) 4 ++
  toLE ((n - 1) * 2 ^ 23 + (n - 1) * 2 ^ 14 + patK e) 4 ++ toLE (patK e) 4 ++ zeros 8 ++ toLE (2 ^ 31) 4 ++ zeros 40

/-- The accumulators of pass `i` of a pattern on a core whose cells fail as `faults` says. -/
def patAccs (t : LogTab) (e : List Byte) (idx i : Nat) (faults : List PatFault) : Accs :=
  accumulateOf (patOperands e i) t (patDesc e)
    ((faults.filter (fun f => f.entry = idx && f.pass = i)).flatMap (·.cells))

/-- The outcome of a pattern: the signature observed, whether it passes, and the unit a failure is charged to. -/
structure PatResult where
  sig : Nat
  ok : Bool
  unit : Nat
  deriving DecidableEq, Repr

/-- The unit of Table 12-2 for the disagreeing lines of a pass of core c (R420). -/
def patLocate (c : Nat) (d : List (Nat × Bool × Bool) × List (Nat × Bool × Bool) × Option (Bool × Bool)) : Nat :=
  let col := (d.1.head?.map (·.1)).getD 0
  let row := (d.2.1.head?.map (·.1)).getD 0
  if d.1.length = 1 && d.2.1.length = 1 then uROW c row
  else if d.1.length = 1 && 1 < d.2.1.length then uCOL c col
  else if 1 < d.1.length && d.2.1.length = 1 then uROW c row
  else if 1 < d.1.length && 1 < d.2.1.length then uCORE c
  else if !d.1.isEmpty then uCOL c col
  else if !d.2.1.isEmpty then uROW c row
  else uCORE c

/-- Run pattern `e`, entry `idx` of its pack, on core c (R408, R409, R420). A ROM pattern passes unless `faults` says
otherwise, and its observed signature is not given (log 56). -/
def State.runPattern (s : State) (c idx : Nat) (e : List Byte) (faults : List PatFault) : PatResult :=
  if patUnit e = uROM then ⟨Config.free s.draws % 2 ^ 64, !faults.any (fun f => f.core = c && f.entry = idx && f.rom), uCORE c⟩
  else
    let fs := faults.filter (fun f => f.core = c)
    let accs := (List.range (patPasses e)).map (fun i => patAccs (s.core c).table e idx i fs)
    let sig := accs.foldl (fun x a => crc64 x (accBytes (patDesc e) a)) 0
    let dis := if patMode e = mINT then accs.map (fun a => disagreements (patDesc e) a ([], [], 0)) else []
    match dis.find? (fun d => !(d.1.isEmpty && d.2.1.isEmpty && d.2.2.isNone)) with
    | some d => ⟨sig, false, patLocate c d⟩
    | none => ⟨sig, decide (sig = patSig e), uCORE c⟩

/-- TEST_FAIL of core c with its charge, and FAIL_LOG where it is free (R420, R421, Table 13-7). -/
def State.testFail (s : State) (c : Nat) (e : List Byte) (cond level : Nat) (r : PatResult) : State :=
  let s := s.raiseTok { src := pgTEST c, kind := kTEST_FAIL, cls := defaultClass kTEST_FAIL (pgTEST c)
                        addr := patId e * 2 ^ 32 + cond * 2 ^ 28 + r.unit, detail := patWeight e * 256 + level
                        charges := [(r.unit, patWeight e)] }
  if s.on TEST.FAIL_LOG_VALID c then s
  else
    let s := ((s.wr TEST.FAIL_LOG_VALID 1 c).wr TEST.FAIL_LOG_COND cond c).wr TEST.FAIL_LOG_F25 (s.rd CLKRST.CORE_FREQ_F25 0 c) c
    let s := ((s.wr TEST.FAIL_LOG_PAT_ID (patId e) c).wr TEST.FAIL_LOG_UNIT r.unit c).wr TEST.FAIL_TIME_TIME s.ftime c
    (s.wr TEST.OBS_SIG r.sig c).wr TEST.EXP_SIG (patSig e) c

/-- Whether the engine skips a pattern: a LOG pattern while the core's table is not the default (R410). -/
def State.patSkipped (s : State) (c : Nat) (e : List Byte) : Bool := patUnit e = uLOG && !s.on LOG.LOG_STAT_IS_DEFAULT c

/-- Run a list of entries on core c under a condition; the answer counts the failures. TEST_FAIL is raised for each where
`report` says so (R420, R427). -/
def State.runPatterns (s : State) (c cond level : Nat) (report : Bool) (faults : List PatFault) (es : List (Nat × List Byte)) :
    State × Nat :=
  es.foldl (fun (st : State × Nat) x =>
    if st.1.patSkipped c x.2 then (st.1.count TEST.TST_CNT_SKIPPED c, st.2)
    else
      let r := st.1.runPattern c x.1 x.2 faults
      let s := if patUnit x.2 = uROM then st.1.drew else st.1
      if r.ok then (s, st.2) else (if report then s.testFail c x.2 cond level r else s, st.2 + 1)) (s, 0)

/-- The numbered entries that explicit tests run. -/
def State.explicitEntries (s : State) : List (Nat × List Byte) :=
  ((List.range s.entries.length).zip s.entries).filter (fun x => patExplicit x.2)

/-! ### Slices (R415–R417) -/

/-- The (entry, condition) pairs of a pack from entry `from_` and condition `cond` up, then from the start: condition 0 NORMAL,
1 OVERDRIVE. -/
def pairsFrom (es : List (List Byte)) (from_ cond : Nat) : List (Nat × Nat) :=
  let all := (List.range es.length).flatMap (fun i =>
    (if patSlice (es.getD i []) then [(i, 0)] else []) ++ (if patOd (es.getD i []) then [(i, 1)] else []))
  all.filter (fun p => from_ < p.1 || (p.1 = from_ && cond ≤ p.2)) ++ all.filter (fun p => p.1 < from_ || (p.1 = from_ && p.2 < cond))

/-- Overdrive may run on core c (R417, R546). -/
def State.odAllowed (s : State) (c : Nat) : Bool :=
  s.on TEST.TST_CTL_OD_EN c && s.rd CLKRST.CORE_FREQ_F25 0 c * 25 = mhzOf (s.coreProfile c) &&
  !s.on CLKRST.CORE_FREQ_THROTTLED 0 c && !s.on TEST.TST_STAT_CAPPED c && !s.on TEST.TST_STAT_STALE c &&
  s.rd DRONE.PWR_STAT_STATE = 0

/-- The pairs a slice on core c runs: consecutive pairs of one condition within 120,000 cycles, overdrive pairs that may not
run passed over (R417). -/
def State.slicePairs (s : State) (c : Nat) : List (Nat × Nat) :=
  let es := s.entries
  let all := (pairsFrom es (s.rd TEST.TST_STAT_CURSOR c) (s.tcore c).cond).filter (fun p => p.2 = 0 || s.odAllowed c)
  match all with
  | [] => []
  | (_, cond) :: _ =>
    ((all.takeWhile (fun p => p.2 = cond)).foldl (fun (st : List (Nat × Nat) × Nat × Bool) p =>
      let n := st.2.1 + patCycles (es.getD p.1 [])
      if st.2.2 && n ≤ 120000 then (st.1 ++ [p], n, true) else (st.1, st.2.1, false)) ([], 0, true)).1

/-- The clamped screening share of a quadrant (R393). -/
def State.share (s : State) (q : Nat) : Nat := min 64 (s.rd SERAC.SHARE_Q 0 q)

/-- Serac considers core c for a slice (R415). -/
def State.sliceEligible (s : State) (c : Nat) : Bool :=
  s.live c && s.on TEST.TST_CTL_SLICE_EN c && !s.drained c && (s.core c).waitFor.all (fun i => !s.waiting.any (fun d => d.id = i)) &&
  (s.rd HDR.STAT_STATE (pgFE c) = stREADY || s.rd HDR.STAT_STATE (pgFE c) = stBUSY)

/-- SLICE_CORE_CHOSEN of core c: a forced window where one is due, else the pairs of its cursor (R417, R418). -/
def State.chooseSlice (s : State) (c : Nat) : State :=
  let window := (s.tcore c).due
  let ps := s.slicePairs c
  if !window && ps.isEmpty then s
  else
    let od := !window && ps.any (fun p => p.2 = 1)
    let es := s.entries
    let s := s.modTcore c (fun t => { t with
      chosen := true, window := window, overdrive := od, started := none
      run := if window then [] else ps.map (fun p => (p.1, es.getD p.1 [])) })
    { s with test := { s.test with lastSlice := SMap.put s.test.lastSlice (c / 4) c } }

/-- The cursor of core c after a slice that ran the entries of `run` (R417). -/
def State.advanceCursor (s : State) (c : Nat) : State :=
  let t := s.tcore c
  match t.run.getLast? with
  | none => s
  | some (i, _) =>
    let next := match pairsFrom s.entries i (if t.overdrive then 1 else 0) with
      | _ :: p :: _ => p
      | p :: _ => p
      | [] => (0, 0)
    (s.wr TEST.TST_STAT_CURSOR next.1 c).modTcore c (fun t => { t with cond := next.2 })

/-- The pages of a core leave TEST. -/
def State.leaveTest (s : State) (c : Nat) : State :=
  let s := (s.wr TEST.TST_STAT_STATE 0 c).wr TEST.TST_STAT_OVERDRIVE 0 c
  if s.rd HDR.STAT_STATE (pgFE c) = stTEST then s.setStates (corePages c) stREADY else s

/-- A new pack reaches a core whose slice has ended (R412). -/
def State.packReaches (s : State) (c : Nat) : State :=
  if s.test.stale.contains c then
    let s := (s.wr TEST.TST_STAT_CURSOR 0 c).modTcore c (fun t => { t with cond := 0 })
    { s with test := { s.test with stale := s.test.stale.filter (fun k => k != c) } }
  else s

/-! ### Explicit tests -/

def tPASS : Nat := 1
def tFAIL : Nat := 2
def tINCONCLUSIVE : Nat := 3
def tNOT_STARTED : Nat := 4
def tABORTED : Nat := 5
def tREFUSED : Nat := 6

/-- The cores of quadrant q that its explicit test holds (R423). -/
def State.drainedSet (s : State) (q : Nat) : List Nat := ((List.range 4).map (fun j => 4 * q + j)).filter s.drained

/-- The contexts a test of quadrant q holds (R423). -/
def State.heldSet (s : State) (q kind : Nat) : List Nat :=
  s.ownedCtxs.filter (fun x =>
    let c := (s.ctx x).cfg
    (s.ctx x).state != .lost &&
    if kind = 1 then (List.range 16).all (fun k => !(bit c.affinity k && s.live k && !(s.drainedSet q).contains k))
    else c.home = q)

/-- Chanter freezes a context for a test (R424); one that is not running, or that has no room for its image, is left as
it is (log 57). -/
def State.testFreeze (s : State) (q x : Nat) : State :=
  if (s.ctx x).state = .owned && !(s.ctx x).freezing && (s.ctx x).imageOk false then
    (s.freezeStart { target := x, test := true }).modQtest q (fun t => { t with held := t.held ++ [x] })
  else s

/-- No group is resident on the drained set of quadrant q, and no pass runs there (R424). -/
def State.setIdle (s : State) (q : Nat) : Bool :=
  (s.drainedSet q).all (fun c =>
    let k := s.core c
    k.groups.isEmpty && k.dsa.running.isNone && k.dsa.readout.isNone && k.exu.running.isNone && k.exu.readout.isNone &&
    k.dsa.serac.isNone && k.exu.serac.isNone && !(s.tcore c).chosen)

/-- The hottest reading of the target of a PUMP test, in units of 0.125 °C (R428). -/
def State.targetTemp (s : State) (q : Nat) : Int := toInt 16 (s.tempStamp (pgFE (s.qtest q).target))

/-- The level of a VOLT test in 0.5 % units (R426, R427). -/
def voltDepth (level depth steps : Nat) : Nat := level * depth / max 1 steps

/-- The target of level n of a VOLT test on quadrant q (Table 13-5, step 3). -/
def State.voltTarget (s : State) (q : Nat) : Nat :=
  let t := s.qtest q
  let steps := max 1 (s.rd QUAD.QTEST_PAR_STEPS q)
  t.vp - t.vp * t.level * s.rd QUAD.QTEST_PAR_DEPTH q / (2 * steps * 100)

/-- Targets from one voltage to another in steps of 5 mV, the last one exact. -/
def voltSteps (a b : Nat) : List Nat :=
  let n := ((if a ≤ b then b - a else a - b) + 39) / 40
  (List.range n).map (fun i => if a ≤ b then min b (a + 40 * (i + 1)) else max b (a - 40 * (i + 1)))

/-- AVS takes quadrant q to a target in steps. -/
def State.avsWalk (s : State) (q v : Nat) : State :=
  s.each (voltSteps (s.rd AVS.TARGET_CODE 0 q) v) (fun s w => s.avsSend q w)

/-- A monitor begins to change its range (R541). -/
def State.rangeChange (s : State) (q range : Nat) : State :=
  (((s.wr AVS.VMON_RANGE range 0 q).wr AVS.VMON_VALID 0 0 q).wr AVS.VMON_CODE 0x8000 0 q).modMonitor q
    (fun m => { m with low := 0, high := 0 })

/-- The target a VOLT test restores: its quadrant's V_p, or that of a change to a higher profile that waits for the test (R41). -/
def State.restoreVolts (s : State) (q : Nat) : Nat :=
  if s.on CLKRST.PROFILE_CHANGING && mhzOf (s.rd CLKRST.PROFILE_ACTIVE) < mhzOf s.boot.clkTarget then (s.volts q s.boot.clkTarget).1
  else (s.qtest q).vp

/-- A VOLT or PUMP test goes to its restore steps with a result (Table 13-5 steps 5 and 6, Table 13-6 step 5). -/
def State.testRestore (s : State) (q result reason : Nat) : State :=
  let t := s.qtest q
  let s := s.modQtest q (fun t => { t with phase := .restore, since := s.ftime, result := result, reason := reason, settled := false })
  if t.kind = 2 then
    ((s.avsWalk q (s.restoreVolts q)).wr AVS.VALARM_LO t.lo 0 q).rangeChange q 0
  else s

/-- A VOLT test that a reset ended leaves its rail at V_p and its monitor in the NORMAL range (Table 13-5, steps 5 and 6). -/
def State.railsBack (s : State) (q : Nat) : State :=
  let t := s.qtest q
  if t.kind = 2 && t.phase = .none && s.rd AVS.VMON_RANGE 0 q = 1 then
    ((s.avsWalk q (s.restoreVolts q)).wr AVS.VALARM_LO t.lo 0 q).rangeChange q 0
  else s

/-- A test starts on its drained set (R424): the pages read TEST and the set is held. -/
def State.testBegin (s : State) (q : Nat) : State :=
  s.each (s.drainedSet q) (fun s c =>
    ((s.modTcore c (fun t => { t with held := true })).wr TEST.TST_STAT_STATE 3 c).setStates (corePages c) stTEST)

/-- Falling THROTTLE_n ends a PUMP test as INCONCLUSIVE (R428). -/
def State.throttlePumps (s : State) : State :=
  s.each (List.range 4) (fun s q =>
    let t := s.qtest q
    if t.kind = 3 && (t.phase = .heat || t.phase = .hold || t.phase = .running) then s.testRestore q tINCONCLUSIVE 3 else s)

end Sys2Proof.Machine
end

