-- ==== Sys2Proof/Machine/Tokens.lean ====
section
/-! DEFINITION. FLT and Moraine: the rows FLT_TOKEN_ACCEPT to RATE_WINDOW_END of the table (*Fault Tokens, Sticky Bits and the
Moraine Ring*). -/
namespace Sys2Proof.Machine

/-- The cause of Table 2-2 that a CHIP reaction carries. -/
def chipCode (t : Tok) : Nat := if t.kind = kWATCHDOG then 6 else 4

/-- A reaction would start a reset (R355, R453). -/
def State.wouldStart (s : State) (t : Tok) : React → Bool
  | .nothing => false
  | .ctx x => (s.ctx x).owned && (s.ctx x).state != .lost && (s.soloStall t || (s.ctx x).gen = t.gen) && !s.joins 1 x &&
      (s.ctx x).state != .recovering
  | .engine c => !s.joins 2 c
  | .part q => !s.joins 3 q
  | .chip => !s.joins 4 0
  | .power => true

/-- The class next up under R457 and R458, where the token may climb. -/
def nextClass (t : Tok) (cls : Nat) : Option Nat :=
  if cls = cCONTEXT then (if (coreOfPage t.src).isSome && t.kind != kRANGE then some cENGINE else none)
  else some (min cPOWERCYCLE (cls + 1))

/-- Step 3 of R357: the class after the cascade rule, and whether it climbed. -/
def State.cascaded (s : State) (t : Tok) (cls : Nat) : State × Nat × Bool :=
  let r := s.reaction t cls
  match r.key with
  | none => (s, cls, false)
  | some key =>
    if s.wouldStart t r && s.cascDue key then
      let s := s.modLadder (fun l => { l with casc := SMap.drop l.casc key })
      match nextClass t cls with
      | some up => (s.count CLKRST.CASC_CNT_COUNT, s.withDomain t up, true)
      | none => (s, cls, false)
    else (s, cls, false)

/-- The reaction to a token (Table 11-2). -/
def State.react (s : State) (t : Tok) (casc : Bool) : State :=
  let st := fun level domain => ({ level := level, domain := domain, cause := some t, counted := true, casc := casc } : Start)
  match s.reaction t t.cls with
  | .nothing => s
  | .ctx x => if s.soloStall t || (s.ctx x).gen = t.gen then s.resetContext (st 1 x) else s
  | .engine c => s.resetEngine (st 2 c)
  | .part q => s.resetPartition (st 3 q)
  | .chip => s.chipRequest (chipCode t) (st 4 0)
  | .power => s.powerRequest (st 6 0)

/-- FLT accepts one token (R356–R360, R396). -/
def State.fltAccept (s : State) (t : Tok) : State :=
  let sec := s.secondary t
  let cls := s.withDomain t (s.overridden t)
  let c := if sec then (s, cls, false) else s.cascaded t cls
  let t := { t with cls := c.2.1, sec := sec }
  let s := (c.1.fltLog (c.1.stamped t) true).score t
  if sec then s else s.react t c.2.2

/-- FLT_TOKEN_ACCEPT. -/
def execFltTokenAccept (s : State) : Out :=
  .next (match tokOrder s.fltIn with
  | [] => s
  | t :: rest => if s.boot.fltUp then { s with fltIn := rest }.fltAccept t else s)

/-- MORAINE_WRITE (R364). -/
def execMoraineWrite (s : State) : Out := .next (if s.boot.fltUp then s.morWrite else s)

/-- MORAINE_MOD_TIMER (R367). -/
def execMoraineModTimer (s : State) : Out :=
  let us := s.rd MORAINE.MOR_MOD_MOD_US
  .next (match s.mor.firstUnsignalled with
  | some t0 => if us != 0 && t0 + 100 * us ≤ s.ftime then s.morSignal else s
  | none => s)

/-! ### Ring registers (R613, Table 11-13) -/

def offMoraine (o : Nat) : Nat := pgMORAINE * 4096 + o

/-- A write to MOR_CTL. -/
def State.morCtlWrite (s : State) (a : Authority) (v : Nat) : State :=
  let was := s.on MORAINE.MOR_CTL_EN
  let on := bit v 31
  let log2 := bits v 4 0
  let s := s.wr MORAINE.MOR_CTL_EN (b2n on)
  let s := if !was && on then
      { (s.wr MORAINE.MOR_PIDX_PIDX 0).wr MORAINE.MOR_CIDX_CIDX 0 with
        mor := { s.mor with unsignalled := 0, firstUnsignalled := none } }
    else s
  if was then (if log2 = s.rd MORAINE.MOR_CTL_LOG2 then s else s.cfgDenied a (offMoraine 0x48))
  else if 10 ≤ log2 && log2 ≤ 20 then s.wr MORAINE.MOR_CTL_LOG2 log2
  else s.cfgDenied a (offMoraine 0x48)

/-- MOR_EN_WRITE. -/
def execMorEnWrite (port : Authority) (value : Nat) (s : State) : Out :=
  .next (s.gated port (offMoraine 0x48) 4 (fun s => if s.mayWrite port MORAINE.MOR_CTL_EN then s.morCtlWrite port value else s))

/-- A write to MOR_BASE: not while EN is 1, unless it repeats the value. -/
def State.morBaseWrite (s : State) (a : Authority) (off len v : Nat) : State :=
  let t := s.writeFields a off len v
  if s.on MORAINE.MOR_CTL_EN && t.rd MORAINE.MOR_BASE_BASE != s.rd MORAINE.MOR_BASE_BASE then s.cfgDenied a off pgHOSTIF len
  else t

/-- A write to MOR_CIDX: a value beyond PIDX is dropped. -/
def State.morCidxWrite (s : State) (v : Nat) : State :=
  let c := s.rd MORAINE.MOR_CIDX_CIDX
  if dist32 c v ≤ dist32 c (s.rd MORAINE.MOR_PIDX_PIDX) then s.wr MORAINE.MOR_CIDX_CIDX v else s

/-- The caps as the window that runs finds them. -/
def State.ratesNow (s : State) : List (Nat × RateWin) := s.rate.map (fun e => (e.1, e.2.inWindow (s.ftime / 100_000)))

/-- A cap once what is due has been reported. -/
def RateWin.reported (w : RateWin) : RateWin := { w with due := 0 }

/-- RATE_WINDOW_END (R369): what was withheld in windows that have ended is reported. -/
def execRateWindowEnd (s : State) : Out :=
  let now := s.ratesNow
  let left := (now.filter (fun (e : Nat × RateWin) => 0 < e.2.passed + e.2.withheld)).map (fun e => (e.1, e.2.reported))
  .next ({ s with rate := left }.each (now.filter (fun (e : Nat × RateWin) => 0 < e.2.due)) (fun s w =>
    (s.addSat FLT.FLT_LIMIT_COUNT w.2.due).raise pgFLT kRATE_LIMITED w.1 (min 0xFFFF w.2.due)))

end Sys2Proof.Machine
end

