-- ==== Sys2Proof/Machine/Reset.lean ====
section
/-! DEFINITION. Resets as they go on: the rows CONTEXT_RESET_DRAINED to SOLO_WRITE of the table (*Hangs, the Escalation Ladder and
Recovery*), with admission and the spare lines it maps (R70, R71). -/
namespace Sys2Proof.Machine

/-! ### Context reset (Table 14-4, steps 5 to 7) -/

/-- The context resets alone, or the larger reset that reaches it has come to its records. -/
def State.recordsDue (s : State) (x : Nat) : Bool :=
  s.inService && !s.ladder.running.any (fun r => 2 ≤ r.level && r.suspects.contains x)

/-- A DMA read or remote request of context x issued in the generation it would take is outstanding (R444). -/
def State.genHeld (s : State) (x : Nat) : Bool :=
  let g := ((s.ctx x).gen + 1) % 256
  s.pci.reads.any (fun d => d.ctx = x && d.gen = g) || s.fabric.remotes.any (fun r => r.ctx = x && r.gen = g)

/-- R263 steps 1 to 4 of context x, where they may be posted. -/
def State.tryRecords (s : State) (x : Nat) : State :=
  if s.recordsDue x && !s.genHeld x then s.resetRecords x else s

/-- The management commands of a context that run. -/
def Ctx.managing (c : Ctx) : List Cmd :=
  c.queues.flatMap (fun q => q.2.cmds.filter (fun k => k.phase = .running && 0x10 ≤ k.opc && k.opc ≤ 0x13))

/-- A management command of context x is still in progress against another context; its record comes before GEN_CHANGE. A
CTX_RESET whose target has such a command itself is not waited for (log 68). -/
def State.stillManages (s : State) (x : Nat) : Bool :=
  (s.ctx x).managing.any (fun k => k.opc != 0x13 || (s.ctx (bits (k.at 8) 12 0)).managing.isEmpty)

/-- CONTEXT_RESET_DRAINED. -/
def execContextResetDrained (ctx : Nat) (s : State) : Out :=
  if s.stillManages ctx then .next s else
  let s := s.modCtx ctx (fun c => { c with reset := c.reset.map (fun r => { r with drained := true }) })
  .next (if (s.ctx ctx).reset.isSome then s.tryRecords ctx else s)

/-- RECOVERED of context x, where its remote requests are settled (R443); requests held for it are then served (R329). -/
def State.tryRecovered (s : State) (x : Nat) : State :=
  match (s.ctx x).reset with
  | none => s
  | some r =>
    if r.changed && s.recordsDue x && !s.fabric.remotes.any (fun q => q.ctx = x) then
      (s.resetEnd x).serveHeld.resetOver 1 x 200
    else s

/-- RECOVERED_POST. -/
def execRecoveredPost (ctx : Nat) (s : State) : Out := .next (s.tryRecovered ctx)

/-! ### Admission (R69–R71, R446) -/

/-- A spare line of core c is mapped for logical row or column l, where one is free; the answer says whether (R70, R399). -/
def State.mapSpare (s : State) (c : Nat) (row : Bool) (l : Nat) : State × Option Nat :=
  let valid := if row then DSA.DSA_ROWMAP_VALID else DSA.DSA_COLMAP_VALID
  let logical := if row then DSA.DSA_ROWMAP_LOGICAL else DSA.DSA_COLMAP_LOGICAL
  let used := if row then DSA.DSA_SPARE_ROW_USED else DSA.DSA_SPARE_COL_USED
  match (List.range 7).find? (fun i => !s.on valid c i) with
  | some i => (((s.wr valid 1 c i).wr logical l c i).wr used (s.rd used c + 1) c, some i)
  | none => (s, none)

/-- Spare lines of core c still free. -/
def State.sparesFree (s : State) (c : Nat) (row : Bool) : Nat :=
  ((List.range 7).filter (fun i => !s.on (if row then DSA.DSA_ROWMAP_VALID else DSA.DSA_COLMAP_VALID) c i)).length

/-- The patterns of a core have run, twice where the first run failed: spares for its failing lines, or the fence with
ADMIT_FAIL from its TEST page (R70, R71). DESIGN CHOICE (log 164): DETAIL takes the first failing pattern of the first run. -/
def State.admitCore (s : State) (r : AdmitResult) : State :=
  let c := r.core
  let lines := r.badRows.length ≤ s.sparesFree c true && r.badCols.length ≤ s.sparesFree c false
  if lines && (r.firstRun.isNone || r.secondRun.isNone) then
    let s := s.each r.badRows (fun s l => (s.mapSpare c true l).1)
    let s := s.each r.badCols (fun s l => (s.mapSpare c false l).1)
    { s with boot := { s.boot with admitted := setBit s.boot.admitted c } }
  else
    let s := { s with boot := { s.boot with fenceCores := setBit s.boot.fenceCores c, admitted := clearBit s.boot.admitted c } }
    s.raiseLater (pgTEST c) kADMIT_FAIL 0 (r.firstRun.getD (r.secondRun.getD 0))

/-- The state of the pages of a core position after a reset or at SERVICE. -/
def State.coreState (s : State) (c : Nat) : Nat :=
  if !s.fused c then stOFF
  else if s.coreFenced c then stFENCED
  else if bit s.boot.admitted c then stREADY else stOFF

/-! ### Engine and partition reset -/

/-- What a core keeps of itself through a reset: a migration cut off starts again (R611), and banks that wait for one; the slice keeps its
contents, so the patrol goes on and the words it corrected stay noted (R212, R235). -/
def Core.afterReset (k : Core) : Core :=
  { mig := k.mig, migQueue := k.migQueue, noBank := k.noBank, ceSeen := k.ceSeen, scrubPos := k.scrubPos }

/-- The logic of core c is reset and its short patterns run (Table 14-5, steps 6 to 8). -/
def State.coreReset (s : State) (c : Nat) (r : Option AdmitResult) : State :=
  let s := if s.on LOG.LOG_STAT_IS_DEFAULT c then s else s.epoch
  let s := (s.setCore c (s.core c).afterReset).modTcore c (fun _ => {})
  let s := s.resetPages (corePages c) stREADY
  let s := match (s.core c).mig with
    | some m => (s.wr SPAD.SPAD_STAT_MIGRATING 1 c).wr SPAD.SPAD_STAT_MIG_BANK m.logical c
    | none => s
  let s := match r with | some a => if s.coreFenced c then s else s.admitCore { a with core := c } | none => s
  s.setStates (corePages c) (s.coreState c)

/-- The survivors that are not preserved are reset at the deadline (R482). -/
def State.deadline (s : State) (level : Nat) (xs : List Nat) : State :=
  let parts := s.surviveEnd level (xs.filter (fun x => (s.ctx x).state != .recovering))
  let s := s.each parts.2 (fun s x => s.ctxResetStart x level true)
  s.each parts.1 (fun s x => s.ctxResetStart x level)

/-- ENGINE_RESET_DONE (R445, R446): `result` is what the short patterns of the core found. The records of the suspects whose
requests have drained follow (Table 14-5, step 9). -/
def execEngineResetDone (result : AdmitResult) (s : State) : Out :=
  let c := result.core
  .next (match s.ladder.running.find? (fun r => r.level = 2 && r.domain = c) with
  | none => s
  | some r =>
    let s := s.deadline 2 r.suspects
    let s := ((s.coreReset c (some result)).railsBack (c / 4)).bump CLKRST.ALIGN_ALIGN_GEN
    let s := s.setLive
    ((s.resetOver 2 c 2000).each r.suspects State.tryRecords).surviveThaw 2)

/-- A stack leaves service with its carve-outs (R234); Firn has lost the copies it held there (R501). -/
def State.stackLeaves (s : State) (k : Nat) : State :=
  let s := (s.wr HBM.HBM_STAT_IN_SERVICE 0 k).wr HDR.STAT_STATE stFAILED (pgSTACK k)
  let s := s.each (s.firn.hold.filter (fun e => bit e.2 31 && bits e.2 29 28 = k)) (fun s e =>
    s.raiseLater pgFIRN kBUDDY_LOST (bits e.2 11 0) 2)
  s.raiseLater (pgSTACK k) kBUDDY_SHRUNK 0 (s.rd HBM.HBM_CARVE_BUDDY_GIB k)

/-- PARTITION_RESET_DONE (R447): whether the training of the stack was restored, and what the patterns of its cores found. The
records of the suspects whose requests have drained follow (Table 14-6, step 10). -/
def execPartitionResetDone (quad : Nat) (trained : Bool) (results : List AdmitResult) (s : State) : Out :=
  .next (match s.ladder.running.find? (fun r => r.level = 3 && r.domain = quad) with
  | none => s
  | some r =>
    let s := s.deadline 3 r.suspects
    let was := s.on HBM.HBM_STAT_IN_SERVICE quad
    let s := s.each ((List.range 4).map (fun j => 4 * quad + j)) (fun s c =>
      s.coreReset c (results.find? (fun a => a.core = c)))
    let s := s.resetPages [pgQUAD quad, pgSTACK quad, pgPHY quad] stREADY
    let s := s.wr HBM.HBM_STAT_SELF_REFRESH 0 quad
    let s := s.modHbm quad (fun h => { ceSeen := h.ceSeen, scrubPos := h.scrubPos })
    let s := if was && trained then (s.wr HBM.HBM_STAT_IN_SERVICE 1 quad).wr HBM.HBM_STAT_REUSED 1 quad
      else if was then (s.stackLeaves quad).raise (pgSTACK quad) kHBM_TRAIN_FAIL
      else s.wr HDR.STAT_STATE stOFF (pgSTACK quad)
    let s := ((s.railsBack quad).bump CLKRST.ALIGN_ALIGN_GEN).setLive
    ((s.resetOver 3 quad 50000).each r.suspects State.tryRecords).surviveThaw 3)

/-! ### Chip reset and power cycle -/

/-- CHIP_RESET_ASSERT (R448). -/
def execChipResetAssert (s : State) : Out :=
  .next (match s.ladder.chip with
  | some r => if r.level = 4 then s.chipAssert (s.boot.chipReq.getD 4) else s
  | none => s)

/-- POWER_CYCLE_HOLD (R449). -/
def execPowerCycleHold (s : State) : Out :=
  .next (match s.ladder.chip with
  | some r =>
    if r.level != 6 then s
    else
      let s := s.morFlush s.mor.queue.length
      let s := s.each (List.range 16) (fun s c => s.wr CLKRST.CORE_FREQ_F25 0 0 c)
      let s := s.each ((List.range 4).filter (fun k => s.on HBM.HBM_STAT_IN_SERVICE k)) (fun s k => s.wr HBM.HBM_STAT_SELF_REFRESH 1 k)
      let s := (s.wr CLKRST.PC_STAT_PENDING 1).wr CLKRST.PC_STAT_SRC ((r.cause.map (·.src)).getD 0)
      let s := s.wr CLKRST.PC_STAT_KIND ((r.cause.map (·.kind)).getD 0)
      let s := s.emit (.ibi 0xC7)
      { s with pins := { s.pins with alert := true }, boot := { s.boot with hold := true } }.setLevel
  | none => s)

/-- RESET_STEP_OVERRUN (R455): a step of a running reset misses its bound; `core` holds the undrained work of a context
reset, where one can be named. -/
def execResetStepOverrun (level domain : Nat) (core : Option Nat) (s : State) : Out :=
  .next (match s.ladder.running.find? (fun r => r.level = level && r.domain = domain) with
  | none => s
  | some r =>
    let st := fun l d => ({ level := l, domain := d, cause := r.cause, host := r.host, counted := true, ovr := true } : Start)
    if level = 1 then
      match core with
      | some c => s.resetEngine (st 2 c) [domain]
      | none => s.resetPartition (st 3 (s.ctx domain).cfg.home) [domain]
    else if level = 2 then s.resetPartition (st 3 (domain / 4)) r.suspects
    else if level = 3 then s.chipRequest 4 (st 4 0)
    else s)

/-! ### Progress (R438, R439) -/

/-- The check of a page is armed (Table 14-2); in DOZE those of gated blocks are not (R548). -/
def State.armed (s : State) (p : Nat) : Bool :=
  if s.rd DRONE.PWR_STAT_STATE = 2 && !pagePoweredInDoze p then false
  else match coreOfPage p with
  | some c =>
    let k := s.core c
    let j := (p - 0x100) % 16
    if j = 0 then !k.groups.isEmpty
    else if j = 1 then k.dsa.pending.isSome || k.dsa.running.isSome || k.dsa.serac.isSome
    else if j = 2 then k.exu.pending.isSome || k.exu.running.isSome || k.exu.serac.isSome
    else j = 4 || j = 5
  | none =>
    if 0x010 ≤ p && p < 0x014 then s.waiting.any (fun d =>
      (s.ctx d.ctx).cfg.home = p - 0x010 && (s.liveAffinity d.ctx).any (fun c => !s.inSlice c))
    else if p = pgMORAINE then !s.mor.queue.isEmpty && s.morRoom
    else if p = pgHOSTIF then s.pci.linkUp && !s.pci.reads.isEmpty
    else if p = pgFIRN then s.firn.ckpt.isSome || s.firn.restore.isSome || !s.firn.freezes.isEmpty || !s.firn.thaws.isEmpty
    else if p = pgQENG then s.ctxs.any (fun e => e.2.runs && e.2.queues.any (fun q =>
      q.2.en && q.2.fetchNext.isSome && !([2, 3, 5].contains (s.qstate e.1 q.1)) && !q.2.stalled))
    else !s.on HBM.HBM_STAT_SELF_REFRESH ((p - 0x200) / 16)

/-- PROGRESS_WINDOW_EXPIRE: the timer of a page reaches WIN_US with BLK_PROG unchanged. -/
def execProgressWindowExpire (page : Nat) (s : State) : Out :=
  let st := s.rd HDR.STAT_STATE page
  let now := s.rd HDR.BLK_PROG page
  .next (if !hasProg page || s.rd HDR.PROGWIN_WIN_US page = 0 || !s.on HDR.CTL_ENABLE page ||
      st = stTEST || st = stFENCED || st = stRESET || st = stOFF || !s.inService then s
  else if !s.armed page then s.modLadder (fun l => { l with timers := SMap.drop l.timers page })
  else if SMap.find s.ladder.timers page = some ⟨now⟩ then s
  else (s.modLadder (fun l => { l with timers := SMap.put l.timers page ⟨now⟩ })).raise page kPROGRESS_STALL now 0)

/-! ### Reset requests and captures of the host (R463, R464) -/

def offClkrst (o : Nat) : Nat := pgCLKRST * 4096 + o

/-- A write to RST_CMD (R464). -/
def State.rstCmd (s : State) (v : Nat) : State :=
  let level := bits v 10 8
  let target := bits v 3 0
  let st : Start := { level := level, domain := target, host := true }
  if bits v 31 16 = 0xB007 && level = 2 && s.fused target then s.resetEngine st
  else if bits v 31 16 = 0xB007 && level = 3 && target < 4 then s.resetPartition st
  else if bits v 31 16 = 0xB007 && level = 6 then s.powerRequest { st with domain := 0 }
  else s.raise pgCLKRST kRST_KEY 0 (bits v 31 16)

/-- A write to RST_CMD through the gate, from an authority that may write it. -/
def State.rstCmdGated (s : State) (a : Authority) (v : Nat) : State :=
  s.gated a (offClkrst 0x100) 4 (fun s => if s.mayWrite a CLKRST.RST_CMD_KEY then s.rstCmd v else s)

/-- RST_CMD_ENGINE: a write with LEVEL 0x2. -/
def execRstCmdEngine (port : Authority) (key core : Nat) (s : State) : Out :=
  .next (s.rstCmdGated port (key % 2 ^ 16 * 2 ^ 16 + 2 * 2 ^ 8 + core % 16))

/-- RST_CMD_PARTITION: a write with LEVEL 0x3. -/
def execRstCmdPartition (port : Authority) (key quad : Nat) (s : State) : Out :=
  .next (s.rstCmdGated port (key % 2 ^ 16 * 2 ^ 16 + 3 * 2 ^ 8 + quad % 16))

/-- RST_CMD_POWER_CYCLE: a write with LEVEL 0x6. -/
def execRstCmdPowerCycle (port : Authority) (key : Nat) (s : State) : Out :=
  .next (s.rstCmdGated port (key % 2 ^ 16 * 2 ^ 16 + 6 * 2 ^ 8))

/-- The capture record of CAP_DMA_SEQ in the ring. -/
def State.capRecord (s : State) : Option (Nat × Nat × Nat) :=
  if s.on HBM.HBM_STAT_IN_SERVICE 0 then s.ladder.caps.find? (fun k => k.1 = s.rd CLKRST.CAP_DMA_SEQ_SEQ) else none

/-- A write of GO to CAP_DMA_CTL. -/
def State.capGo (s : State) : State :=
  if s.on CLKRST.CAP_DMA_CTL_BUSY then s
  else if s.capRecord.isSome then s.wr CLKRST.CAP_DMA_CTL_BUSY 1
  else s.wr CLKRST.CAP_DMA_CTL_RESULT 1

/-- CAP_DMA_GO. -/
def execCapDmaGo (port : Authority) (s : State) : Out :=
  .next (s.gated port (offClkrst 0x13C) 4 (fun s => if s.mayWrite port CLKRST.CAP_DMA_CTL_GO then s.capGo else s))

/-- CAP_DMA_DONE: the copy ends; `ok` says whether the host took it. A record that HBM cannot give back is not copied (R219; log 163 on
the result). -/
def execCapDmaDone (ok : Bool) (s : State) : Out :=
  .next (if !s.on CLKRST.CAP_DMA_CTL_BUSY then s
  else
    let s := s.wr CLKRST.CAP_DMA_CTL_BUSY 0
    match s.capRecord with
    | none => s.wr CLKRST.CAP_DMA_CTL_RESULT 1
    | some k =>
      let r := s.readMem (captureBase + k.2.1) k.2.2
      match r.2, ok with
      | some bs, true => (r.1.hostStore 0 true (s.rd CLKRST.CAP_DMA_ADDR_ADDR) bs).wr CLKRST.CAP_DMA_CTL_RESULT 0
      | _, _ => r.1.wr CLKRST.CAP_DMA_CTL_RESULT 2)

/-- A write to QENG.SOLO (R465). -/
def State.soloWrite (s : State) (a : Authority) (v : Nat) : State :=
  let x := bits v 12 0
  let c := bits v 19 16
  if (s.ctx x).owned && s.live c && bit (s.ctx x).cfg.affinity c then
    ((s.wr QENG.SOLO_EN (bits v 31 31)).wr QENG.SOLO_CORE c).wr QENG.SOLO_CTX x
  else s.cfgDenied a (pgQENG * 4096 + 0x60)

/-- SOLO_WRITE. -/
def execSoloWrite (port : Authority) (value : Nat) (s : State) : Out :=
  .next (s.gated port (pgQENG * 4096 + 0x60) 4 (fun s => if s.mayWrite port QENG.SOLO_EN then s.soloWrite port value else s))

end Sys2Proof.Machine
end

