-- ==== Sys2Proof/Machine/Serac.lean ====
section
/-! DEFINITION. Screening: the rows SHADOW_PASS_START to CORE_FENCE and SHADOW_EN_WRITE of the table (*Silent-Error Screening
with Serac*). -/
namespace Sys2Proof.Machine

/-- The sample that waits to start a Serac pass on a unit of core c, oldest first (R378). -/
def State.waitingSample (s : State) (c : Nat) (exact : Bool) : Option Sample :=
  s.serac.samples.find? (fun x => s.sampleWaits x c exact)

def State.setSample (s : State) (x : Sample) : State :=
  s.modSerac (fun r => { r with samples := r.samples.map (fun y => if y.entry = x.entry then x else y) })
def State.dropSample (s : State) (entry : Nat) : State :=
  s.modSerac (fun r => { r with samples := r.samples.filter (fun y => y.entry != entry) })
def State.sample (s : State) (entry : Nat) : Option Sample := s.serac.samples.find? (fun x => x.entry = entry)

/-- SHADOW_PASS_START (R378, R392): the Serac pass takes the unit's next start where its quadrant's credit covers it. -/
def execShadowPassStart (core : Nat) (exact : Bool) (s : State) : Out :=
  .next (match s.waitingSample core exact with
  | none => s
  | some x =>
    let q := core / 4
    if s.unitStarts core exact && s.mayHost core && passCost x.len ≤ s.shadowCredit q &&
        (ldMode x.pass.desc != mLOG || s.takesWork (pgLOG core)) then
      let s := s.modUnit core exact (fun u => { u with serac := some x.entry })
      let s := s.setSample { x with phase := if x.phase = .waitShadow then .runShadow else .runThird }
      (s.modSerac (fun r => { r with shadowCredit := SMap.put r.shadowCredit q (SMap.get r.shadowCredit q 0 - passCost x.len) })).count
        SHADOW.SHD_CNT_HOSTED core
    else s)

/-- A Serac pass on a unit ends: the unit is free, the DSA retains the pass's digit streams, and the page has made progress. DESIGN CHOICE
(log 169): DSA_PASSES, LAST_CYC and LAST_MODE do not count it. -/
def State.seracEnds (s : State) (c : Nat) (exact : Bool) (len : Nat) (d : Option Streams) : State :=
  let s := s.modUnit c exact (fun u => { u with serac := none, retained := if exact then none else d.orElse (fun _ => u.retained) })
  s.wr HDR.BLK_PROG (s.rd HDR.BLK_PROG (unitPage c exact) + len) (unitPage c exact)

/-- The signatures that core c computes for a sampled pass over operands d. -/
def State.signs (s : State) (c : Nat) (x : Sample) (d : Streams) (faults : List (Nat × Int)) : Nat × Nat :=
  let t := (s.core c).table
  s.signatures t x.pass (accumulateOf d.ops t x.pass.desc faults)

/-- A Serac pass whose operands cannot be read ends, and Serac abandons its sample (R213). -/
def State.seracFails (s : State) (c : Nat) (exact : Bool) (entry : Nat) : State :=
  (s.seracEnds c exact 0 none).abandon (fun y => y.entry = entry)

/-- SHADOW_MISMATCH of a sample with a verdict of Table 12-3 and its charges (R386). -/
def State.mismatch (s : State) (x : Sample) (verdict third : Nat) (chk : Bool) (charges : List (Nat × Nat)) : State :=
  s.raiseTok { src := pgSHADOW x.primary, kind := kSHADOW_MISMATCH, cls := defaultClass kSHADOW_MISMATCH (pgSHADOW x.primary)
               chk := chk, addr := x.pass.tile % 2 ^ 32 * 2 ^ 16 + x.pass.ctx
               detail := verdict * 2 ^ 12 + third * 2 ^ 8 + x.shadow * 2 ^ 4 + x.primary, charges := charges }

/-- What Firn needs to know of a verdict that condemns the primary's value (R387, R499). -/
def State.condemn (s : State) (x : Sample) : State :=
  s.modFirn (fun f => { f with verdicts := f.verdicts ++ [(x.pass.ctx, x.ended)] })

/-- UNRESOLVED (Table 12-3). -/
def State.unresolved (s : State) (x : Sample) : State :=
  let s := (s.dropSample x.entry).count SERAC.VERDICTS_UNRESOLVED
  (s.mismatch x 4 0 false [(uCORE x.primary, 4), (uCORE x.shadow, 4)]).condemn x

/-- The canary comparison that follows 4,095 comparisons (R389): `missed` says that the comparator reported a match. -/
def State.canary (s : State) (missed : Bool) : State :=
  if s.serac.sinceCanary < 4095 then s
  else
    let k := s.drawn 64
    let s := s.drew.modSerac (fun r => { r with sinceCanary := 0 })
    if missed then
      (s.raiseTok { src := pgSERAC, kind := kCANARY_MISSED, cls := defaultClass kCANARY_MISSED pgSERAC, chk := true
                    addr := s.rd SERAC.CMP_CNT_COUNT, detail := k }).fenceComparator 0
    else s.count SERAC.CANARY_COUNT

/-- The comparator compares the shadow's signatures with the primary's (R381, R388): a bad entry is discarded, a match frees
the entry, a mismatch asks for a third pass. -/
def State.compare (s : State) (x : Sample) (sig : Nat × Nat) (parity : Bool) : State :=
  if parity then
    (s.dropSample x.entry).raiseTok { src := pgSERAC, kind := kDELAY_PARITY, cls := defaultClass kDELAY_PARITY pgSERAC, chk := true
                                      addr := x.entry }
  else
    let s := (s.count SERAC.CMP_CNT_COUNT).modSerac (fun r => { r with sinceCanary := r.sinceCanary + 1 })
    if sig.1 = x.accSig && (ldAccIn x.pass.desc || sig.2 = x.outSig) then s.dropSample x.entry
    else
      let h := s.pickHost x.primary [x.primary, x.shadow] (decide (ldMode x.pass.desc = mLOG))
      s.setSample { x with phase := .waitThird, third := h, accSig2 := sig.1, outSig2 := sig.2, compared := s.ftime }

/-- SHADOW_COMPARE: the shadow pass on a unit of a core ends, once the unit's previous readout has finished (R128). `faults` are the
errors of its failing cells, `parity` a parity error of the delay-line entry, `missed` a canary reported as a match. -/
def execShadowCompare (core : Nat) (exact : Bool) (faults : List (Nat × Int)) (parity missed : Bool) (s : State) : Out :=
  let u := (s.core core).unit exact
  .next (match u.serac, u.readout with
  | some e, none =>
    match s.sample e with
    | none => s.seracEnds core exact 0 none
    | some x =>
      if x.phase = .runShadow && x.shadow = core && x.pass.exact = exact then
        match s.readOperands x.pass with
        | (s, none) => s.seracFails core exact e
        | (s, some d) => ((s.compare x (s.signs core x d faults) parity).canary missed).seracEnds core exact x.len (some d)
      else if x.phase = .runThird && x.third = some core then s
      else s.seracEnds core exact 0 none
  | _, _ => s)

/-- THIRD_PASS_VERDICT (R381, Table 12-3), once the unit's previous readout has finished (R128). -/
def execThirdPassVerdict (core : Nat) (exact : Bool) (faults : List (Nat × Int)) (s : State) : Out :=
  let u := (s.core core).unit exact
  .next (match u.serac, u.readout with
  | some e, none =>
    match s.sample e with
    | none => s.seracEnds core exact 0 none
    | some x =>
      if !(x.phase = .runThird && x.third = some core && x.pass.exact = exact) then s
      else match s.readOperands x.pass with
      | (s, none) => s.seracFails core exact e
      | (s, some d) =>
        let g := s.signs core x d faults
        let same := fun a o => g.1 = a && (ldAccIn x.pass.desc || g.2 = o)
        let s := (s.seracEnds core exact x.len (some d)).dropSample e
        if same x.accSig x.outSig then
          (s.count SERAC.VERDICTS_SHADOW).mismatch x 2 core true [(uCORE x.shadow, 8)]
        else if same x.accSig2 x.outSig2 then
          ((s.count SERAC.VERDICTS_PRIMARY).mismatch x 1 core false [(uCORE x.primary, 8)]).condemn x
        else (s.count SERAC.VERDICTS_SPLIT).mismatch x 3 core true [(uCOMPARATOR, 8)]
  | _, _ => s)

/-- SHADOW_HOLD_EXPIRE (R378, R381): HOLD_US have passed. A sample whose shadow pass has not started is abandoned; one whose third pass
has not started is UNRESOLVED. -/
def execShadowHoldExpire (entry : Nat) (s : State) : Out :=
  .next (match s.sample entry with
  | none => s
  | some x =>
    if !s.holdOver x then s
    else if x.phase = .waitShadow then s.abandon (fun y => y.entry = entry)
    else if x.phase = .waitThird then s.unresolved x
    else s)

/-- SAMPLE_DEADLINE (R382): 100 µs have passed since the end of the primary pass. -/
def execSampleDeadline (entry : Nat) (s : State) : Out :=
  .next (match s.sample entry with
  | none => s
  | some x =>
    if s.ftime < x.ended + 10000 then s
    else if x.phase = .waitThird || x.phase = .runThird then s.unresolved x
    else s.abandon (fun y => y.entry = entry))

/-- SCORE_DECAY (R397): at each multiple of 24 h of field time every score halves; an entry that reaches 0 is free. -/
def execScoreDecay (s : State) : Out :=
  .next (if s.ftime % 8640000000000 != 0 then s
  else s.modSerac (fun r => { r with scores :=
    (r.scores.map (fun (e : Nat × Score) => (e.1, (⟨e.2.unit, e.2.score / 2, e.2.charged⟩ : Score)))).filter (fun e => 0 < e.2.score) }))

/-- SPARE_MAP (R399): the DSA's pass and readout have finished, and the spare line asked for first is mapped. -/
def execSpareMap (core : Nat) (s : State) : Out :=
  let u := (s.core core).dsa
  .next (match s.serac.spares.find? (fun e => e.1 = core) with
  | none => s
  | some (_, row, l) =>
    if u.running.isSome || u.readout.isSome || u.serac.isSome then s
    else
      let s := s.modSerac (fun r => { r with spares := r.spares.erase (core, row, l) })
      let m := s.mapSpare core row l
      match m.2 with
      | some i => m.1.raise pgSERAC kSPARE_MAPPED (if row then uROW core l else uCOL core l) (513 + i)
      | none => m.1)

/-- Core c is fenced: recorded in FENCE, no longer live (R401, R19–R21). -/
def State.setCoreFence (s : State) (c : Nat) : State :=
  let s := { s with boot := { s.boot with fenceCores := setBit s.boot.fenceCores c } }
  (s.setStates (corePages c) stFENCED).setLive

/-- The fence pending on core c takes effect: its slice ends, groups still resident are ended by an engine reset (R401). -/
def State.fenceCore (s : State) (c : Nat) (f : State → State) : State :=
  let busy := !(s.core c).groups.isEmpty
  let s := f (s.sliceAbort c 2)
  if busy then s.resetEngine { level := 2, domain := c } else s

/-- A software fence of core c holds: not recorded in FENCE (R609). -/
def State.setSoftFence (s : State) (c : Nat) : State :=
  let s := { s with boot := { s.boot with softFence := setBit s.boot.softFence c } }
  (s.setStates (corePages c) stFENCED).setLive

/-- The groups of core c have left, or the time they are given has passed. -/
def State.drainOver (s : State) (c due : Nat) : Bool := (s.core c).groups.isEmpty || due ≤ s.ftime

/-- CORE_FENCE (R401): Serac's fence first, with UNIT_FENCED (R404), then one that software asked for (R609). -/
def execCoreFence (core : Nat) (s : State) : Out :=
  .next (match s.serac.fencing.find? (fun e => e.1 = core) with
  | some (_, due, score) =>
    if s.drainOver core due then
      (s.modSerac (fun r => { r with fencing := r.fencing.filter (fun e => e.1 != core) })).fenceCore core
        (fun s => (s.setCoreFence core).raise pgSERAC kUNIT_FENCED (uCORE core) score)
    else s
  | none =>
    match s.serac.softFencing.find? (fun e => e.1 = core) with
    | some (_, due) =>
      if s.drainOver core due then
        (s.modSerac (fun r => { r with softFencing := r.softFencing.filter (fun e => e.1 != core) })).fenceCore core
          (fun s => s.setSoftFence core)
      else s
    | none => s)

/-- The offset of SRC_CTL. -/
def offSrcCtl : Nat := pgSERAC * 4096 + 0x40

/-- A write to SHADOW_EN: a change from 1 to 0 raises SCREEN_DEGRADED with reason 0x0003 (R404). -/
def State.setShadowEn (s : State) (on : Bool) : State :=
  let was := s.on SERAC.SRC_CTL_SHADOW_EN
  let s := s.wr SERAC.SRC_CTL_SHADOW_EN (b2n on)
  if was && !on then s.raise pgSERAC kSCREEN_DEGRADED 0 0x0003 else s

/-- SHADOW_EN_WRITE. -/
def execShadowEnWrite (port : Authority) (on : Bool) (s : State) : Out :=
  .next (s.gated port offSrcCtl 4 (fun s => if s.mayWrite port SERAC.SRC_CTL_SHADOW_EN then s.setShadowEn on else s))

end Sys2Proof.Machine
end

