-- ==== Sys2Proof/Machine/Test.lean ====
section
/-! DEFINITION. Test packs, slices, explicit tests and the margin estimator: the rows PACK_LOAD to ESTIMATE_STALE and
SLICE_EN_CLEAR to EXPLICIT_PATTERNS_DONE of the table (*In-Field Test Packs and Stress Margining*). -/
namespace Sys2Proof.Machine

def offChanter (o : Nat) : Nat := pgCHANTER * 4096 + o

/-! ### Packs (R411–R413) -/

/-- A write of LOAD: Chanter reads the pack that PACK_ADDR and PACK_LEN name. A write while a load is in progress does
nothing (log 58). -/
def State.packLoad (s : State) (a : Authority) : State :=
  if s.test.loading.isSome then s
  else
    let job := (s.rd CHANTER.PACK_ADDR_ADDR, s.rd CHANTER.PACK_LEN_LEN, decide (a = .tray))
    { s with test := { s.test with loading := some job } }

/-- PACK_LOAD. -/
def execPackLoad (port : Authority) (s : State) : Out :=
  .next (s.gated port (offChanter 0x10C) 4 (fun s => if s.mayWrite port CHANTER.PACK_CTL_LOAD then s.packLoad port else s))

/-- PACK_REJECTED with its reason (Table 13-7). -/
def State.packRejected (s : State) (p : List Byte) (reason : Nat) : State :=
  let s := s.wr CHANTER.PACK_STAT_REASON reason
  s.raise pgSERAC kPACK_REJECTED (if reason = 1 || reason = 0xA then 0 else packId p) reason

/-- An admitted pack takes effect at once on the cores that run no slice, and on the others when theirs ends (R412). -/
def State.packInstall (s : State) (p : List Byte) : State :=
  let busy := (List.range 16).filter (fun c => (s.tcore c).chosen)
  let s := { s with test := { s.test with pack := some p, highest := some (max (s.test.highest.getD 0) (packSeq p)), stale := busy } }
  let s := s.wr CHANTER.PACK_STAT_REASON 0
  s.each ((List.range 16).filter (fun c => !busy.contains c)) (fun s c =>
    (s.wr TEST.TST_STAT_CURSOR 0 c).modTcore c (fun t => { t with cond := 0 }))

/-- PACK_ADMIT: the checks finish; `readOk` says whether the read of the pack completed without error. A pack of TRAY comes from
the staging window. -/
def execPackAdmit (readOk : Bool) (s : State) : Out :=
  .next (match s.test.loading with
  | none => s
  | some (addr, len, tray) =>
    let s := { s with test := { s.test with loading := none } }
    let v := if 0x100_0000 < len then (s, some [])
      else if tray && inStaging addr len then s.readMem (stagingAt addr) len
      else (s, some (s.hostBytes addr len))
    let p := v.2.getD []
    let r := v.1.packReason p len (readOk && v.2.isSome)
    if r = 0 then v.1.packInstall p else v.1.packRejected p r)

/-! ### Slices -/

/-- SLICE_CORE_CHOSEN (R414, R415): the next eligible core of quadrant q, while none of its cores runs a slice and its slice
credit is at least 0. -/
def execSliceCoreChosen (quad : Nat) (s : State) : Out :=
  let cores := (List.range 4).map (fun j => 4 * quad + j)
  .next (if 4 ≤ quad || !s.inService || s.share quad = 0 || s.sliceCredit quad < 0 || cores.any (fun c => (s.tcore c).chosen) ||
      s.pw.entering.isSome || 1 < s.rd DRONE.PWR_STAT_STATE || s.ladder.chip.isSome then s
  else match nextAfter (SMap.get s.test.lastSlice quad 99) (cores.filter s.sliceEligible) with
    | some c => s.chooseSlice c
    | none => s)

/-- SLICE_START (R416): the chosen core's pass and readout have finished. -/
def execSliceStart (core : Nat) (s : State) : Out :=
  let t := s.tcore core
  let k := s.core core
  .next (if !t.chosen || t.started.isSome || k.dsa.running.isSome || k.dsa.readout.isSome || k.exu.running.isSome ||
      k.exu.readout.isSome || k.dsa.serac.isSome || k.exu.serac.isSome then s
  else
    let s := s.modTcore core (fun t => { t with started := some s.ftime })
    (s.wr TEST.TST_STAT_STATE (if t.window then 2 else 1) core).setStates (corePages core) stTEST)

/-- The core switches to its margin PLL with an ALIGN pulse (R39, R418). -/
def State.odOn (s : State) (c : Nat) : State :=
  ((s.wr CLKRST.CORE_FREQ_OVERDRIVE 1 0 c).wr CLKRST.CORE_FREQ_F25 (odMhz (s.coreProfile c) / 25) 0 c).alignPulse

/-- OD_CLOCK_SWITCH (R418): an overdrive slice that has started, or the overdrive run of a CORE test, switches to the margin
PLL; a core on it switches back. -/
def execOdClockSwitch (core : Nat) (s : State) : Out :=
  let t := s.tcore core
  let q := s.qtest (core / 4)
  let want := (t.chosen && t.overdrive && t.started.isSome) ||
    (q.kind = 1 && q.target = core && q.phase = .running && q.level = 1)
  .next (if s.on CLKRST.CORE_FREQ_OVERDRIVE 0 core then (s.odOff core).wr TEST.TST_STAT_OVERDRIVE 0 core
  else if want then (s.odOn core).wr TEST.TST_STAT_OVERDRIVE 1 core
  else s)

/-- SLICE_END (R414, R416, R417, R420, R432): results, the charge, the profile clock, and normal issue. `faults` says how
patterns failed. A forced window is a valid reference window unless THROTTLE_n is low (log 59). -/
def execSliceEnd (core : Nat) (faults : List PatFault) (s : State) : Out :=
  let t := s.tcore core
  .next (if !t.chosen || t.started.isNone then s
  else
    let s := if t.window then (if s.pins.throttle then s else s.validWindow core)
      else
        let s := (s.runPatterns core (b2n t.overdrive) 0 true faults t.run).1
        (s.count TEST.TST_CNT_SLICES core).advanceCursor core
    let s := (((s.noteWaiters core).chargeSlice core).odOff core).leaveTest core
    let s := s.modTcore core (fun t => { t with chosen := false, window := false, overdrive := false, started := none, run := [] })
    (s.packReaches core).applyFreq core)

/-- REF_WINDOW_DUE (R432): REF_S seconds have passed since the last valid reference window. -/
def execRefWindowDue (core : Nat) (s : State) : Out :=
  .next (if max 1 (min 60 (s.rd TEST.TST_CTL_REF_S core)) ≤ s.refAge core then s.modTcore core (fun t => { t with due := true })
  else s)

/-- SLICE_EN_CLEAR (R419): a running slice is cut off with cause 0x4. -/
def State.setSliceEn (s : State) (c : Nat) (on : Bool) : State :=
  let s := s.wr TEST.TST_CTL_SLICE_EN (b2n on) c
  if on then s else s.sliceAbort c 4

/-- SLICE_EN_CLEAR: a write of 0 to SLICE_EN. -/
def execSliceEnClear (port : Authority) (core : Nat) (s : State) : Out :=
  .next (s.gated port (pgTEST core * 4096 + 0x40) 4 (fun s =>
    if s.mayWrite port TEST.TST_CTL_SLICE_EN then s.setSliceEn core false else s))

/-- NATURAL_REF_WINDOW (R431): the core has been idle for 20 µs at its profile frequency with THROTTLE_n high, outside slices
and explicit tests. -/
def execNaturalRefWindow (core : Nat) (s : State) : Out :=
  let k := s.core core
  .next (if s.inSlice core || s.pins.throttle || s.rd CLKRST.CORE_FREQ_F25 0 core * 25 != mhzOf (s.coreProfile core) ||
      !k.groups.all (fun g => g.2.stopped) || k.dsa.running.isSome || k.dsa.readout.isSome || k.exu.running.isSome ||
      k.exu.readout.isSome || k.dsa.serac.isSome || k.exu.serac.isSome || s.voltTests (core / 4) then s
  else s.validWindow core)

/-! ### Explicit tests -/

/-- A parameter of quadrant q lies outside Table 13-9 (R422; log 60). -/
def State.qparBad (s : State) (q kind : Nat) : Bool :=
  let out := fun v lo hi => decide (v < lo ∨ hi < v)
  out (s.rd QUAD.QTEST_PAR_HOLD_MS q) 1 100 || out (s.rd QUAD.QTEST_PAR_RISE q) 15 40 || out (s.rd QUAD.QTEST_PAR_STEPS q) 1 8 ||
  out (s.rd QUAD.QTEST_PAR_DEPTH q) 1 16 || out (s.rd QUAD.QTEST_WAIT_DRAIN_MS q) 1 4000 ||
  out (s.rd QUAD.QTEST_WAIT_WAIT_MS q) 1 60000 || kind < 1 || 3 < kind

/-- A request for an explicit test (R422–R424). -/
def State.qtestRequest (s : State) (q kind target : Nat) (od drain : Bool) : State :=
  let inQ := decide (target / 4 = q)
  if (s.qtest q).phase != .none || s.test.loading.isSome || s.qparBad q kind ||
      ((kind = 1 || kind = 3) && !(inQ && s.live target)) ||
      (kind = 3 && !(List.range 4).any (fun j => 4 * q + j != target && s.live (4 * q + j))) then
    s.wr QUAD.QTEST_STAT_RESULT tREFUSED q
  else
    let s := (((s.wr QUAD.QTEST_STAT_BUSY 1 q).wr QUAD.QTEST_STAT_RESULT 0 q).wr QUAD.QTEST_STAT_REACHED 0 q).wr
      QUAD.QTEST_STAT_FAILS 0 q
    let s := (s.wr QUAD.QTEST_STAT_REASON 0 q).modQtest q (fun _ =>
      { kind := kind, target := target, od := od, drain := drain, phase := .drain, since := s.ftime, vp := (s.volts q (s.rd CLKRST.PROFILE_ACTIVE)).1
        lo := s.rd AVS.VALARM_LO 0 q })
    if drain then s.each (s.heldSet q kind) (fun s x => s.testFreeze q x) else s

/-- KIND 0xF: a test that has begun restores first; one that still drains ends at once (R422). -/
def State.qtestCancel (s : State) (q : Nat) : State :=
  let t := s.qtest q
  if t.phase = .none then s
  else if t.phase = .restore then s.modQtest q (fun t => { t with result := tABORTED })
  else if t.phase = .drain || t.kind = 1 then (s.each (s.drainedSet q) State.odOff).endTest q tABORTED 0
  else s.testRestore q tABORTED 0

/-- A write to QTEST. -/
def State.qtestWrite (s : State) (q v : Nat) : State :=
  if bits v 31 28 = 0xF then s.qtestCancel q
  else s.qtestRequest q (bits v 31 28) (bits v 23 20) (bit v 26) (bit v 27)

/-- A write to QTEST through the gate. -/
def State.qtestGated (s : State) (a : Authority) (q v : Nat) : State :=
  s.gated a (pgQUAD q * 4096 + 0x40) 4 (fun s => if s.mayWrite a QUAD.QTEST_KIND then s.qtestWrite q v else s)

/-- QTEST_CORE. -/
def execQtestCore (port : Authority) (quad target : Nat) (drain od : Bool) (s : State) : Out :=
  .next (s.qtestGated port quad (2 ^ 28 + b2n drain * 2 ^ 27 + b2n od * 2 ^ 26 + target % 16 * 2 ^ 20))

/-- QTEST_VOLT. -/
def execQtestVolt (port : Authority) (quad : Nat) (drain : Bool) (s : State) : Out :=
  .next (s.qtestGated port quad (2 * 2 ^ 28 + b2n drain * 2 ^ 27))

/-- QTEST_PUMP. -/
def execQtestPump (port : Authority) (quad target : Nat) (drain : Bool) (s : State) : Out :=
  .next (s.qtestGated port quad (3 * 2 ^ 28 + b2n drain * 2 ^ 27 + target % 16 * 2 ^ 20))

/-- QTEST_CANCEL. -/
def execQtestCancel (port : Authority) (quad : Nat) (s : State) : Out := .next (s.qtestGated port quad (0xF * 2 ^ 28))

/-- The first steps of a test on its drained set (Tables 13-5 and 13-6, R429). -/
def State.testSteps (s : State) (q : Nat) : State :=
  let s := s.testBegin q
  let t := s.qtest q
  if t.kind = 2 then
    let lower := t.vp * (s.rd QUAD.QTEST_PAR_DEPTH q + 4) / 200
    ((s.modQtest q (fun t => { t with phase := .running, since := s.ftime, level := 1 })).rangeChange q 1).wr AVS.VALARM_LO (t.lo - lower) 0 q
  else if t.kind = 3 then
    let t0 := s.targetTemp q
    let s := (s.wr QUAD.QTEST_TEMP_START (ofInt 16 t0) q).wr QUAD.QTEST_TEMP_PEAK (ofInt 16 t0) q
    let goal := t0 + (s.rd QUAD.QTEST_PAR_RISE q * 8 : Nat)
    let top : Int := s.throtPoint q - 24
    let s := s.modQtest q (fun t => { t with phase := .heat, since := s.ftime, startTemp := t0 })
    if top < goal then s.endTest q tINCONCLUSIVE 1 else s
  else s.modQtest q (fun t => { t with phase := .running, since := s.ftime, level := 0 })

/-- TEST_DRAIN_DONE (R424). -/
def execTestDrainDone (quad : Nat) (s : State) : Out :=
  let t := s.qtest quad
  .next (if t.phase != .drain || !s.setIdle quad then s
  else if t.drain then s.testSteps quad
  else if (s.heldSet quad t.kind).all (fun x => (s.ctx x).state = .owned && !(s.ctx x).busy) then
    (s.each (s.heldSet quad t.kind) (fun s x => s.testFreeze quad x)).testSteps quad
  else s)

/-- TEST_DRAIN_TIMEOUT (R424): DRAIN_MS have passed; under DRAIN_ON_REQUEST, contexts with groups still resident on the drained set are frozen. -/
def execTestDrainTimeout (quad : Nat) (s : State) : Out :=
  let t := s.qtest quad
  .next (if t.phase = .drain && t.drain && t.since + s.rd QUAD.QTEST_WAIT_DRAIN_MS quad * 100_000 ≤ s.ftime then
    let xs := (s.drainedSet quad).flatMap (fun c => (s.core c).groups.map (fun g => g.2.ctx))
    s.each xs.dedup (fun s x => s.testFreeze quad x)
  else s)

/-- TEST_WAIT_TIMEOUT (R424): WAIT_MS have passed; nothing is frozen and the drained set is released. -/
def execTestWaitTimeout (quad : Nat) (s : State) : Out :=
  let t := s.qtest quad
  .next (if t.phase = .drain && !t.drain && t.since + s.rd QUAD.QTEST_WAIT_WAIT_MS quad * 100_000 ≤ s.ftime then s.endTest quad tNOT_STARTED 4 else s)

/-- VOLT_LEVEL_SETTLED (R426): the target has gone down to the level in steps of 5 mV and the rail stands there. -/
def execVoltLevelSettled (quad : Nat) (s : State) : Out :=
  let t := s.qtest quad
  .next (if t.kind = 2 && t.phase = .running && !t.settled && s.on AVS.VMON_VALID 0 quad then
    (s.avsWalk quad (s.voltTarget quad)).modQtest quad (fun t => { t with settled := true })
  else s)

/-- AVS_SETTLE_TIMEOUT (R426). -/
def execAvsSettleTimeout (quad : Nat) (s : State) : Out :=
  let t := s.qtest quad
  .next (if t.kind = 2 && t.phase = .running then
    (s.raise pgAVS kAVS_FAULT quad 2).testRestore quad tINCONCLUSIVE 2
  else s)

/-- The failures of a run are added to FAILS. -/
def State.addFails (s : State) (q n : Nat) : State :=
  (s.addSat QUAD.QTEST_STAT_FAILS n q).modQtest q (fun t => { t with fails := t.fails + n })

/-- The patterns of a VOLT level have run on every live core of the quadrant (R426, R427). -/
def State.voltDone (s : State) (q : Nat) (faults : List PatFault) : State :=
  let t := s.qtest q
  let steps := max 1 (s.rd QUAD.QTEST_PAR_STEPS q)
  let depth := voltDepth t.level (s.rd QUAD.QTEST_PAR_DEPTH q) steps
  let r := ((s.drainedSet q).filter s.live).foldl (fun (st : State × Nat) c =>
    let v := st.1.runPatterns c 2 depth (decide (depth < s.minMargin)) faults s.explicitEntries
    (v.1, st.2 + v.2)) (s, 0)
  let s := r.1.addFails q r.2
  if 0 < r.2 then s.testRestore q tFAIL 0
  else
    let s := s.wr QUAD.QTEST_STAT_REACHED depth q
    if t.level < steps then s.modQtest q (fun t => { t with level := t.level + 1, settled := false })
    else s.testRestore q tPASS 0

/-- The entries a core of a PUMP test runs: every explicit entry on the target, the BIN ones on a heater (R428). -/
def State.pumpEntries (s : State) (q c : Nat) : List (Nat × List Byte) :=
  if c = (s.qtest q).target then s.explicitEntries
  else s.explicitEntries.filter (fun x => patUnit x.2 = uDSA && patMode x.2 = mBIN)

/-- EXPLICIT_PATTERNS_DONE (R426–R429): the patterns of a CORE run, of a VOLT level, or of a round of a PUMP test are done. -/
def execExplicitPatternsDone (quad : Nat) (faults : List PatFault) (s : State) : Out :=
  let t := s.qtest quad
  .next (if t.kind = 2 && t.phase = .running && t.settled then s.voltDone quad faults
  else if t.kind = 1 && t.phase = .running then
    let od := decide (t.level = 1)
    if od && !s.on CLKRST.CORE_FREQ_OVERDRIVE 0 t.target then s
    else
      let r := s.runPatterns t.target (if od then 1 else 4) 0 true faults s.explicitEntries
      let s := r.1.addFails quad r.2
      if t.od && !od then s.modQtest quad (fun t => { t with level := 1 })
      else (s.odOff t.target).endTest quad (if t.fails + r.2 = 0 then tPASS else tFAIL) 0
  else if t.kind = 3 && (t.phase = .heat || t.phase = .hold) then
    let r := ((s.drainedSet quad).filter s.live).foldl (fun (st : State × Nat) c =>
      let v := st.1.runPatterns c 3 0 true faults (s.pumpEntries quad c)
      (v.1, st.2 + v.2)) (s, 0)
    r.1.addFails quad r.2
  else s)

/-- The goal of a PUMP test has been reached (R428). -/
def State.pumpGoal (s : State) (q : Nat) : Int := (s.qtest q).startTemp + (s.rd QUAD.QTEST_PAR_RISE q * 8 : Nat)

/-- PUMP_GOAL_REACHED. -/
def execPumpGoalReached (quad : Nat) (s : State) : Out :=
  let t := s.qtest quad
  .next (if t.kind = 3 && t.phase = .heat && decide (s.pumpGoal quad ≤ s.targetTemp quad) then
    s.modQtest quad (fun t => { t with phase := .hold, since := s.ftime })
  else s)

/-- PUMP_GOAL_TIMEOUT: 500 ms have passed since the heaters went on (Table 13-6). -/
def execPumpGoalTimeout (quad : Nat) (s : State) : Out :=
  let t := s.qtest quad
  .next (if t.kind = 3 && t.phase = .heat && t.since + 50_000_000 ≤ s.ftime then s.testRestore quad tINCONCLUSIVE 4 else s)

/-- PUMP_HOLD_EXPIRE: HOLD_MS at the goal has ended and the heaters go off. -/
def execPumpHoldExpire (quad : Nat) (s : State) : Out :=
  let t := s.qtest quad
  .next (if t.kind = 3 && t.phase = .hold && t.since + s.rd QUAD.QTEST_PAR_HOLD_MS quad * 100_000 ≤ s.ftime then s.testRestore quad (if t.fails = 0 then tPASS else tFAIL) 0 else s)

/-- PUMP_COOLED: the target is within 5 °C of T_start; REACHED reports the rise in °C (R428). -/
def execPumpCooled (quad : Nat) (s : State) : Out :=
  let t := s.qtest quad
  .next (if t.kind = 3 && t.phase = .restore && decide (s.targetTemp quad ≤ t.startTemp + 40) then
    let rise := (toInt 16 (s.rd QUAD.QTEST_TEMP_PEAK quad) - t.startTemp) / 8
    (s.wr QUAD.QTEST_STAT_REACHED rise.toNat quad).endTest quad t.result t.reason
  else s)

/-! ### The margin estimator (R433, R434) -/

/-- The guard band of core c in 0.1 % units. -/
def State.guard (s : State) (c : Nat) : Int := ((s.tcore c).gb + 10 * (s.refAge c / 60) : Nat)

/-- A VOLT_PROFILE record that waits takes effect at this AVS step, part-wide (R543, R554, R560; log 61 on targets). -/
def State.voltStep (s : State) : State :=
  if !s.cal.due.contains 4 then s
  else
    let old := s.rd AVS.AVS_STAT_POWER_ID
    let s := s.calAdopt 4
    let p := s.rd CLKRST.PROFILE_ACTIVE
    let s := s.wr AVS.AVS_STAT_POWER_ID s.tableId
    let s := if old = s.tableId then s else s.epoch
    s.each ((List.range 4).filter (fun q => !s.voltTests q)) (fun s q => (s.avsSend q (s.volts q p).1).setAlarm q p)

/-- What AVS does in a quadrant each 1 ms: a step up or down with the least margin, or the cap of a core at the maximum. -/
def State.marginQuad (s : State) (q : Nat) (m : Nat → Int) : State :=
  let live := ((List.range 4).map (fun j => 4 * q + j)).filter (fun c => s.live c && !s.on TEST.TST_STAT_STALE c)
  let v := s.volts q (s.rd CLKRST.PROFILE_ACTIVE)
  let now := s.rd AVS.TARGET_CODE 0 q
  if s.voltTests q then s
  else match bestBy (fun a b => decide (m a < m b)) live with
  | none => s
  | some c =>
    if m c < s.guard c then
      if now < v.2.2 then s.avsSend q (min v.2.2 (now + 40))
      else s.each (live.filter (fun c => m c < s.guard c)) (fun s c =>
        ((s.modLimit c (fun l => { l with margin := some (max 800 (l.margin.getD (mhzOf (s.coreProfile c)) - 25)) })).wr
          TEST.TST_STAT_CAPPED 1 c).applyFreq c)
    else if s.guard c + 20 < m c && v.2.1 < now then s.avsSend q (max v.2.1 (now - 40))
    else s

/-- A capped core whose margin has returned regains a step, up to its profile (R433). -/
def State.regain (s : State) (c : Nat) (m : Int) : State :=
  let p := mhzOf (s.coreProfile c)
  match (s.limit c).margin with
  | none => s
  | some l =>
    if s.on TEST.TST_STAT_STALE c || !(s.guard c + 10 < m) then s
    else if p ≤ l + 25 then ((s.modLimit c (fun k => { k with margin := none })).wr TEST.TST_STAT_CAPPED 0 c).applyFreq c
    else (s.modLimit c (fun k => { k with margin := some (l + 25) })).applyFreq c

/-- A STALE core is pinned to the safe frequency of its quadrant's present voltage (R434). -/
def State.pinStale (s : State) (c : Nat) : State :=
  if s.on TEST.TST_STAT_STALE c then
    (s.modLimit c (fun l => { l with margin := some (safeMhz (s.tcore c).safe (c / 4) (s.rd AVS.VMON_CODE 0 (c / 4))) })).applyFreq c
  else s

/-- MARGIN_TICK: every 1 ms; `margins` are the margins that the cores' monitors form, in core order. -/
def execMarginTick (margins : List Int) (s : State) : Out :=
  let m := fun c => margins.getD c 0
  .next (if !s.inService then s
  else
    let s := s.voltStep
    let s := s.each ((List.range 16).filter s.live) (fun s c =>
      ((s.wr TEST.MARGIN_M (ofInt 16 (m c)) c).wr TEST.MARGIN_G (min 255 (s.guard c).toNat) c).wr
        TEST.REF_AGE_AGE (min (2 ^ 32 - 1) (s.refAge c)) c)
    let s := s.each (List.range 4) (fun s q => s.marginQuad q m)
    let s := s.each ((List.range 16).filter s.live) (fun s c => s.regain c (m c))
    s.each (List.range 16) State.pinStale)

/-- ESTIMATE_STALE (R434). -/
def execEstimateStale (core : Nat) (s : State) : Out :=
  .next (if s.refAge core < 600 || s.on TEST.TST_STAT_STALE core || !s.live core then s
  else
    ((s.wr TEST.TST_STAT_STALE 1 core).pinStale core).raise (pgTEST core) kESTIMATE_STALE 0 (min 0xFFFF (s.refAge core)))

end Sys2Proof.Machine
end

