-- ==== Sys2Proof/Machine/Clocks.lean ====
section
/-! DEFINITION. Clocks: the rows PROFILE_REQ to THERMAL_REVISION of the table (*Clocks, Crossings and Bring-up*, R531–R534). -/
namespace Sys2Proof.Machine

/-! ### Profile changes (R40, R41) -/

/-- A change of profile starts: with a higher frequency AVS moves the targets first, that of a quadrant under a VOLT test when the test
restores it; every core that runs must relock. -/
def State.profileStart (s : State) (p : Nat) : State :=
  let now := s.rd CLKRST.PROFILE_ACTIVE
  let cores := (List.range 16).filter (fun c => s.rd CLKRST.CORE_FREQ_F25 0 c != 0)
  let s := s.wr CLKRST.PROFILE_CHANGING 1
  let s := { s with boot := { s.boot with clkTarget := p, relock := cores.foldl setBit 0 } }
  if mhzOf now < mhzOf p then
    s.each ((List.range 4).filter (fun q => !s.voltTests q || (s.qtest q).phase = .restore)) (fun s q => s.avsSend q (s.volts q p).1)
  else s

/-- A request for a profile: kept while a change runs, nothing where it is in effect. -/
def State.profileApply (s : State) (p : Nat) : State :=
  if s.on CLKRST.PROFILE_CHANGING then { s with boot := { s.boot with queuedReq := some p } }
  else if p = s.rd CLKRST.PROFILE_ACTIVE then s
  else s.profileStart p

/-- A write of v to PROFILE.REQ: 0b11 is P-NOM, and P-MAX without PMAX_OK selects P-NOM with PROFILE_DENIED (R40). -/
def State.profileReq (s : State) (v : Nat) : State :=
  let s := s.wr CLKRST.PROFILE_REQ v
  if v % 4 = 3 then s.profileApply 1
  else if v % 4 = 2 && !s.pmaxOk then (s.raise pgCLKRST kPROFILE_DENIED 0 2).profileApply 1
  else s.profileApply (v % 4)

/-- PROFILE_REQ. -/
def execProfileReq (port : Authority) (value : Nat) (s : State) : Out :=
  .next (s.gated port (offClkrst 0x40) 4 (fun s => if s.mayWrite port CLKRST.PROFILE_REQ then s.profileReq (value % 4) else s))

/-- Core c is at a boundary where it may relock for a profile change (R41): no pass, readout or test, and with a higher
frequency its rail at the new target. -/
def State.mayRelock (s : State) (c : Nat) : Bool :=
  let k := s.core c
  s.on CLKRST.PROFILE_CHANGING && bit s.boot.relock c && !s.inSlice c &&
  [k.dsa.running, k.dsa.readout, k.exu.running, k.exu.readout].all (·.isNone) && k.dsa.serac.isNone && k.exu.serac.isNone &&
  (mhzOf s.boot.clkTarget < mhzOf (s.rd CLKRST.PROFILE_ACTIVE) || s.settled (c / 4))

/-- CORE_RELOCK (R48): the core stops, relocks and restarts with an ALIGN pulse, at its new limit. -/
def execCoreRelock (core : Nat) (s : State) : Out :=
  .next (if !s.mayRelock core then s
  else
    let s := { s with boot := { s.boot with relock := clearBit s.boot.relock core } }
    let s := (s.wr CLKRST.CORE_FREQ_F25 (s.coreMhz core / 25) 0 core).alignPulse
    s.applyFreq core)

/-- PROFILE_CHANGE_DONE (R41, R517, R543): ACTIVE takes the new value, lower targets follow, and a request kept meanwhile is
applied. -/
def execProfileChangeDone (s : State) : Out :=
  .next (if !s.on CLKRST.PROFILE_CHANGING || s.boot.relock != 0 then s
  else
    let old := s.rd CLKRST.PROFILE_ACTIVE
    let p := s.boot.clkTarget
    let s := ((s.wr CLKRST.PROFILE_CHANGING 0).wr CLKRST.PROFILE_ACTIVE p).epoch
    let qs := (List.range 4).filter (fun q => !s.voltTests q)
    let s := if mhzOf p < mhzOf old then s.each qs (fun s q => s.avsSend q (s.volts q p).1) else s
    let s := (s.each qs (fun s q => s.setAlarm q p)).applyFreqs
    match s.boot.queuedReq with
    | some r => { s with boot := { s.boot with queuedReq := none } }.profileApply r
    | none => s)

/-! ### THROTTLE_n (R533) -/

/-- THROTTLE_FALL: every running core is held at 0.8 GHz; slices are cut off and PUMP tests end (R419, R428). -/
def execThrottleFall (s : State) : Out :=
  let s := { s with pins := { s.pins with throttle := true } }
  .next (if !s.boot.mainUp then s
  else
    let s := s.each ((List.range 16).filter (fun c => (s.tcore c).chosen)) (fun s c => s.sliceAbort c 3)
    let s := s.each (List.range 16) (fun s c => s.modLimit c (fun l => { l with throttle := some 800 }))
    s.applyFreqs.throttlePumps)

/-- THROTTLE_RISE: each core's limit starts to climb from 0.8 GHz with the next revisions. -/
def execThrottleRise (s : State) : Out :=
  .next (if s.pins.throttle && s.boot.mainUp then
    { s.each (List.range 16) (fun s c => s.modLimit c (fun l => { l with throttle := some 800 })) with
      pins := { s.pins with throttle := false } }
  else { s with pins := { s.pins with throttle := false } })

/-! ### The thermal limit (R531) -/

/-- The groups that act on core c with their sensors: its quadrant, its stack's sensor, and the SerDes sensors. -/
def actingOn (c : Nat) : List (Nat × List Nat) :=
  let q := c / 4
  [(q, (List.range 16).map (fun k => 16 * q + k)), (4, [64 + q]), (5, [68, 69, 70, 71])]

/-- The hottest working sensor of a list, with its code. -/
def State.hottestOf (s : State) (is : List Nat) : Option (Nat × Int) :=
  bestBy (fun a b => decide (b.2 < a.2)) ((is.filter (fun i => s.rd THERM.TEMP_CODE 0 i != 0x8000)).map
    (fun i => (i, toInt 16 (s.rd THERM.TEMP_CODE 0 i))))

/-- The temperature of core position c's own sensors, or of its quadrant plus 5 °C where all four are fenced (R528). -/
def State.posTemp (s : State) (c : Nat) : Option (Nat × Int) :=
  match s.hottestOf ((List.range 4).map (fun k => 4 * c + k)) with
  | some t => some t
  | none => (s.hottestOf ((List.range 16).map (fun k => 16 * (c / 4) + k))).map (fun t => (t.1, t.2 + 40))

/-- What group g shows to core c: the hottest of its sensors, the core's own position taken under R528. -/
def State.groupTemp (s : State) (c : Nat) (g : Nat × List Nat) : Option (Nat × Int) :=
  if g.1 < 4 then bestBy (fun a b => decide (b.2 < a.2)) ((s.hottestOf g.2).toList ++ (s.posTemp c).toList)
  else s.hottestOf g.2

/-- The group's rate event of the last 1 ms, by sensor. -/
def State.rateEvent (s : State) (g : Nat) : Option Nat :=
  match (SMap.get s.tgroups g {}).rateAt with
  | some (t, i) => if s.ftime ≤ t + 100000 then some i else none
  | none => none

/-- The sensor and code that make core c hot, where it is (R531). -/
def State.hotBy (s : State) (c : Nat) : Option (Nat × Int) :=
  (actingOn c).findSome? (fun g =>
    match s.groupTemp c g with
    | some (i, t) => if s.throtPoint g.1 ≤ t then some (i, t)
        else (s.rateEvent g.1).map (fun j => (j, toInt 16 (s.rd THERM.TEMP_CODE 0 j)))
    | none => none)

/-- Every sensor that acts on core c lies below THROT − 2 °C. -/
def State.allCool (s : State) (c : Nat) : Bool :=
  (actingOn c).all (fun g => match s.groupTemp c g with | some (_, t) => decide (t < s.throtPoint g.1 - 16) | none => true)

/-- The revision of one core's thermal and THROTTLE_n limits (R531, R533). -/
def State.revise (s : State) (c : Nat) : State :=
  let p := mhzOf (s.coreProfile c)
  let l := s.limit c
  let thr := if s.pins.throttle then l.throttle
    else match l.throttle with
      | some v => if p ≤ v + 25 then none else some (v + 25)
      | none => none
  match s.hotBy c with
  | some _ =>
    s.modLimit c (fun _ => { l with
      thermal := some (max 800 (min p (l.thermal.getD p) - 100)), cool := 0, episode := true, throttle := thr })
  | none =>
    let up := decide (10 ≤ l.cool) && s.allCool c
    let th := match l.thermal with
      | some v => if up then (if p ≤ v + 25 then none else some (v + 25)) else some v
      | none => none
    s.modLimit c (fun _ => { l with thermal := th, cool := min 10 (l.cool + 1), episode := l.episode && th.isSome, throttle := thr })

/-- What made the cores hot whose episode begins at this revision, one entry for each sensor (log 62). -/
def State.firstFalls (s : State) : List (Nat × Int) :=
  (((List.range 16).filter (fun c => s.fused c && !(s.limit c).episode)).filterMap s.hotBy).dedup

/-- THERMAL_REVISION: every 1 ms. A core that becomes THROTTLED in an overdrive slice loses the slice (R419). -/
def execThermalRevision (s : State) : Out :=
  .next (if !s.boot.thermUp then s
  else
    let falls := s.firstFalls
    let s := s.each (List.range 16) (fun s c => if s.fused c then s.revise c else s)
    let s := s.each falls (fun s e => s.raise pgTHERM kTHERM_THROTTLE e.1 (ofInt 16 e.2))
    let s := s.each ((List.range 16).filter (fun c => (s.tcore c).overdrive && s.coolMhz c < mhzOf (s.coreProfile c)))
      (fun s c => s.sliceAbort c 3)
    s.applyFreqs)

end Sys2Proof.Machine
end

