-- ==== Sys2Proof/Machine/Therm.lean ====
section
/-! DEFINITION. Sensors, thresholds and voltage monitors: the rows SENSOR_CONVERSION to VMON_RANGE_VALID of the table
(*Temperature, Power States, the Drone Domain and Calibration*). -/
namespace Sys2Proof.Machine

/-! ### Sensors (R525–R532) -/

def State.sensor (s : State) (i : Nat) : Sensor := SMap.get s.sensors i {}
def State.modSensor (s : State) (i : Nat) (f : Sensor → Sensor) : State :=
  { s with sensors := SMap.put s.sensors i (f (s.sensor i)) }
def State.tgroup (s : State) (g : Nat) : TGroup := SMap.get s.tgroups g {}
def State.modTgroup (s : State) (g : Nat) (f : TGroup → TGroup) : State :=
  { s with tgroups := SMap.put s.tgroups g (f (s.tgroup g)) }

/-- The sensors of a group (Table 17-1). -/
def groupSensors (g : Nat) : List Nat :=
  if g < 4 then (List.range 16).map (fun k => 16 * g + k)
  else if g = 4 then [64, 65, 66, 67] else [68, 69, 70, 71]

/-- The sensors that work: those not fenced. -/
def State.workingOf (s : State) (is : List Nat) : List Nat := is.filter (fun i => !s.sensorFenced i)

/-- Twice the median of two or three readings (R527). -/
def twiceMedian : List Int → Option Int
  | [a, b] => some (a + b)
  | [a, b, c] => some (2 * max (min a b) (min (max a b) c))
  | _ => none

/-- A reading differs by more than 10 °C from the median of the other working sensors of its core position, where there
are two at least (R527). -/
def State.disagrees (s : State) (i : Nat) (codes : List Int) : Bool :=
  if 64 ≤ i then false
  else
    let others := s.workingOf (((List.range 4).map (fun k => i / 4 * 4 + k)).filter (fun k => k != i))
    match twiceMedian (others.map (fun k => codes.getD k 0)) with
    | some m => decide (160 < (2 * codes.getD i 0 - m).natAbs)
    | none => false

/-- The fence of a sensor is set (R526, R527). -/
def State.fenceSensor (s : State) (i : Nat) (raw : Int) : State :=
  let s := if i < 64 then s.wr THERM.SFENCE_S0_63 (setBit (s.rd THERM.SFENCE_S0_63) i)
    else s.wr THERM.SFENCE_HI_S64_71 (setBit (s.rd THERM.SFENCE_HI_S64_71) (i - 64))
  let s := (s.wr THERM.TEMP_CODE 0x8000 0 i).modSensor i (fun _ => {})
  s.raise pgTHERM kSENSOR_FAIL i (ofInt 16 raw)

/-- One sensor's conversion: its reading, the two counts of R527, and the fence where one of them is full. -/
def State.convert (s : State) (i : Nat) (raw : Int) (codes : List Int) : State :=
  if s.sensorFenced i then s
  else
    let t := codes.getD i 0
    let k := s.sensor i
    let out := if t < -320 || 1200 < t then k.outRange + 1 else 0
    let dis := if s.disagrees i codes then k.disagree + 1 else 0
    if 4 ≤ out || 40 ≤ dis then s.fenceSensor i raw
    else
      (s.wr THERM.TEMP_CODE (ofInt 16 t) 0 i).modSensor i (fun k =>
        { outRange := out, disagree := dis, last := (t :: k.last).take 9 })

/-- The rise of a sensor over its last 8 conversions, in units of 0.125 °C (R532). -/
def State.riseOf (s : State) (i : Nat) : Int :=
  match (s.sensor i).last with
  | t :: r => match r.getLast? with
    | some o => if r.length = 8 then t - o else 0
    | none => 0
  | [] => 0

/-- RATE of a group at the nearest bound (R529). -/
def State.rateLimit (s : State) (g : Nat) : Int := ((max 1 (min 40 (s.rd THERM.GRP_CFG_RATE 0 g)) : Nat) : Int)

/-- A group after a conversion: warm or not, with THERM_WARN on entry (R530), and its rate event with THERM_RATE at most
once in 10 ms (R532; log 63 on the sensor named). -/
def State.groupCheck (s : State) (g : Nat) : State :=
  let is := s.workingOf (groupSensors g)
  let s := match s.hottestOf is with
    | some (i, t) =>
      if s.warnPoint g ≤ t then
        if (s.tgroup g).warm then s
        else (s.modTgroup g (fun k => { k with warm := true })).raise pgTHERM kTHERM_WARN i (ofInt 16 t)
      else if t < s.warnPoint g - 16 then s.modTgroup g (fun k => { k with warm := false }) else s
    | none => s
  match is.find? (fun i => decide (s.rateLimit g * 4 < s.riseOf i * 5)) with
  | some i =>
    let due := ((s.tgroup g).tokenAt.map (fun t => decide (t + 1000000 ≤ s.ftime))).getD true
    let s := s.modTgroup g (fun k => { k with rateAt := some (s.ftime, i), tokenAt := if due then some s.ftime else k.tokenAt })
    if due then s.raise pgTHERM kTHERM_RATE i (s.riseOf i * 5 / 4).toNat else s
  | none => s

/-- The hottest temperature of a PUMP test so far (R428). -/
def State.pumpPeak (s : State) (q : Nat) : State :=
  let t := s.qtest q
  if t.kind = 3 && (t.phase = .heat || t.phase = .hold) && toInt 16 (s.rd QUAD.QTEST_TEMP_PEAK q) < s.targetTemp q then
    s.wr QUAD.QTEST_TEMP_PEAK (ofInt 16 (s.targetTemp q)) q
  else s

/-- SENSOR_CONVERSION: `raw` lists the raw codes of the 72 sensors, in units of 0.125 °C. -/
def execSensorConversion (raw : List Int) (s : State) : Out :=
  .next (if !s.boot.thermUp || !s.mainRuns then s
  else
    let s := s.calTake 1
    let codes := (List.range 72).map (fun i => s.thermCode i (raw.getD i 0))
    let s := { s.each (List.range 72) (fun s i => s.convert i (raw.getD i 0) codes) with draws := s.draws + 1 }
    let s := match s.hottestOf (s.workingOf (List.range 72)) with
      | some (i, t) => (s.wr THERM.HOT_CODE (ofInt 16 t)).wr THERM.HOT_IDX i
      | none => (s.wr THERM.HOT_CODE 0x8000).wr THERM.HOT_IDX 0
    let s := s.each (List.range 6) State.groupCheck
    let s := s.each (List.range 4) State.pumpPeak
    s.applyFreqs.setLevel)

/-- Writing 1s over the fence bits of the sensors from `first` up clears those fences; the sensors are checked again from their next
conversion (R527). -/
def State.sfenceWrite (s : State) (first n value : Nat) : State :=
  let is := ((List.range n).filter (bit value)).map (fun k => first + k)
  let s := s.each (is.filter (fun i => i < 72 && s.sensorFenced i)) (fun s i => s.modSensor i (fun _ => {}))
  let s := if first < 64 then
      s.wr THERM.SFENCE_S0_63 ((List.range n).foldl (fun m k => if bit value k then clearBit m (first + k) else m) (s.rd THERM.SFENCE_S0_63))
    else s.wr THERM.SFENCE_HI_S64_71 ((List.range 8).foldl (fun m k => if bit value k then clearBit m k else m) (s.rd THERM.SFENCE_HI_S64_71))
  s.setLevel.applyFreqs

/-- SFENCE_CLEAR. -/
def execSfenceClear (port : Authority) (sensor : Nat) (s : State) : Out :=
  let off := pgTHERM * 4096 + 0x68 + 4 * (sensor / 32)
  .next (s.gated port off 4 (fun s => if s.mayWrite port THERM.SFENCE_S0_63 && sensor < 72 then
    s.sfenceWrite (sensor / 32 * 32) 32 (2 ^ (sensor % 32)) else s))

/-- A write of GRP_CFG[g]: dropped with CFG_DENIED where it gives THROT < WARN (R529). -/
def State.grpCfg (s : State) (a : Authority) (g v : Nat) : State :=
  if bits v 15 8 < bits v 7 0 then s.cfgDenied a (pgTHERM * 4096 + 0x40 + 4 * g)
  else ((s.wr THERM.GRP_CFG_RATE (bits v 23 16) 0 g).wr THERM.GRP_CFG_THROT (bits v 15 8) 0 g).wr THERM.GRP_CFG_WARN (bits v 7 0) 0 g

/-- GRP_CFG_WRITE. -/
def execGrpCfgWrite (port : Authority) (group value : Nat) (s : State) : Out :=
  .next (if 6 ≤ group then s else s.gated port (pgTHERM * 4096 + 0x40 + 4 * group) 4 (fun s =>
    if s.mayWrite port THERM.GRP_CFG_RATE then s.grpCfg port group value else s))

/-! ### Shutdown and the oscillator (R535–R538) -/

/-- THERMTRIP: sensor or trip diode `idx` has reached 118 °C. Every clock outside the Drone domain stops, FLT with it, the
stacks are held in self-refresh, and the Drone domain keeps the token. -/
def execThermtrip (idx : Nat) (s : State) : Out :=
  .next (if !s.boot.droneRail || s.pins.thermtrip || 76 ≤ idx then s
  else
    let s := ((s.wr DRONE.TRIP_LATCHED 1).wr DRONE.TRIP_IDX idx).stopClocks
    let s := s.each ((List.range 4).filter (fun k => s.on HBM.HBM_STAT_IN_SERVICE k)) (fun s k => s.wr HBM.HBM_STAT_SELF_REFRESH 1 k)
    let s := { s with pins := { s.pins with thermtrip := true }, boot := { s.boot with fltUp := false, clocks := false } }.fltStops
    s.raise pgDRONE kTHERMTRIP 0 idx)

/-- RC_TRIM: the DT reading, in units of 0.125 °C, and the trim RC_COMP gives there (R538). -/
def execRcTrim (dt : Int) (s : State) : Out :=
  .next (if !s.droneRuns then s
  else
    let s := (s.wr DRONE.DRONE_T_CODE (ofInt 16 dt)).calTake 2
    let trim := match s.calUse 2 with | some p => rcTrimAt p dt (Config.free s.draws) | none => 0
    { s.drew with cal := { s.cal with rcTrim := trim } })

/-! ### Voltage monitors (R539–R543) -/

/-- A monitor takes a valid sample. -/
def State.vmonValue (s : State) (m code : Nat) : State :=
  (((s.wr AVS.VMON_CODE code 0 m).wr AVS.VMON_LAST code 0 m).wr AVS.VMON_VALID 1 0 m).modMonitor m (fun k => { k with sampled := true })

/-- The alarm of quadrant m: 4 consecutive samples under LO or over HI (R543). -/
def State.voltAlarm (s : State) (m code : Nat) : State :=
  let k := s.monitor m
  let low := if code < s.rd AVS.VALARM_LO 0 m then k.low + 1 else 0
  let high := if s.rd AVS.VALARM_HI 0 m < code then k.high + 1 else 0
  let s := s.modMonitor m (fun k => { k with low := min 5 low, high := min 5 high })
  let s := if low = 4 then s.raise (pgQUAD m) kVOLT_ALARM code 1 else s
  if high = 4 then s.raise (pgQUAD m) kVOLT_ALARM code 2 else s

/-- VMON_SAMPLE: monitor m samples the raw code. While its range changes it reports nothing (R540, R541). -/
def execVmonSample (monitor raw : Nat) (s : State) : Out :=
  .next (if 5 ≤ monitor || !s.mainRuns || ((s.monitor monitor).sampled && !s.on AVS.VMON_VALID 0 monitor) then s
  else
    let s := s.calTake 3
    let code := s.vmonCode monitor raw
    let s := s.drew.vmonValue monitor code
    if monitor < 4 then s.voltAlarm monitor code else s)

/-- VMON_RANGE_VALID: the change of range ends with a sample; a target held back goes out, and a VOLT test that restores
NORMAL ends (R541, R542, Table 13-5). -/
def execVmonRangeValid (monitor raw : Nat) (s : State) : Out :=
  .next (if 4 ≤ monitor || !s.mainRuns || !(s.monitor monitor).sampled || s.on AVS.VMON_VALID 0 monitor then s
  else
    let s := s.calTake 3
    let s := s.drew.vmonValue monitor (s.vmonCode monitor raw)
    let s := match (s.monitor monitor).heldTarget with
      | some v => s.avsSend monitor v
      | none => s
    let t := s.qtest monitor
    if t.kind = 2 && t.phase = .restore && s.rd AVS.VMON_RANGE 0 monitor = 0 then s.endTest monitor t.result t.reason else s)

end Sys2Proof.Machine
end

