-- ==== Sys2Proof/Machine/Power.lean ====
section
/-! DEFINITION. Power states: the rows PWR_TARGET_RUN to ALARM_EXPIRE, DOZE_EXIT_COMPLETE and PCIE_LINK_L0 of the table (R544–R553). -/
namespace Sys2Proof.Machine

def offDrone (o : Nat) : Nat := pgDRONE * 4096 + o
def State.power (s : State) : Nat := s.rd DRONE.PWR_STAT_STATE
def State.pwrResult (s : State) (r : Nat) : State := s.wr DRONE.PWR_STAT_RESULT r
def pwrOK : Nat := 0
def pwrBUSY : Nat := 1
def pwrREFUSED : Nat := 2
def pwrCANCELLED : Nat := 3

/-! ### Conditions (R547, R549) -/

/-- An explicit test, a pack load or a Firn transfer is in progress. -/
def State.longWork (s : State) : Bool :=
  s.test.quads.any (fun e => e.2.phase != .none) || s.test.loading.isSome || s.firn.ckpt.isSome || s.firn.restore.isSome ||
  !s.firn.freezes.isEmpty || !s.firn.thaws.isEmpty || !s.firn.helds.isEmpty

/-- The conditions of DOZE. -/
def State.mayDoze (s : State) : Bool :=
  s.ctxs.all (fun e => !e.2.owned || (e.2.state = .owned && !e.2.busy) || e.2.state = .frozen) &&
  !s.longWork && s.fabric.colls.isEmpty && s.barrier.cmds.isEmpty

/-- The conditions of DRONE. -/
def State.mayDrone (s : State) : Bool :=
  s.ctxs.all (fun e => !e.2.owned || (e.2.state = .frozen && e.2.evicted)) && !s.pci.vfEnable && !s.longWork

/-! ### Wake (R551–R553) -/

/-- The WAKE_EN bit of a source, where it has one; p is the port of NL activity. -/
def wakeBit (code p : Nat) : Option Nat :=
  if code = 5 then some p else if code = 6 then some 16 else if code = 7 then some 17 else if code = 8 then some 18 else none

/-- A source acts in a power state: its column of Table 17-5, and its bit of WAKE_EN. -/
def State.wakeActs (s : State) (code p st : Nat) : Bool :=
  (if st = 2 then [1, 2, 3, 4, 5, 7, 8].contains code else st = 3 && [4, 5, 6, 7, 8].contains code) &&
  ((wakeBit code p).map (fun b => decide (p < 16) && bit (s.rd DRONE.WAKE_EN_EN) b)).getD true

/-- A wake source acts: it cancels an entry, begins the return from DOZE, or leaves DRONE by a chip reset (R550, R553; log 64 on
the tokens of a cancelled entry). -/
def State.wake (s : State) (code : Nat) (p : Nat := 0) : State :=
  match s.pw.entering with
  | some st =>
    if s.wakeActs code p st then
      let s := (({ s with pw := { s.pw with entering := none } }.pwrResult pwrCANCELLED).wr DRONE.PWR_STAT_STATE 0).wr
        DRONE.PWR_STAT_LAST_WAKE code
      s.applyFreqs.raise pgDRONE kDRONE_WAKE 0 code
    else s
  | none =>
    if !s.wakeActs code p s.power || s.pins.thermtrip then s
    else if s.power = 2 then s.dozeWake code
    else
      let pins := { s.pins with wake := s.pins.wake || [4, 5, 7, 8].contains code }
      let s := { s with pw := { s.pw with droneWake := some code }, pins := pins }
      (s.wr DRONE.PWR_STAT_LAST_WAKE code).chipAssert 8

/-- WAKE_EVENT: NL activity on a port (0x5), PCIe receiver detect (0x6) or a trip diode at WAKE_T (0x8); the other sources act
through their own commands. -/
def execWakeEvent (code port : Nat) (s : State) : Out :=
  .next (if s.droneRuns && (code = 5 || code = 6 || code = 8) then s.wake code port else s)

/-- ALARM_EXPIRE. -/
def execAlarmExpire (s : State) : Out :=
  .next (if s.droneRuns && s.rd DRONE.ALARM_TIME != 0 && s.rd DRONE.ALARM_TIME ≤ s.ftime then s.wake 7 else s)

/-! ### Requests (R545) -/

/-- A write of TARGET v by authority a. -/
def State.pwrTarget (s : State) (a : Authority) (v : Nat) : State :=
  if s.pw.entering.isSome || s.pw.waking.isSome then s.pwrResult pwrBUSY
  else if v = s.power then s.pwrResult pwrOK
  else if v = 0 then
    if s.power = 1 then ((s.pwrResult pwrOK).wr DRONE.PWR_STAT_STATE 0).applyFreqs
    else if a = .host || a = .tray then (s.pwrResult pwrOK).wake (if a = .host then 3 else 4)
    else s.pwrResult pwrREFUSED
  else if v = 1 then
    if s.power = 0 then ((s.pwrResult pwrOK).wr DRONE.PWR_STAT_STATE 1).applyFreqs else s.pwrResult pwrREFUSED
  else if v = 2 then
    if s.power ≤ 1 && s.mayDoze then { s.pwrResult pwrOK with pw := { s.pw with entering := some 2 } } else s.pwrResult pwrREFUSED
  else if v = 3 then
    if s.power = 0 && s.mayDrone then
      let s := s.each ((List.range 16).filter (fun c => (s.tcore c).chosen)) (fun s c => s.sliceAbort c 2)
      { s.pwrResult pwrOK with pw := { s.pw with entering := some 3 } }
    else s.pwrResult pwrREFUSED
  else s

/-- A write of PWR_CTL through the gate. -/
def State.pwrGated (s : State) (a : Authority) (v : Nat) : State :=
  s.gated a (offDrone 0x40) 4 (fun s => if s.mayWrite a DRONE.PWR_CTL_TARGET then s.pwrTarget a v else s)

/-- PWR_TARGET_RUN. -/
def execPwrTargetRun (port : Authority) (s : State) : Out := .next (s.pwrGated port 0)
/-- PWR_TARGET_TRIM. -/
def execPwrTargetTrim (port : Authority) (s : State) : Out := .next (s.pwrGated port 1)
/-- PWR_TARGET_DOZE. -/
def execPwrTargetDoze (port : Authority) (s : State) : Out := .next (s.pwrGated port 2)
/-- PWR_TARGET_DRONE. -/
def execPwrTargetDrone (port : Authority) (s : State) : Out := .next (s.pwrGated port 3)

/-! ### Entry and exit -/

/-- The stacks in service enter or leave self-refresh. -/
def State.selfRefresh (s : State) (on : Bool) : State :=
  s.each ((List.range 4).filter (fun k => s.on HBM.HBM_STAT_IN_SERVICE k)) (fun s k => s.wr HBM.HBM_STAT_SELF_REFRESH (b2n on) k)

/-- DOZE_ENTERED: no slice runs any more, and the gating step of R547 is done. -/
def execDozeEntered (s : State) : Out :=
  .next (if s.pw.entering != some 2 || (List.range 16).any (fun c => (s.tcore c).chosen) then s
  else ({ s with pw := { s.pw with entering := none } }.wr DRONE.PWR_STAT_STATE 2).stopClocks.selfRefresh true)

/-- DRONE_ENTERED: what FLT holds is logged and Moraine's queue written (Table 14-7), then every domain but the Drone domain is
gated, the regulators stand at 0.75 V and the PCIe link is down (R549). -/
def execDroneEntered (s : State) : Out :=
  .next (if s.pw.entering != some 3 then s
  else
    let s := s.fltTakeAll
    let s := (s.morFlush s.mor.queue.length).morDropAll
    let s := s.each (List.range 4) (fun s q => s.avsSend q 6000)
    let s := { s with pw := { s.pw with entering := none }, pci := { s.pci with linkUp := false, trained := false }
                      boot := { s.boot with fltUp := false, clocks := false } }
    (s.stopClocks.selfRefresh true).wr DRONE.PWR_STAT_STATE 3)

/-- DOZE_EXIT_COMPLETE (R548, R551, R552). -/
def execDozeExitComplete (s : State) : Out :=
  .next (match s.pw.waking with
  | none => s
  | some code =>
    let s := { s with pw := { s.pw with waking := none }, pins := { s.pins with wake := false } }
    ((s.wr DRONE.PWR_STAT_STATE 0).selfRefresh false).startClocks.raise pgDRONE kDRONE_WAKE 0 code)

end Sys2Proof.Machine
end

