-- ==== Sys2Proof/Machine/Boot.lean ====
section
/-! DEFINITION. Power-up, the boot stages and the ends of power: the rows DRONE_POR to STAGE_OVERRUN, CHIP_RST_REQ,
CHANTER_WATCHDOG_EXPIRE and CHANTER_SRAM_PARITY of the table (*Clocks, Crossings and Bring-up*, R591–R594). -/
namespace Sys2Proof.Machine

/-! ### Lifecycle at POWER (R567–R569, R577) -/

/-- Logical fuse bit b reads as set: two of its three fuses at least. -/
def Sec.fuse (x : Sec) (b : Nat) : Bool := 2 ≤ SMap.get x.fuses b 0

/-- The number n of set bits among L0–L6. -/
def Sec.fuseCount (x : Sec) : Nat := ((List.range 7).filter x.fuse).length

/-- The lifecycle state of the fuses. -/
def Sec.state (x : Sec) : Nat :=
  if x.fuse 7 then 3 else if x.fuseCount = 0 then 0 else if x.fuseCount % 2 = 1 then 1 else 2

/-- The default debug level of a lifecycle state (Table 18-4). -/
def defaultLevel (lc : Nat) : Nat := if lc = 0 then 2 else if lc = 2 then 1 else 0

/-- SEC at the POWER stage: half-burned bits are completed, and the state and the default level are read from the fuses. -/
def State.secPower (s : State) : State :=
  let s := { s with sec := { s.sec with fuses := s.sec.fuses.map (fun (e : Nat × Nat) => (e.1, if 1 ≤ e.2 then 3 else 0)), burning := none } }
  let lc := s.sec.state
  let s := ((s.wr SEC.SEC_STAT_LC lc).wr SEC.SEC_STAT_FUSE_N s.sec.fuseCount).wr SEC.SEC_STAT_SCRAP_BIT (b2n (s.sec.fuse 7))
  s.wr SEC.SEC_STAT_DEBUG (defaultLevel lc)

/-! ### The rails (R42–R44, R536, R537, R591–R593) -/

/-- A trip diode reads 108 °C or above (R537). -/
def tripHot (diodes : List Int) : Bool := diodes.any (fun t => decide (864 ≤ t))

/-- The THERMTRIP_n latch releases at a power-on reset at which every diode reads below 108 °C. -/
def State.releaseTrip (s : State) (diodes : List Int) : State :=
  if tripHot diodes then s else { s.wr DRONE.TRIP_LATCHED 0 with pins := { s.pins with thermtrip := false } }

/-- What is left of the part when the clocks outside the Drone domain stop for good: the registers and stores that the wipe keeps,
nothing of any memory, and Moraine's count of what was queued (R365, R592). -/
def State.mainLost (s : State) (w : Wipe) : State :=
  let s := s.secCut.epochs.fltStops.morDropAll
  let b := s.boot
  let s := s.wipe w (fun _ => true)
  let boot : Boot :=
    { droneRail := b.droneRail, counting := b.counting, picked := b.picked, fenceCores := b.fenceCores, train := b.train
      imgDig := b.imgDig, fromDrone := b.fromDrone }
  let s := { s with
    boot := boot, mem := [], marksC := [], marksU := [], latchHi := none, lostPaths := [], rate := []
    pins := { s.pins with alert := false, nlDriven := false, wake := false }
    pci := {}, ctxs := [], urgent := [], waiting := [], cores := [], pw := {}, sensors := [], tgroups := [], limits := []
    hbms := [], monitors := [], nl := [], barrier := {}, firn := {}
    fabric := { counter := s.fabric.counter }
    ladder := { casc := s.ladder.casc }
    cal := { store := s.cal.store, stage := s.cal.stage, writing := s.cal.writing, torn := s.cal.torn, rcTrim := s.cal.rcTrim, unreadable := s.cal.unreadable }
    sec := { s.sec with token := none, tokenBuf := [], update := none, tapIr := 0xFF, tapDr := 0, burning := none, i3cAddr := s.sec.i3cAddr }
    serac := { scores := s.serac.scores, charges := s.serac.charges }
    test := { highest := s.test.highest } }
  s.wr DRONE.PWR_STAT_STATE 0

/-- MAIN_POWER_LOSS: main-rail power-good falls. -/
def execMainPowerLoss (s : State) : Out := .next (if s.boot.mainUp then s.mainLost .main else s)

/-- Main-rail power-good rises, or the part starts cold after a DRONE_POR with the main rails up: POWER on the cold path. The session
counter will start from a random value (R325). -/
def State.coldStart (s : State) : State :=
  let s := { s with boot := { s.boot with mainUp := true, coldDue := true }, fabric := { s.fabric with counter := none } }
  let s := ((s.wr CHIP.BOOT_PATH 0).wr CHIP.BOOT_CAUSE (if s.boot.fromDrone then 0 else 1)).secPower
  { s with boot := { s.boot with fromDrone := false } }

/-- MAIN_POR: `diodes` are the readings of the trip diodes, in units of 0.125 °C. -/
def execMainPor (diodes : List Int) (s : State) : Out :=
  .next (if !s.boot.droneRail || s.boot.mainUp then s else (s.releaseTrip diodes).coldStart)

/-- DRONE_BROWNOUT: every clock stops and the part is held in reset; a calibration record being written is torn (R557). -/
def execDroneBrownout (s : State) : Out :=
  .next (if !s.boot.droneRail then s
  else
    let up := s.boot.mainUp
    let s := s.calTear.mainLost .drone
    { s with boot := { mainUp := up, droneRail := false, coldDue := true }, pins := { s.pins with droneOk := false } })

/-- DRONE_POR: the Drone rail returns. What lies in MRAM, flash and fuses, the pins that others drive, and host memory are what they
were; the rest starts anew (Table 2-2, R42). -/
def execDronePor (diodes : List Int) (s : State) : Out :=
  .next (if s.boot.droneRail then s
  else
    let z := State.reset
    let n := { z with
      pending := s.pending, host := s.host, draws := s.draws, out := s.out
      regs := (s.wipe .drone (fun _ => true)).regs
      pins := { z.pins with perst := s.pins.perst, throttle := s.pins.throttle, thermtrip := s.pins.thermtrip }
      cal := { store := s.cal.store, torn := s.cal.torn, unreadable := s.cal.unreadable }
      sec := { fuses := s.sec.fuses, serial := s.sec.serial, mfr := s.sec.mfr, flash := s.sec.flash, flashHalf := s.sec.flashHalf, flashOk := s.sec.flashOk } }
    let n := n.releaseTrip diodes
    if s.boot.mainUp then n.coldStart else n)

/-- TCXO_SELECT: the error of the TCXO count in ppm, none where it is missing (R42). -/
def execTcxoSelect (error : Option Int) (s : State) : Out :=
  let good := (error.map (fun e => decide (-5000 ≤ e ∧ e ≤ 5000))).getD false
  .next (if s.boot.counting then
    { s.wr CLKRST.CLK_STAT_DRONE_SRC (b2n (!good)) with boot := { s.boot with counting := false, picked := true } }
  else s)

/-- DRONE_PLL_LOCK. -/
def execDronePllLock (s : State) : Out :=
  .next (if s.boot.picked then { s with pins := { s.pins with droneOk := true } } else s)

/-- The rate of the TCXO against the RC oscillator, in ppm off 25 MHz, leaves its window: ±1,000 ppm while a valid RC_COMP record trims
the oscillator, else ±5,000 ppm (R43). -/
def State.tcxoOut (s : State) (e : Int) : Bool := (if (s.calUse 2).isSome then 1000 else 5000) < e.natAbs

/-- TCXO_LOST (R43, R44): the measured error of the TCXO's rate in ppm, none where it has stopped. -/
def execTcxoLost (error : Option Int) (s : State) : Out :=
  .next (if s.droneRuns && s.rd CLKRST.CLK_STAT_DRONE_SRC = 0 && (error.map s.tcxoOut).getD true then
    ((s.wr CLKRST.CLK_STAT_DRONE_SRC 1).wr CLKRST.CLK_STAT_TCXO_LOST 1).raise pgCLKRST kTCXO_LOST
  else s)

/-! ### PERST_n (R51, R451, R551) -/

/-- PERST_ASSERT. -/
def execPerstAssert (s : State) : Out :=
  .next (if s.pins.perst then s
  else
    let s := { s with pins := { s.pins with perst := true } }
    if s.mainRuns then (s.chipAssert 2).wr CLKRST.PC_STAT_PENDING 0 else s)

/-- PERST_DEASSERT; in DRONE it is wake source 0x6. -/
def execPerstDeassert (s : State) : Out :=
  .next (if s.pins.perst then
    let s := { s with pins := { s.pins with perst := false } }
    if s.droneRuns && s.power = 3 then s.wake 6 else s
  else s)

/-! ### POWER to FIRMWARE -/

/-- PLL_LOCK_ALIGN: the PLLs have locked; the release ALIGN pulse is the first of ALIGN_GEN. While a trip diode reads 108 °C or above
the part stays at POWER (R537). -/
def execPllLockAlign (diodes : List Int) (s : State) : Out :=
  .next (if !s.mainRuns || s.pins.perst || !s.pins.droneOk || s.stage != 0 || s.boot.aligned || tripHot diodes then s
  else
    let s := s.secPower
    let s := ((s.wr CLKRST.CLK_STAT_REFCLK_OK 1).wr CLKRST.CLK_STAT_HOST_LOCK 1).wr CLKRST.CLK_STAT_HBM_LOCK 1
    let s := ((s.wr CLKRST.CLK_STAT_FAB_LOCK 1).wr CLKRST.CLK_STAT_CHANTER_LOCK 1).wr CLKRST.CLK_STAT_QPLL_LOCK 0xF
    let s := s.wr CLKRST.ALIGN_ALIGN_GEN 1
    { s with boot := { s.boot with aligned := true } })

/-- IDENT (R63, R64). -/
def execIdent (s : State) : Out :=
  .next (if s.mainRuns && s.stage = 0 && s.boot.aligned then { s.wr CHIP.BOOT_STAGE 1 with pci := { s.pci with identity := true } } else s)

/-! #### Firmware slots (R583–R585) -/

/-- The header of a firmware image: MAGIC, HVER and LEN stand. -/
def fwHeaderOk (h : List Byte) : Bool :=
  leAt h 0 4 = 0x4B46_5731 && leAt h 7 1 = 1 && leAt h 0xC 4 % 4096 = 0 && leAt h 0xC 4 ≤ 0x10_0000

/-- The result of checking an image of header h and body b, as FW_STAT.RESULT reports it; 0 where it passes (log 66 on the order). -/
def fwReason (h b : List Byte) (minSvn : Nat) : Nat :=
  if !fwHeaderOk h then 1
  else if leAt h 4 1 % 64 < minSvn then 4
  else if sha256 b != (h.drop 0x10).take 32 then 2
  else if !signatureOk 0 (sha256 (h.take 0x30)) ((h.drop 0x30).take 96) then 3
  else 0

/-- Slot i of the flash: header, body. -/
def State.fwSlot (s : State) (i : Nat) : List Byte × List Byte :=
  let base := i * s.sec.flashHalf
  let h := Memory.readBytes s.sec.flash base 4096
  (h, if fwHeaderOk h then Memory.readBytes s.sec.flash (base + 4096) (leAt h 0xC 4) else [])

/-- The slot passes the ROM's checks. -/
def State.fwSlotOk (s : State) (i : Nat) : Bool :=
  let x := s.fwSlot i
  fwReason x.1 x.2 (s.rd SEC.SEC_STAT_MIN_SVN) = 0

/-- The slot the ROM loads: the higher WSEQ first, ties to A (R584). -/
def State.fwSelect (s : State) : Option Nat :=
  let w := fun i => leAt (s.fwSlot i).1 0xFF0 4
  let order := if w 0 < w 1 then [1, 0] else [0, 1]
  order.find? s.fwSlotOk

/-- Load slot i: it becomes the resident image, and IMGDIG its digest. -/
def State.fwLoad (s : State) (i : Nat) : State :=
  let x := s.fwSlot i
  { s.wr CHIP.BOOT_FW_RELOAD 1 with
    boot := { s.boot with resident := some x.2, imgDig := some (sha256 x.2), parity := false }
    sec := { s.sec with runSvn := leAt x.1 4 1 % 64, runWseq := leAt x.1 0xFF0 4, runSlot := i } }

/-- Chanter keeps its resident image (R58). -/
def State.fwKept (s : State) : Bool :=
  let c := s.rd CHIP.BOOT_CAUSE
  s.rd CHIP.BOOT_PATH = 1 && c != 6 && c != 8 && !s.boot.parity &&
  (match s.boot.resident, s.boot.imgDig with | some b, some d => sha256 b = d | _, _ => false)

/-- The firmware runs: the boot nonce of a cold boot (R50), the calibration store (R558), the first AVSBus write (Table 2-3 step 7) and
the thermal block. -/
def State.firmwareUp (s : State) : State :=
  let s := s.wr CHIP.BOOT_FW_SLOT s.sec.runSlot
  let s := if s.boot.coldDue then { s.drew with boot := { s.boot with nonce := s.drawn (2 ^ 64), coldDue := false } } else s
  let s := s.calRead
  let s := s.each (List.range 4) (fun s q => s.avsSend q (s.volts q (s.rd CLKRST.PROFILE_ACTIVE)).1)
  let s := (if s.tableId != 0 then s.epoch else s).wr AVS.AVS_STAT_POWER_ID s.tableId
  { s.wr CHIP.BOOT_STAGE 2 with boot := { s.boot with avsUp := true, thermUp := true } }.setLevel

/-! #### SERVICE -/

/-- The pages that answer with a running block where no firmware was loaded (R60). -/
def romPages : List Nat := [pgCHIP, pgCHANTER, pgDRONE, pgSEC, pgCLKRST, pgHOSTIF]

/-- BLK_STAT.STATE of every page at SERVICE. -/
def State.pageStates (s : State) (firmware : Bool) : State :=
  s.each allPages (fun s p =>
    let st := if !firmware then (if romPages.contains p then stREADY else stOFF)
      else match coreOfPage p with
        | some c => s.coreState c
        | none =>
          if 0x200 ≤ p && p < 0x240 then
            (if s.on HBM.HBM_STAT_IN_SERVICE ((p - 0x200) / 16) then stREADY
              else if s.rd HDR.STAT_STATE (pgSTACK ((p - 0x200) / 16)) = stFAILED then stFAILED else stOFF)
          else stREADY
    s.wr HDR.STAT_STATE st p)

/-- The boot vector: PF0 vector 0 where it is enabled and unmasked at the entry to SERVICE; a masked one does not wait (R62). -/
def State.bootVector (s : State) : State :=
  if (SMap.get s.pci.msix (msiKey 0 0) {}).mask || s.msixMasked 0 then s else s.sendVector 0 0

/-- The part enters SERVICE: a chip reset that ran completes with BLK_GEN and PROV_EPOCH (R115, R517), LC_LAST takes the state, a change
of the debug level is reported (R579), and the boot vector goes out (R62). -/
def State.enterService (s : State) (firmware : Bool) : State :=
  let reset := s.ladder.running.any (fun r => r.level = 4)
  let s := (s.wr CHIP.BOOT_STAGE 6).pageStates firmware
  let s := if reset then
      (s.each (allPages.filter (fun p => p != pgDRONE && p != pgCAL)) (fun s p => s.bump HDR.BLK_GEN p)).epoch
    else s
  let s := { s with sec := { s.sec with lcLast := some s.lc } }.setLevel
  let level := s.rd SEC.SEC_STAT_DEBUG
  let s := match s.boot.lvlFrom with
    | some old => if old != level then s.raise pgSEC kDEBUG_LEVEL 0 (old * 4096 + level * 256 + 3) else s
    | none => s
  { s with boot := { s.boot with lvlFrom := none } }.bootVector

/-- Straight to SERVICE at level I: no firmware runs (R60, R569). -/
def State.failService (s : State) (fail : Nat) : State :=
  let s := (s.wr CHIP.BOOT_FAIL fail).wr CHIP.BOOT_FW_RELOAD (b2n (fail != 4))
  (if fail = 4 then s else { s with pins := { s.pins with alert := true } }).enterService false

/-- FIRMWARE_STAGE: the ROM keeps the resident image or loads one; `readable` says whether the flash can be read. -/
def execFirmwareStage (readable : Bool) (s : State) : Out :=
  .next (if !s.mainRuns || s.stage != 1 then s
  else if s.lc = 3 then s.failService 4
  else if s.fwKept then (s.wr CHIP.BOOT_FW_RELOAD 0).firmwareUp
  else if !readable || !s.sec.flashOk then s.failService 1
  else match s.fwSelect with
    | some i => (s.fwLoad i).firmwareUp
    | none => s.failService 2)

/-- FLT_ENTER_SERVICE (R66, R362): the Drone domain's tokens first, then what waited for FLT, then the early writes. -/
def execFltEnterService (s : State) : Out :=
  .next (if !s.mainRuns || s.stage != 2 || s.boot.fltUp || !s.boot.avsUp then s
  else
    let kept := s.droneToks
    let later := s.boot.deferred
    let s := { s with droneToks := [], boot := { s.boot with fltUp := true, qengUp := true, deferred := [] } }.setLevel
    let s := s.each kept (fun s e => s.fltLog { e with tok := { e.tok with cls := s.withDomain e.tok (s.overridden e.tok) } } true)
    let s := s.each later State.raiseTok
    let s := if s.rd CHIP.BOOT_EARLY_WR = 0 then s
      else (s.raise pgHOSTIF kEARLY_WRITE s.boot.earlyFirst (s.rd CHIP.BOOT_EARLY_WR)).wr CHIP.BOOT_EARLY_WR 0
    s.wr CHIP.BOOT_STAGE 3)

/-! ### MEMORY (R59, R72, R220, R226–R230, R243, R573, R611) -/

/-- The saved training of a stack may be used again (R59): the warm path, a valid record, the same serial, within 15 °C. -/
def State.reusable (s : State) (r : StackResult) : Bool :=
  let t := SMap.get s.boot.train r.stack {}
  s.rd CHIP.BOOT_PATH = 1 && t.valid && t.serial = r.serial && decide ((r.temp - t.temp).natAbs ≤ 120)

/-- One stack at the end of its training, when it leaves self-refresh (R226). A stack that no result names was not brought into service (R61). -/
def State.memoryStack (s : State) (rs : List StackResult) (k : Nat) : State :=
  let gone := fun (s : State) => if bit s.boot.hadStacks k then s.stackLeaves k else s
  let s := s.wr HBM.HBM_STAT_SELF_REFRESH 0 k
  match rs.find? (fun r => r.stack = k) with
  | none => gone s
  | some r =>
    if r.trained then
      let reuse := s.reusable r
      let s := if reuse then s else { s with boot := { s.boot with train := SMap.put s.boot.train k ⟨true, r.serial, r.temp⟩ } }
      (s.wr HBM.HBM_STAT_IN_SERVICE 1 k).wr HBM.HBM_STAT_REUSED (b2n reuse) k
    else (gone s).raiseLater (pgSTACK k) kHBM_TRAIN_FAIL

/-- MEMORY fences a bank that fails its test (R72). -/
def State.memoryBank (s : State) (c b : Nat) : State :=
  if bit (s.rd SPAD.SPAD_FENCED_BANKS c) b || 64 ≤ b || 16 ≤ c then s
  else (s.setBankFence c b).raiseLater (pgSPAD c) kBANK_FENCED 0 b

/-- A logical bank on a fenced bank is mapped to a free bank, or becomes absent (R611). -/
def State.remapBank (s : State) (c j : Nat) : State :=
  if !s.bankPresent c j || !bit (s.rd SPAD.SPAD_FENCED_BANKS c) (s.rd SPAD.SPAD_BANKMAP_PHYS c j) then s
  else match s.freeBank c with
    | some b =>
      let s := match s.logicalOf c b with
        | some i => s.wr SPAD.SPAD_BANKMAP_VALID 0 c i
        | none => s
      s.wr SPAD.SPAD_BANKMAP_PHYS b c j
    | none => (s.wr SPAD.SPAD_BANKMAP_VALID 0 c j).modCore c (fun k => { k with noBank := k.noBank ++ [j] })

/-- Every owned context is LOST, with its token in ascending order (R243). -/
def State.loseContexts (s : State) : State :=
  s.each s.ownedCtxs (fun s x =>
    let owner := (s.ctx x).owner
    let cfg := (s.ctx x).cfg
    let s := s.setCtx x { state := .lost, owner := owner, cfg := cfg }
    s.raiseTok { src := pgQENG, kind := kCTX_LOST, cls := cINFO, ctx := x, gen := 0, detail := owner })

/-- The sectors of the copied HBM_UE_LOGs are zeroed (R220). -/
def State.zeroLogged (s : State) : State :=
  s.each (s.boot.ueLogs.filter (fun a => s.on HBM.HBM_STAT_IN_SERVICE (a / hbmSize))) (fun s a =>
    let k := a / hbmSize
    let s := s.zero a (a + 64)
    let s := ((s.wr HBM.HBM_UE_LOG_VALID 1 k).wr HBM.HBM_UE_LOG_ZEROED 1 k).wr HBM.HBM_UE_LOG_SECTOR (a % hbmSize / 64) k
    s.raise (pgSTACK k) kUE_ZEROED a)

/-- The zeroing of a lifecycle transition (R573): every stack, the registers of FIRN behind its header, the images, and the capture
records. -/
def State.lifeScrub (s : State) : State :=
  let s := s.zero 0 (4 * hbmSize)
  let s := { s with regs := s.regs.filter (fun e => e.1 / 0x8000 != pgFIRN || e.1 % 0x8000 < 0x200) }
  { s with firn := {}, ladder := { s.ladder with caps := [] } }

/-- What MEMORY does with the stacks and the failing banks (core, physical bank). -/
def State.memoryStage (s : State) (trained : List StackResult) (banks : List (Nat × Nat)) : State :=
  let warm := decide (s.rd CHIP.BOOT_PATH = 1)
  let s := s.each (List.range 4) (fun s k => s.memoryStack trained k)
  let all := (List.range 4).all (fun k => s.on HBM.HBM_STAT_REUSED k)
  let s := s.wr CHIP.BOOT_TRAIN_REUSED (b2n all)
  let scrub := decide (s.sec.lcLast ≠ some s.lc)
  let kept := !scrub && s.boot.restoreOk && s.on HBM.HBM_STAT_IN_SERVICE 0
  let s := if kept then s else s.loseContexts
  let s := if warm && s.on HBM.HBM_STAT_IN_SERVICE 0 then s.zeroLogged else s
  let s := if scrub then s.lifeScrub else s
  let s := s.each banks (fun s b => s.memoryBank b.1 b.2)
  let s := s.each (List.range 16) (fun s c => s.each (List.range 64) (fun s j => s.remapBank c j))
  let s := s.zero spadBase (spadBase + 16 * sliceSize)
  let s := { s with boot := { s.boot with ueLogs := [] } }
  (s.wr CHIP.BOOT_STAGE 4).runClocks

/-- MEMORY_STAGE. -/
def execMemoryStage (results : List StackResult) (badBanks : List (Nat × Nat)) (s : State) : Out :=
  .next (if s.mainRuns && s.stage = 3 then s.memoryStage results badBanks else s)

/-! ### ADMIT and CALIB -/

/-- ADMIT ends with what the patterns found: spares, fences and the live map (R69–R74). -/
def State.admitStage (s : State) (rs : List AdmitResult) : State :=
  let s := s.each ((List.range 16).filter (fun c => s.fused c && !s.coreFenced c)) (fun s c =>
    match rs.find? (fun r => r.core = c) with
    | some r => s.admitCore r
    | none => s)
  let s := s.each ((List.range 16).filter s.coreFenced) (fun s c => s.wr CLKRST.CORE_FREQ_F25 0 0 c)
  (s.wr CHIP.BOOT_STAGE 5).setLive

/-- ADMIT_STAGE. -/
def execAdmitStage (cores : List AdmitResult) (s : State) : Out :=
  .next (if s.mainRuns && s.stage = 4 then s.admitStage cores else s)

/-- CALIB ends: the alarm thresholds (R543), the clocks at the profile with an ALIGN pulse, the NL transmitters where their SerDes are
calibrated, and the first reference windows of the cores that took one. -/
def State.calibStage (s : State) (serdes : Bool) (windows : Nat → Bool) : State :=
  let s := s.each (List.range 4) (fun s q => s.setAlarm q (s.rd CLKRST.PROFILE_ACTIVE))
  let s := { s with boot := { s.boot with clocks := true }, pins := { s.pins with nlDriven := serdes } }
  s.startClocks.each ((List.range 16).filter (fun c => s.live c && windows c)) (fun s c => s.validWindow c)

/-- CALIB_STAGE. -/
def execCalibStage (s : State) : Out :=
  .next (if s.mainRuns && s.stage = 5 && !s.boot.clocks then s.calibStage true (fun _ => true) else s)

/-! ### SERVICE -/

/-- The banks lost in MEMORY end what their holders run (R611). -/
def State.lostBanks (s : State) : State :=
  s.each (List.range 16) (fun s c =>
    let js := (s.core c).noBank
    let s := s.each js (fun s j => s.loseBank c j)
    if js.isEmpty then s else s.modCore c (fun k => { k with noBank := [] }))

/-- SERVICE_ENTRY: the change of the core map since before the reset, the records of the contexts a chip reset reached (R448), and
negotiation on the enabled ports (R301). -/
def execServiceEntry (s : State) : Out :=
  .next (if !s.mainRuns || s.stage != 5 || !s.boot.clocks then s
  else
    let xs := (s.ctxs.filter (fun e => e.2.reset.isSome)).map (·.1)
    let s := s.enterService true
    let changed := Nat.xor s.boot.oldLive (s.rd CHIP.CORE_MAP_LIVE)
    let s := if changed = 0 then s else s.postCoreMap changed
    let s := (s.each xs State.tryRecords).each xs State.tryRecovered
    let s := ((s.resetOver 4 0 0).surviveThaw 4).lostBanks
    let s := match s.pw.droneWake with
      | some code => { s.raise pgDRONE kDRONE_WAKE 0 code with pw := { s.pw with droneWake := none } }
      | none => s
    s.each (List.range 16) (fun s p => if s.nlEnabled p then s.setNl p nlDETECT else s))

/-- STAGE_OVERRUN (R61): what the stage had brought into service is given, by stack, bank, core and port group; the rest goes out of
service, and the next stage follows. `banks` are the banks of MEMORY that failed their test or had not been tested; `serdes` says that
CALIB had calibrated the NL SerDes, and `windows` names the cores with a first reference window. POWER leaves its PLLs unlocked, IDENT
the configuration space, and FIRMWARE the image, so that SERVICE follows at level I. -/
def execStageOverrun (trained : List StackResult) (banks : List (Nat × Nat)) (cores : List AdmitResult) (serdes : Bool)
    (windows : List Nat) (s : State) : Out :=
  .next (if !s.mainRuns || s.pins.perst || (s.stage = 5 && s.boot.clocks) || 6 ≤ s.stage then s
  else
    let s := s.wr CHIP.BOOT_FAIL 3
    if s.stage = 0 then
      (if s.boot.aligned then s.wr CHIP.BOOT_STAGE 1
        else { s.secPower with boot := { s.boot with aligned := true } })
    else if s.stage = 1 then s.failService 3
    else if s.stage = 2 then s.wr CHIP.BOOT_STAGE 3
    else if s.stage = 3 then s.memoryStage trained banks
    else if s.stage = 4 then s.admitStage cores
    else s.calibStage serdes windows.contains)

/-! ### Requests for a chip reset (R54, R55, R58) -/

/-- A write to CHIP.RST_REQ. -/
def State.rstReq (s : State) (a : Authority) (v : Nat) : State :=
  if bits v 31 16 != 0xB007 then (if s.boot.fltUp then s.raise pgCHIP kRST_KEY 0 (bits v 31 16) else s)
  else if bit v 0 then s.chipRequest (if a = .debug then 7 else 3) { level := 4, domain := 0, host := true }
  else s

/-- CHIP_RST_REQ. -/
def execChipRstReq (port : Authority) (value : Nat) (s : State) : Out :=
  .next (s.gated port 0x50 4 (fun s => if s.mayWrite port CHIP.RST_REQ_CHIP then s.rstReq port value else s))

/-- CHANTER_WATCHDOG_EXPIRE: WATCHDOG of class CHIP, cause 0x6. With FLT out of service the reset asserts at once. -/
def execChanterWatchdogExpire (s : State) : Out :=
  .next (if !s.mainRuns || s.stage < 2 then s
  else if s.boot.fltUp then s.raise pgCHANTER kWATCHDOG else s.chipAssert 6)

/-- CHANTER_SRAM_PARITY at an offset of Chanter's SRAM (R58: once FLT has recorded it the resident image is not kept). -/
def execChanterSramParity (off : Nat) (s : State) : Out :=
  .next (if !s.mainRuns then s
  else s.raise pgCHANTER kCHANTER_PARITY off)

end Sys2Proof.Machine
end

