-- ==== Sys2Proof/Machine/Header.lean ====
section
/-! DEFINITION. Writes to the common page header (Tables 3-6 and 3-13): the rows BLK_LOCK_SET to BLK_TOKCFG_WRITE of the
table. -/
namespace Sys2Proof.Machine

/-- A write of one field of a header word, through the gate, from an authority that may write the field. -/
def State.headerWrite (s : State) (a : Authority) (page o : Nat) (r : Row) (f : State → State) : State :=
  s.gated a (page * 4096 + o) 4 (fun s => if s.mayWrite a r then f s else s)

/-- BLK_LOCK_SET (R119). -/
def execBlkLockSet (port : Authority) (page : Nat) (s : State) : Out :=
  .next (s.headerWrite port page 0x10 HDR.CTL_LOCK (fun s => s.wr HDR.CTL_LOCK 1 page))

/-- BLK_QUIESCE_WRITE (R121). -/
def execBlkQuiesceWrite (port : Authority) (page : Nat) (on : Bool) (s : State) : Out :=
  .next (s.headerWrite port page 0x10 HDR.CTL_QUIESCE (fun s => s.wr HDR.CTL_QUIESCE (b2n on) page))

/-- The state a page returns to when neither TEST_HOLD nor a slice holds it any more. -/
def State.freeState (s : State) (p : Nat) : Nat :=
  match coreOfPage p with
  | some c => if s.inSlice c then stTEST else s.coreState c
  | none => stREADY

/-- TEST_HOLD of a page: a block that is READY stands in TEST until it is released. -/
def State.setTestHold (s : State) (p : Nat) (on : Bool) : State :=
  let s := s.wr HDR.CTL_TEST_HOLD (b2n on) p
  let st := s.rd HDR.STAT_STATE p
  if on then (if st = stREADY then s.wr HDR.STAT_STATE stTEST p else s)
  else if st = stTEST then s.wr HDR.STAT_STATE (s.freeState p) p
  else s

/-- BLK_TEST_HOLD_WRITE. -/
def execBlkTestHoldWrite (port : Authority) (page : Nat) (on : Bool) (s : State) : Out :=
  .next (s.headerWrite port page 0x10 HDR.CTL_TEST_HOLD (fun s => s.setTestHold page on))

/-- A software fence of core c is asked for: its steps begin (R401, R609). -/
def State.askSoftFence (s : State) (c : Nat) : State :=
  if bit s.boot.softFence c || s.serac.softFencing.any (fun e => e.1 = c) then s
  else if bit s.boot.fenceCores c then { s with boot := { s.boot with softFence := setBit s.boot.softFence c } }
  else s.modSerac (fun r => { r with softFencing := r.softFencing ++ [(c, s.drainBy)] })

/-- A software fence of core c is lifted (R120, R609). -/
def State.liftSoftFence (s : State) (c : Nat) : State :=
  let s := s.modSerac (fun r => { r with softFencing := r.softFencing.filter (fun e => e.1 != c) })
  if !bit s.boot.softFence c then s
  else
    let s := { s with boot := { s.boot with softFence := clearBit s.boot.softFence c } }
    if s.rd HDR.STAT_STATE (pgFE c) = stRESET then s else (s.setStates (corePages c) (s.coreState c)).setLive

/-- A software fence of the comparator (R390, R609). -/
def State.softComparator (s : State) (on : Bool) : State :=
  let held := s.compFenced
  let s := { s with boot := { s.boot with softComp := on } }
  if on && !held then s.comparatorOff else s

/-- A write to BLK_CTL.FENCE (R120, R609). -/
def State.setFence (s : State) (p : Nat) (on : Bool) : State :=
  if !fenceable p then s
  else match coreOfPage p with
    | some c => if on then s.askSoftFence c else s.liftSoftFence c
    | none => s.softComparator on

/-- BLK_FENCE_WRITE. -/
def execBlkFenceWrite (port : Authority) (page : Nat) (on : Bool) (s : State) : Out :=
  .next (s.headerWrite port page 0x10 HDR.CTL_FENCE (fun s => s.setFence page on))

/-- ENABLE of a page: without it the block takes no new work and its progress timer stops (Table 3-6). -/
def State.setEnable (s : State) (p : Nat) (on : Bool) : State :=
  let s := s.wr HDR.CTL_ENABLE (b2n on) p
  if on then s else s.modLadder (fun l => { l with timers := SMap.drop l.timers p })

/-- BLK_ENABLE_WRITE. -/
def execBlkEnableWrite (port : Authority) (page : Nat) (on : Bool) (s : State) : Out :=
  .next (s.headerWrite port page 0x10 HDR.CTL_ENABLE (fun s => s.setEnable page on))

/-- One injected token of a kind (R118, R370). -/
def State.inject (s : State) (p kind : Nat) : State :=
  let t : Tok := { src := p, kind := kind, cls := defaultClass kind p, inj := true
                   detail := if kind = kHOST_POISON then 1 else 0 }
  let x := s.rd FLT.FLT_INJ_CTX_CTX
  s.raiseTok (if t.bears then { t with ctx := x, gen := (s.ctx x).gen } else t)

/-- A write to BLK_ERRINJ, which LOCK makes read-only: tokens in ascending bit order (R370). -/
def State.errInj (s : State) (p v : Nat) : State :=
  if s.on HDR.CTL_LOCK p then s
  else s.each ((List.range 32).filter (bit v)) (fun s k => match kindAt p k with
    | some kind => s.inject p kind
    | none => s)

/-- BLK_ERRINJ_WRITE. -/
def execBlkErrinjWrite (port : Authority) (page value : Nat) (s : State) : Out :=
  .next (s.headerWrite port page 0x20 HDR.BLK_ERRINJ (fun s => s.errInj page value))

/-- An override that R358 forbids. -/
def overrideForbidden (p v : Nat) : Bool :=
  let kind := bits v 23 16
  let cls := bits v 30 28
  let dflt := defaultClass kind p
  bit v 31 && (cls = cPOWERCYCLE || cCHIP ≤ dflt || (dflt = cDEFERRED && cls < cDEFERRED) || kind = kRANGE)

/-- A write to BLK_TOKCFG: taken whole or dropped whole (R358). -/
def State.tokCfg (s : State) (a : Authority) (p v : Nat) : State :=
  if overrideForbidden p v then s.cfgDenied a (p * 4096 + 0x24)
  else (((s.wr HDR.TOKCFG_OVR_EN (bits v 31 31) p).wr HDR.TOKCFG_OVR_CLASS (bits v 30 28) p).wr HDR.TOKCFG_OVR_KIND
    (bits v 23 16) p).wr HDR.TOKCFG_RATE (bits v 15 0) p

/-- BLK_TOKCFG_WRITE. -/
def execBlkTokcfgWrite (port : Authority) (page value : Nat) (s : State) : Out :=
  .next (s.headerWrite port page 0x24 HDR.TOKCFG_OVR_EN (fun s => s.tokCfg port page value))

/-- A write to BLK_CTL: each field that the authority may write takes its effect. -/
def State.ctlWrite (s : State) (a : Authority) (p v : Nat) : State :=
  let s := if s.mayWrite a HDR.CTL_LOCK && bit v 31 then s.wr HDR.CTL_LOCK 1 p else s
  let s := if s.mayWrite a HDR.CTL_QUIESCE then s.wr HDR.CTL_QUIESCE (bits v 3 3) p else s
  let s := if s.mayWrite a HDR.CTL_TEST_HOLD then s.setTestHold p (bit v 2) else s
  let s := if s.mayWrite a HDR.CTL_FENCE then s.setFence p (bit v 1) else s
  if s.mayWrite a HDR.CTL_ENABLE then s.setEnable p (bit v 0) else s

end Sys2Proof.Machine
end

