-- ==== Sys2Proof/Machine/Host.lean ====
section
/-! DEFINITION. The host side of the part: functions and their resets, MSI-X, link and transaction errors (the rows FLR_START to
LINK_DOWN but for those about DMA reads, VF_ENABLE_SET, MSIX_VECTOR_UNMASK and PCIE_LINK_L0 of the table; *Register Pages and the Host Interface*). -/
namespace Sys2Proof.Machine

/-! ### Virtual functions and their resets (R100–R104) -/

/-- A Function Level Reset of VF v is in progress: bit v of FLR_STAT. -/
def State.flrBusy (s : State) (v : Nat) : Bool := 1 ≤ v && bit (s.rd HOSTIF.FLR_STAT_BUSY) (v - 1)

/-- Context x lies in the assigned range of VF v. -/
def State.inRange (s : State) (v x : Nat) : Bool :=
  s.rd HOSTIF.VF_CTX_BASE 0 v ≤ x && x < s.rd HOSTIF.VF_CTX_BASE 0 v + s.rd HOSTIF.VF_CTX_COUNT 0 v

/-- The owned contexts in the range of VF v. -/
def State.rangeCtxs (s : State) (v : Nat) : List Nat := s.ownedCtxs.filter (s.inRange v)

/-- Steps 1 and 2 of R103: the VF's accesses stop, and every context of its range is reset, with its records and their messages. -/
def State.flrStart (s : State) (v : Nat) : State :=
  if !s.vfExists v || s.flrBusy v then s
  else
    let s := s.wr HOSTIF.FLR_STAT_BUSY (setBit (s.rd HOSTIF.FLR_STAT_BUSY) (v - 1))
    s.each (s.rangeCtxs v) (fun s x => s.resetContext { level := 1, domain := x } false 5)

/-- FLR_START. -/
def execFlrStart (vf : Nat) (s : State) : Out := .next (s.flrStart vf)

/-- VFs cease to exist when the resets that clearing VF Enable started are complete (R102). -/
def State.vfGone (s : State) : State :=
  if s.pci.vfClearing && s.rd HOSTIF.FLR_STAT_BUSY = 0 then
    { s with pci := { s.pci with vfEnable := false, vfClearing := false } }
  else s

/-- Steps 3 to 5 of R103: the DMA of the range's contexts that is still in flight is discarded by its generation tag, and the VF's
vectors and configuration space take their reset values. -/
def State.flrFinish (s : State) (v : Nat) : State :=
  { s with pci := { s.pci with
      reads := s.pci.reads.filter (fun d => !(s.inRange v d.ctx && d.gen != (s.ctx d.ctx).gen))
      msix := s.pci.msix.filter (fun e => e.1 / 4096 != v)
      cfg := s.pci.cfg.filter (fun e => e.1 / 4096 != v) } }

/-- FLR_DONE: steps 3 to 5 of R103, once the context resets of step 2 are complete. -/
def execFlrDone (vf : Nat) (s : State) : Out :=
  .next (if !s.flrBusy vf || (s.rangeCtxs vf).any (fun x => (s.ctx x).reset.isSome && !(s.ctx x).zeroing) then s
  else ((s.flrFinish vf).wr HOSTIF.FLR_STAT_BUSY (clearBit (s.rd HOSTIF.FLR_STAT_BUSY) (vf - 1))).vfGone)

/-- A write of NumVFs: only while VF Enable is 0, and at most TotalVFs (R100, R101). -/
def State.setNumVfs (s : State) (v : Nat) : State :=
  if s.pci.identity && !s.pci.vfEnable && v ≤ totalVfs then { s with pci := { s.pci with numVfs := v } } else s

/-- NUMVFS_WRITE. -/
def execNumvfsWrite (value : Nat) (s : State) : Out := .next (s.setNumVfs value)

/-- A write of VF Enable: VFs 1 to NumVFs exist while it is 1, and clearing it resets all of them at once (R101, R102). -/
def State.setVfEnable (s : State) (on : Bool) : State :=
  if on then (if s.pci.identity then { s with pci := { s.pci with vfEnable := true } } else s)
  else if !s.pci.vfEnable then s
  else
    let s := s.each ((List.range 64).filter s.vfExists) State.flrStart
    { s with pci := { s.pci with vfClearing := true } }.vfGone

/-- VF_ENABLE_SET. -/
def execVfEnableSet (s : State) : Out := .next (s.setVfEnable true)

/-- VF_ENABLE_CLEAR. -/
def execVfEnableClear (s : State) : Out := .next (s.setVfEnable false)

/-- Two ranges share a context; an empty range shares none. -/
def rangesMeet (b1 n1 b2 n2 : Nat) : Bool := 0 < n1 && 0 < n2 && b1 < b2 + n2 && b2 < b1 + n1

/-- R271 for a write of VF_CTX[v]. -/
def State.vfCtxOk (s : State) (v base n : Nat) : Bool :=
  n ≤ 1024 && base + n ≤ 8192 &&
  s.ctxs.all (fun e => !e.2.owned || !(s.inRange v e.1 || (base ≤ e.1 && e.1 < base + n))) &&
  (List.range 64).all (fun w => w = 0 || w = v ||
    !rangesMeet base n (s.rd HOSTIF.VF_CTX_BASE 0 w) (s.rd HOSTIF.VF_CTX_COUNT 0 w))

/-- A write to VF_CTX[v]. -/
def State.vfCtxWrite (s : State) (a : Authority) (v value : Nat) : State :=
  let base := bits value 28 16
  let n := bits value 10 0
  if v = 0 || 64 ≤ v then s
  else if s.vfCtxOk v base n then (s.wr HOSTIF.VF_CTX_BASE base 0 v).wr HOSTIF.VF_CTX_COUNT n 0 v
  else s.cfgDenied a (pgHOSTIF * 4096 + 0x100 + 4 * v)

/-- VF_CTX_WRITE. -/
def execVfCtxWrite (port : Authority) (vf value : Nat) (s : State) : Out :=
  .next (if vf = 0 || 64 ≤ vf then s
  else s.gated port (pgHOSTIF * 4096 + 0x100 + 4 * vf) 4 (fun s =>
    if s.mayWrite port HOSTIF.VF_CTX_BASE then s.vfCtxWrite port vf value else s))

/-! ### MSI-X structures (R106, Tables 3-1 and 3-2) -/

/-- The number of vectors of a function. -/
def vectorsOf (func : Nat) : Nat := if func = 0 then 2048 else 64

/-- The pending message of a vector goes out where neither the vector nor its function is masked any more (R284). -/
def State.msixFlush (s : State) (func vec : Nat) : State :=
  let m := SMap.get s.pci.msix (msiKey func vec) {}
  if m.pend && !m.mask && s.msixEnabled func && !s.msixMasked func then
    ({ s with pci := { s.pci with msix := SMap.put s.pci.msix (msiKey func vec) { m with pend := false } } }).emit
      (.msix func vec m.addr m.data)
  else s

/-- Write one word of a vector's entry: address low and high, data, and the Mask bit. -/
def State.msixWord (s : State) (func vec word v : Nat) : State :=
  let m := SMap.get s.pci.msix (msiKey func vec) {}
  let m := if word = 0 then { m with addr := m.addr / 2 ^ 32 * 2 ^ 32 + v % 2 ^ 32 / 4 * 4 }
    else if word = 1 then { m with addr := v % 2 ^ 32 * 2 ^ 32 + m.addr % 2 ^ 32 }
    else if word = 2 then { m with data := v % 2 ^ 32 }
    else { m with mask := bit v 0 }
  { s with pci := { s.pci with msix := SMap.put s.pci.msix (msiKey func vec) m } }.msixFlush func vec

/-- A word of a function's MSI-X table, or of its pending-bit array. -/
def State.msixRead (s : State) (func vec word : Nat) : Nat :=
  let m := SMap.get s.pci.msix (msiKey func vec) {}
  if word = 0 then m.addr % 2 ^ 32 else if word = 1 then m.addr / 2 ^ 32 else if word = 2 then m.data else b2n m.mask

def State.pbaWord (s : State) (func i : Nat) : Nat :=
  (List.range 32).foldl (fun w k => if (SMap.get s.pci.msix (msiKey func (32 * i + k)) {}).pend then setBit w k else w) 0

/-- MSIX_VECTOR_UNMASK. -/
def execMsixVectorUnmask (func vec : Nat) (s : State) : Out :=
  .next (if s.inService && vec < vectorsOf func && (func = 0 || (s.vfExists func && !s.flrBusy func)) then
    s.msixWord func vec 3 0 else s)

/-! ### Errors of the host link (R98, Table 3-4) -/

/-- LINK_CORR: AER's correctable status takes the bits. -/
def execLinkCorr (status : Nat) (s : State) : Out :=
  .next ((s.aerCorrLog status).raise pgHOSTIF kLINK_CORR 0 status)

/-- TLP_BAD: the TLP is discarded; AER's uncorrectable status takes the bits. -/
def execTlpBad (status : Nat) (s : State) : Out :=
  .next ((s.aerUncLog status).raise pgHOSTIF kTLP_BAD 0 status)

/-- LINK_DOWN without PERST_n: AER logs the surprise, and the class is CHIP, so that the capture and the chip reset follow. -/
def execLinkDown (s : State) : Out :=
  .next (if s.pins.perst || !s.pci.linkUp then s
  else ({ s with pci := { s.pci with linkUp := false } }.aerUncLog (2 ^ aerSURPRISE)).raise pgHOSTIF kLINK_DOWN)

/-- POISONED_WRITE: a poisoned write to BAR0 of a function is dropped, with class INFO. -/
def execPoisonedWrite (func off : Nat) (s : State) : Out :=
  .next ((s.aerUncLog (2 ^ aerPOISON)).raiseTok { src := pgHOSTIF, kind := kHOST_POISON, cls := cINFO, addr := off % 2 ^ 28 + func % 2 ^ 7 * 2 ^ 28, detail := 2 })

/-- PCIE_LINK_L0: the link reaches L0 with a width and a rate (the codes of Table 3-8), and in Flit Mode as R92 says, from whether
the host advertises it; WAKE_n is released after an exit from DRONE (R552). -/
def execPcieLinkL0 (width rate : Nat) (hostFlit : Bool) (s : State) : Out :=
  .next (if !s.mainRuns || s.pins.perst then s
  else
    let s := if s.pci.trained then s.count HOSTIF.LINK_STAT_RETRAIN else s
    let s := ((s.wr HOSTIF.LINK_STAT_WIDTH width).wr HOSTIF.LINK_STAT_RATE rate).wr HOSTIF.LINK_STAT_FLIT (b2n (rate = 6 || hostFlit))
    let wake := s.pins.wake && s.rd DRONE.PWR_STAT_STATE = 2
    { s with pci := { s.pci with linkUp := true, trained := true }, pins := { s.pins with wake := wake } })

end Sys2Proof.Machine
end

