-- ==== Sys2Proof/Machine/QueueOps.lean ====
section
/-! DEFINITION. The queue engine's shared operations: doorbells, the check of a fetched entry, which command of a queue may
start, and accesses to context windows (*Contexts, Queues and Sequence Numbers*). -/
namespace Sys2Proof.Machine

/-! ### Accesses to doorbells and windows (Tables 3-1 to 3-3, 18-1) -/

/-- Where an access to the doorbells, windows or MSI-X structures of a function's BAR0 comes out before the target is looked at. -/
def State.barGate (s : State) (a : Authority) : Gate :=
  if !s.mainRuns then .silent
  else if !s.inService then .early
  else if s.lc = 3 then .silent
  else match a with
    | .tenant v => if !s.vfExists v || s.flrBusy v then .silent else .ok
    | .peer => .silent
    | .tray => .unmapped
    | _ => .ok

/-- The effect of a write there, or what Table 3-3 makes of it. -/
def State.barWrite (s : State) (a : Authority) (off len : Nat) (f : State → State) : State :=
  match s.barGate a with
  | .ok => f s
  | .early => s.earlyWrite a off
  | .unmapped => s.badAccess a kUNMAPPED off len
  | _ => s

/-- The offset of a doorbell in the BAR0 of the function of an access: context i as that function numbers it, queue n. -/
def doorbellOff (a : Authority) (i n : Nat) : Nat :=
  match a with
  | .tenant _ => i * 0x200 + 8 * n
  | _ => 0x0100_0000 + i * 0x200 + 8 * n

/-- The offset of a window's word. -/
def windowOff (a : Authority) (i sub : Nat) : Nat :=
  match a with
  | .tenant _ => 0x8_0000 + i * 0x100 + sub
  | _ => 0x0140_0000 + i * 0x100 + sub

/-- How many contexts a function numbers. -/
def numbered (a : Authority) : Nat := match a with | .tenant _ => 1024 | _ => 8192

/-- The global context behind number i of a function; none where a VF's range is shorter (R78). -/
def State.globalCtx (s : State) (a : Authority) (i : Nat) : Option Nat :=
  match a with
  | .tenant v => if i < s.rd HOSTIF.VF_CTX_COUNT 0 v then some (s.rd HOSTIF.VF_CTX_BASE 0 v + i) else none
  | _ => some i

/-- The VF that a context belongs to, 0 for PF0: its owner, or the range it lies in. -/
def State.ctxVf (s : State) (x : Nat) : Nat := if (s.ctx x).owned then (s.ctx x).owner else s.rangeVf x

/-- An authority may write the window of context x (R269). -/
def State.ownsWindow (s : State) (a : Authority) (x : Nat) : Bool :=
  match a with
  | .host => s.ctxVf x = 0
  | .tenant v => s.ctxVf x = v && 0 < v
  | .self_ => true
  | _ => false

/-! ### What the engine fetches next -/

/-- The engine serves context x: it runs, no freeze has reached it, and the part takes its work. -/
def State.queueRuns (s : State) (x : Nat) : Bool :=
  (s.ctx x).runs && !(s.ctx x).freezing && s.boot.qengUp && s.inService && s.takesWork pgQENG && s.ladder.chip.isNone &&
  s.rd DRONE.PWR_STAT_STATE ≤ 1

/-- The engine asks the host for the next entry of a queue, once a doorbell has accepted it (R110, R251). -/
def State.askEntry (s : State) (x qn : Nat) : State :=
  let c := s.ctx x
  let q := c.queue qn
  match q.fetchNext with
  | some ssn => if s.queueRuns x && q.en then s.askHost x c.gen qn ssn (q.base + ssn % 2 ^ q.log2 * 64) 64 true else s
  | none => s

/-! ### Doorbells (R249, Table 7-2) -/

/-- A token about a doorbell that bears its context (Table 11-4). -/
def State.dbToken (s : State) (a : Authority) (kind x off detail : Nat) : State :=
  s.raiseCtx pgHOSTIF kind x (accessAddr a off) detail

/-- The commands that entries accepted on an URGENT queue stand for join the order of their doorbells (R290). -/
def State.joinUrgent (s : State) (x qn first n : Nat) : State :=
  { s with urgent := s.urgent ++ (List.range n).map (fun k => (x, qn, (first + k) % 2 ^ 32)) }

/-- A doorbell for an existing context and queue (Table 7-2). While the extents of a released context are zeroed its doorbells are
dropped as before GEN_CHANGE: R273 lets nothing more be posted for it, and Table 7-2 has no row of its own for that time (log 161). -/
def State.ring (s : State) (a : Authority) (x qn off value : Nat) : State :=
  let c := s.ctx x
  let q := c.queue qn
  let gen := bits value 63 56
  let tail := bits value 31 0
  if c.state = .lost || (c.state = .recovering && !(c.reset.map (·.changed)).getD false) then
    s.dbToken a kDB_STALE x off gen
  else if !q.en then s.dbToken a kDB_DISABLED x off qn
  else if gen != c.gen then s.dbToken a kDB_STALE x off gen
  else if tail = q.expect || before32 tail q.expect then s
  else if 2 ^ q.log2 < dist32 q.done tail then s.dbToken a kDB_OVERRUN x off qn
  else if !s.boot.qengUp then s
  else
    let n := dist32 q.expect tail
    let low := decide (s.rd CHIP.SVC_LEVEL_LEVEL < 3)
    let s := s.setCtx x (c.setQueue qn { q with
      expect := tail, dbGen := gen, noService := if low then q.noService ++ [(q.expect, n)] else q.noService })
    if low then s.postHead x qn
    else (if q.urgent then s.joinUrgent x qn q.expect n else s).askEntry x qn

/-- A write at an offset of the doorbells of the function's BAR0 (R77–R79): one that is not 8 whole bytes aligned to 8 is dropped once
Tables 3-3 and 7-2 have been tried; in DOZE an accepted one wakes the part (Table 17-5). -/
def State.doorbell (s : State) (a : Authority) (off len value : Nat) (full : Bool := true) : State :=
  let lo := doorbellOff a 0 0
  if off < lo || numbered a * 0x200 ≤ off - lo then s
  else
    let i := (off - lo) / 0x200
    let qn := off % 0x200 / 8
    s.barWrite a off len (fun s =>
      match s.globalCtx a i with
      | none => s.badAccess a kTENANT_RANGE off len
      | some x =>
        if a = .debug then s.badAccess a kAUTH_DENIED off len
        else if a = .host && s.rangeVf x != 0 then s.badAccess a kFOREIGN_DB off len
        else if !(s.ctx x).owned then s.badAccess a kUNMAPPED off len
        else if len != 8 || off % 8 != 0 || !full then s
        else (s.dozeWake 1).ring a x qn off value)

/-! ### Fetched entries (R250, R251, R254) -/

/-- The bytes of ARGS that a command uses, as a mask over bits of the 64-bit words at 0x10 to 0x30 (Table 7-4). -/
def argMask (opc : Nat) : List Nat :=
  let all := 2 ^ 64 - 1
  if opc = 0x01 then [all, 0, 0, 0, 0]
  else if opc = 0x02 then [all, all, all, 3, 0]
  else if opc = 0x03 then [all, all, all, 2, 0]
  else if opc = 0x04 || opc = 0x05 then [0xF, all, 0, 0, 0]
  else if opc = 0x18 then [all, 0, 0, 0, 0]
  else if opc = 0x19 then [0xFFFF_FFFF + 0x103 * 2 ^ 32, 0xFFF + 0xFFF * 2 ^ 32, all, 0, 0]
  else if opc = 0x20 then [all, 0, 0, 0, 0]
  else if opc = 0x21 then [0xFFFF_FFFF + 2 ^ 32, 0, 0, 0, 0]
  else [0, 0, 0, 0, 0]

/-- The commands of Table 7-4. -/
def definedOpc (opc : Nat) : Bool :=
  [0x00, 0x01, 0x02, 0x03, 0x04, 0x05, 0x10, 0x11, 0x12, 0x13, 0x18, 0x19, 0x20, 0x21].contains opc

/-- A management command: it acts on the context that TARGET names. -/
def mgmtOpc (opc : Nat) : Bool := 0x10 ≤ opc && opc ≤ 0x13

def Cmd.target (k : Cmd) : Nat := bits (k.at 8) 12 0

/-- A reserved field of an entry is not 0. -/
def entryReserved (k : Cmd) : Bool :=
  bits (k.at 0) 15 9 != 0 || bits (k.at 0) 7 0 != 0 || bits (k.at 8) 63 13 != 0 ||
  (!mgmtOpc k.opc && k.target != 0) ||
  (List.range 5).any (fun j => Nat.land (k.at (0x10 + 8 * j)) (2 ^ 64 - 1 - (argMask k.opc).getD j 0) != 0)

/-- The length of a COPY or FILL. -/
def Cmd.length (k : Cmd) : Nat := if k.opc = 0x02 then k.at 0x20 else k.at 0x18

/-- What a fetched entry of context x completes with before it runs: status and DETAIL (R251, R252, R254, R291). -/
def State.entryCheck (s : State) (x : Nat) (q : Queue) (k : Cmd) : Option (Nat × Nat) :=
  let c := s.ctx x
  if k.at 0 / 2 ^ 32 != k.ssn then some (stCMD_INVALID, 0x01)
  else if bits (k.at 0) 23 16 != c.gen then some (stGEN_MISMATCH, 0)
  else if !definedOpc k.opc || entryReserved k then some (stCMD_INVALID, 0x02)
  else if mgmtOpc k.opc && c.owner != 0 && !s.inRange c.owner k.target then some (stAUTH_DENIED, 0)
  else if q.urgent && !mgmtOpc k.opc then some (stCMD_INVALID, 0x03)
  else if mgmtOpc k.opc && k.target = x then some (stCMD_INVALID, 0x04)
  else if (k.opc = 0x02 || k.opc = 0x03) && !(1 ≤ k.length && k.length ≤ 2 ^ 32) then some (stCMD_INVALID, 0x06)
  else none

/-! ### Starting a command (R253, R255, R290) -/

/-- A command of a queue takes a new phase. -/
def State.setPhase (s : State) (x qn ssn : Nat) (p : CmdPhase) : State :=
  s.modCtx x (fun c => c.setQueue qn { c.queue qn with
    cmds := (c.queue qn).cmds.map (fun k => if k.ssn = ssn then { k with phase := p } else k) })

/-- The management commands that run, with the quadrants of their targets: context, queue, SSN, quadrant. -/
def State.mgmtRunning (s : State) : List (Nat × Nat × Nat × Nat) :=
  s.ctxs.flatMap (fun e => e.2.queues.flatMap (fun q => (q.2.cmds.filter (fun k => mgmtOpc k.opc && k.phase = .running)).map
    (fun k => (e.1, q.1, k.ssn, (s.ctx k.target).cfg.home))))

/-- An URGENT entry as fetched. -/
def State.urgentCmd (s : State) (u : Nat × Nat × Nat) : Option Cmd :=
  ((s.ctx u.1).queue u.2.1).cmds.find? (fun k => k.ssn = u.2.2)

/-- The urgent path of the target's quadrant is free for a command of context x: none runs there, and no entry of an earlier
doorbell for the quadrant waits (R290). An entry that is still to be fetched, whose target is not known yet, holds the others; one whose
queue the engine does not serve holds none. -/
def State.urgentFree (s : State) (x qn : Nat) (k : Cmd) : Bool :=
  let quad := fun (c : Cmd) => (s.ctx c.target).cfg.home
  s.mgmtRunning.all (fun r => r.2.2.2 != quad k) &&
  (s.urgent.takeWhile (fun u => u != (x, qn, k.ssn))).all (fun u =>
    match s.urgentCmd u with
    | some c => c.phase != .fetched || quad c != quad k || !((s.ctx u.1).queue u.2.1).urgent
    | none =>
      let q := (s.ctx u.1).queue u.2.1
      match q.fetchNext with
      | some n => !(s.queueRuns u.1 && q.en && q.urgent && !before32 u.2.2 n)
      | none => true)

/-- Entries of the urgent order that are finished, or whose queue lost them, leave it. -/
def State.urgentTidy (s : State) : State :=
  { s with urgent := s.urgent.filter (fun u =>
      let q := (s.ctx u.1).queue u.2.1
      !before32 u.2.2 q.done && (match s.urgentCmd u with | some k => !k.over | none => true)) }

/-- A started urgent command aborts the slices on cores where its target has groups or passes (R280). -/
def State.urgentAborts (s : State) (x : Nat) : State :=
  s.each ((List.range 16).filter (fun c => (s.tcore c).chosen && (s.core c).usedBy x)) (fun s c => s.sliceAbort c 1)

/-- The command of a queue with the given OPC that may start now. -/
def State.startOf (s : State) (x qn opc : Nat) : Option Cmd :=
  if !s.queueRuns x then none
  else match ((s.ctx x).queue qn).startable with
    | some k => if k.opc = opc && (!mgmtOpc opc || s.urgentFree x qn k) then some k else none
    | none => none

end Sys2Proof.Machine
end

