-- ==== Sys2Proof/Machine/Queues.lean ====
section
/-! DEFINITION. The queue commands of Table 7-4 but for Firn's two checkpoint commands, their completion, and the reads of host memory
they wait for: the rows DOORBELL_WRITE, POISONED_COMPLETION, COMPLETION_TIMEOUT, HOST_DMA_COMPLETION and ENTRY_FETCH to
MOD_TIMER_EXPIRE of the table. -/
namespace Sys2Proof.Machine

/-- DOORBELL_WRITE: 8 bytes at an offset of the function's BAR0. -/
def execDoorbellWrite (port : Authority) (off value : Nat) (s : State) : Out := .next (s.doorbell port off 8 value)

/-! ### Fetching (R251) -/

/-- The entry of an SSN as it stands in host memory. -/
def State.entryAt (s : State) (q : Queue) (ssn : Nat) : List Nat :=
  let a := q.base + ssn % 2 ^ q.log2 * 64
  (List.range 8).map (fun j => ofLE (s.hostBytes (a + 8 * j) 8))

/-- The command of a fetched entry. -/
def commandOf (ssn : Nat) (ws : List Nat) : Cmd :=
  { ssn := ssn, opc := bits (ws.getD 0 0) 31 24, gen := bits (ws.getD 0 0) 23 16, words := ws, phase := .fetched }

/-- Fetch the entry of an SSN; one that does not pass its checks is finished at once, with the context's generation. The read that
asked for it is over, and the next entry is asked for. -/
def State.fetchEntry (s : State) (x qn ssn : Nat) : State :=
  let c := s.ctx x
  let q := c.queue qn
  let k := commandOf ssn (s.entryAt q ssn)
  let k := match s.entryCheck x q k with
    | some (st, d) => { k with gen := c.gen, phase := .done st d s.ftime }
    | none => k
  let reads := s.pci.reads.filter (fun d => !(d.entry && d.ctx = x && d.queue = qn && d.ssn = ssn && d.gen = c.gen))
  let s := ({ s with pci := { s.pci with reads := reads } }.hostMoved 64).bump HDR.BLK_PROG pgQENG
  (s.setCtx x (c.setQueue qn { q with cmds := q.cmds ++ [k] })).askEntry x qn

/-- ENTRY_FETCH. -/
def execEntryFetch (ctx queue : Nat) (s : State) : Out :=
  .next (if !s.queueRuns ctx || !((s.ctx ctx).queue queue).en then s
  else match ((s.ctx ctx).queue queue).fetchNext with
  | some ssn => (s.fetchEntry ctx queue ssn).urgentTidy
  | none => s)

/-! ### DMA reads end (R98, R264, R473) -/

/-- The command that a failed read served is aborted: a COPY is marked so; an entry that could not be read stands for a command that
never runs. -/
def Queue.failRead (q : Queue) (d : DmaRead) : Queue :=
  if !d.entry then { q with cmds := q.cmds.map (fun k => if k.ssn = d.ssn then { k with failed := true } else k) }
  else if q.fetchNext = some d.ssn then
    { q with cmds := q.cmds ++ [{ ssn := d.ssn, opc := 0, gen := d.gen, words := [], phase := .running, failed := true }] }
  else q

/-- A DMA read fails for good: AER logs it, the token goes out, and the command it served is aborted. Where an override puts the class
below CONTEXT, no context reset follows and the command ends ABORTED here. -/
def State.readFails (s : State) (d : DmaRead) (kind detail : Nat) : State :=
  let s := { s with pci := { s.pci with reads := s.pci.reads.filter (fun e => e.tag != d.tag) } }
  let t : Tok := { src := pgHOSTIF, kind := kind, cls := defaultClass kind pgHOSTIF, ctx := d.ctx, gen := d.gen
                   addr := d.addr % 2 ^ 48, detail := detail }
  let low := decide (s.overridden t < cCONTEXT)
  let now := decide (d.gen = (s.ctx d.ctx).gen)
  let s := (s.raiseTok t).when now (fun s => s.modCtx d.ctx (fun c => c.setQueue d.queue ((c.queue d.queue).failRead d)))
  (s.when (low && now) (fun s => s.finish d.ctx d.queue d.ssn 0x01 0)).pumpReads

/-- POISONED_COMPLETION: the read is issued once more; a second poisoned completion aborts the command. AER logs each. -/
def execPoisonedCompletion (tag : Nat) (s : State) : Out :=
  .next (match s.pci.reads.find? (fun d => d.tag = tag) with
  | none => s
  | some d =>
    let s := s.aerUncLog (2 ^ aerPOISON)
    if d.reissued then s.readFails d kHOST_POISON 1
    else
      let reads := s.pci.reads.map (fun e => if e.tag = tag then { e with reissued := true, since := s.ftime } else e)
      { s with pci := { s.pci with reads := reads } }.emit (.dmaRead (s.ctx d.ctx).owner tag d.addr d.len false false))

/-- COMPLETION_TIMEOUT: the read has been outstanding for the time the host programmed, unless it disabled the timeout (R95). -/
def execCompletionTimeout (tag : Nat) (s : State) : Out :=
  .next (match s.pci.reads.find? (fun d => d.tag = tag) with
  | none => s
  | some d =>
    if !s.timeoutOn || s.ftime < d.since + 100 * s.timeoutUs then s
    else (s.aerUncLog (2 ^ aerTIMEOUT)).readFails d kCPL_TIMEOUT 0)

/-- The data of a completed read is written: to host memory or to the context's own (R252). -/
def State.copyPiece (s : State) (d : DmaRead) (k : Cmd) : State :=
  let bs := s.hostBytes d.addr d.len
  let dst := k.at 0x18 + k.moved
  let s := s.hostMoved d.len
  let w := if bit (k.at 0x28) 1 then (s.hostStore (s.ctx d.ctx).owner true dst bs, true)
    else (s.chargeStack d.ctx dst d.len).writeMem dst bs
  w.1.modCtx d.ctx (fun c => c.setQueue d.queue { c.queue d.queue with cmds := (c.queue d.queue).cmds.map (fun e =>
    if e.ssn != k.ssn then e else if w.2 then { e with moved := e.moved + d.len } else { e with failed := true }) })

/-- HOST_DMA_COMPLETION: the data is used, or dropped where it carries a stale generation or its context is stopped (R264, R473). -/
def execHostDmaCompletion (tag : Nat) (s : State) : Out :=
  .next (match s.pci.reads.find? (fun d => d.tag = tag) with
  | none => s
  | some d =>
    let s := { s with pci := { s.pci with reads := s.pci.reads.filter (fun e => e.tag != tag) } }
    let c := s.ctx d.ctx
    let q := c.queue d.queue
    let s := if d.gen != c.gen then s
      else if d.entry then
        (if s.queueRuns d.ctx && q.en && q.fetchNext = some d.ssn then (s.fetchEntry d.ctx d.queue d.ssn).urgentTidy else s)
      else match q.cmds.find? (fun k => k.ssn = d.ssn) with
        | some k => if c.runs && !c.freezing && k.hostCopy then s.copyPiece d k else s
        | none => s
    s.pumpReads)

/-! ### Commands of the chapter itself -/

/-- NOP. -/
def execNop (ctx queue : Nat) (s : State) : Out :=
  .next (match s.startOf ctx queue 0x00 with
  | some k => s.finish ctx queue k.ssn stOK 0
  | none => s)

/-- DISPATCH: the descriptor is read, and the kernel waits for placement (R205, R277). -/
def State.startDispatch (s : State) (x qn : Nat) (k : Cmd) : State :=
  let a := k.at 0x10
  if a % 64 != 0 || !s.inExtent x a 64 then s.finish x qn k.ssn stADDR_FAULT 0
  else
    let s := s.setPhase x qn k.ssn .running
    match (s.chargeStack x a 64).readMem a 64 with
    | (s, none) => s
    | (s, some raw) =>
      let d : Dispatch := { id := s.nextDisp, ctx := x, gen := k.gen, queue := qn, ssn := k.ssn, kernel := parseKernel a raw, raw := raw }
      { s with waiting := s.waiting ++ [d], nextDisp := s.nextDisp + 1 }

/-- DISPATCH. -/
def execDispatch (ctx queue : Nat) (s : State) : Out :=
  .next (match s.startOf ctx queue 0x01 with
  | some k => s.startDispatch ctx queue k
  | none => s)

/-- Some byte of a range in the context's extents lies in an absent bank (R215). -/
def State.bankGone (s : State) (a n : Nat) : Bool :=
  match localPlace a with
  | .spad c o => (List.range 64).any (fun b => b * bankSize < o + n && o < (b + 1) * bankSize && !s.bankPresent c b)
  | _ => false

/-- The status that a local range of a command gives at its start: ADDR_FAULT outside the extents, BANK_LOST in an absent bank. -/
def State.rangeStatus (s : State) (x a n : Nat) : Nat :=
  if !s.inExtent x a n then stADDR_FAULT else if s.bankGone a n then stBANK_LOST else stOK

/-- A COPY or FILL starts, or completes at once where a local range is refused; nothing has moved yet (R251, R252). -/
def State.startMove (s : State) (x qn : Nat) (k : Cmd) : State :=
  let n := k.length
  let flags := k.at 0x28
  let src := if k.opc = 0x02 && !bit flags 0 then s.rangeStatus x (k.at 0x10) n else stOK
  let dst := if bit flags 1 then stOK else s.rangeStatus x (if k.opc = 0x02 then k.at 0x18 else k.at 0x10) n
  if src != stOK then s.finish x qn k.ssn src 0
  else if dst != stOK then s.finish x qn k.ssn dst 0
  else (s.setPhase x qn k.ssn .running).pumpReads

/-- COPY. -/
def execCopy (ctx queue : Nat) (s : State) : Out :=
  .next (match s.startOf ctx queue 0x02 with
  | some k => s.startMove ctx queue k
  | none => s)

/-- FILL. -/
def execFill (ctx queue : Nat) (s : State) : Out :=
  .next (match s.startOf ctx queue 0x03 with
  | some k => s.startMove ctx queue k
  | none => s)

/-- SIG_ADD, once every earlier command of its queue is over (R266). -/
def execSigAdd (ctx queue : Nat) (s : State) : Out :=
  .next (match s.startOf ctx queue 0x04 with
  | some k =>
    if (((s.ctx ctx).queue queue).cmds.takeWhile (fun e => e.ssn != k.ssn)).all Cmd.over then
      (s.syncAdd ctx (bits (k.at 0x10) 3 0) (k.at 0x18)).finish ctx queue k.ssn stOK 0
    else s
  | none => s)

/-- SIG_WAIT starts to hold its queue (R266). -/
def execSigWait (ctx queue : Nat) (s : State) : Out :=
  .next (match s.startOf ctx queue 0x05 with
  | some k => s.setPhase ctx queue k.ssn .running
  | none => s)

/-! ### Management commands (R290, R442, R475, Table 15-1) -/

/-- An urgent command starts on its target. -/
def State.startMgmt (s : State) (x qn : Nat) (k : Cmd) : State := (s.setPhase x qn k.ssn .running).urgentAborts k.target

/-- The target of a management command is nobody's, or lost. -/
def Ctx.gone (c : Ctx) : Bool := c.state = .unowned || c.state = .lost

/-- Firn has a freeze or thaw of the context under way. -/
def State.firnBusy (s : State) (t : Nat) : Bool :=
  (s.ctx t).freezing || s.firn.thaws.any (fun o => o.target = t)

/-- FREEZE or FREEZE_EVICT by the state of its target (Table 15-1). A command that must wait stays where it is. -/
def State.freezeCmd (s : State) (x qn : Nat) (k : Cmd) (evict : Bool) : State :=
  let t := k.target
  let c := s.ctx t
  let m := (s.image t).getD {}
  let go := (s.startMgmt x qn k).freezeStart { target := t, by_ := some (x, qn, k.ssn), evict := evict }
  if c.gone then s.finish x qn k.ssn stCMD_INVALID 0x05
  else if c.state = .recovering || s.firnBusy t then s
  else if c.state = .frozen && m.test then
    if evict then s else (s.setImage t { m with test := false }).finish x qn k.ssn stOK 0
  else if !c.imageOk evict then s.finish x qn k.ssn fIMAGE_RANGE 0
  else if c.state = .frozen && (!evict || c.evicted) then s.finish x qn k.ssn stOK 0x0001
  else go

/-- FREEZE. -/
def execFreeze (ctx queue : Nat) (s : State) : Out :=
  .next (match s.startOf ctx queue 0x10 with
  | some k => (s.freezeCmd ctx queue k false).urgentTidy
  | none => s)

/-- FREEZE_EVICT. -/
def execFreezeEvict (ctx queue : Nat) (s : State) : Out :=
  .next (match s.startOf ctx queue 0x11 with
  | some k => (s.freezeCmd ctx queue k true).urgentTidy
  | none => s)

/-- THAW by the state of its target (Table 15-1, R476). -/
def State.thawCmd (s : State) (x qn : Nat) (k : Cmd) : State :=
  let t := k.target
  let c := s.ctx t
  let chk := s.thawCheck t
  if c.gone then s.finish x qn k.ssn stCMD_INVALID 0x05
  else if c.state = .recovering then s.finish x qn k.ssn fNOT_FROZEN 0
  else if s.firnBusy t then s
  else if c.state != .frozen then s.finish x qn k.ssn fNOT_FROZEN 0
  else if ((s.image t).map (·.test)).getD false then s.finish x qn k.ssn fTEST_HELD 0
  else if chk.1 != stOK then s.finish x qn k.ssn chk.1 0
  else (s.startMgmt x qn k).modFirn (fun f => { f with thaws := f.thaws ++ [{ target := t, by_ := some (x, qn, k.ssn) }] })

/-- THAW. -/
def execThaw (ctx queue : Nat) (s : State) : Out :=
  .next (match s.startOf ctx queue 0x12 with
  | some k => (s.thawCmd ctx queue k).urgentTidy
  | none => s)

/-- CTX_RESET: the reset of the target begins; the command completes once it is over. -/
def State.resetCmd (s : State) (x qn : Nat) (k : Cmd) : State :=
  if (s.ctx k.target).gone then s.finish x qn k.ssn stCMD_INVALID 0x05
  else (s.startMgmt x qn k).resetContext { level := 1, domain := k.target, host := true }

/-- CTX_RESET. -/
def execCtxReset (ctx queue : Nat) (s : State) : Out :=
  .next (match s.startOf ctx queue 0x13 with
  | some k => (s.resetCmd ctx queue k).urgentTidy
  | none => s)

/-! ### Field commands (*Field Addressing, Routing, Collectives and the Start Barrier*) -/

/-- COLL: its descriptor is read where it lies in the context's extents. -/
def execColl (ctx queue : Nat) (s : State) : Out :=
  .next (match s.startOf ctx queue 0x20 with
  | none => s
  | some k =>
    match s.descOff ctx (k.at 0x10) with
    | none => s.finish ctx queue k.ssn stADDR_FAULT 0
    | some a => ((s.setPhase ctx queue k.ssn .running).chargeStack ctx a 64).reading a 64 (fun s d =>
        s.collStart ctx queue k.ssn d))

/-- BARRIER; `dwell` is the time a BAR_RELEASE spends in the part, should this arrival complete the root's. -/
def execBarrier (ctx queue dwell : Nat) (s : State) : Out :=
  .next (match s.startOf ctx queue 0x21 with
  | none => s
  | some k => (s.setPhase ctx queue k.ssn .running).barrierCmd ctx queue k.ssn (k.at 0x10 % 2 ^ 32) (bit (k.at 0x10) 32) dwell)

/-! ### Completion -/

/-- A running command of a queue. -/
def State.runningCmd (s : State) (x qn ssn : Nat) : Option Cmd :=
  ((s.ctx x).queue qn).cmds.find? (fun k => k.ssn = ssn && k.phase = .running && !k.failed)

/-- A command's data met an uncorrectable error: it stays as it is until the reset that follows (R213, R219). -/
def State.spoil (s : State) (x qn ssn : Nat) : State :=
  s.modCtx x (fun c => c.setQueue qn { c.queue qn with
    cmds := (c.queue qn).cmds.map (fun k => if k.ssn = ssn then { k with failed := true } else k) })

/-- Write the output of a COPY or FILL and finish it. -/
def State.putOut (s : State) (x qn ssn dst : Nat) (toHost : Bool) (bs : List Byte) : State :=
  if toHost then (s.hostStore (s.ctx x).owner true dst bs).finish x qn ssn stOK 0
  else match (s.chargeStack x dst bs.length).writeMem dst bs with
    | (s, true) => s.finish x qn ssn stOK 0
    | (s, false) => s.spoil x qn ssn

/-- A COPY ends: one from host memory has every piece; one from local memory moves its bytes (R252). -/
def State.endCopy (s : State) (x qn : Nat) (k : Cmd) : State :=
  let n := k.at 0x20
  if bit (k.at 0x28) 0 then (if n ≤ k.moved then s.finish x qn k.ssn stOK 0 else s)
  else match (s.chargeStack x (k.at 0x10) n).readMem (k.at 0x10) n with
    | (s, none) => s.spoil x qn k.ssn
    | (s, some bs) => s.putOut x qn k.ssn (k.at 0x18) (bit (k.at 0x28) 1) bs

/-- The bytes a FILL writes from address a: byte (a mod 8) of the pattern at a (R252). -/
def fillBytes (a n pattern : Nat) : List Byte :=
  (List.range n).map (fun j => BitVec.ofNat 8 (pattern / 2 ^ (8 * ((a + j) % 8))))

/-- COMMAND_COMPLETE: what a running command still does takes effect, and it finishes. Commands that end through rows of their
own (DISPATCH, freezes and thaws, CKPT, RESTORE, COLL, BARRIER) are left to them. -/
def State.complete (s : State) (x qn : Nat) (k : Cmd) : State :=
  if k.opc = 0x13 then
    (if (s.ctx k.target).reset.isSome then s else (s.finish x qn k.ssn stOK 0).urgentTidy)
  else if !s.queueRuns x then s
  else if k.opc = 0x02 then s.endCopy x qn k
  else if k.opc = 0x03 then s.putOut x qn k.ssn (k.at 0x10) (bit (k.at 0x28) 1) (fillBytes (k.at 0x10) (k.at 0x18) (k.at 0x20))
  else if k.opc = 0x05 then
    (if k.at 0x18 ≤ (s.ctx x).syncVal (bits (k.at 0x10) 3 0) then s.finish x qn k.ssn stOK 0 else s)
  else s

/-- COMMAND_COMPLETE. -/
def execCommandComplete (ctx queue ssn : Nat) (s : State) : Out :=
  .next (match s.runningCmd ctx queue ssn with
  | some k => if s.inService then s.complete ctx queue k else s
  | none => s)

/-- COMPLETION_POST: the record at the head of a queue, or those of a reset that waited for the ring (R258, R263). -/
def execCompletionPost (ctx queue : Nat) (s : State) : Out :=
  let c := s.ctx ctx
  .next (if !s.inService || !s.boot.qengUp || c.gone then s
  else if c.state = .recovering then (if c.reset.isSome then s.tryRecords ctx else s)
  else (s.postHead ctx queue).urgentTidy)

/-- MOD_TIMER_EXPIRE: MOD_US microseconds of field time have passed since the first record that has not been signalled (R282). -/
def execModTimerExpire (ctx : Nat) (s : State) : Out :=
  let c := s.ctx ctx
  .next (match c.firstPending with
  | some t0 => if s.inService && c.cfg.intEn && c.cfg.modUs != 0 && t0 + 100 * c.cfg.modUs ≤ s.ftime then s.signalNow ctx else s
  | none => s)

end Sys2Proof.Machine
end

