-- ==== Sys2Proof/Machine/CkptOps.lean ====
section
/-! DEFINITION. Checkpoints: the areas in the buddy reserve, the stored formats, the manifest and its checks, and the entries
of a checkpoint (*Freeze, Checkpoint and Exact Resumption with Firn*, R485–R494). -/
namespace Sys2Proof.Machine

/-! ### Areas and slots (R485) -/

def areaUnit : Nat := 0x400_0000

/-- A checkpoint area: the local offset of slot 0 and the bytes of one slot. -/
structure Area where
  base : Nat
  slot : Nat
  deriving DecidableEq, Repr

/-- The area of a register's STACK, OFFSET and SIZE. -/
def State.areaAt (s : State) (stack off size : Nat) : Area :=
  ⟨stack * hbmSize + s.buddyBase stack + off * areaUnit, size / 2 * areaUnit⟩

/-- The home area, where HOME is valid and its stack in service. -/
def State.homeArea (s : State) : Option Area :=
  if s.on FIRN.HOME_VALID && s.on HBM.HBM_STAT_IN_SERVICE (s.rd FIRN.HOME_STACK) then
    some (s.areaAt (s.rd FIRN.HOME_STACK) (s.rd FIRN.HOME_OFFSET) (s.rd FIRN.HOME_SIZE))
  else none

/-- The area of a HOLD_ENT word, where it is valid and its stack in service. -/
def State.entArea (s : State) (w : Nat) : Option Area :=
  if bit w 31 && s.on HBM.HBM_STAT_IN_SERVICE (bits w 29 28) then some (s.areaAt (bits w 29 28) (bits w 27 20) (bits w 19 12))
  else none

/-- The held area for the copies of a member (R500). -/
def State.heldArea (s : State) (member : Nat) : Option Area :=
  (s.firn.hold.find? (fun e => bit e.2 31 && bits e.2 11 0 = member)).bind (fun e => s.entArea e.2)

def Area.slotAt (a : Area) (i : Nat) : Nat := a.base + i * a.slot

/-! ### Formats (R492, Table 15-6) -/

/-- The 32-bit words of a byte list. -/
def words32 (bs : List Byte) : List Nat := (List.range (bs.length / 4)).map (fun j => leAt bs (4 * j) 4)

/-- The shared exponent of a block of binary32 values. -/
def k8Exp (xs : List Nat) : Nat :=
  let m := xs.foldl (fun m x => max m (x % 2 ^ 31)) 0
  if m = 0 then 0
  else if 255 ≤ m / 2 ^ 23 then 255
  else max 1 (min 254 (m / 2 ^ 23))

/-- One superblock of 1,024 values. -/
def k8Super (xs : List Nat) : List Byte :=
  let blocks := (List.range 32).map (fun j => (xs.drop (32 * j)).take 32)
  blocks.map (fun b => BitVec.ofNat 8 (k8Exp b)) ++
  blocks.flatMap (fun b => b.map (fun x => BitVec.ofNat 8 (ofInt 8 (k8Mantissa x (k8Exp b)))))

/-- A binary32 value as BF16 (R492). -/
def toBf16 (x : Nat) : Nat := if (f32.decode x).isNan then 0x7FC0 else cvtFmt f32 bf16 x

/-- Source bytes in a stored format. -/
def encodeShard (fmt : Nat) (src : List Byte) : List Byte :=
  if fmt = 1 then (words32 src).flatMap (fun x => toLE (toBf16 x) 2)
  else if fmt = 2 then
    let ws := words32 src
    (List.range (ws.length / 1024)).flatMap (fun j => k8Super ((ws.drop (1024 * j)).take 1024))
  else src

/-- The stored bytes of a shard of n source bytes. -/
def storedLen (fmt n : Nat) : Nat := if fmt = 1 then n / 2 else if fmt = 2 then n / 4096 * 1056 else n

/-- Stored bytes widened again, and the K8 blocks among them with E = 255. -/
def decodeShard (fmt : Nat) (bs : List Byte) : List Byte × Nat :=
  if fmt = 1 then ((List.range (bs.length / 2)).flatMap (fun j => toLE (leAt bs (2 * j) 2 * 2 ^ 16) 4), 0)
  else if fmt = 2 then
    let blocks := (List.range (bs.length / 1056)).flatMap (fun j => (List.range 32).map (fun b =>
      (leAt bs (1056 * j + b) 1, (bs.drop (1056 * j + 32 + 32 * b)).take 32)))
    (blocks.flatMap (fun b => b.2.flatMap (fun m => toLE (k8Value m.toInt b.1) 4)), (blocks.filter (fun b => b.1 = 255)).length)
  else (bs, 0)

/-! ### Manifests (R494, R504, Tables 15-7 and 15-8) -/

/-- n rounded up to 64 KiB. -/
def roundSlot (n : Nat) : Nat := (n + 0xFFFF) / 0x1_0000 * 0x1_0000

def manifestSize (nent : Nat) : Nat := roundSlot (128 * (1 + nent))

/-- A manifest as read: its header and its entries, of 128 bytes each. -/
structure Manifest where
  header : List Byte
  entries : List (List Byte)
  deriving DecidableEq, Repr

def Manifest.step (m : Manifest) : Nat := leAt m.header 0x08 4
def Manifest.seq (m : Manifest) : Nat := leAt m.header 0x0C 4
def Manifest.writer (m : Manifest) : Nat := bits (leAt m.header 0x10 4) 11 0
def Manifest.spoiled (m : Manifest) : Bool := bit (leAt m.header 0x04 4) 0

/-- A header has the right MAGIC and its HCRC verifies. -/
def headerOk (h : List Byte) : Bool := leAt h 0 4 = 0x4B46_4D31 && leAt h 0x7C 4 = crc32 (h.take 0x7C)

def digestOf (e : List Byte) : List Byte := (e.drop 0x40).take 32
def entryOk (e : List Byte) : Bool := leAt e 0x7C 4 = crc32 (e.take 0x7C)

/-- MDIGEST matches. -/
def Manifest.digestOk (m : Manifest) : Bool := digestOf m.header = sha256 (m.entries.flatMap digestOf)

/-- The manifest at the start of a run of bytes that `rd` reads, where its header verifies. -/
def manifestOf (rd : Nat → Nat → List Byte) : Option Manifest :=
  let h := rd 0 128
  if headerOk h then some ⟨h, (List.range (leAt h 0x14 4)).map (fun i => rd (128 * (1 + i)) 128)⟩ else none

/-- An entry of a manifest whose MDIGEST fails: itself where its ECRC verifies, else the one of another copy (R504). -/
def repairEntry (others : List Manifest) (i : Nat) (e : List Byte) : Option (List Byte) :=
  if entryOk e then some e else (others.filterMap (fun m => m.entries[i]?)).find? entryOk

/-- A manifest that resolves under R504, with the entry indices that were bad (0xFFFF for the MDIGEST field). -/
def Manifest.resolve (m : Manifest) (others : List Manifest) : Option (Manifest × List Nat) :=
  if m.digestOk then some (m, [])
  else
    let bad := (List.range m.entries.length).filter (fun i => !entryOk (m.entries.getD i []))
    if bad = [] then some (m, [0xFFFF])
    else
      let es := (m.entries.zipIdx).map (fun e => repairEntry others e.2 e.1)
      if es.all Option.isSome then some ({ m with entries := es.filterMap id }, bad) else none

/-- The manifest in a slot of local memory. -/
def State.slotManifest (s : State) (a : Nat) : Option Manifest := manifestOf (fun o n => s.bytes (a + o) n)

/-- A slot is sealed (R486). -/
def State.sealed (s : State) (a : Nat) (others : List Manifest := []) : Option (Manifest × List Nat) :=
  (s.slotManifest a).bind (fun m => m.resolve others)

/-- The slot of an area with the sealed manifest of highest CKPT_SEQ among those that satisfy p. -/
def State.newest (s : State) (a : Area) (p : Manifest → Bool) (others : List Manifest := []) : Option (Nat × Manifest × List Nat) :=
  let at_ := fun i => ((s.sealed (a.slotAt i) others).filter (fun m => p m.1)).map (fun m => (i, m))
  match at_ 0, at_ 1 with
  | some x, some y => if x.2.1.seq < y.2.1.seq then some y else some x
  | some x, none => some x
  | none, o => o

/-- Firn reads the manifests that stand in the two slots of an area; the flag says whether it could (R219). -/
def State.readManifests (s : State) (a : Area) : State × Bool :=
  [0, 1].foldl (fun (st : State × Bool) i =>
    if st.2 then
      let n := match st.1.slotManifest (a.slotAt i) with | some m => 128 * (1 + m.entries.length) | none => 128
      st.1.readCheck (a.slotAt i) n
    else st) (s, true)

/-- What reads the manifests of an area and goes on. -/
def State.withManifests (s : State) (a : Area) (f : State → State) : State :=
  match s.readManifests a with
  | (s, true) => f s
  | (s, false) => s

/-- The slot that the next checkpoint goes to: not the one of the newest sealed manifest (R486, R500). -/
def State.nextSlot (s : State) (a : Area) : Nat :=
  match s.newest a (fun _ => true) with
  | some x => 1 - x.1
  | none => 0

/-- A manifest entry as Table 15-8 lays it out. -/
def CkptEntry.bytes (e : CkptEntry) : List Byte :=
  let r := e.ref.getD (0, 0, 0)
  let b := toLE (e.region * 2 ^ 16 + e.fmt * 16 + (if e.ref.isSome then 2 else 1)) 4 ++ toLE e.shard 4 ++ toLE e.src 8 ++
    toLE e.len 8 ++ toLE e.stored 8 ++ toLE e.off 8 ++ toLE (r.1 * 2 ^ 16 + r.2.1) 4 ++ toLE r.2.2 4 ++ zeros 16 ++
    e.digest ++ zeros 28
  b ++ toLE (crc32 b) 4

/-- A manifest entry read back. -/
def entryOf (b : List Byte) : CkptEntry :=
  let w := leAt b 0 4
  let r := leAt b 0x28 4
  { region := bits w 31 16, shard := leAt b 4 4, fmt := bits w 7 4
    ref := if bits w 3 0 = 2 then some (bits r 23 16, bits r 11 0, bits (leAt b 0x2C 4) 11 0) else none
    src := leAt b 8 8, len := leAt b 0x10 8, stored := leAt b 0x18 8, off := leAt b 0x20 8, digest := digestOf b }

/-! ### The descriptor of a CKPT (Tables 15-4 and 15-5) -/

def ckNreg (d : List Byte) : Nat := bits (leAt d 0 4) 10 0
def ckHost (d : List Byte) : Bool := bit (leAt d 0 4) 20
def ckBuddy (d : List Byte) : Bool := bit (leAt d 0 4) 21
def ckVerify (d : List Byte) : Bool := bit (leAt d 0 4) 22
def ckIfDue (d : List Byte) : Bool := bit (leAt d 0 4) 23
def ckStep (d : List Byte) : Nat := leAt d 4 4
def ckRegions (d : List Byte) : Nat := leAt d 8 8
def ckMidx (d : List Byte) : Nat := bits (leAt d 0x10 4) 31 24
def ckG (d : List Byte) : Nat := bits (leAt d 0x10 4) 8 0
def ckHostAddr (d : List Byte) : Nat := leAt d 0x18 8
def ckHostCap (d : List Byte) : Nat := leAt d 0x20 8

def rgAddr (r : List Byte) : Nat := leAt r 0 8
def rgLen (r : List Byte) : Nat := leAt r 8 8
def rgFmt (r : List Byte) : Nat := bits (leAt r 0x10 8) 3 0
def rgReplica (r : List Byte) : Bool := bit (leAt r 0x10 8) 4
def rgShardLog2 (r : List Byte) : Nat := bits (leAt r 0x10 8) 13 8

/-- The first DETAIL that the descriptor alone gives, before its regions are read (R488). -/
def ckDescReason (d : List Byte) : Option Nat :=
  if leAt d 0x3C 2 != crc16 (d.take 0x3C) then some 0x20
  else if bits (leAt d 0 4) 31 24 != 1 || bits (leAt d 0 4) 19 11 != 0 || bits (leAt d 0x10 4) 23 9 != 0 ||
    leAt d 0x14 4 != 0 || leAt d 0x28 20 != 0 || leAt d 0x3E 2 != 0 then some 0x21
  else if !(1 ≤ ckNreg d && ckNreg d ≤ 1024) then some 0x22
  else none

/-- A region's reserved bits are 0. -/
def rgPlain (r : List Byte) : Bool := bits (leAt r 0x10 8) 7 5 = 0 && bits (leAt r 0x10 8) 63 14 = 0 && leAt r 0x18 8 = 0

/-- A region's values are in range. -/
def rgInRange (r : List Byte) : Bool :=
  rgFmt r ≤ 2 && 26 ≤ rgShardLog2 r && rgShardLog2 r ≤ 32 && rgLen r % (if rgFmt r = 0 then 64 else 4096) = 0

/-- The DETAIL that the regions give (R488). -/
def State.ckRegionReason (s : State) (x : Nat) (d : List Byte) (rs : List (List Byte)) : Option Nat :=
  if !rs.all rgPlain then some 0x21
  else if !(1 ≤ ckG d && ckG d ≤ 256 && ckMidx d < ckG d && rs.all rgInRange) then some 0x22
  else if !rs.all (fun r => rgAddr r % 4096 = 0 && s.inExtent x (rgAddr r) (rgLen r)) then some 0x23
  else if (ckBuddy d && !s.on FIRN.BUDDY_VALID) || (ckHost d && ckHostAddr d % 0x1_0000 != 0) then some 0x24
  else none

/-- The entries of one region, without their places in the slot (R491–R493). `list` is the companion list. -/
def regionEntries (d list : List Byte) (i : Nat) (r : List Byte) : List CkptEntry :=
  let size := 2 ^ rgShardLog2 r
  (List.range ((rgLen r + size - 1) / size)).map (fun n =>
    let m := n % ckG d
    let w := leAt list (4 * m) 4
    let len := min size (rgLen r - n * size)
    { region := i, shard := n, fmt := rgFmt r
      ref := if rgReplica r && m != ckMidx d then some (m, bits w 11 0, bits w 27 16) else none
      src := rgAddr r + n * size, len := len, stored := storedLen (rgFmt r) len, off := 0 })

/-- Give each stored shard its place in the slot; the last number is the end of the last one. -/
def placeEntries (es : List CkptEntry) : List CkptEntry × Nat :=
  es.foldl (fun (acc : List CkptEntry × Nat) e =>
    if e.ref.isSome then (acc.1 ++ [e], acc.2)
    else (acc.1 ++ [{ e with off := roundSlot acc.2 }], roundSlot acc.2 + e.stored)) ([], manifestSize es.length)

/-! ### Messages between Firns (R500, log 51) -/

def fmOFFER : Nat := 0
def fmSHARD : Nat := 1
def fmMANIFEST : Nat := 2
def fmREFUSAL : Nat := 3
def fmRESEND : Nat := 4
def fmANSWER : Nat := 5

/-- Firn sends a message to another part. -/
def State.firnSend (s : State) (dst kind : Nat) (fields : List Nat) (data : List Byte := []) : State :=
  (s.emit (.firn dst kind fields data)).firnMoved data.length

/-- Firn serves: it is in service and takes work. -/
def State.firnServes (s : State) : Bool := s.inService && s.takesWork pgFIRN && s.rd DRONE.PWR_STAT_STATE ≤ 1

/-- The token fields of Table 15-11 for a digest: entry index, STEP, copy and writer. -/
def State.digestTok (s : State) (kind i step copy writer : Nat) (chk : Bool) : State :=
  s.raiseTok { src := pgFIRN, kind := kind, cls := defaultClass kind pgFIRN, chk := chk
               addr := (i % 2 ^ 16 * 2 ^ 32 + step) % 2 ^ 48, detail := (copy * 2 ^ 12 + writer) % 2 ^ 16 }

end Sys2Proof.Machine
end

