-- ==== Sys2Proof/Machine/Firn.lean ====
section
/-! DEFINITION. Checkpoints as they run: the rows CKPT, RESTORE, CKPT_SHARD_DONE to CTX_IMG_WRITE and BUDDY_REFUSAL_RECEIVE
to SHARD_FETCH_REQUEST_RECEIVE of the table (R485–R505). -/
namespace Sys2Proof.Machine

/-! ### CKPT (R487–R495) -/

/-- Firn runs one CKPT or RESTORE at a time (log 50). -/
def State.firnIdle (s : State) : Bool := s.firn.ckpt.isNone && s.firn.restore.isNone

/-- A CKPT whose descriptor and regions are good chooses its slot and starts, or ends at once (R486, R488, R490). -/
def State.ckptRun (s : State) (x qn : Nat) (k : Cmd) (d list : List Byte) (rs : List (List Byte)) : State :=
  let es := placeEntries (rs.zipIdx.flatMap (fun r => regionEntries d list r.2 r.1))
  if ckIfDue d && !s.on FIRN.TRIG_STAT_DUE then s.finish x qn k.ssn stOK 0x0001
  else match s.homeArea with
  | none => s.finish x qn k.ssn fNO_AREA 0
  | some a =>
    if a.slot < es.2 || (ckHost d && ckHostCap d < es.2) then s.finish x qn k.ssn fNO_AREA 0
    else s.withManifests a (fun s =>
      let slot := s.nextSlot a
      let s := if ckIfDue d then
          let s := s.wr FIRN.TRIG_STAT_DUE 0
          if s.isRoot then (s.wr FIRN.LAST_STEP_STEP (ckStep d)).wr FIRN.LAST_TIME_TIME (s.rd BARRIER.LAST_REL_TIME) else s
        else s
      s.writing (a.slotAt slot) (zeros 4) (fun s =>
        let s := if ckBuddy d then
            s.firnSend (s.rd FIRN.BUDDY_PART) fmOFFER [ckStep d, s.rd FIRN.CKPT_SEQ_SEQ + 1, es.2]
          else s
        let c : Ckpt := { ctx := x, queue := qn, ssn := k.ssn, desc := d, slot := slot, clean := s.ftime, todo := es.1 }
        s.modFirn (fun f => { f with ckpt := some c })))

/-- The regions of a descriptor and the companion list are read, and checked (R487, R488, R493). -/
def State.ckptRegions (s : State) (x qn : Nat) (k : Cmd) (d : List Byte) : State :=
  let a := ckRegions d
  let n := 32 * ckNreg d
  if !s.inExtent x a n then s.finish x qn k.ssn stADDR_FAULT 0
  else match s.readMem a n with
  | (s, none) => s
  | (s, some raw) =>
    let rs := (List.range (ckNreg d)).map (fun i => (raw.drop (32 * i)).take 32)
    let refs := rs.any rgReplica && ckG d != 1
    match s.ckRegionReason x d rs with
    | some c => s.finish x qn k.ssn stCMD_INVALID c
    | none =>
      if !refs then s.ckptRun x qn k d [] rs
      else if !s.inExtent x (a + n) (4 * ckG d) then s.finish x qn k.ssn stADDR_FAULT 0
      else match s.readMem (a + n) (4 * ckG d) with
        | (s, none) => s
        | (s, some list) => s.ckptRun x qn k d list rs

/-- CKPT. -/
def execCkpt (ctx queue : Nat) (s : State) : Out :=
  .next (match s.startOf ctx queue 0x18 with
  | none => s
  | some k =>
    let a := k.at 0x10
    if !s.firnServes || !s.firnIdle then s
    else if !s.inExtent ctx a 64 then s.finish ctx queue k.ssn stADDR_FAULT 0
    else match (s.setPhase ctx queue k.ssn .running).readMem a 64 with
      | (s, none) => s
      | (s, some d) =>
        match ckDescReason d with
        | some c => s.finish ctx queue k.ssn stCMD_INVALID c
        | none => s.ckptRegions ctx queue k d)

/-- Firn's transfers of a context's quadrant pause while an urgent command for that quadrant runs (R505). -/
def State.firnPaused (s : State) (x : Nat) : Bool := s.mgmtRunning.any (fun r => r.2.2.2 = (s.ctx x).cfg.home)

/-- The local offset of a running checkpoint's slot. -/
def State.ckptSlot (s : State) (k : Ckpt) : Nat := (s.homeArea.map (fun a => a.slotAt k.slot)).getD 0

/-- A CKPT ends with a status. -/
def State.ckptOver (s : State) (k : Ckpt) (status : Nat) : State :=
  (s.finish k.ctx k.queue k.ssn status 0).modFirn (fun f => { f with ckpt := none })

/-- The first entry of the checkpoint is encoded, written and sent (R495, step 2). With VERIFY Firn reads its home copy back; `misses` is
how often the read-back of a copy disagreed, and `copy` which copy that was (R497). -/
def State.ckptShard (s : State) (k : Ckpt) (e : CkptEntry) (copy misses : Nat) : State :=
  s.reading e.src e.len (fun s src =>
    let out := encodeShard e.fmt src
    let e := { e with digest := sha256 out }
    let i := k.entries.length
    let next := { k with todo := k.todo.drop 1, entries := k.entries ++ [e] }
    if e.ref.isSome then s.modFirn (fun f => { f with ckpt := some next })
    else s.writing (s.ckptSlot k + e.off) out (fun s => s.reading (s.ckptSlot k + e.off) (if ckVerify k.desc then out.length else 0) (fun s _ =>
      let s := s.firnMoved out.length
      let s := if ckHost k.desc then s.hostStore (s.ctx k.ctx).owner true (ckHostAddr k.desc + e.off) out else s
      let s := if ckBuddy k.desc && !k.refused then s.firnSend (s.rd FIRN.BUDDY_PART) fmSHARD [i, e.off] out else s
      if ckVerify k.desc && 2 ≤ misses then
        (s.digestTok kSHARD_DIGEST i (ckStep k.desc) copy s.ownPart false).ckptOver k fCKPT_DIGEST
      else s.modFirn (fun f => { f with ckpt := some next }))))

/-- CKPT_SHARD_DONE. -/
def execCkptShardDone (copy misses : Nat) (s : State) : Out :=
  .next (match s.firn.ckpt with
  | none => s
  | some k =>
    match k.todo with
    | e :: _ => if !s.firnServes || s.firnPaused k.ctx then s else s.ckptShard k e copy misses
    | [] => s)

/-- The manifest of a finished checkpoint (Tables 15-7 and 15-8). -/
def State.manifestBytes (s : State) (k : Ckpt) (spoiled : Bool) : List Byte :=
  let es := k.entries.map CkptEntry.bytes
  let h := toLE 0x4B46_4D31 4 ++ toLE (2 ^ 24 + b2n spoiled) 4 ++ toLE (ckStep k.desc) 4 ++
    toLE (s.rd FIRN.CKPT_SEQ_SEQ + 1) 4 ++ toLE (ckMidx k.desc * 2 ^ 24 + ckG k.desc * 2 ^ 15 + s.ownPart) 4 ++
    toLE es.length 4 ++ toLE s.sec.serial 8 ++ toLE k.clean 8 ++
    toLE (if s.on FIRN.BUDDY_VALID then s.rd FIRN.BUDDY_PART else 0) 4 ++ zeros 20 ++
    sha256 (es.flatMap digestOf) ++ zeros 28
  h ++ toLE (crc32 h) 4 ++ es.flatten

/-- Serac condemned a pass of the context that ended between its last sealed checkpoint and this one (R499). -/
def State.ckptSpoiled (s : State) (k : Ckpt) : Bool :=
  s.firn.verdicts.any (fun v => v.1 = k.ctx && v.2 < k.clean &&
    match SMap.find s.firn.lastClean k.ctx with | some t => t < v.2 | none => true)

/-- Steps 3 to 5 of R495. `holder` is how the holder took its copy: 0 it did, 1 a shard failed its digest twice there, 2 it
could not be reached (R498, R500). -/
def State.ckptSeal (s : State) (k : Ckpt) (holder : Nat) : State :=
  let sp := s.ckptSpoiled k
  let m := s.manifestBytes k sp
  s.writing (s.ckptSlot k) m (fun s =>
  let s := s.firnMoved m.length
  let s := if ckHost k.desc then s.hostStore (s.ctx k.ctx).owner true (ckHostAddr k.desc) m else s
  let buddy := ckBuddy k.desc && !k.refused
  let lost := buddy && holder = 2
  let s := if buddy && !lost then s.firnSend (s.rd FIRN.BUDDY_PART) fmMANIFEST [] m else s
  let s := if lost then s.raise pgFIRN kBUDDY_LOST (s.rd FIRN.BUDDY_PART) 1 else s
  let s := (s.bump FIRN.CKPT_SEQ_SEQ).modFirn (fun f => { f with lastClean := SMap.put f.lastClean k.ctx k.clean })
  s.ckptOver k (if sp then fSPOILED else if buddy && holder = 1 then fCKPT_DIGEST else if k.refused then fNO_AREA
    else if lost then stPEER_LOST else stOK))

/-- CKPT_SEAL. -/
def execCkptSeal (holder : Nat) (s : State) : Out :=
  .next (match s.firn.ckpt with
  | none => s
  | some k => if !k.todo.isEmpty || !s.firnServes || s.firnPaused k.ctx || s.horizon < k.clean then s else s.ckptSeal k holder)

/-! ### The holder and the member (R498, R500) -/

/-- BUDDY_OFFER_RECEIVE: an OFFER of `size` bytes from part `src`. -/
def execBuddyOfferReceive (src step seq size : Nat) (s : State) : Out :=
  .next (if !s.firnServes then s else match s.heldArea src with
  | none => s
  | some a =>
    if a.slot < size then s.firnSend src fmREFUSAL [step, seq]
    else s.withManifests a (fun s =>
      let i := s.nextSlot a
      s.writing (a.slotAt i) (zeros 4) (fun s => s.modFirn (fun f => { f with
        helds := (f.helds.filter (fun h => h.member != src)) ++ [{ member := src, slot := i, step := step, seq := seq }] }))))

/-- The manifest of a held copy against the digests so far: sealed, or a shard is asked for once more, or given up. -/
def State.heldCheck (s : State) (a : Area) (h : Held) (m : List Byte) : State :=
  let es := (List.range (leAt m 0x14 4)).map (fun i => (i, entryOf ((m.drop (128 * (1 + i))).take 128)))
  let bad := es.filter (fun e => e.2.ref.isNone && (h.digests.find? (fun d => d.1 = e.1)).map (·.2) != some e.2.digest)
  let put := fun (s : State) (n : Option Held) => s.modFirn (fun f => { f with
    helds := (f.helds.filter (fun o => o.member != h.member)) ++ n.toList })
  match bad with
  | [] => s.writing (a.slotAt h.slot) m (fun s => put (s.firnMoved m.length) none)
  | _ :: _ =>
    match bad.filter (fun e => h.asked.contains e.1) with
    | (i, _) :: _ => put (s.digestTok kSHARD_DIGEST i h.step 1 h.member false) none
    | [] =>
      let s := s.each bad (fun s e => s.firnSend h.member fmRESEND [e.1])
      put s (some { h with manifest := some m, digests := h.digests.filter (fun d => !bad.any (fun e => e.1 = d.1))
                           asked := h.asked ++ bad.map (·.1) })

/-- BUDDY_SHARD_RECEIVE: the stored bytes of an entry, for a place in the slot. -/
def execBuddyShardReceive (src entry off : Nat) (data : List Byte) (s : State) : Out :=
  .next (match s.firn.helds.find? (fun h => h.member = src), s.heldArea src with
  | some h, some a =>
    if !s.firnServes || a.slot < off + data.length then s
    else s.writing (a.slotAt h.slot + off) data (fun s =>
      let s := s.firnMoved data.length
      let h := { h with digests := (h.digests.filter (fun d => d.1 != entry)) ++ [(entry, sha256 data)] }
      let s := s.modFirn (fun f => { f with helds := f.helds.map (fun o => if o.member = src then h else o) })
      match h.manifest with
      | some m => if h.asked.all (fun i => h.digests.any (fun d => d.1 = i)) then s.heldCheck a h m else s
      | none => s)
  | _, _ => s)

/-- BUDDY_MANIFEST_RECEIVE. -/
def execBuddyManifestReceive (src : Nat) (data : List Byte) (s : State) : Out :=
  .next (match s.firn.helds.find? (fun h => h.member = src), s.heldArea src with
  | some h, some a => if !s.firnServes || a.slot < data.length then s else s.heldCheck a h data
  | _, _ => s)

/-- BUDDY_REFUSAL_RECEIVE: the home copy is still written and sealed (R500). -/
def execBuddyRefusalReceive (src : Nat) (s : State) : Out :=
  .next (match s.firn.ckpt with
  | some k =>
    if ckBuddy k.desc && s.rd FIRN.BUDDY_PART = src then s.modFirn (fun f => { f with ckpt := some { k with refused := true } })
    else s
  | none => s)

/-- BUDDY_RESEND_REQUEST_RECEIVE: the shard goes to the holder once more, from the home slot. -/
def execBuddyResendRequestReceive (src entry : Nat) (s : State) : Out :=
  let found := match s.firn.ckpt with
    | some k => k.entries[entry]?.map (fun e => (s.ckptSlot k, e))
    | none => s.homeArea.bind (fun a => (s.newest a (fun _ => true)).bind (fun n =>
        (n.2.1.entries[entry]?).map (fun b => (a.slotAt n.1, entryOf b))))
  .next (match found with
  | some (a, e) =>
    if !s.firnServes || e.ref.isSome || !s.on FIRN.BUDDY_VALID || s.rd FIRN.BUDDY_PART != src then s
    else s.reading (a + e.off) e.stored (fun s bs => s.firnSend src fmSHARD [entry, e.off] bs)
  | none => s)

/-- The newest sealed, unspoiled manifest of a step in an area, with its slot (R502). -/
def State.copyOf (s : State) (a : Area) (step : Nat) (others : List Manifest := []) : Option (Nat × Manifest × List Nat) :=
  (s.newest a (fun m => m.step = step && !m.spoiled) others).map (fun n => (a.slotAt n.1, n.2))

/-- SHARD_FETCH_REQUEST_RECEIVE: part `src` restores `step` and asks for a shard of this part's home copy, or of the copy it
holds of another member (R503). -/
def execShardFetchRequestReceive (src member step region shard : Nat) (s : State) : Out :=
  let area := if member = s.ownPart then s.homeArea else s.heldArea member
  .next (match area.bind (fun a => s.copyOf a step) with
  | none => s
  | some (a, m, _) =>
    match (m.entries.map entryOf).find? (fun e => e.region = region && e.shard = shard && e.ref.isNone) with
    | none => s
    | some e =>
      if !s.firnServes then s
      else
        let send := fun (s : State) => s.reading (a + e.off) e.stored (fun s bs => s.firnSend src fmANSWER [region, shard] (e.digest ++ bs))
        match area with | some h => s.withManifests h send | none => s)

/-! ### RESTORE (R502–R504) -/

/-- The manifest of the host copy that a RESTORE may fall back on. -/
def State.hostManifest (s : State) (r : Restore) : List Manifest :=
  if r.hostFb then (manifestOf (fun o n => s.hostBytes (r.hostAddr + o) n)).toList else []

/-- The area of the local copy a RESTORE reads. -/
def State.restoreArea (s : State) (r : Restore) : Option Area :=
  if r.source = 0 then s.homeArea else if r.source = 1 then s.heldArea r.member else none

/-- The local copy a RESTORE reads: its slot and manifest. -/
def State.restoreLocal (s : State) (r : Restore) : Option (Nat × Manifest × List Nat) :=
  (s.restoreArea r).bind (fun a => s.copyOf a r.step (s.hostManifest r))

/-- A RESTORE reads the manifests of its local copy and goes on. -/
def State.withLocal (s : State) (r : Restore) (f : State → State) : State :=
  match s.restoreArea r with
  | some a => s.withManifests a f
  | none => f s

/-- The manifest a RESTORE uses, with the slot where it is local: the named source's (`remote` is what came from another part),
or the host copy's where that has none. -/
def State.restoreManifest (s : State) (r : Restore) (remote : List Byte) : Option (Option Nat × Manifest × List Nat) :=
  let named : Option (Option Nat × Manifest × List Nat) := if r.source = 2 then
      (((manifestOf (fun o n => (remote.drop o).take n)).bind (fun m => m.resolve (s.hostManifest r))).filter
        (fun m => m.1.step = r.step && !m.1.spoiled)).map (fun m => (none, m))
    else (s.restoreLocal r).map (fun m => (some m.1, m.2))
  match named with
  | some m => some m
  | none => (((s.hostManifest r).head?.bind (fun m => m.resolve [])).filter
      (fun m => m.1.step = r.step && !m.1.spoiled)).map (fun m => (none, m))

/-- Every destination lies in the context's extents and in no image of a FROZEN context (R469, R502). -/
def State.restoreFits (s : State) (x : Nat) (m : Manifest) : Bool :=
  (m.entries.map entryOf).all (fun e => s.inExtent x e.src e.len && !s.imageHit x e.src e.len)

/-- RESTORE. -/
def execRestore (ctx queue : Nat) (s : State) : Out :=
  .next (match s.startOf ctx queue 0x19 with
  | none => s
  | some k =>
    let w := k.at 0x10
    let r : Restore := { ctx := ctx, queue := queue, ssn := k.ssn, step := bits w 31 0, source := bits w 33 32
                         hostFb := bit w 40, member := bits (k.at 0x18) 11 0, holder := bits (k.at 0x18) 43 32
                         hostAddr := k.at 0x20 }
    if !s.firnServes || !s.firnIdle then s
    else if r.source = 3 then s.finish ctx queue k.ssn stCMD_INVALID 0x02
    else
      let go := (s.setPhase ctx queue k.ssn .running).modFirn (fun f => { f with restore := some r })
      go.withLocal r (fun s =>
        if r.source = 2 then s
        else match s.restoreManifest r [] with
          | none => (s.finish ctx queue k.ssn fNO_CHECKPOINT 0).modFirn (fun f => { f with restore := none })
          | some m =>
            if s.restoreFits ctx m.2.1 then s
            else (s.finish ctx queue k.ssn stADDR_FAULT 0).modFirn (fun f => { f with restore := none })))

/-- The copies of a shard's stored bytes in the order R503 and R504 try them, with the copy codes of Table 15-11. `own` is what the local
slot holds, where the copy is local, and `sent` lists what other parts sent, with the digest each sent for it. -/
def State.shardCopies (s : State) (r : Restore) (own : Option (List Byte)) (e : CkptEntry) (sent : List (List Byte × List Byte)) :
    List (Nat × List Byte) :=
  if e.ref.isSome then sent.map (fun c => (1, c.1))
  else (match own with
    | some bs => [(if r.source = 0 then 0 else 1, bs)]
    | none => sent.map (fun c => (1, c.1))) ++
    (if r.hostFb then [(2, s.hostBytes (r.hostAddr + e.off) e.stored)] else [])

/-- The first copy whose digest is right, with the tokens of those that were not; `glitch` says that the first read of the
first copy failed and the second did not. -/
def State.pickCopy (s : State) (r : Restore) (i writer : Nat) (digest : List Byte) (glitch : Bool) :
    List (Nat × List Byte) → State × Option (List Byte)
  | [] => (s, none)
  | (c, bs) :: rest =>
    if sha256 bs = digest then
      (if glitch then s.digestTok kSHARD_DIGEST i r.step c writer true else s, some bs)
    else (s.digestTok kSHARD_DIGEST i r.step c writer false).pickCopy r i writer digest false rest

/-- How the restoring of entries stands: it goes on, it ends the command with a status, or it stopped at memory that could not be used
(R213). -/
inductive RestoreStep where
  | goes | ends (status : Nat) | stopped
  deriving DecidableEq, Repr

/-- One entry of a manifest is restored: its stored bytes are found, checked, widened and written to SRC_ADDR. -/
def State.restoreEntry (s : State) (r : Restore) (slot : Option Nat) (writer i : Nat) (e : CkptEntry)
    (sent : List (List Byte × List Byte)) (glitch : Bool) : State × RestoreStep :=
  let good := sent.filter (fun c => sha256 c.1 = c.2)
  if e.ref.isSome && good.any (fun c => c.2 != e.digest) then (s, .ends fREPLICA_DIVERGED)
  else
    let own := match slot with
      | some a => if e.ref.isSome then (s, some none) else
          let v := s.readMem (a + e.off) e.stored
          (v.1, v.2.map some)
      | none => (s, some none)
    match own.2 with
    | none => (own.1, .stopped)
    | some mine =>
      match own.1.pickCopy r i ((e.ref.map (·.2.1)).getD writer) e.digest glitch (own.1.shardCopies r mine e sent) with
      | (s, none) => (s, .ends fRESTORE_DIGEST)
      | (s, some bs) =>
        let out := decodeShard e.fmt bs
        let w := ((s.addSat FIRN.NONFINITE_COUNT out.2).firnMoved out.1.length).writeMem e.src out.1
        (w.1, if w.2 then .goes else .stopped)

/-- The entries of a manifest restored in order, up to the first that ends the command or stops. -/
def State.restoreAll (s : State) (r : Restore) (slot : Option Nat) (writer : Nat)
    (fetched : List (Nat × List Byte × List Byte)) (glitch : List Nat) : List (Nat × CkptEntry) → State × RestoreStep
  | [] => (s, .goes)
  | (i, e) :: rest =>
    match s.restoreEntry r slot writer i e ((fetched.filter (fun f => f.1 = i)).map (·.2)) (glitch.contains i) with
    | (s, .goes) => s.restoreAll r slot writer fetched glitch rest
    | v => v

/-- The restored regions are undefined: free bytes over every destination. -/
def State.undefine (s : State) (es : List (Nat × CkptEntry)) : State :=
  let d := s.draws
  s.drew.each es (fun s e => s.store e.2.src ((List.range e.2.len).map (fun j => Config.freeByte d (e.2.src + j))))

/-- A RESTORE ends with a status. -/
def State.restoreOver (s : State) (r : Restore) (status : Nat) : State :=
  (s.finish r.ctx r.queue r.ssn status 0).modFirn (fun f => { f with restore := none })

/-- The whole of a RESTORE's transfers. -/
def State.restoreEnd (s : State) (r : Restore) (remote : List Byte) (fetched : List (Nat × List Byte × List Byte))
    (glitch : List Nat) : State :=
  s.withLocal r (fun s =>
  match s.restoreManifest r remote with
  | none => s.restoreOver r fNO_CHECKPOINT
  | some (slot, m, bad) =>
    if !s.restoreFits r.ctx m then s.restoreOver r stADDR_FAULT
    else
      let copy := if r.source = 0 then 0 else 1
      let s := s.each bad (fun s i => s.digestTok kMANIFEST_DIGEST i r.step copy m.writer true)
      let es := (m.entries.map entryOf).zipIdx.map (fun e => (e.2, e.1))
      match s.restoreAll r slot m.writer fetched glitch es with
      | (s, .goes) => s.restoreOver r stOK
      | (s, .ends st) => (if st = fRESTORE_DIGEST then s.undefine es else s).restoreOver r st
      | (s, .stopped) => s)

/-- RESTORE_DONE: what other parts sent (a manifest for SOURCE 2; shards by entry, each with the digest its sender gave) and the
entries whose first read failed. -/
def execRestoreDone (manifest : List Byte) (fetched : List (Nat × List Byte × List Byte)) (glitch : List Nat) (s : State) : Out :=
  .next (match s.firn.restore with
  | none => s
  | some r => if !s.firnServes || s.firnPaused r.ctx then s else s.restoreEnd r manifest fetched glitch)

/-! ### HOME, HOLD_ENT, BUDDY and CTX_IMG (R468, R485) -/

def offFirn (o : Nat) : Nat := pgFIRN * 4096 + o

/-- The valid areas of the part: the home area (16) and the held ones by entry. -/
def State.areas (s : State) : List (Nat × Nat × Area) :=
  (if s.on FIRN.HOME_VALID then
    [(16, s.rd FIRN.HOME_STACK, s.areaAt (s.rd FIRN.HOME_STACK) (s.rd FIRN.HOME_OFFSET) (s.rd FIRN.HOME_SIZE))] else []) ++
  (s.firn.hold.filter (fun e => bit e.2 31)).map (fun e =>
    (e.1, bits e.2 29 28, s.areaAt (bits e.2 29 28) (bits e.2 27 20) (bits e.2 19 12)))

/-- An area of an even SIZE lies in the BUDDY region of an in-service stack and overlaps no other one. -/
def State.areaOk (s : State) (self stack off size : Nat) : Bool :=
  let a := s.areaAt stack off size
  size % 2 = 0 && s.on HBM.HBM_STAT_IN_SERVICE stack &&
  (off + size) * areaUnit ≤ s.rd HBM.HBM_CARVE_BUDDY_GIB stack * 0x4000_0000 &&
  s.areas.all (fun b => b.1 = self || b.2.2.base + 2 * b.2.2.slot ≤ a.base || a.base + 2 * a.slot ≤ b.2.2.base)

/-- Firn lets HOME, HOLD_ENT and BUDDY be written. -/
def State.areaFree (s : State) (self stack off size : Nat) (valid : Bool) : Bool :=
  s.firnIdle && (!valid || s.areaOk self stack off size)

/-- A write of one of HOME, HOLD_ENT and BUDDY by its 32-bit word (R485, R501). -/
def State.areaWrite (s : State) (port : Authority) (o v : Nat) : State :=
  if o = 0x58 then
    if !s.firnIdle then s.cfgDenied port (offFirn o)
    else (s.wr FIRN.BUDDY_VALID (bits v 31 31)).wr FIRN.BUDDY_PART (bits v 11 0)
  else if o = 0x5C then
    if !s.areaFree 16 (bits v 25 24) (bits v 23 16) (bits v 7 0) (bit v 31) then s.cfgDenied port (offFirn o)
    else (((s.wr FIRN.HOME_VALID (bits v 31 31)).wr FIRN.HOME_STACK (bits v 25 24)).wr FIRN.HOME_OFFSET (bits v 23 16)).wr
      FIRN.HOME_SIZE (bits v 7 0)
  else if o = 0x64 then
    let i := s.rd FIRN.HOLD_IDX_IDX
    if !s.areaFree i (bits v 29 28) (bits v 27 20) (bits v 19 12) (bit v 31) then s.cfgDenied port (offFirn o)
    else
      let old := s.holdEnt i
      let w := Nat.land v 0xBFFF_FFFF
      let s := s.modFirn (fun f => { f with
        hold := if w = 0 then SMap.drop f.hold i else SMap.put f.hold i w
        helds := f.helds.filter (fun h => h.member != bits old 11 0) })
      s.when (bit old 31 && !bit v 31) (fun s => s.raise pgFIRN kBUDDY_LOST (bits old 11 0) 3)
  else s

/-- FIRN_AREA_WRITE: `reg` is the register's offset in the page. -/
def execFirnAreaWrite (port : Authority) (reg value : Nat) (s : State) : Out :=
  .next (s.gated port (offFirn reg) 4 (fun s =>
    if s.mayWrite port FIRN.HOME_VALID then s.areaWrite port reg value else s))

/-- A write of CTX_IMG: the image region and survival bits of the context that CTX_SEL names. -/
def State.imgWrite (s : State) (port : Authority) (v : Nat) : State :=
  let x := s.rd FIRN.CTX_SEL_CTX
  if (s.ctx x).state = .frozen then s.cfgDenied port (offFirn 0x74)
  else s.modCtx x (fun c =>
    let g : CtxCfg := { c.cfg with imgOff := bits v 31 17, imgMib := bits v 16 4 }
    { c with cfg := { g with survChip := bit v 2, survPart := bit v 1, survEng := bit v 0 } })

/-- CTX_IMG_WRITE. -/
def execCtxImgWrite (port : Authority) (value : Nat) (s : State) : Out :=
  .next (s.gated port (offFirn 0x74) 4 (fun s => if s.mayWrite port FIRN.CTX_IMG_IMG_OFF then s.imgWrite port value else s))

end Sys2Proof.Machine
end

