-- ==== Sys2Proof/Machine/Memory.lean ====
section
/-! DEFINITION. What comes about in the memories by itself, and the buddy reserve (*Stacked SRAM, HBM3E and End-to-End Parity*):
the rows HBM_ODECC_REPORT to STACK_LEAVES_SERVICE of the table. -/
namespace Sys2Proof.Machine

/-! ### On-die corrections (R218) -/

/-- The hour of field time that runs. -/
def State.hourNow (s : State) : Nat := s.ftime / 360000000000

/-- The count of a stack in hour h: it returns to 0 where a new hour has begun. -/
def HbmStack.inHour (k : HbmStack) (h : Nat) : HbmStack :=
  if k.hour = h then k else { k with hour := h, hourCount := 0, rateRaised := false }

/-- HBM_ODECC_REPORT: stack `stack` corrected an error on its die. -/
def execHbmOdeccReport (stack : Nat) (s : State) : Out :=
  .next (if 4 ≤ stack || !s.mainRuns || !s.on HBM.HBM_STAT_IN_SERVICE stack then s
  else
    let k := (s.hbm stack).inHour s.hourNow
    let n := k.hourCount + 1
    let late := 4096 < n && !k.rateRaised
    let s := (s.count HBM.HBM_ODECC_COUNT stack).modHbm stack (fun _ => { k with hourCount := n, rateRaised := k.rateRaised || late })
    s.when late (fun s => s.raise (pgSTACK stack) kHBM_ODECC_RATE 0 (min n 0xFFFF)))

/-- HBM_ODECC_HOUR: an hour of field time begins; the counts of the hour before return to 0. -/
def execHbmOdeccHour (s : State) : Out :=
  .next { s with hbms := s.hbms.map (fun (e : Nat × HbmStack) => (e.1, e.2.inHour s.hourNow)) }

/-! ### The patrol scrub (R235) -/

/-- The scrub reads one word or sector at local offset a: what R211 to R219 say of any read happens. A word that needed no
correction has been passed (R212). -/
def State.scrubAt (s : State) (a n : Nat) : State × Bool :=
  match touched s.marksU a n with
  | m :: _ => (s.memUe m, false)
  | [] =>
    let hit := !(touched s.marksC a n).isEmpty
    ((s.readMem a n).1, !hit)

/-- Physical bank b of core c is in service. -/
def State.bankServes (s : State) (c b : Nat) : Bool := !bit (s.rd SPAD.SPAD_FENCED_BANKS c) b

/-- The next offset of core c from o up, over the physical banks in ascending order, that lies in an in-service bank; none at the end of
the slice. -/
def State.nextInService (s : State) (c o : Nat) : Option Nat :=
  if 64 * bankSize ≤ o then none
  else if s.bankServes c (o / bankSize) then some o
  else ((List.range 64).find? (fun b => o / bankSize < b && s.bankServes c b)).map (· * bankSize)

/-- One step of the patrol over the slice of core c. A bank that no logical bank maps to holds no word that an address names: reading it
shows nothing (log 175). -/
def State.scrubSpad (s : State) (c : Nat) : State :=
  match s.nextInService c ((s.core c).scrubPos * 8) with
  | none => (s.modCore c (fun k => { k with scrubPos := 0 })).bump SPAD.SPAD_SCRUB_PASSES c
  | some o =>
    match s.logicalOf c (o / bankSize) with
    | none => s.modCore c (fun k => { k with scrubPos := o / 8 + 1 })
    | some j =>
      let a := sliceBase c + j * bankSize + o % bankSize
      let r := s.scrubAt a 8
      r.1.modCore c (fun k => { k with scrubPos := o / 8 + 1, ceSeen := if r.2 then k.ceSeen.filter (fun m => m != a) else k.ceSeen })

/-- One step of the patrol over stack k. -/
def State.scrubHbm (s : State) (k : Nat) : State :=
  let o := (s.hbm k).scrubPos * 64
  if hbmSize ≤ o then (s.modHbm k (fun h => { h with scrubPos := 0 })).bump HBM.HBM_SCRUB_PASSES k
  else
    let a := k * hbmSize + o
    let r := s.scrubAt a 64
    r.1.modHbm k (fun h => { h with scrubPos := o / 64 + 1, ceSeen := if r.2 then h.ceSeen.filter (fun m => m != a) else h.ceSeen })

/-- SCRUB_STEP: the patrol of the slice of core `unit`, or of stack `unit`. -/
def execScrubStep (hbm : Bool) (unit : Nat) (s : State) : Out :=
  .next (if !s.inService || 2 ≤ s.rd DRONE.PWR_STAT_STATE then s
  else if hbm then
    (if unit < 4 && s.on HBM.HBM_STAT_IN_SERVICE unit && !s.on HBM.HBM_STAT_SELF_REFRESH unit then s.scrubHbm unit else s)
  else if unit < 16 && s.fused unit && s.rd HDR.STAT_STATE (pgSPAD unit) != stRESET then s.scrubSpad unit
  else s)

/-! ### Path parity (R222–R224) -/

/-- The source of a transfer reads its stored copy at an address again and checks its own code (R222): a memory reads the word or
sector, and another block holds its copy itself. -/
def State.rereadSource (s : State) (src addr : Nat) : State × Bool :=
  if memPage addr = some src then
    let n := if addr < spadBase then 64 else 8
    let r := s.readMem (addr / n * n) n
    (r.1, r.2.isSome)
  else (s, true)

/-- A retried transfer that fails parity too: PATH_PARITY_UE, and both transfers are discarded (R224, R225). -/
def State.pathUe (s : State) (dst src addr : Nat) : State :=
  { s.raise dst kPATH_PARITY_UE addr src with lostPaths := s.lostPaths ++ [(dst, src, addr)] }

/-- PATH_RETRY_RESULT: page `dst` found bad parity in a transfer from page `src` at an address and asked for it again; the retry arrived
with good parity or not, and with equal data or not. A source that cannot read its copy any more sends nothing. -/
def execPathRetryResult (dst src addr : Nat) (good equal : Bool) (s : State) : Out :=
  .next (if !s.mainRuns || !allPages.contains dst then s
  else
    let r := s.rereadSource src addr
    if !r.2 then { r.1 with lostPaths := r.1.lostPaths ++ [(dst, src, addr)] }
    else if !good then r.1.pathUe dst src addr
    else r.1.raiseTok { src := dst, kind := kPATH_PARITY, cls := defaultClass kPATH_PARITY dst, chk := equal
                        addr := addr % 2 ^ 48, detail := src % 2 ^ 16 })

/-! ### Bank migration (R214) -/

/-- The next bank of core c that waits for a migration starts one; `n` bounds how many are lost on the way. -/
def State.nextMigration (s : State) (c : Nat) : Nat → State
  | 0 => s
  | n + 1 =>
    match (s.core c).migQueue with
    | [] => s
    | j :: rest =>
      let s := (s.modCore c (fun k => { k with migQueue := rest })).startMigration c j
      if (s.core c).mig.isSome then s else s.nextMigration c n

/-- BANK_MIGRATION_DONE: the copy has read every word of the logical bank, with SECDED correction. A target bank that was fenced meanwhile
gives way to another, and an uncorrectable error stops the copy (R213). -/
def execBankMigrationDone (core : Nat) (s : State) : Out :=
  .next (match (s.core core).mig with
  | none => s
  | some m =>
    if !s.mainRuns || s.rd HDR.STAT_STATE (pgSPAD core) = stRESET then s
    else if bit (s.rd SPAD.SPAD_FENCED_BANKS core) m.phys then
      ((s.wr SPAD.SPAD_STAT_MIGRATING 0 core).modCore core (fun k => { k with mig := none })).startMigration core m.logical
    else
      let r := s.readCheck (sliceBase core + m.logical * bankSize) bankSize
      if !r.2 then r.1
      else
      let s := (r.1.wr SPAD.SPAD_BANKMAP_PHYS m.phys core m.logical).wr SPAD.SPAD_BANKMAP_VALID 1 core m.logical
      let s := (s.wr SPAD.SPAD_STAT_MIGRATING 0 core).wr SPAD.SPAD_STAT_MIG_BANK 0 core
      let s := s.modCore core (fun k => { k with mig := none })
      s.nextMigration core (s.core core).migQueue.length)

/-! ### The buddy reserve (R232) -/

/-- A slot of an area holds a copy: a manifest stands in it, or a copy is being written to it. -/
def State.slotHolds (s : State) (a : Area) (i : Nat) : Bool :=
  (s.slotManifest (a.slotAt i)).isSome ||
  s.firn.helds.any (fun h => h.slot = i && s.heldArea h.member = some a) ||
  (match s.firn.ckpt with | some k => k.slot = i && s.homeArea = some a | none => false)

/-- A context extent or a copy lies in the part of stack k that a new size of the reserve would add or remove. -/
def State.reserveUsed (s : State) (k new : Nat) : Bool :=
  let old := s.buddyBase k
  let now := 0x7_F400_0000 - new * 0x4000_0000
  let lo := min old now
  let hi := max old now
  s.ctxs.any (fun e => e.2.owned && e.2.cfg.home = k && e.2.cfg.hbmBase * 0x400_0000 < hi &&
    lo < (e.2.cfg.hbmBase + e.2.cfg.hbmLen) * 0x400_0000) ||
  s.areas.any (fun a => a.2.1 = k && [0, 1].any (fun i => s.slotHolds a.2.2 i &&
    a.2.2.slotAt i < k * hbmSize + hi && k * hbmSize + lo < a.2.2.slotAt i + a.2.2.slot))

/-- A write of BUDDY_GIB of stack k. -/
def State.gibWrite (s : State) (k v : Nat) : State :=
  if 12 < v then s
  else if v != s.rd HBM.HBM_CARVE_BUDDY_GIB k && s.reserveUsed k v then s.wr HBM.HBM_CARVE_CARVE_RESULT 1 k
  else (s.wr HBM.HBM_CARVE_BUDDY_GIB v k).wr HBM.HBM_CARVE_CARVE_RESULT 0 k

def offCarve (k : Nat) : Nat := pgSTACK k * 4096 + 0x4C

/-- BUDDY_GIB_WRITE: a write of HBM_CARVE of a stack. -/
def execBuddyGibWrite (port : Authority) (stack value : Nat) (s : State) : Out :=
  .next (if 4 ≤ stack then s
  else s.gated port (offCarve stack) 4 (fun s =>
    if s.mayWrite port HBM.HBM_CARVE_BUDDY_GIB then s.gibWrite stack (bits value 3 0) else s))

/-- STACK_LEAVES_SERVICE at run time (R234). -/
def execStackLeavesService (stack : Nat) (s : State) : Out :=
  .next (if stack < 4 && s.inService && s.on HBM.HBM_STAT_IN_SERVICE stack then (s.stackLeaves stack).setLive else s)

end Sys2Proof.Machine
end

