-- ==== Sys2Proof/Machine/Tenancy.lean ====
section
/-! DEFINITION. Tenancy (*Tenancy, Interrupts, Quality of Service and the Urgent Path*): assigning and releasing contexts, their
placement and settings, core sets and shares: the rows ASSIGN to SHARE_WRITE of the table. -/
namespace Sys2Proof.Machine

def offQeng (o : Nat) : Nat := pgQENG * 4096 + o

/-! ### Placement (R275) -/

/-- Two masks share a bit, and one lies within another. -/
def meets (a b : Nat) : Bool := Nat.land a b != 0
def within (a b : Nat) : Bool := Nat.land a b = a

/-- Two runs of numbers share one. -/
def runsMeet (a n b m : Nat) : Bool := 0 < n && 0 < m && a < b + m && b < a + n

/-- A scratchpad extent over the cores of a mask overlaps another owned context's. -/
def State.spadClash (s : State) (x mask first nb : Nat) : Bool :=
  s.ctxs.any (fun e => e.1 != x && e.2.owned && meets e.2.cfg.affinity mask && runsMeet first nb e.2.cfg.spadFirst e.2.cfg.spadNb)

/-- A scratchpad extent over the cores of a mask names a bank that is absent or does not exist. -/
def State.spadMissing (s : State) (mask first nb : Nat) : Bool :=
  64 < first + nb || (coresOf mask).any (fun c => (List.range nb).any (fun b => !s.bankPresent c (first + b)))

/-- The HBM extent of a context overlaps another owned context's. -/
def State.hbmClash (s : State) (x : Nat) (c : CtxCfg) : Bool :=
  s.ctxs.any (fun e => e.1 != x && e.2.owned && e.2.cfg.home = c.home && runsMeet c.hbmBase c.hbmLen e.2.cfg.hbmBase e.2.cfg.hbmLen)

/-- The cores of quadrant q. -/
def quadMask (q : Nat) : Nat := 0xF * 2 ^ (4 * q)

/-- A mask lies in quadrant q and in the core set of owner o. -/
def State.affinityFits (s : State) (mask q o : Nat) : Bool :=
  mask != 0 && within mask (quadMask q) && within mask (s.rd QENG.OWN_CORES_CORES 0 o)

/-- The placement of a context is bad for owner o, apart from overlaps. -/
def State.badPlacement (s : State) (c : CtxCfg) (o : Nat) : Bool :=
  !s.affinityFits c.affinity c.home o || !bit (s.rd CHIP.SVC_LEVEL_CQUAD) c.home ||
  s.spadMissing c.affinity c.spadFirst c.spadNb ||
  (0 < c.hbmLen && s.buddyBase c.home < (c.hbmBase + c.hbmLen) * 0x400_0000)

/-- RESULT of an ASSIGN of context x to owner o (Table 8-1, R272). -/
def State.assignResult (s : State) (x o : Nat) : Nat :=
  let c := s.ctx x
  if c.owned then 1
  else if s.rangeVf x != o then 2
  else if o != 0 && (2 ≤ s.lc || (s.lc = 1 && s.debugLevel = 2)) then 6
  else if s.badPlacement c.cfg o then 4
  else if s.spadClash x c.cfg.affinity c.cfg.spadFirst c.cfg.spadNb || s.hbmClash x c.cfg then 3
  else 0

/-- A lifetime of context x begins for owner o (R240): only its configuration stays. -/
def State.beginLife (s : State) (x o : Nat) : State :=
  let s := s.setCtx x { state := .owned, owner := o, cfg := (s.ctx x).cfg }
  let s := { s with urgent := s.urgent.filter (fun u => u.1 != x)
                    fabric := { s.fabric with lastCgen := SMap.drop s.fabric.lastCgen x } }
  s.modFirn (fun f => { f with lastClean := SMap.drop f.lastClean x, verdicts := f.verdicts.filter (fun v => v.1 != x) })

/-- A release is under way (CTX_CMD_STAT.BUSY). -/
def State.releasing (s : State) : Bool := s.ctxs.any (fun e => e.2.zeroing || (e.2.reset.map (·.release)).getD false)

/-- Set CTX_CMD_STAT.RESULT. -/
def State.cmdResult (s : State) (v : Nat) : State := s.wr QENG.CTX_CMD_STAT_RESULT v

/-- ASSIGN of context x to owner o. -/
def State.assign (s : State) (x o : Nat) : State :=
  let r := s.assignResult x o
  (s.when (r = 0) (fun s => s.beginLife x o)).cmdResult r

/-- RELEASE of context x (R273). -/
def State.release (s : State) (x : Nat) : State :=
  let c := s.ctx x
  if !c.owned then s.cmdResult 5
  else if c.state = .lost then
    ((s.dropImage x).setCtx x { c with state := .recovering, zeroing := true, deficit := 0 }).cmdResult 0
  else (s.resetContext { level := 1, domain := x, host := true } true).cmdResult 0

/-- A write of QENG.CTX_CMD. An OP that Table 8-1 reserves does nothing. -/
def State.ctxCmd (s : State) (port : Authority) (v : Nat) : State :=
  if s.releasing then s.cfgDenied port (offQeng 0x40)
  else if bits v 31 28 = 1 then s.assign (bits v 12 0) (bits v 21 16)
  else if bits v 31 28 = 2 then s.release (bits v 12 0)
  else s

/-- ASSIGN. -/
def execAssign (port : Authority) (ctx owner : Nat) (s : State) : Out :=
  .next (s.gated port (offQeng 0x40) 4 (fun s =>
    if s.mayWrite port QENG.CTX_CMD_OP then s.ctxCmd port (2 ^ 28 + owner % 64 * 2 ^ 16 + ctx % 8192) else s))

/-- RELEASE. -/
def execRelease (port : Authority) (ctx : Nat) (s : State) : Out :=
  .next (s.gated port (offQeng 0x40) 4 (fun s =>
    if s.mayWrite port QENG.CTX_CMD_OP then s.ctxCmd port (2 ^ 29 + ctx % 8192) else s))

/-- Every extent of context x is zero, with valid codes (R238). -/
def State.zeroExtents (s : State) (x : Nat) : State :=
  let c := s.ctx x
  let s := s.each (coresOf c.cfg.affinity) (fun s k => s.zero (c.extentLo k) (c.extentLo k + c.extentSize))
  let lo := c.cfg.home * hbmSize + c.cfg.hbmBase * 0x400_0000
  s.zero lo (lo + c.cfg.hbmLen * 0x400_0000)

/-- RELEASE_DONE: the zeroing is complete; the context is UNOWNED, its deficit 0 (R289), and the requests held for it are refused (R329).
What R240 sets at the start of a lifetime keeps its value until then. -/
def execReleaseDone (ctx : Nat) (s : State) : Out :=
  .next (if !(s.ctx ctx).zeroing || !s.inService then s
  else (((s.zeroExtents ctx).dropImage ctx).modCtx ctx (fun c => { c with
    state := .unowned, owner := 0, zeroing := false, reset := none, deficit := 0
    queues := c.queues.map (fun (e : Nat × Queue) => (e.1, { e.2 with cmds := [] })) })).serveHeld)

/-! ### The selected context's configuration (R274, R281, Table 8-5) -/

/-- The vectors that an owner's contexts may use. -/
def vectorOk (owner v : Nat) : Bool := if owner = 0 then 16 ≤ v && v < 2048 else v < 64

/-- A new AFFINITY for an owned context: it keeps the cores that hold the extent, stays where R275 lets it lie, and the extent
fits on every core it adds. -/
def State.affinityOk (s : State) (x mask : Nat) : Bool :=
  let c := s.ctx x
  let added := mask - Nat.land mask c.cfg.affinity
  (c.cfg.spadNb = 0 || within c.cfg.affinity mask) && s.affinityFits mask c.cfg.home c.owner &&
  !s.spadMissing added c.cfg.spadFirst c.cfg.spadNb && !s.spadClash x added c.cfg.spadFirst c.cfg.spadNb

/-- A write of CTX_CFG: `lo` and `hi` are its words, where the write covers them. -/
def State.cfgWrite (s : State) (port : Authority) (o len : Nat) (lo hi : Option Nat) : State :=
  let x := s.rd QENG.CTX_SEL_CTX
  let c := s.ctx x
  let aff := (lo.map (fun w => bits w 15 0)).getD c.cfg.affinity
  let home := (lo.map (fun w => bits w 17 16)).getD c.cfg.home
  let okPlace := !c.owned || (home = c.cfg.home && (aff = c.cfg.affinity || s.affinityOk x aff))
  let okVec := (hi.map (fun w => vectorOk (s.ctxVf x) (bits w 10 0))).getD true
  if !okPlace || !okVec then s.cfgDenied port (offQeng o) pgHOSTIF len
  else
    let g := c.cfg
    let g : CtxCfg := match lo with
      | some w => { g with affinity := aff, home := home, intEn := bit w 19, weight := bits w 31 24 }
      | none => g
    let g : CtxCfg := match hi with
      | some w => { g with vector := bits w 10 0, modCnt := bits w 23 16, modUs := bits w 31 24 }
      | none => g
    let drop := c.cfg.intEn && !g.intEn
    s.setCtx x { c with cfg := g, pending := if drop then 0 else c.pending
                        firstPending := if drop then none else c.firstPending }

/-- A write of CTX_SPAD. -/
def State.spadWrite (s : State) (port : Authority) (w : Nat) : State :=
  let x := s.rd QENG.CTX_SEL_CTX
  let c := s.ctx x
  if c.owned && !(bits w 14 8 = c.cfg.spadNb && bits w 5 0 = c.cfg.spadFirst) then s.cfgDenied port (offQeng 0x58)
  else s.setCtx x { c with cfg := { c.cfg with spadNb := bits w 14 8, spadFirst := bits w 5 0 } }

/-- A write of CTX_HBM. -/
def State.hbmWrite (s : State) (port : Authority) (w : Nat) : State :=
  let x := s.rd QENG.CTX_SEL_CTX
  let c := s.ctx x
  if c.owned && !(bits w 24 16 = c.cfg.hbmLen && bits w 8 0 = c.cfg.hbmBase) then s.cfgDenied port (offQeng 0x5C)
  else s.setCtx x { c with cfg := { c.cfg with hbmLen := bits w 24 16, hbmBase := bits w 8 0 } }

/-- A write of 4 or 8 bytes at an offset of the QENG page from 0x50 to 0x5C. -/
def State.ctxCfgWrite (s : State) (port : Authority) (o len v : Nat) : State :=
  let lo := v % 2 ^ 32
  let hi := v / 2 ^ 32 % 2 ^ 32
  if o = 0x50 then s.cfgWrite port o len (some lo) (if len = 8 then some hi else none)
  else if o = 0x54 then s.cfgWrite port o len none (some lo)
  else if o = 0x58 then
    let s := s.spadWrite port lo
    if len = 8 then s.hbmWrite port hi else s
  else if o = 0x5C then s.hbmWrite port lo
  else s

/-- CTX_CFG_WRITE: `reg` is the offset in the page. -/
def execCtxCfgWrite (port : Authority) (reg len value : Nat) (s : State) : Out :=
  .next (s.gated port (offQeng reg) len (fun s =>
    if s.mayWrite port QENG.CTX_CFG_AFFINITY then s.ctxCfgWrite port reg len value else s))

/-! ### Core sets and shares (R276, R286) -/

/-- A write of OWN_CORES[o]. -/
def State.ownWrite (s : State) (port : Authority) (o v : Nat) : State :=
  let mask := bits v 15 0
  if s.ctxs.all (fun e => !(e.2.owned && e.2.owner = o) || within e.2.cfg.affinity mask) then s.wr QENG.OWN_CORES_CORES mask 0 o
  else s.cfgDenied port (offQeng (0x100 + 4 * o))

/-- OWN_CORES_WRITE. -/
def execOwnCoresWrite (port : Authority) (owner value : Nat) (s : State) : Out :=
  .next (if 64 ≤ owner then s
  else s.gated port (offQeng (0x100 + 4 * owner)) 4 (fun s =>
    if s.mayWrite port QENG.OWN_CORES_CORES then s.ownWrite port owner value else s))

/-- The bytes of a write of SHARE of quadrant q from owner o up: each is checked, and the first that would push the sum above
256 is dropped with those after it (Table 8-7). -/
def State.shareBytes (s : State) (port : Authority) (q off len o : Nat) : List Nat → State
  | [] => s
  | b :: rest =>
    if s.shareSum q - s.rd QUAD.SHARE q o + b ≤ 256 then (s.wr QUAD.SHARE b q o).shareBytes port q off len (o + 1) rest
    else s.cfgDenied port off (pgQUAD q) len

/-- A write of 4 or 8 SHARE bytes from owner `o` up. -/
def State.shareWrite (s : State) (port : Authority) (q o len v : Nat) : State :=
  s.shareBytes port q (pgQUAD q * 4096 + 0x100 + o) len o ((List.range len).map (fun j => bits v (8 * j + 7) (8 * j)))

/-- SHARE_WRITE. -/
def execShareWrite (port : Authority) (quad owner len value : Nat) (s : State) : Out :=
  .next (if 4 ≤ quad || 64 < owner + len then s
  else s.gated port (pgQUAD quad * 4096 + 0x100 + owner) len (fun s =>
    if s.mayWrite port QUAD.SHARE then s.shareWrite port quad owner len value else s))

end Sys2Proof.Machine
end

