-- ==== Sys2Proof/Machine/Security.lean ====
section
/-! DEFINITION. Lifecycle, vendor tokens, debug levels and firmware updates (*Port Authority, Lifecycle and Debug*): the rows
LC_REQ_FIELD to FW_UPDATE_DONE and LC_FUSE_BURN_DONE of the table. -/
namespace Sys2Proof.Machine

def offSec (o : Nat) : Nat := pgSEC * 4096 + o

def tsBAD_FORMAT : Nat := 1
def tsBAD_SIG : Nat := 2
def tsWRONG_PART : Nat := 3
def tsSTALE : Nat := 4
def tsWRONG_KIND : Nat := 5
def tsBUSY : Nat := 6
def tsEXHAUSTED : Nat := 7
def tsNOT_ALLOWED : Nat := 8

/-- TOKEN_STAT.RESULT. -/
def State.tokResult (s : State) (c : Nat) : State := s.wr SEC.TOKEN_STAT_RESULT c

/-! ### Vendor tokens (R574–R576) -/

/-- KIND of a token's bytes. -/
def tokenKind (b : List Byte) : Nat := leAt b 4 1

/-- The result of checking a token's bytes at its load, in the order of Table 18-6. -/
def State.tokenReason (s : State) (b : List Byte) : Nat :=
  if leAt b 0 4 != 0x4B56_544B || leAt b 7 1 != 1 || leAt b 5 2 != 0 || leAt b 0x18 8 != 0 then tsBAD_FORMAT
  else if !signatureOk 2 (sha256 (b.take 0x20)) ((b.drop 0x20).take 96) then tsBAD_SIG
  else if leAt b 8 8 != s.sec.serial then tsWRONG_PART
  else if leAt b 0x10 8 != s.boot.nonce then tsSTALE
  else 0

/-- The loaded token is used or replaced by none. -/
def State.dropToken (s : State) : State := { s.wr SEC.TOKEN_STAT_KIND 0 with sec := { s.sec with token := none } }

/-- A token is loaded in place of any other; one that is not valid loads nothing and counts in TOK_FAIL. -/
def State.tokenLoad (s : State) (b : List Byte) : State :=
  let r := s.tokenReason b
  let s := s.dropToken.tokResult r
  if r = 0 then { s.wr SEC.TOKEN_STAT_KIND (tokenKind b) with sec := { s.sec with token := some b } }
  else s.count SEC.SEC_STAT_TOK_FAIL

/-- A word written to SEC.TOKEN; the last one loads the token. -/
def State.tokenWord (s : State) (o v : Nat) : State :=
  let buf := Memory.writeBytes s.sec.tokenBuf o (toLE (v % 2 ^ 32) 4)
  let s := { s with sec := { s.sec with tokenBuf := buf } }
  if o = 0x17C then s.tokenLoad (Memory.readBytes buf 0x100 128) else s

/-- TOKEN_LOAD: the write of SEC.TOKEN at 0x17C. -/
def execTokenLoad (port : Authority) (value : Nat) (s : State) : Out :=
  .next (s.gated port (offSec 0x17C) 4 (fun s => if s.mayWrite port SEC.TOKEN then s.tokenWord 0x17C value else s))

/-! ### Lifecycle (R567–R571) -/

/-- KIND of the token that a transition needs (Table 18-3): 0 for none; no answer where the transition is not in the table. -/
def lcToken (from_ to_ : Nat) : Option Nat :=
  if from_ = 0 && to_ = 1 then some 0
  else if from_ = 1 && to_ = 2 then some 1
  else if from_ = 2 && to_ = 1 then some 2
  else if (from_ = 0 || from_ = 2) && to_ = 3 then some 0
  else if from_ = 1 && to_ = 3 then some 3
  else none

/-- Something that R570 requires to be over is in progress. -/
def State.lcBusy (s : State) : Bool :=
  s.ctxs.any (fun e => e.2.owned) || s.pci.vfEnable || !s.firnIdle || !s.firn.helds.isEmpty ||
  s.test.quads.any (fun e => e.2.phase != .none) || s.test.loading.isSome || s.sec.update.isSome || s.cal.writing.isSome ||
  s.sec.burning.isSome

/-- The refusal code of a transition to `to_`, 0 where it is accepted (R570, Table 18-6). -/
def State.lcReason (s : State) (to_ : Nat) : Nat :=
  match lcToken s.lc to_ with
  | none => tsNOT_ALLOWED
  | some k =>
    if s.lc = 1 && to_ = 2 && 7 ≤ s.sec.fuseCount then tsEXHAUSTED
    else if k != 0 && s.sec.token.isNone then tsNOT_ALLOWED
    else if k != 0 && (s.sec.token.map tokenKind) != some k then tsWRONG_KIND
    else if s.lcBusy then tsBUSY
    else 0

/-- A request for a lifecycle transition: refused with LIFECYCLE and TOKEN_STAT, or the burn begins. -/
def State.lcReq (s : State) (to_ : Nat) : State :=
  let r := s.lcReason to_
  if r != 0 then (s.tokResult r).raise pgSEC kLIFECYCLE 0 (s.lc * 0x1100 + r)
  else
    let s := if lcToken s.lc to_ = some 0 then s else s.dropToken
    { s with sec := { s.sec with burning := some (if to_ = 3 then 7 else s.sec.fuseCount), burnFrom := s.lc } }

/-- A write of LC_REQ. DEBUG may ask in MANUF and RETURN only (Table 18-2); a wrong KEY asks for nothing. -/
def State.lcWrite (s : State) (a : Authority) (v : Nat) : State :=
  if a = .debug && !(s.lc = 0 || s.lc = 2) then s.badAccess a kAUTH_DENIED (offSec 0x48) 4
  else if bits v 31 16 = 0x5EC0 then s.lcReq (bits v 1 0) else s

def State.lcGated (s : State) (a : Authority) (key to_ : Nat) : State :=
  s.gated a (offSec 0x48) 4 (fun s => if s.mayWrite a SEC.LC_REQ_KEY then s.lcWrite a (key % 2 ^ 16 * 2 ^ 16 + to_) else s)

/-- LC_REQ_FIELD. -/
def execLcReqField (port : Authority) (key : Nat) (s : State) : Out := .next (s.lcGated port key 1)

/-- LC_REQ_RETURN. -/
def execLcReqReturn (port : Authority) (key : Nat) (s : State) : Out := .next (s.lcGated port key 2)

/-- LC_REQ_SCRAP. -/
def execLcReqScrap (port : Authority) (key : Nat) (s : State) : Out := .next (s.lcGated port key 3)

/-- LC_FUSE_BURN_DONE: the three fuses are burned, LIFECYCLE is raised, and the steps to the chip reset begin (Table 18-5). -/
def execLcFuseBurnDone (s : State) : Out :=
  .next (match s.sec.burning with
  | none => s
  | some b =>
    let s := { s with sec := { s.sec with fuses := SMap.put s.sec.fuses b 3, burning := none } }
    let s := s.raise pgSEC kLIFECYCLE 0 (s.sec.burnFrom * 2 ^ 12 + s.sec.state * 2 ^ 8)
    s.chipRequest 5 { level := 4, domain := 0 })

/-! ### Debug levels (R577–R579) -/

/-- A context in some VF's range is owned. -/
def State.vfOwned (s : State) : Bool := s.ctxs.any (fun e => e.2.owned && s.rangeVf e.1 != 0)

/-- The refusal code of a request for a debug level, 0 where it is allowed (Table 18-7, R578). -/
def State.dbgReason (s : State) (a : Authority) (level : Nat) : Nat :=
  if level = 3 then tsNOT_ALLOWED
  else if level ≤ s.debugLevel then 0
  else if s.lc = 3 then tsNOT_ALLOWED
  else if s.lc != 1 then 0
  else if a != .host then tsNOT_ALLOWED
  else if level = 1 then 0
  else if s.sec.token.isNone then tsNOT_ALLOWED
  else if (s.sec.token.map tokenKind) != some 4 then tsWRONG_KIND
  else if s.vfOwned then tsBUSY
  else 0

/-- A request for a debug level; a raise to INVASIVE in FIELD uses the token up. -/
def State.dbgReq (s : State) (a : Authority) (level : Nat) : State :=
  let r := s.dbgReason a level
  let old := s.debugLevel
  if r != 0 then s.tokResult r
  else if level = old then s
  else
    let s := if s.lc = 1 && level = 2 then s.dropToken else s
    (s.wr SEC.SEC_STAT_DEBUG level).raise pgSEC kDEBUG_LEVEL 0 (old * 2 ^ 12 + level * 2 ^ 8 + 1)

def State.dbgGated (s : State) (a : Authority) (level : Nat) : State :=
  s.gated a (offSec 0x44) 4 (fun s => if s.mayWrite a SEC.DBG_REQ_LEVEL then s.dbgReq a level else s)

/-- DBG_REQ_SEALED. -/
def execDbgReqSealed (port : Authority) (s : State) : Out := .next (s.dbgGated port 0)

/-- DBG_REQ_OBSERVE. -/
def execDbgReqObserve (port : Authority) (s : State) : Out := .next (s.dbgGated port 1)

/-- DBG_REQ_INVASIVE. -/
def execDbgReqInvasive (port : Authority) (s : State) : Out := .next (s.dbgGated port 2)

/-! ### Firmware (R585, R586) -/

/-- A write of SVN_COMMIT: MIN_SVN rises to the SVN of the running image. -/
def State.svnCommit (s : State) (v : Nat) : State :=
  if bits v 31 16 = 0x5EC0 && s.boot.resident.isSome then
    s.wr SEC.SEC_STAT_MIN_SVN (max (s.rd SEC.SEC_STAT_MIN_SVN) s.sec.runSvn)
  else s

/-- SVN_COMMIT. -/
def execSvnCommit (port : Authority) (key : Nat) (s : State) : Out :=
  .next (s.gated port (offSec 0x50) 4 (fun s =>
    if s.mayWrite port SEC.SVN_COMMIT_KEY then s.svnCommit (key % 2 ^ 16 * 2 ^ 16) else s))

/-- The image that FW_ADDR and FW_LEN name: from the staging window for TRAY, where the address lies in it, else from host memory. -/
def State.fwImage (s : State) (a : Authority) : State × Option (List Byte) :=
  let addr := s.rd CHANTER.FW_ADDR_ADDR
  let n := min (s.rd CHANTER.FW_LEN_LEN) 0x10_1000
  if a = .tray && inStaging addr n then s.readMem (stagingAt addr) n else (s, some (s.hostBytes addr n))

/-- FW_CTL.UPDATE is set; while an update is in progress it does nothing. A staged image that HBM cannot give back counts as a failed
read. -/
def State.fwStart (s : State) (a : Authority) : State :=
  if s.sec.update.isSome then s
  else if s.lc = 3 then s.wr CHANTER.FW_STAT_RESULT 7
  else match s.fwImage a with
    | (s, some image) => { s.wr CHANTER.FW_STAT_BUSY 1 with sec := { s.sec with update := some image } }
    | (s, none) => s.wr CHANTER.FW_STAT_RESULT 6

/-- FW_UPDATE. -/
def execFwUpdate (port : Authority) (s : State) : Out :=
  .next (s.gated port (offChanter 0x14C) 4 (fun s =>
    if s.mayWrite port CHANTER.FW_CTL_UPDATE then s.fwStart port else s))

/-- The outcome of an update: whether the image could be read, and whether the slot was programmed and read back well. -/
def State.fwEnd (s : State) (image : List Byte) (readOk flashOk : Bool) : State :=
  let h := image.take 4096
  let b := (image.drop 4096).take (leAt h 0xC 4)
  let slot := 1 - s.sec.runSlot
  let base := slot * s.sec.flashHalf
  let close := fun (s : State) (r : Nat) => (s.wr CHANTER.FW_STAT_BUSY 0).wr CHANTER.FW_STAT_RESULT r
  let s := { s with sec := { s.sec with update := none } }
  let r := if !readOk then 6 else if image.length < 4096 then 1 else fwReason h b (s.rd SEC.SEC_STAT_MIN_SVN)
  if r != 0 then close s r
  else if !flashOk then
    let junk := (List.range 4096).map (fun k => Config.freeByte s.draws (base + k))
    close ({ s.drew with sec := { s.sec with flash := Memory.writeBytes s.sec.flash base junk } }.wr CHANTER.FW_STAT_SLOT slot) 5
  else
    let bytes := putLE h 0xFF0 4 (s.sec.runWseq + 1) ++ b
    let s := { s with sec := { s.sec with flash := Memory.writeBytes s.sec.flash base bytes } }
    let s := { s with boot := { s.boot with imgDig := none } }
    close (s.wr CHANTER.FW_STAT_SLOT slot) 0

/-- FW_UPDATE_DONE. -/
def execFwUpdateDone (readOk flashOk : Bool) (s : State) : Out :=
  .next (match s.sec.update with
  | some image => if s.inService then s.fwEnd image readOk flashOk else s
  | none => s)

end Sys2Proof.Machine
end

