-- ==== Sys2Proof/Machine/Windows.lean ====
section
/-! DEFINITION. Context windows: their writes by the owner and what they read (Table 7-9), with the rows CQ_CIDX_WRITE to
QUEUE_ENABLE_WRITE and VMARK_CLR of the table. -/
namespace Sys2Proof.Machine

/-! ### Writes -/

/-- CFG_DENIED for a write of a window. -/
def State.winDenied (s : State) (a : Authority) (i sub len : Nat) : State := s.cfgDenied a (windowOff a i sub) pgHOSTIF len

/-- What space on the completion ring brings: CQ_FULL falls, and a reset that waited goes on (R258, R263). -/
def State.cqSpace (s : State) (x : Nat) : State :=
  let s := if (s.ctx x).cq.room then s.modCtx x (fun c => { c with cqFull := false }) else s
  if (s.ctx x).reset.isSome then s.tryRecords x else s

/-- A write to CQ_CIDX: a value beyond CQ_PIDX is dropped. -/
def State.cqCidx (s : State) (x v : Nat) : State :=
  if before32 (s.ctx x).cq.pidx v then s
  else (s.modCtx x (fun c => { c with cq := { c.cq with cidx := v % 2 ^ 32 } })).cqSpace x

/-- A write to EQ_CIDX: the same rule; a GAP may follow (R259). -/
def State.eqCidx (s : State) (x v : Nat) : State :=
  if before32 (s.ctx x).eq.pidx v then s
  else (s.modCtx x (fun c => { c with eq := { c.eq with cidx := v % 2 ^ 32 } })).flushGap x

/-- Set one of the rings of a context. -/
def Ctx.setRing (c : Ctx) (isCq : Bool) (r : Ring) : Ctx := if isCq then { c with cq := r } else { c with eq := r }
def Ctx.ring (c : Ctx) (isCq : Bool) : Ring := if isCq then c.cq else c.eq

/-- A write to a ring's base: only while the ring is disabled, and aligned to 4 KiB (R245, R246). -/
def State.ringBase (s : State) (a : Authority) (i x sub len : Nat) (isCq : Bool) (v : Nat) : State :=
  let r := (s.ctx x).ring isCq
  if r.en || v % 4096 != 0 then s.winDenied a i sub len
  else s.modCtx x (fun c => c.setRing isCq { r with base := v % 2 ^ 64 })

/-- The context is IDLE with no record that waits to be posted. -/
def Ctx.quiet (c : Ctx) : Bool := c.state = .owned && !c.busy && !c.evDrop

/-- A write to a ring's enable and size (R246). -/
def State.ringCfg (s : State) (a : Authority) (i x sub : Nat) (isCq : Bool) (v : Nat) : State :=
  let r := (s.ctx x).ring isCq
  let en := bit v 31
  let log2 := bits v 3 0
  if log2 != r.log2 && (r.en || log2 < 4) then s.winDenied a i sub 4
  else if r.en && !en && !(s.ctx x).quiet then s.winDenied a i sub 4
  else
    let s := s.modCtx x (fun c => c.setRing isCq { r with en := en, log2 := log2 })
    if isCq then s.cqSpace x else s.flushGap x

/-- A write to the selected queue's enable, urgency and size (R246, R247). -/
def State.queueCfg (s : State) (a : Authority) (i x v : Nat) : State :=
  let c := s.ctx x
  let q := c.queue c.qsel
  let en := bit v 31
  let urgent := bit v 30
  let log2 := bits v 3 0
  if (log2 != q.log2 && (q.en || log2 < 4)) || (urgent != q.urgent && q.en) then s.winDenied a i 0x44 4
  else if !q.en && en && (!(c.cq.en && c.eq.en) || 65536 ≤ s.queuesEnabled) then s.winDenied a i 0x44 4
  else if q.en && !en && q.done != q.expect then s.winDenied a i 0x44 4
  else s.setCtx x (c.setQueue c.qsel { q with en := en, urgent := urgent, log2 := log2 })

/-- A write to the selected queue's base. -/
def State.queueBase (s : State) (a : Authority) (i x sub len v : Nat) : State :=
  let c := s.ctx x
  let q := c.queue c.qsel
  if q.en || v % 4096 != 0 then s.winDenied a i sub len
  else s.setCtx x (c.setQueue c.qsel { q with base := v % 2 ^ 64 })

/-- A write to VMARK_CLR (R515). -/
def State.vmarkClr (s : State) (a : Authority) (i x v : Nat) : State :=
  if !bit v 0 then s
  else if (s.ctx x).runs && !(s.ctx x).busy then s.modCtx x (fun c => { c with vmark := false })
  else s.winDenied a i 0x3C 4

/-- A write of one word of a window; words without a writable field take nothing. -/
def State.winWord (s : State) (a : Authority) (i x sub v : Nat) : State :=
  let v := v % 2 ^ 32
  let c := s.ctx x
  let low := fun (b : Nat) => b / 2 ^ 32 * 2 ^ 32 + v
  let high := fun (b : Nat) => v * 2 ^ 32 + b % 2 ^ 32
  let qb := (c.queue c.qsel).base
  if sub = 0x10 then s.ringBase a i x sub 4 true (low c.cq.base)
  else if sub = 0x14 then s.ringBase a i x sub 4 true (high c.cq.base)
  else if sub = 0x18 then s.ringCfg a i x sub true v
  else if sub = 0x20 then s.cqCidx x v
  else if sub = 0x24 then s.ringCfg a i x sub false v
  else if sub = 0x28 then s.ringBase a i x sub 4 false (low c.eq.base)
  else if sub = 0x2C then s.ringBase a i x sub 4 false (high c.eq.base)
  else if sub = 0x34 then s.eqCidx x v
  else if sub = 0x38 then s.modCtx x (fun c => { c with maskMap := bit v 1, maskTok := bit v 0 })
  else if sub = 0x3C then s.vmarkClr a i x v
  else if sub = 0x40 then s.modCtx x (fun c => { c with qsel := bits v 5 0 })
  else if sub = 0x44 then s.queueCfg a i x v
  else if sub = 0x48 then s.queueBase a i x sub 4 (low qb)
  else if sub = 0x4C then s.queueBase a i x sub 4 (high qb)
  else s

/-- A write of a window by its owner: a 64-bit base is written whole by 8 bytes, any other 8 bytes are two words (R81). -/
def State.winBytes (s : State) (a : Authority) (i x sub len v : Nat) : State :=
  if len = 8 then
    if sub = 0x10 then s.ringBase a i x sub 8 true v
    else if sub = 0x28 then s.ringBase a i x sub 8 false v
    else if sub = 0x48 then s.queueBase a i x sub 8 v
    else (s.winWord a i x sub v).winWord a i x (sub + 4) (v / 2 ^ 32)
  else s.winWord a i x sub v

/-- A write to the window of context i, as the function of the access numbers it, through Table 3-3 and R269; one that is not 4 whole
bytes aligned to 4, or 8 aligned to 8, is dropped there. -/
def State.windowWrite (s : State) (a : Authority) (i sub len v : Nat) (full : Bool := true) : State :=
  let off := windowOff a i sub
  if numbered a ≤ i || 0x100 ≤ sub then s
  else s.barWrite a off len (fun s =>
    match s.globalCtx a i with
    | none => s.badAccess a kTENANT_RANGE off len
    | some x =>
      if !s.ownsWindow a x then s.badAccess a kAUTH_DENIED off len
      else if goodShape sub len && full then s.winBytes a i x sub len v else s)

/-- CQ_CIDX_WRITE: `ctx` is the context as the function numbers it. -/
def execCqCidxWrite (port : Authority) (ctx value : Nat) (s : State) : Out := .next (s.windowWrite port ctx 0x20 4 value)

/-- EQ_CIDX_WRITE. -/
def execEqCidxWrite (port : Authority) (ctx value : Nat) (s : State) : Out := .next (s.windowWrite port ctx 0x34 4 value)

/-- RING_CFG_WRITE: a base (8 bytes) or the enable and size of the completion ring, the event ring or the selected queue's base. -/
def execRingCfgWrite (port : Authority) (ctx sub value : Nat) (s : State) : Out :=
  .next (if [0x10, 0x28, 0x48].contains sub then s.windowWrite port ctx sub 8 value
  else if [0x18, 0x24].contains sub then s.windowWrite port ctx sub 4 value else s)

/-- QUEUE_ENABLE_WRITE: the word of Q_EN, URGENT and QLOG2 of the queue that QSEL selects. -/
def execQueueEnableWrite (port : Authority) (ctx value : Nat) (s : State) : Out := .next (s.windowWrite port ctx 0x44 4 value)

/-- VMARK_CLR. -/
def execVmarkClr (port : Authority) (ctx value : Nat) (s : State) : Out := .next (s.windowWrite port ctx 0x3C 4 value)

/-! ### Reads -/

/-- A word of the window of context x; offsets not listed read 0. -/
def State.winRead (s : State) (x sub : Nat) : Nat :=
  let c := s.ctx x
  let q := c.queue c.qsel
  let half := fun (v : Nat) (hi : Bool) => if hi then v / 2 ^ 32 else v % 2 ^ 32
  if sub = 0x00 then s.ctxVf x * 2 ^ 16 + x
  else if sub = 0x04 then c.gen * 2 ^ 24 + c.stateCode * 2 ^ 20 + b2n c.vmark * 2 ^ 19 + b2n c.cqFull * 2 ^ 18 + b2n c.evDrop * 2 ^ 17
  else if sub = 0x08 then c.csn
  else if sub = 0x10 || sub = 0x14 then half c.cq.base (sub = 0x14)
  else if sub = 0x18 then b2n c.cq.en * 2 ^ 31 + c.cq.log2
  else if sub = 0x1C then c.cq.pidx
  else if sub = 0x20 then c.cq.cidx
  else if sub = 0x24 then b2n c.eq.en * 2 ^ 31 + c.eq.log2
  else if sub = 0x28 || sub = 0x2C then half c.eq.base (sub = 0x2C)
  else if sub = 0x30 then c.eq.pidx
  else if sub = 0x34 then c.eq.cidx
  else if sub = 0x38 then b2n c.maskMap * 2 + b2n c.maskTok
  else if sub = 0x40 then c.qsel
  else if sub = 0x44 then b2n q.en * 2 ^ 31 + b2n q.urgent * 2 ^ 30 + q.log2
  else if sub = 0x48 || sub = 0x4C then half q.base (sub = 0x4C)
  else if sub = 0x50 then q.expect
  else if sub = 0x54 then q.done
  else if sub = 0x58 then q.dbGen * 2 ^ 24 + s.qstate x c.qsel
  else if 0x80 ≤ sub then half (c.syncVal ((sub - 0x80) / 8)) (sub % 8 = 4)
  else 0

/-- An authority may read the window of context x: its owner, HOST, SELF, and DEBUG from OBSERVE up (R269). -/
def State.readsWindow (s : State) (a : Authority) (x : Nat) : Bool :=
  match a with
  | .host => true
  | .self_ => true
  | .tenant v => s.ctxVf x = v && 0 < v
  | .debug => 1 ≤ s.debugLevel
  | _ => false

end Sys2Proof.Machine
end

