-- ==== Sys2Proof/Machine/RegAccess.lean ====
section
/-! DEFINITION. Register accesses as a whole: a write of 4 or 8 bytes and a read of any length at an offset of a function's
BAR0 (Tables 3-1 to 3-3), with the rows REG_WRITE, RC_READ and CORE_MAP_LOW_READ of the table. A register with an effect of
its own takes it through the operation that its own row uses. -/
namespace Sys2Proof.Machine

/-! ### Writes -/

/-- An effect that one field's authority lets happen. -/
def State.ifMay (s : State) (a : Authority) (r : Row) (f : State → State) : State := if s.mayWrite a r then f s else s

/-- A write of one word of a page header (Tables 3-6 and 3-13). -/
def State.headerWord (s : State) (a : Authority) (p o v : Nat) : State :=
  if o = 0x10 then s.ctlWrite a p v
  else if o = 0x1C then (s.writeFields a (p * 4096 + o) 4 v).errVector s.errAny
  else if o = 0x20 then s.ifMay a HDR.BLK_ERRINJ (fun s => s.errInj p v)
  else if o = 0x24 then s.ifMay a HDR.TOKCFG_OVR_EN (fun s => s.tokCfg a p v)
  else s.writeFields a (p * 4096 + o) 4 v

/-- A write of a word of a CORE page that has an effect of its own. -/
def State.coreWord (s : State) (a : Authority) (c j o v : Nat) : Option State :=
  if j = 1 && o = 0x40 then
    some ((s.ifMay a DSA.DSA_CTL_CKSUM_EN (fun s => s.setCksumEn c (bit v 8))).ifMay a DSA.DSA_CTL_HOLD
      (fun s => s.wr DSA.DSA_CTL_HOLD (bits v 0 0) c))
  else if j = 3 && o = 0x40 then
    some (s.ifMay a LOG.LOG_CTL_COMMIT (fun s => if Nat.land v 3 = 0 then s else s.logCtl c (bit v 1)))
  else if j = 3 && 0x100 ≤ o && o < 0x200 then
    some (s.ifMay a LOG.LOG_STAGE_CPLUS (fun s => s.modCore c (fun k => { k with
      logStageP := SMap.put k.logStageP ((o - 0x100) / 4) (bits v 31 16)
      logStageM := SMap.put k.logStageM ((o - 0x100) / 4) (bits v 15 0) })))
  else if j = 7 && o = 0x40 then
    some ((s.writeFields a (pgTEST c * 4096 + o) 4 (setBit v 0)).ifMay a TEST.TST_CTL_SLICE_EN (fun s => s.setSliceEn c (bit v 0)))
  else none

/-- A write of a word of a page of one instance that has an effect of its own, from CHIP to MORAINE. -/
def State.lowWord (s : State) (a : Authority) (p o v : Nat) : Option State :=
  let off := p * 4096 + o
  if p = pgCHIP && o = 0x50 then some (s.ifMay a CHIP.RST_REQ_CHIP (fun s => s.rstReq a v))
  else if p = pgCHANTER && o = 0x10C then
    some (s.ifMay a CHANTER.PACK_CTL_LOAD (fun s => s.when (bit v 0) (fun s => s.packLoad a)))
  else if p = pgCHANTER && o = 0x14C then
    some (s.ifMay a CHANTER.FW_CTL_UPDATE (fun s => s.when (bit v 0) (fun s => s.fwStart a)))
  else if p = pgDRONE && o = 0x40 then some (s.ifMay a DRONE.PWR_CTL_TARGET (fun s => s.pwrTarget a (bits v 2 0)))
  else if p = pgTHERM && 0x40 ≤ o && o < 0x58 then
    some (s.ifMay a THERM.GRP_CFG_RATE (fun s => s.grpCfg a ((o - 0x40) / 4) v))
  else if p = pgTHERM && (o = 0x68 || o = 0x6C || o = 0x70) then
    some (s.ifMay a THERM.SFENCE_S0_63 (fun s => s.sfenceWrite (8 * (o - 0x68)) 32 v))
  else if p = pgCAL && o = 0x40 then
    some (s.ifMay a CAL.CAL_CMD_COMMIT (fun s => s.when (bit v 8) (fun s => s.calCommit (bits v 7 0))))
  else if p = pgCAL && 0x400 ≤ o && o < 0x800 then
    some (s.ifMay a CAL.STAGE (fun s =>
      { s with cal := { s.cal with stage := Memory.writeBytes s.cal.stage (o - 0x400) (toLE (v % 2 ^ 32) 4) } }))
  else if p = pgMORAINE && (o = 0x40 || o = 0x44) then some (s.morBaseWrite a off 4 v)
  else if p = pgMORAINE && o = 0x48 then some (s.ifMay a MORAINE.MOR_CTL_EN (fun s => s.morCtlWrite a v))
  else if p = pgMORAINE && o = 0x50 then some (s.ifMay a MORAINE.MOR_CIDX_CIDX (fun s => s.morCidxWrite (v % 2 ^ 32)))
  else none

/-- The same, from SERAC to HOSTIF. -/
def State.midWord (s : State) (a : Authority) (p o v : Nat) : Option State :=
  if p = pgSERAC && o = 0x40 then
    some ((s.writeFields a offSrcCtl 4 (if s.on SERAC.SRC_CTL_SHADOW_EN then setBit v 31 else clearBit v 31)).ifMay a
      SERAC.SRC_CTL_SHADOW_EN (fun s => s.setShadowEn (bit v 31)))
  else if p = pgFIRN && (o = 0x58 || o = 0x5C || o = 0x64) then some (s.ifMay a FIRN.HOME_VALID (fun s => s.areaWrite a o v))
  else if p = pgFIRN && o = 0x74 then some (s.ifMay a FIRN.CTX_IMG_IMG_OFF (fun s => s.imgWrite a v))
  else if p = pgSEC && o = 0x44 then some (s.ifMay a SEC.DBG_REQ_LEVEL (fun s => s.dbgReq a (bits v 1 0)))
  else if p = pgSEC && o = 0x48 then some (s.ifMay a SEC.LC_REQ_KEY (fun s => s.lcWrite a v))
  else if p = pgSEC && o = 0x50 then some (s.ifMay a SEC.SVN_COMMIT_KEY (fun s => s.svnCommit v))
  else if p = pgSEC && 0x100 ≤ o && o < 0x180 then some (s.ifMay a SEC.TOKEN (fun s => s.tokenWord o v))
  else if p = pgCLKRST && o = 0x40 then some (s.ifMay a CLKRST.PROFILE_REQ (fun s => s.profileReq (bits v 1 0)))
  else if p = pgCLKRST && o = 0x100 then some (s.ifMay a CLKRST.RST_CMD_KEY (fun s => s.rstCmd v))
  else if p = pgCLKRST && o = 0x13C then
    some (s.ifMay a CLKRST.CAP_DMA_CTL_GO (fun s => s.when (bit v 31) State.capGo))
  else if p = pgQENG && o = 0x40 then some (s.ifMay a QENG.CTX_CMD_OP (fun s => s.ctxCmd a v))
  else if p = pgQENG && 0x50 ≤ o && o < 0x60 then some (s.ifMay a QENG.CTX_CFG_AFFINITY (fun s => s.ctxCfgWrite a o 4 v))
  else if p = pgQENG && o = 0x60 then some (s.ifMay a QENG.SOLO_EN (fun s => s.soloWrite a v))
  else if p = pgQENG && 0x100 ≤ o && o < 0x200 then
    some (s.ifMay a QENG.OWN_CORES_CORES (fun s => s.ownWrite a ((o - 0x100) / 4) v))
  else if p = pgHOSTIF && 0x100 ≤ o && o < 0x200 then
    some (s.ifMay a HOSTIF.VF_CTX_BASE (fun s => s.vfCtxWrite a ((o - 0x100) / 4) v))
  else none

/-- The same, for the quadrants, the stacks, the links and the field. -/
def State.highWord (s : State) (a : Authority) (p o v : Nat) : Option State :=
  let off := p * 4096 + o
  if 0x010 ≤ p && p < 0x014 && o = 0x40 then some (s.ifMay a QUAD.QTEST_KIND (fun s => s.qtestWrite (p - 0x010) v))
  else if 0x010 ≤ p && p < 0x014 && 0x100 ≤ o && o < 0x140 then
    some (s.ifMay a QUAD.SHARE (fun s => s.shareWrite a (p - 0x010) (o - 0x100) 4 v))
  else if 0x200 ≤ p && p < 0x240 && p % 16 = 0 && o = 0x4C then
    some (s.ifMay a HBM.HBM_CARVE_BUDDY_GIB (fun s => s.gibWrite ((p - 0x200) / 16) (bits v 3 0)))
  else if 0x300 ≤ p && p < 0x310 && o = 0x40 then
    some ((s.writeFields a off 4 v).ifMay a NL.NL_CFG_RENEG (fun s => s.when (bit v 30) (fun s => s.enterHold (p - 0x300))))
  else if p = pgFABRIC && o = 0x40 then some (s.ifMay a FABRIC.FAB_ID_PART (fun s => s.fabIdWrite a v))
  else if p = pgFABRIC && o = 0x4C then some (s.ifMay a FABRIC.ROUTE_ENT_PORTS (fun s => s.routeWrite v))
  else if p = pgBARRIER && o = 0x40 then some (s.barTreeWrite a v)
  else if p = pgBARRIER && o = 0x50 then some (s.ifMay a BARRIER.STEP_STEP (fun s => s.stepWrite a v))
  else none

/-- A write of one 32-bit register of a page, which Table 3-3 has let through. -/
def State.wordWrite (s : State) (a : Authority) (off v : Nat) : State :=
  let p := off / 4096
  let o := off % 4096
  let v := v % 2 ^ 32
  if o < 0x30 then s.headerWord a p o v
  else
    let special := match coreOfPage p with
      | some c => s.coreWord a c ((p - 0x100) % 16) o v
      | none => if p < pgSERAC then s.lowWord a p o v else if p ≤ pgHOSTIF then s.midWord a p o v else s.highWord a p o v
    special.getD (s.writeFields a off 4 v)

/-- A write of 8 bytes that takes effect whole: one register of 64 bits, or a pair whose checks span it. -/
def State.wideWrite (s : State) (a : Authority) (off v : Nat) : State :=
  let p := off / 4096
  let o := off % 4096
  if p = pgMORAINE && o = 0x40 then s.morBaseWrite a off 8 v
  else if p = pgTHERM && o = 0x68 then s.ifMay a THERM.SFENCE_S0_63 (fun s => s.sfenceWrite 0 64 v)
  else if p = pgQENG && (o = 0x50 || o = 0x58) then s.ifMay a QENG.CTX_CFG_AFFINITY (fun s => s.ctxCfgWrite a o 8 v)
  else if 0x010 ≤ p && p < 0x014 && 0x100 ≤ o && o < 0x140 then
    s.ifMay a QUAD.SHARE (fun s => s.shareWrite a (p - 0x010) (o - 0x100) 8 v)
  else (s.wordWrite a off v).wordWrite a (off + 4) (v / 2 ^ 32)

/-- A write of a register page (R81, R86); `full` says that all its byte enables are set. A commit of calibration that does not get through before SERVICE, or in DRONE, is also
reported in CAL_STAT (R556). -/
def State.pageWrite (s : State) (a : Authority) (off len : Nat) (full : Bool) (v : Nat) : State :=
  let s' := if !full && s.answers a off true && (pageRows (off / 4096)).isSome then s.badAccess a kBAD_ACCESS off len
    else s.gated a off len (fun s => if len = 8 then s.wideWrite a off v else s.wordWrite a off v)
  if off = pgCAL * 4096 + 0x40 && bit v 8 && s.mayWrite a CAL.CAL_CMD_COMMIT && !s.answers a off true then
    s'.wr CAL.CAL_STAT_RESULT calNOT_AVAILABLE
  else s'

/-- A write of the MSI-X table of a function, word by word; the pending bits take none. TRAY and DEBUG have no authority. -/
def State.msixWrite (s : State) (a : Authority) (func off rel len : Nat) (full : Bool) (v : Nat) : State :=
  match s.barGate (if a = .tray then .host else a) with
  | .ok =>
    if a = .tray || a = .debug then s.badAccess a kAUTH_DENIED off len
    else if vectorsOf func * 16 ≤ rel || !goodShape off len || !full then s
    else
      let s := s.msixWord func (rel / 16) (rel % 16 / 4) v
      if len = 8 then s.msixWord func (rel / 16) (rel % 16 / 4 + 1) (v / 2 ^ 32) else s
  | .early => s.earlyWrite a off
  | _ => s

/-- What lies at an offset of a function's BAR0 (Tables 3-1 and 3-2). -/
inductive Target where
  | page
  | msix (func rel : Nat)
  | pba (func rel : Nat)
  | doorbell
  | window (i sub : Nat)
  | hole
  deriving DecidableEq, Repr

def targetOf (a : Authority) (off : Nat) : Target :=
  match a with
  | .tenant v =>
    if off < 0x8_0000 then .doorbell
    else if off < 0xC_0000 then .window ((off - 0x8_0000) / 0x100) (off % 0x100)
    else if off < 0xC_0400 then .msix v (off - 0xC_0000)
    else if 0xC_0800 ≤ off && off < 0xC_0808 then .pba v (off - 0xC_0800)
    else .hole
  | _ =>
    if off < 0x40_0000 then .page
    else if off < 0x40_8000 then .msix 0 (off - 0x40_0000)
    else if off < 0x40_8100 then .pba 0 (off - 0x40_8000)
    else if off < 0x100_0000 then .hole
    else if off < 0x140_0000 then .doorbell
    else if off < 0x160_0000 then .window ((off - 0x140_0000) / 0x100) (off % 0x100)
    else .hole

/-- A write at an offset of a function's BAR0. PEER reaches none (R565). Outside the register pages a write whose byte enables are not all
set takes effect on nothing. -/
def State.regWrite (s : State) (a : Authority) (off len : Nat) (full : Bool) (v : Nat) : State :=
  if a = .peer then s
  else match targetOf a off with
  | .page => s.pageWrite a off len full v
  | .msix func rel => s.msixWrite a func off rel len full v
  | .pba func rel => s.msixWrite a func off (rel + vectorsOf func * 16) len full v
  | .doorbell => s.doorbell a off len v full
  | .window i sub => s.windowWrite a i sub len v full
  | .hole => match s.barGate (if a = .tray then .host else a) with
    | .ok => s.badAccess a kUNMAPPED off len
    | .early => s.earlyWrite a off
    | _ => s

/-! ### Reads -/

/-- What a read that finds no block to answer returns (Table 3-3). -/
def readB00F : Nat := 0xFFFF_B00F
/-- What a read without authority returns. -/
def readDE1D : Nat := 0xFFFF_DE1D

/-- The fields of a page word that a port may read; the others are 0 (R562). -/
def State.wordFor (s : State) (a : Authority) (off : Nat) : Nat :=
  let p := off / 4096
  let o := off % 4096
  match headerFixed p o with
  | some v => v
  | none => (covered p o 4).foldl (fun w c =>
      if c.row.acc = .wo || !s.mayRead a c.row then w
      else Nat.lor w (s.field c.row c.k c.i * 2 ^ c.bit / 2 ^ (8 * o) % 2 ^ 32)) 0

/-- A read clears the RC fields it covers that the port may read (R10, R562). -/
def State.clearRc (s : State) (a : Authority) (off len : Nat) : State :=
  s.each ((covered (off / 4096) (off % 4096) len).filter (fun c => c.row.acc = .rc && s.mayRead a c.row))
    (fun s c => s.wr c.row 0 c.k c.i)

/-- The offset of CORE_MAP, whose high word a read of the low one latches (R34). -/
def offCoreMap : Nat := 0x40

/-- A word that the page answers with: before SERVICE only the words that R64 names. -/
def State.wordOut (s : State) (a : Authority) (off : Nat) : Nat :=
  if !s.answers a off false then readB00F
  else if !s.inService && lateMailbox off then 0
  else s.wordFor a off

/-- Words of a page that an access reads normally: `n` words from `off` up, in one instant. -/
def State.takeWords (s : State) (a : Authority) (off n : Nat) : State × List Nat :=
  let ws := (List.range n).map (fun j => s.wordOut a (off + 4 * j))
  let s := if !s.inService && lateMailbox off then s else s.clearRc a off (4 * n)
  if off = offCoreMap then
    ({ s with latchHi := if n = 2 then none else some (s.wordFor a (offCoreMap + 4)) }, ws)
  else if off = offCoreMap + 4 then ({ s with latchHi := none }, [s.latchHi.getD (ws.getD 0 0)])
  else (s, ws)

/-- A refused read: the bad access is reported, unless the read breaks R81, which raises no token (R83). -/
def State.readRefused (s : State) (a : Authority) (kind off len : Nat) (report : Bool) : State :=
  if report then s.badAccess a kind off len else s

/-- A read of n words of a register page at once, through Table 3-3. -/
def State.pageRead (s : State) (a : Authority) (off n : Nat) (report : Bool := true) : State × List Nat :=
  let all := fun (v : Nat) => List.replicate n v
  match s.gate a off (4 * n) false with
  | .ok => (s.pageWake a (off / 4096)).takeWords a off n
  | .early | .silent | .resetting => (s, all readB00F)
  | .unmapped => (s.readRefused a kUNMAPPED off (4 * n) report, all 0)
  | .denied => (s.readRefused a kAUTH_DENIED off (4 * n) report, all readDE1D)
  | .unfused | .reserved | .shape => (s, all 0)

/-- A read of n words outside the register pages, of `len` bytes as it arrived: one access, with at most one token. -/
def State.barRead (s : State) (a : Authority) (off n len : Nat) : State × List Nat :=
  let all := fun (v : Nat) => List.replicate n v
  let words := fun (f : Nat → Nat) => (List.range n).map (fun j => f (4 * j))
  match s.barGate (if a = .tray then .host else a) with
  | .ok =>
    let noRights := (s.badAccess a kAUTH_DENIED off len, all readDE1D)
    let dark := a = .tray || (a = .debug && s.debugLevel = 0)
    match targetOf a off with
    | .msix func rel => if dark then noRights else (s, words (fun j => s.msixRead func ((rel + j) / 16) ((rel + j) % 16 / 4)))
    | .pba func rel => if dark then noRights else (s, words (fun j => s.pbaWord func ((rel + j) / 4)))
    | .doorbell => if (s.globalCtx a ((off - doorbellOff a 0 0) / 0x200)).isNone then
        (s.badAccess a kTENANT_RANGE off len, all 0) else (s, all 0)
    | .window i sub => match s.globalCtx a i with
      | none => (s.badAccess a kTENANT_RANGE off len, all 0)
      | some x => if s.readsWindow a x then (s, words (fun j => s.winRead x ((sub + j) / 4 * 4))) else noRights
    | _ => (s.badAccess a kUNMAPPED off len, all 0)
  | _ => (s, all readB00F)

/-- Words of a register page read one after another in ascending order, without a token (R83). -/
def State.readWords (s : State) (a : Authority) (off : Nat) : Nat → State × List Nat
  | 0 => (s, [])
  | n + 1 =>
    let r := s.pageRead a off 1 false
    let rest := r.1.readWords a (off + 4) n
    (rest.1, r.2 ++ rest.2)

/-- A read of `len` bytes at an offset of a function's BAR0; `full` says that all its byte enables are set: 4 or 8 aligned bytes of a
register page at once, any other read of one as the words that cover it, up to 64 bytes (R81, R83, R84). -/
def State.regRead (s : State) (a : Authority) (off len : Nat) (full : Bool) : State × List Nat :=
  let first := off / 4 * 4
  let n := min 16 ((off + max 1 len - 1) / 4 + 1 - off / 4)
  if a = .peer then (s, [])
  else if targetOf a off != .page then s.barRead a first n len
  else if goodShape off len && full then s.pageRead a off (len / 4)
  else s.readWords a first n

/-! ### Configuration space (R52, R63, R97, R99, R100) -/

/-- The offset from which the accesses of a function's port stand for its configuration space, above every BAR0 (log 72). -/
def cfgBase : Nat := 0x1000_0000

/-- The function whose configuration space a port reaches: HOST that of PF0, a VF's requests its own. -/
def cfgFunction (a : Authority) : Option Nat :=
  match a with
  | .host => some 0
  | .tenant v => some v
  | _ => none

/-- The part has this function: PF0, and the VFs while they exist. -/
def State.hasFunction (s : State) (func : Nat) : Bool := func = 0 || s.vfExists func

/-- The words of a function's configuration space that are fixed or follow from the state; the rest reads what is held. -/
def State.cfgFixed (s : State) (func off : Nat) : Option Nat :=
  let pf := decide (func = 0)
  match capHeader func off with
  | some w => some w
  | none =>
    if off = 0x00 then some (if pf then 0xC016_1F3C else 0xFFFF_FFFF)
    else if off = 0x08 then some 0x1200_00B0
    else if off = 0x0C then some 0
    else if off = cfgBar0 then some (if pf then s.cfgHeld 0 cfgBar0 + 4 else 0)
    else if off = cfgBar0 + 4 then some (s.cfgHeld func off)
    else if 0x18 ≤ off && off ≤ 0x24 then some 0
    else if off = 0x2C then some (s.sec.subsys % 2 ^ 16 * 2 ^ 16 + 0x1F3C)
    else if off = 0x34 then some 0x40
    else if off = 0x3C then some (s.cfgHeld func off)
    else if off = cfgCommand then some (0x0010_0000 + s.cfgHeld func off)
    else if off = 0x40 then some (0x0002_0010 + cfgMsix * 2 ^ 8)
    else if off = 0x44 then some ((if pf then 0 else 2 ^ 28) + 0x8022)
    else if off = 0x50 then some (s.rd HOSTIF.LINK_STAT_RATE * 2 ^ 16 + s.rd HOSTIF.LINK_STAT_WIDTH * 2 ^ 20)
    else if off = 0x64 then some 0x0003_0017
    else if off = cfgMsix then some (0x0011 + (vectorsOf func - 1) * 2 ^ 16 + s.cfgHeld func off)
    else if off = cfgMsix + 4 then some (if pf then 0x40_0000 else 0xC_0000)
    else if off = cfgMsix + 8 then some (if pf then 0x40_8000 else 0xC_0800)
    else if off = cfgAerUnc then some (if pf then s.pci.aerUnc else 0)
    else if off = cfgAerCorr then some (if pf then s.pci.aerCorr else 0)
    else if pf && off = 0x154 then some (s.sec.serial % 2 ^ 32)
    else if pf && off = 0x158 then some (s.sec.serial / 2 ^ 32 % 2 ^ 32)
    else if pf && off = cfgSriovCtl then some (s.cfgHeld 0 off + b2n (s.pci.vfEnable && !s.pci.vfClearing))
    else if pf && off = 0x17C then some (totalVfs * 2 ^ 16 + totalVfs)
    else if pf && off = cfgNumVfs then some s.pci.numVfs
    else if pf && off = 0x184 then some 0x0001_0001
    else if pf && off = 0x188 then some 0xC01F_0000
    else if pf && off = 0x18C then some 0x0000_0001
    else if pf && off = 0x194 then some (s.cfgHeld 0 off + 4)
    else if pf && 0x19C ≤ off && off ≤ 0x1A8 then some 0
    else none

/-- A word of a function's configuration space. -/
def State.cfgRead (s : State) (func off : Nat) : Nat := (s.cfgFixed func off).getD (s.cfgHeld func off)

/-- Messages that a function's masks held back go out, in ascending order. -/
def State.msixFlushAll (s : State) (func : Nat) : State := s.each (List.range (vectorsOf func)) (fun s v => s.msixFlush func v)

/-- A write of the bits `mask` of a word of a function's configuration space. -/
def State.cfgPut (s : State) (func off mask v : Nat) : State :=
  let w := Nat.land mask (cfgWritable func off)
  let old := s.cfgHeld func off
  let s := { s with pci := { s.pci with cfg := SMap.put s.pci.cfg (cfgKey func off) (old - Nat.land old w + Nat.land v w) } }
  let clr := Nat.land (Nat.land v mask) (cfgClears off)
  if off = cfgMsix then s.msixFlushAll func
  else if func != 0 then s
  else if off = cfgAerUnc then { s with pci := { s.pci with aerUnc := s.pci.aerUnc - Nat.land s.pci.aerUnc clr } }
  else if off = cfgAerCorr then { s with pci := { s.pci with aerCorr := s.pci.aerCorr - Nat.land s.pci.aerCorr clr } }
  else if off = cfgSriovCtl && bit mask 0 then s.setVfEnable (bit v 0)
  else if off = cfgNumVfs && bit mask 0 then s.setNumVfs (v % 2 ^ 16)
  else s

/-- The part takes configuration requests: its main domains run and PERST_n is deasserted. -/
def State.cfgUp (s : State) : Bool := s.mainRuns && !s.pins.perst

/-- A configuration write of `len` bytes within one word. Before IDENT the part answers it with Configuration Request Retry Status, and
the host sends it again (R63). -/
def State.cfgAccessWrite (s : State) (a : Authority) (o len v : Nat) : State :=
  match cfgFunction a with
  | none => s
  | some func =>
    if !s.cfgUp then s
    else if !s.pci.identity then s.emit (.cfgRetry a)
    else if !s.hasFunction func || 4096 ≤ o || 4 < o % 4 + len then s
    else s.cfgPut func (o / 4 * 4) ((2 ^ (8 * len) - 1) * 2 ^ (8 * (o % 4))) (v % 2 ^ (8 * len) * 2 ^ (8 * (o % 4)))

/-- A configuration read: the word that holds the offset; all ones where no function answers, and Configuration Request Retry Status
before IDENT (R63, R99). -/
def State.cfgAccessRead (s : State) (a : Authority) (o : Nat) : State :=
  match cfgFunction a with
  | none => s
  | some func =>
    if !s.cfgUp then s
    else if !s.pci.identity then s.emit (.cfgRetry a)
    else s.emit (.answer a [if s.hasFunction func && o < 4096 then s.cfgRead func (o / 4 * 4) else 0xFFFF_FFFF])

/-! ### The rows -/

/-- REG_WRITE: a write of `len` bytes at an offset of the BAR0 of the port's function, `full` with all byte enables set, or of its
configuration space above `cfgBase`. -/
def execRegWrite (port : Authority) (off len : Nat) (full : Bool) (value : Nat) (s : State) : Out :=
  .next (if cfgBase ≤ off then s.cfgAccessWrite port (off - cfgBase) len value else s.regWrite port off len full value)

/-- The part answers a read. -/
def State.answerRead (s : State) (a : Authority) (off len : Nat) (full : Bool) : State :=
  let r := s.regRead a off len full
  r.1.emit (.answer a r.2)

/-- RC_READ: a read of `len` bytes at an offset of the BAR0 of the port's function, or of its configuration space above `cfgBase`; RC
fields it returns are cleared. -/
def execRcRead (port : Authority) (off len : Nat) (full : Bool) (s : State) : Out :=
  .next (if cfgBase ≤ off then s.cfgAccessRead port (off - cfgBase) else s.answerRead port off len full)

/-- CORE_MAP_LOW_READ. -/
def execCoreMapLowRead (port : Authority) (s : State) : Out := .next (s.answerRead port offCoreMap 4 true)

end Sys2Proof.Machine
end

