-- ==== Sys2Proof/Machine/Ports.lean ====
section
/-! DEFINITION. The TAP and the I3C target (R565, R566, R580, R581, R607): the rows TAP_BYPASS to I3C_TRANSFER of the table. A TAP
command is one scan: the instruction is loaded, the data register is captured and shifted out, and Update-DR takes the data. -/
namespace Sys2Proof.Machine

/-! ### The TAP (Table 18-8) -/

def irEXTEST : Nat := 0x00
def irIDCODE : Nat := 0x01
def irSAMPLE : Nat := 0x02
def irSECSTAT : Nat := 0x10
def irTOKEN : Nat := 0x11
def irDBGREQ : Nat := 0x12
def irREGAP : Nat := 0x20
def irMEMAP : Nat := 0x21
def irBYPASS : Nat := 0xFF

/-- What the TAP shifts out. -/
def State.tdo (s : State) (v : Nat) : State := s.emit (.answer .debug [v])

/-- One scan with an instruction: where it is not available it acts as BYPASS, and where the TAP has no power nothing happens. Until SEC
has read the lifecycle and debug state there are IDCODE and BYPASS only (Table 2-5). -/
def State.tap (s : State) (ir : Nat) (available : Bool) (f : State → State) : State :=
  if !s.mainRuns then s
  else
    let s := { s with sec := { s.sec with tapIr := ir } }
    if available && (s.boot.aligned || ir = irIDCODE) then f s else s.tdo 0

/-- Boundary scan is available (Table 18-9, b). -/
def State.boundaryScan (s : State) : Bool := s.lc = 0 || s.lc = 2

/-- TAP_BYPASS. -/
def execTapBypass (s : State) : Out := .next (s.tap irBYPASS false id)

/-- IDCODE of the part. -/
def State.idcode (s : State) : Nat := 0xB * 2 ^ 28 + 0xC016 * 2 ^ 12 + s.sec.mfr % 2 ^ 11 * 2 + 1

/-- TAP_IDCODE. -/
def execTapIdcode (s : State) : Out := .next (s.tap irIDCODE true (fun s => s.tdo s.idcode))

/-- TAP_SAMPLE_PRELOAD: the pins are captured and the boundary register is loaded. -/
def execTapSamplePreload (pins data : Nat) (s : State) : Out :=
  .next (s.tap irSAMPLE s.boundaryScan (fun s => { s.tdo pins with sec := { s.sec with boundary := data } }))

/-- TAP_EXTEST: the pins are captured, and the boundary register drives them. -/
def execTapExtest (pins data : Nat) (s : State) : Out :=
  .next (s.tap irEXTEST s.boundaryScan (fun s =>
    { s.tdo pins with sec := { s.sec with boundary := data, boundaryOut := data } }))

/-- TAP_SECSTAT. -/
def execTapSecstat (s : State) : Out := .next (s.tap irSECSTAT true (fun s => s.tdo (s.regWord (offSec 0x40))))

/-- TAP_TOKEN: the 128 bytes of a vendor token, byte 0 first (R575). -/
def execTapToken (data : List Byte) (s : State) : Out :=
  .next (s.tap irTOKEN (s.lc != 3) (fun s => (s.tdo 0).tokenLoad ((data ++ zeros 128).take 128)))

/-- TAP_DBGREQ: a debug level is asked for, at every level (R563, R577). -/
def execTapDbgreq (level : Nat) (s : State) : Out :=
  .next (s.tap irDBGREQ true (fun s => (s.tdo 0).dbgReq .debug (min 3 (level % 16))))

/-- The access that a REGAP scan asks for. -/
def State.regap (s : State) (d : Nat) : State :=
  if !bit d 64 then s
  else if bit d 65 then s.regWrite .debug (bits d 63 32) 4 true (bits d 31 0)
  else
    let r := s.regRead .debug (bits d 63 32) 4 true
    { r.1 with sec := { r.1.sec with regapResult := r.2.getD 0 0 } }

/-- TAP_REGAP: the result of the last read goes out, and the access asked for is made. -/
def execTapRegap (data : Nat) (s : State) : Out :=
  .next (s.tap irREGAP (1 ≤ s.debugLevel) (fun s => (s.tdo s.sec.regapResult).regap data))

/-- What lies at a local offset for MEMAP: nothing that answers, the CHANTER carve-out, or memory (R581, R582 g). -/
inductive MemapPlace where
  | dark | carve | memory
  deriving DecidableEq, Repr

def State.memapPlace (s : State) (a : Nat) : MemapPlace :=
  if !s.inService || a % 8 != 0 then .dark
  else match localPlace a with
    | .hbm k off =>
      if 0x7_FC00_0000 ≤ off then .carve
      else if s.on HBM.HBM_STAT_IN_SERVICE k && !s.on HBM.HBM_STAT_SELF_REFRESH k then .memory else .dark
    | .spad c off =>
      if s.fused c && s.bankPresent c (off / bankSize) && s.rd DRONE.PWR_STAT_STATE ≤ 1 then .memory else .dark
    | .unmapped => .dark

/-- The result that a MEMAP read leaves for the next scan. -/
def State.memapResult (s : State) (v : Nat) : State := { s with sec := { s.sec with tapDr := v } }

/-- A MEMAP read of 8 bytes; where an uncorrectable error ends it the value is free. -/
def State.memapRead (s : State) (a : Nat) : State :=
  match s.memapPlace a with
  | .dark => s.memapResult 0xFFFF_B00F_FFFF_B00F
  | .carve => s.memapResult 0
  | .memory => match s.readMem a 8 with
    | (t, some bs) => t.memapResult (ofLE bs)
    | (t, none) => t.drew.memapResult (t.drawn (2 ^ 64))

/-- A MEMAP write of 8 bytes. -/
def State.memapWrite (s : State) (a v : Nat) : State :=
  if s.memapPlace a = .memory then (s.writeMem a (toLE v 8)).1 else s

/-- TAP_MEMAP: the result of the last read goes out, and the access asked for is made. -/
def execTapMemap (data : Nat) (s : State) : Out :=
  .next (s.tap irMEMAP (s.debugLevel = 2) (fun s =>
    let s := s.tdo s.sec.tapDr
    if !bit data 128 then s
    else if bit data 129 then s.memapWrite (bits data 127 64) (bits data 63 0)
    else s.memapRead (bits data 127 64)))

/-! ### The I3C target (R566, R607) -/

/-- The static address that SETDASA names. -/
def i3cStatic : Nat := 0x2C

/-- The provisional ID: the manufacturer's identity and the low bits of the serial number. -/
def State.i3cId (s : State) : Nat := s.sec.mfr % 2 ^ 15 * 2 ^ 33 + s.sec.serial % 2 ^ 32

/-- I3C_ADDRESS_ASSIGN: ENTDAA, where the target shows its provisional ID, or SETDASA with its static address. -/
def execI3cAddressAssign (entdaa : Bool) (static addr : Nat) (s : State) : Out :=
  .next (if !s.boot.droneRail || !(entdaa || static = i3cStatic) then s
  else
    let s := { s with sec := { s.sec with i3cAddr := some (addr % 128) } }
    if entdaa then s.emit (.answer .tray [s.i3cId]) else s)

/-- Whether the staging window answers: from SERVICE, with stack 0 in service and not in self-refresh. -/
def State.stagingUp (s : State) : Bool :=
  s.inService && s.lc != 3 && s.on HBM.HBM_STAT_IN_SERVICE 0 && !s.on HBM.HBM_STAT_SELF_REFRESH 0

/-- A private write of one word. -/
def State.trayWrite (s : State) (a v : Nat) : State :=
  if a < 0x100_0000 then s.regWrite .tray a 4 true v
  else if a < 0x200_0000 then
    (if s.stagingUp then (s.writeMem (stagingAt (a / 4 * 4)) (toLE (v % 2 ^ 32) 4)).1
    else if s.inService || !s.mainRuns then s
    else s.earlyWrite .tray a)
  else match s.barGate .host with
    | .ok => s.badAccess .tray kUNMAPPED a 4
    | .early => s.earlyWrite .tray a
    | _ => s

/-- A private read of one word. -/
def State.trayRead (s : State) (a : Nat) : State :=
  if a < 0x100_0000 then s.answerRead .tray (a / 4 * 4) 4 true
  else if a < 0x200_0000 then
    (if s.stagingUp then match s.readMem (stagingAt (a / 4 * 4)) 4 with
      | (t, some bs) => t.emit (.answer .tray [ofLE bs])
      | (t, none) => t.drew.emit (.answer .tray [t.drawn (2 ^ 32)])
    else s.emit (.answer .tray [readB00F]))
  else match s.barGate .host with
    | .ok => (s.badAccess .tray kUNMAPPED a 4).emit (.answer .tray [0])
    | _ => s.emit (.answer .tray [readB00F])

/-- I3C_TRANSFER: a private transfer of one 4-byte word at an address; the target needs its dynamic address. -/
def execI3cTransfer (addr : Nat) (write : Bool) (value : Nat) (s : State) : Out :=
  .next (if !s.boot.droneRail || s.sec.i3cAddr.isNone then s
  else if write then s.trayWrite addr value else s.trayRead addr)

end Sys2Proof.Machine
end

