-- ==== Sys2Proof/Machine/ThreadsFp.lean ====
section
/-! DEFINITION. The floating-point instructions of the front end (Table 5-4, OP 0x20–0x2A; R208, R209). -/
namespace Sys2Proof.Machine

/-- FADD (0x20): binary32 sum, nearest even. -/
def execFadd (core place : Nat) (s : State) : Out := .next (s.fp2 core place 0x20 f32.add)
/-- FMUL (0x21): binary32 product. -/
def execFmul (core place : Nat) (s : State) : Out := .next (s.fp2 core place 0x21 f32.mul)
/-- FFMA (0x22): xd := xa × xb + xc with one rounding. -/
def execFfma (core place : Nat) (s : State) : Out :=
  .next (s.fp core place 0x22 (fun _ => true) (fun g l w => BitVec.ofNat 32
    (f32.fma (g.reg l (insXA w)).toNat (g.reg l (insXB w)).toNat (g.reg l (insXC w)).toNat)))
/-- FMIN (0x23). -/
def execFmin (core place : Nat) (s : State) : Out := .next (s.fp2 core place 0x23 f32.minimum)
/-- FMAX (0x24). -/
def execFmax (core place : Nat) (s : State) : Out := .next (s.fp2 core place 0x24 f32.maximum)
/-- FCMP (0x25): the predicate of IMM[2:0]; 0x6 and 0x7 raise ILLEGAL_OP. -/
def execFcmp (core place : Nat) (s : State) : Out :=
  .next (s.fp core place 0x25 (fun w => bits w 2 0 < 6) (fun g l w =>
    flagWord (fcmp (bits w 2 0) (g.reg l (insXA w)).toNat (g.reg l (insXB w)).toNat)))
/-- The conversions of Table 5-6. -/
def fcvt (sel a b : Nat) : Nat :=
  match sel with
  | 0x0 => cvtToInt false a
  | 0x1 => cvtToInt true a
  | 0x2 => cvtFromInt a
  | 0x3 => cvtFmt f32 f16 a
  | 0x4 => cvtFmt f16 f32 a
  | 0x5 => cvtFmt f32 bf16 a
  | 0x6 => a % 2 ^ 16 * 2 ^ 16
  | 0x7 => ofInt 32 (k8Mantissa a (b % 256))
  | _ => k8Value (toInt 8 a) (b % 256)
/-- FCVT (0x26): the conversion that IMM[3:0] selects; an unlisted one raises ILLEGAL_OP. -/
def execFcvt (core place : Nat) (s : State) : Out :=
  .next (s.fp core place 0x26 (fun w => bits w 3 0 ≤ 8) (fun g l w =>
    BitVec.ofNat 32 (fcvt (bits w 3 0) (g.reg l (insXA w)).toNat (g.reg l (insXB w)).toNat)))
/-- FRCP (0x27): within 2 units in the last place of 1/xa (R208; log 12). -/
def execFrcp (core place : Nat) (s : State) : Out :=
  .next (s.fp core place 0x27 (fun _ => true) (fun g l w => floatApprox 0x27 (g.reg l (insXA w))))
/-- FRSQ (0x28). -/
def execFrsq (core place : Nat) (s : State) : Out :=
  .next (s.fp core place 0x28 (fun _ => true) (fun g l w => floatApprox 0x28 (g.reg l (insXA w))))
/-- FEXP2 (0x29). -/
def execFexp2 (core place : Nat) (s : State) : Out :=
  .next (s.fp core place 0x29 (fun _ => true) (fun g l w => floatApprox 0x29 (g.reg l (insXA w))))
/-- FLOG2 (0x2A). -/
def execFlog2 (core place : Nat) (s : State) : Out :=
  .next (s.fp core place 0x2A (fun _ => true) (fun g l w => floatApprox 0x2A (g.reg l (insXA w))))

end Sys2Proof.Machine
end

