-- ==== Sys2Proof/Machine/ThreadsInt.lean ====
section
/-! DEFINITION. The integer instructions of the front end (Table 5-4, OP 0x01–0x10). -/
namespace Sys2Proof.Machine

/-- IADD (0x01): xd := xa + xb modulo 2^32. -/
def execIadd (core place : Nat) (s : State) : Out := .next (s.alu2 core place 0x01 (fun a b => a + b))
/-- ISUB (0x02): xd := xa − xb modulo 2^32. -/
def execIsub (core place : Nat) (s : State) : Out := .next (s.alu2 core place 0x02 (fun a b => a - b))
/-- IMUL (0x03): the low 32 bits of xa × xb (R180). -/
def execImul (core place : Nat) (s : State) : Out := .next (s.alu2 core place 0x03 (fun a b => a * b))
/-- AND (0x04). -/
def execAnd (core place : Nat) (s : State) : Out := .next (s.alu2 core place 0x04 (fun a b => a &&& b))
/-- OR (0x05). -/
def execOr (core place : Nat) (s : State) : Out := .next (s.alu2 core place 0x05 (fun a b => a ||| b))
/-- XOR (0x06). -/
def execXor (core place : Nat) (s : State) : Out := .next (s.alu2 core place 0x06 (fun a b => a ^^^ b))
/-- SHL (0x07): shift left by xb[4:0]. -/
def execShl (core place : Nat) (s : State) : Out :=
  .next (s.alu2 core place 0x07 (fun a b => a <<< (b.toNat % 32)))
/-- SHR (0x08): logical shift right by xb[4:0]. -/
def execShr (core place : Nat) (s : State) : Out :=
  .next (s.alu2 core place 0x08 (fun a b => a >>> (b.toNat % 32)))
/-- SAR (0x09): arithmetic shift right by xb[4:0]. -/
def execSar (core place : Nat) (s : State) : Out :=
  .next (s.alu2 core place 0x09 (fun a b => a.sshiftRight (b.toNat % 32)))
/-- ICMP (0x0A): xd := 1 or 0 under IMM[2:0]; 0x6 and 0x7 raise ILLEGAL_OP (R612). -/
def execIcmp (core place : Nat) (s : State) : Out :=
  .next (s.alu core place 0x0A (fun w => (icmp (bits w 2 0) 0#32 0#32).isSome) (fun g l w =>
    flagWord ((icmp (bits w 2 0) (g.reg l (insXA w)) (g.reg l (insXB w))).getD false)))
/-- SEL (0x0B): xd := xa if xc ≠ 0, else xb. -/
def execSel (core place : Nat) (s : State) : Out :=
  .next (s.alu core place 0x0B (fun _ => true) (fun g l w =>
    if g.reg l (insXC w) != 0#32 then g.reg l (insXA w) else g.reg l (insXB w)))
/-- IMIN (0x0C): the smaller, signed. -/
def execImin (core place : Nat) (s : State) : Out :=
  .next (s.alu2 core place 0x0C (fun a b => if a.toInt ≤ b.toInt then a else b))
/-- IMAX (0x0D): the greater, signed. -/
def execImax (core place : Nat) (s : State) : Out :=
  .next (s.alu2 core place 0x0D (fun a b => if a.toInt ≤ b.toInt then b else a))
/-- POPC (0x0E): the number of bits set in xa. -/
def execPopc (core place : Nat) (s : State) : Out :=
  .next (s.alu2 core place 0x0E (fun a _ => BitVec.ofNat 32 (popcount a.toNat 32)))
/-- The number of leading zeros of a 32-bit word. -/
def leadingZeros (x : Nat) : Nat := ((List.range 32).find? (fun k => bit x (31 - k))).getD 32
/-- CLZ (0x0F): the leading zeros of xa. -/
def execClz (core place : Nat) (s : State) : Out :=
  .next (s.alu2 core place 0x0F (fun a _ => BitVec.ofNat 32 (leadingZeros a.toNat)))
/-- MOVI (0x10): xd := IMM. -/
def execMovi (core place : Nat) (s : State) : Out :=
  .next (s.alu core place 0x10 (fun _ => true) (fun _ _ w => BitVec.ofNat 32 (insImm w)))

end Sys2Proof.Machine
end

