-- ==== Sys2Proof/Machine/ThreadsMem.lean ====
section
/-! DEFINITION. The local memory instructions of the front end (Table 5-4, OP 0x40–0x46; R185–R188, R166, R612). -/
namespace Sys2Proof.Machine

/-- LD (0x40): s bytes into xd, or the pair for 8. -/
def execLd (core place : Nat) (s : State) : Out :=
  .next (s.ins core place 0x40 false (memLegal (fun w => [insXD w])) (fun i s =>
    s.memIns i (insSize i.word) (fun s g l o =>
      match s.readMem o (insSize i.word) with
      | (s, none) => (s, none)
      | (s, some bs) => (s, some (g.setData l (insXD i.word) (insSize i.word) (ofLE bs))))))

/-- ST (0x41): the low s bytes of xb, or of the pair for 8. -/
def execSt (core place : Nat) (s : State) : Out :=
  .next (s.ins core place 0x41 false (memLegal (fun w => [insXB w])) (fun i s =>
    s.memIns i (insSize i.word) (fun s g l o =>
      let (s, ok) := s.writeMem o (toLE (i.g.data l (insXB i.word) (insSize i.word)) (insSize i.word))
      (s, if ok then some g else none))))

/-- RED.IADD (0x42): add xb modulo 2^(8s); no value returned. -/
def execRedIadd (core place : Nat) (s : State) : Out :=
  .next (s.ins core place 0x42 false (memLegal (fun w => [insXB w])) (fun i s =>
    s.memIns i (insSize i.word) (fun s g l o =>
      s.rmw o (insSize i.word) (fun old => some ((old + i.g.data l (insXB i.word) (insSize i.word)) % 2 ^ (8 * insSize i.word)))
        (fun _ => g))))

/-- ATOM.IADD (0x43), V-marked: the old value to xd. -/
def execAtomIadd (core place : Nat) (s : State) : Out :=
  .next (s.ins core place 0x43 true (memLegal (fun w => [insXB w, insXD w])) (fun i s =>
    s.memIns i (insSize i.word) (fun s g l o =>
      s.rmw o (insSize i.word) (fun old => some ((old + i.g.data l (insXB i.word) (insSize i.word)) % 2 ^ (8 * insSize i.word)))
        (fun old => g.setData l (insXD i.word) (insSize i.word) old))))

/-- ATOM.CAS (0x44), V-marked: writes xc when the old value equals xb; the old value to xd. -/
def execAtomCas (core place : Nat) (s : State) : Out :=
  .next (s.ins core place 0x44 true (memLegal (fun w => [insXB w, insXC w, insXD w])) (fun i s =>
    s.memIns i (insSize i.word) (fun s g l o =>
      s.rmw o (insSize i.word) (fun old =>
          if old = i.g.data l (insXB i.word) (insSize i.word) then some (i.g.data l (insXC i.word) (insSize i.word)) else none)
        (fun old => g.setData l (insXD i.word) (insSize i.word) old))))

/-- RED.FADD (0x45), V-marked: one rounding in binary32 or bfloat16 (R166). -/
def execRedFadd (core place : Nat) (s : State) : Out :=
  .next (s.ins core place 0x45 true faddLegal (fun i s =>
    s.memIns i (insSize i.word) (fun s g l o =>
      s.rmw o (insSize i.word) (fun old => some ((atomFmt i.word).add old (i.g.data l (insXB i.word) (insSize i.word))))
        (fun _ => g))))

/-- ATOM.FADD (0x46), V-marked: the old value to xd, zero-extended. -/
def execAtomFadd (core place : Nat) (s : State) : Out :=
  .next (s.ins core place 0x46 true faddLegal (fun i s =>
    s.memIns i (insSize i.word) (fun s g l o =>
      s.rmw o (insSize i.word) (fun old => some ((atomFmt i.word).add old (i.g.data l (insXB i.word) (insSize i.word))))
        (fun old => g.setData l (insXD i.word) (insSize i.word) old))))

end Sys2Proof.Machine
end

