-- ==== Sys2Proof/Machine/Dispatch.lean ====
section
/-! DEFINITION. Which meaning each command has: one arm per constructor, each one call. -/
namespace Sys2Proof.Machine

/-- The effect of a command on everything but the queue. -/
def exec (i : Instr) (s : State) : Host.Outcome State Fault Refusal :=
  match i with
  | .dronePor diodes => Sys2Proof.Machine.execDronePor diodes s
  | .tcxoSelect error => Sys2Proof.Machine.execTcxoSelect error s
  | .dronePllLock => Sys2Proof.Machine.execDronePllLock s
  | .tcxoLost error => Sys2Proof.Machine.execTcxoLost error s
  | .mainPor diodes => Sys2Proof.Machine.execMainPor diodes s
  | .mainPowerLoss => Sys2Proof.Machine.execMainPowerLoss s
  | .droneBrownout => Sys2Proof.Machine.execDroneBrownout s
  | .perstAssert => Sys2Proof.Machine.execPerstAssert s
  | .perstDeassert => Sys2Proof.Machine.execPerstDeassert s
  | .pllLockAlign diodes => Sys2Proof.Machine.execPllLockAlign diodes s
  | .ident => Sys2Proof.Machine.execIdent s
  | .firmwareStage readable => Sys2Proof.Machine.execFirmwareStage readable s
  | .fltEnterService => Sys2Proof.Machine.execFltEnterService s
  | .memoryStage results badBanks => Sys2Proof.Machine.execMemoryStage results badBanks s
  | .admitStage cores => Sys2Proof.Machine.execAdmitStage cores s
  | .calibStage => Sys2Proof.Machine.execCalibStage s
  | .serviceEntry => Sys2Proof.Machine.execServiceEntry s
  | .stageOverrun trained banks cores serdes windows => Sys2Proof.Machine.execStageOverrun trained banks cores serdes windows s
  | .profileReq port value => Sys2Proof.Machine.execProfileReq port value s
  | .coreRelock core => Sys2Proof.Machine.execCoreRelock core s
  | .profileChangeDone => Sys2Proof.Machine.execProfileChangeDone s
  | .throttleFall => Sys2Proof.Machine.execThrottleFall s
  | .throttleRise => Sys2Proof.Machine.execThrottleRise s
  | .thermalRevision => Sys2Proof.Machine.execThermalRevision s
  | .regWrite port off len full value => Sys2Proof.Machine.execRegWrite port off len full value s
  | .rcRead port off len full => Sys2Proof.Machine.execRcRead port off len full s
  | .coreMapLowRead port => Sys2Proof.Machine.execCoreMapLowRead port s
  | .chipRstReq port value => Sys2Proof.Machine.execChipRstReq port value s
  | .blkLockSet port page => Sys2Proof.Machine.execBlkLockSet port page s
  | .blkQuiesceWrite port page on => Sys2Proof.Machine.execBlkQuiesceWrite port page on s
  | .blkTestHoldWrite port page on => Sys2Proof.Machine.execBlkTestHoldWrite port page on s
  | .blkFenceWrite port page on => Sys2Proof.Machine.execBlkFenceWrite port page on s
  | .blkEnableWrite port page on => Sys2Proof.Machine.execBlkEnableWrite port page on s
  | .blkErrinjWrite port page value => Sys2Proof.Machine.execBlkErrinjWrite port page value s
  | .blkTokcfgWrite port page value => Sys2Proof.Machine.execBlkTokcfgWrite port page value s
  | .doorbellWrite port off value => Sys2Proof.Machine.execDoorbellWrite port off value s
  | .flrStart vf => Sys2Proof.Machine.execFlrStart vf s
  | .flrDone vf => Sys2Proof.Machine.execFlrDone vf s
  | .numvfsWrite value => Sys2Proof.Machine.execNumvfsWrite value s
  | .vfEnableClear => Sys2Proof.Machine.execVfEnableClear s
  | .vfCtxWrite port vf value => Sys2Proof.Machine.execVfCtxWrite port vf value s
  | .linkCorr status => Sys2Proof.Machine.execLinkCorr status s
  | .poisonedCompletion tag => Sys2Proof.Machine.execPoisonedCompletion tag s
  | .poisonedWrite func off => Sys2Proof.Machine.execPoisonedWrite func off s
  | .completionTimeout tag => Sys2Proof.Machine.execCompletionTimeout tag s
  | .tlpBad status => Sys2Proof.Machine.execTlpBad status s
  | .linkDown => Sys2Proof.Machine.execLinkDown s
  | .hostDmaCompletion tag => Sys2Proof.Machine.execHostDmaCompletion tag s
  | .passStart core exact => Sys2Proof.Machine.execPassStart core exact s
  | .passEnd core exact faults => Sys2Proof.Machine.execPassEnd core exact faults s
  | .readoutEnd core exact => Sys2Proof.Machine.execReadoutEnd core exact s
  | .checksumVerdict core => Sys2Proof.Machine.execChecksumVerdict core s
  | .logCommit port core => Sys2Proof.Machine.execLogCommit port core s
  | .logDefault port core => Sys2Proof.Machine.execLogDefault port core s
  | .logCopyDone core => Sys2Proof.Machine.execLogCopyDone core s
  | .dsaCksumEnWrite port core on => Sys2Proof.Machine.execDsaCksumEnWrite port core on s
  | .dsaHoldWrite port core on => Sys2Proof.Machine.execDsaHoldWrite port core on s
  | .iadd core place => Sys2Proof.Machine.execIadd core place s
  | .isub core place => Sys2Proof.Machine.execIsub core place s
  | .imul core place => Sys2Proof.Machine.execImul core place s
  | .and core place => Sys2Proof.Machine.execAnd core place s
  | .or core place => Sys2Proof.Machine.execOr core place s
  | .xor core place => Sys2Proof.Machine.execXor core place s
  | .shl core place => Sys2Proof.Machine.execShl core place s
  | .shr core place => Sys2Proof.Machine.execShr core place s
  | .sar core place => Sys2Proof.Machine.execSar core place s
  | .icmp core place => Sys2Proof.Machine.execIcmp core place s
  | .sel core place => Sys2Proof.Machine.execSel core place s
  | .imin core place => Sys2Proof.Machine.execImin core place s
  | .imax core place => Sys2Proof.Machine.execImax core place s
  | .popc core place => Sys2Proof.Machine.execPopc core place s
  | .clz core place => Sys2Proof.Machine.execClz core place s
  | .movi core place => Sys2Proof.Machine.execMovi core place s
  | .fadd core place => Sys2Proof.Machine.execFadd core place s
  | .fmul core place => Sys2Proof.Machine.execFmul core place s
  | .ffma core place => Sys2Proof.Machine.execFfma core place s
  | .fmin core place => Sys2Proof.Machine.execFmin core place s
  | .fmax core place => Sys2Proof.Machine.execFmax core place s
  | .fcmp core place => Sys2Proof.Machine.execFcmp core place s
  | .fcvt core place => Sys2Proof.Machine.execFcvt core place s
  | .frcp core place => Sys2Proof.Machine.execFrcp core place s
  | .frsq core place => Sys2Proof.Machine.execFrsq core place s
  | .fexp2 core place => Sys2Proof.Machine.execFexp2 core place s
  | .flog2 core place => Sys2Proof.Machine.execFlog2 core place s
  | .ld core place => Sys2Proof.Machine.execLd core place s
  | .st core place => Sys2Proof.Machine.execSt core place s
  | .redIadd core place => Sys2Proof.Machine.execRedIadd core place s
  | .atomIadd core place => Sys2Proof.Machine.execAtomIadd core place s
  | .atomCas core place => Sys2Proof.Machine.execAtomCas core place s
  | .redFadd core place => Sys2Proof.Machine.execRedFadd core place s
  | .atomFadd core place => Sys2Proof.Machine.execAtomFadd core place s
  | .rget core place => Sys2Proof.Machine.execRget core place s
  | .rput core place => Sys2Proof.Machine.execRput core place s
  | .rputO core place => Sys2Proof.Machine.execRputO core place s
  | .feed core place => Sys2Proof.Machine.execFeed core place s
  | .bra core place => Sys2Proof.Machine.execBra core place s
  | .jmp core place => Sys2Proof.Machine.execJmp core place s
  | .exit core place => Sys2Proof.Machine.execExit core place s
  | .gsync core place => Sys2Proof.Machine.execGsync core place s
  | .ksync core place => Sys2Proof.Machine.execKsync core place s
  | .shfl core place => Sys2Proof.Machine.execShfl core place s
  | .vote core place => Sys2Proof.Machine.execVote core place s
  | .passD core place => Sys2Proof.Machine.execPassD core place s
  | .passE core place => Sys2Proof.Machine.execPassE core place s
  | .waitp core place => Sys2Proof.Machine.execWaitp core place s
  | .signal core place => Sys2Proof.Machine.execSignal core place s
  | .waits core place => Sys2Proof.Machine.execWaits core place s
  | .rdtime core place => Sys2Proof.Machine.execRdtime core place s
  | .rdcore core place => Sys2Proof.Machine.execRdcore core place s
  | .rdcyc core place => Sys2Proof.Machine.execRdcyc core place s
  | .fence core place => Sys2Proof.Machine.execFence core place s
  | .groupLaunch core => Sys2Proof.Machine.execGroupLaunch core s
  | .dispatchPlace dispatch => Sys2Proof.Machine.execDispatchPlace dispatch s
  | .dispatchComplete core dispatch => Sys2Proof.Machine.execDispatchComplete core dispatch s
  | .hbmOdeccReport stack => Sys2Proof.Machine.execHbmOdeccReport stack s
  | .hbmOdeccHour => Sys2Proof.Machine.execHbmOdeccHour s
  | .scrubStep hbm unit => Sys2Proof.Machine.execScrubStep hbm unit s
  | .pathRetryResult dst src addr good equal => Sys2Proof.Machine.execPathRetryResult dst src addr good equal s
  | .bankMigrationDone core => Sys2Proof.Machine.execBankMigrationDone core s
  | .buddyGibWrite port stack value => Sys2Proof.Machine.execBuddyGibWrite port stack value s
  | .stackLeavesService stack => Sys2Proof.Machine.execStackLeavesService stack s
  | .entryFetch ctx queue => Sys2Proof.Machine.execEntryFetch ctx queue s
  | .nop ctx queue => Sys2Proof.Machine.execNop ctx queue s
  | .dispatch ctx queue => Sys2Proof.Machine.execDispatch ctx queue s
  | .copy ctx queue => Sys2Proof.Machine.execCopy ctx queue s
  | .fill ctx queue => Sys2Proof.Machine.execFill ctx queue s
  | .sigAdd ctx queue => Sys2Proof.Machine.execSigAdd ctx queue s
  | .sigWait ctx queue => Sys2Proof.Machine.execSigWait ctx queue s
  | .freeze ctx queue => Sys2Proof.Machine.execFreeze ctx queue s
  | .freezeEvict ctx queue => Sys2Proof.Machine.execFreezeEvict ctx queue s
  | .thaw ctx queue => Sys2Proof.Machine.execThaw ctx queue s
  | .ctxReset ctx queue => Sys2Proof.Machine.execCtxReset ctx queue s
  | .ckpt ctx queue => Sys2Proof.Machine.execCkpt ctx queue s
  | .restore ctx queue => Sys2Proof.Machine.execRestore ctx queue s
  | .coll ctx queue => Sys2Proof.Machine.execColl ctx queue s
  | .barrier ctx queue dwell => Sys2Proof.Machine.execBarrier ctx queue dwell s
  | .commandComplete ctx queue ssn => Sys2Proof.Machine.execCommandComplete ctx queue ssn s
  | .completionPost ctx queue => Sys2Proof.Machine.execCompletionPost ctx queue s
  | .modTimerExpire ctx => Sys2Proof.Machine.execModTimerExpire ctx s
  | .cqCidxWrite port ctx value => Sys2Proof.Machine.execCqCidxWrite port ctx value s
  | .eqCidxWrite port ctx value => Sys2Proof.Machine.execEqCidxWrite port ctx value s
  | .ringCfgWrite port ctx sub value => Sys2Proof.Machine.execRingCfgWrite port ctx sub value s
  | .queueEnableWrite port ctx value => Sys2Proof.Machine.execQueueEnableWrite port ctx value s
  | .assign port ctx owner => Sys2Proof.Machine.execAssign port ctx owner s
  | .release port ctx => Sys2Proof.Machine.execRelease port ctx s
  | .releaseDone ctx => Sys2Proof.Machine.execReleaseDone ctx s
  | .ctxCfgWrite port reg len value => Sys2Proof.Machine.execCtxCfgWrite port reg len value s
  | .ownCoresWrite port owner value => Sys2Proof.Machine.execOwnCoresWrite port owner value s
  | .shareWrite port quad owner len value => Sys2Proof.Machine.execShareWrite port quad owner len value s
  | .nlDetect port lanes => Sys2Proof.Machine.execNlDetect port lanes s
  | .nlCapReceive port flit => Sys2Proof.Machine.execNlCapReceive port flit s
  | .nlTrainDone port lanes => Sys2Proof.Machine.execNlTrainDone port lanes s
  | .nlIdentReceive port flit => Sys2Proof.Machine.execNlIdentReceive port flit s
  | .nlProbesDone port => Sys2Proof.Machine.execNlProbesDone port s
  | .nlCreditInit port flit => Sys2Proof.Machine.execNlCreditInit port flit s
  | .nlFailedRetry port lanes => Sys2Proof.Machine.execNlFailedRetry port lanes s
  | .dataFlitReceive port flit => Sys2Proof.Machine.execDataFlitReceive port flit s
  | .flitTransmit port => Sys2Proof.Machine.execFlitTransmit port s
  | .nakReceive port flit => Sys2Proof.Machine.execNakReceive port flit s
  | .ackTimeout port => Sys2Proof.Machine.execAckTimeout port s
  | .widthReceive port flit => Sys2Proof.Machine.execWidthReceive port flit s
  | .retrainDone port => Sys2Proof.Machine.execRetrainDone port s
  | .routeStateReceive port flit => Sys2Proof.Machine.execRouteStateReceive port flit s
  | .probeReceive port flit t2 t3 => Sys2Proof.Machine.execProbeReceive port flit t2 t3 s
  | .probeReplyReceive port flit t1 t4 => Sys2Proof.Machine.execProbeReplyReceive port flit t1 t4 s
  | .nlProbeTimer port => Sys2Proof.Machine.execNlProbeTimer port s
  | .laneFence port lane corrected => Sys2Proof.Machine.execLaneFence port lane corrected s
  | .pmaLockLoss port => Sys2Proof.Machine.execPmaLockLoss port s
  | .fecAlignLoss port => Sys2Proof.Machine.execFecAlignLoss port s
  | .retryTimerExpire port => Sys2Proof.Machine.execRetryTimerExpire port s
  | .nlReneg port nl => Sys2Proof.Machine.execNlReneg port nl s
  | .nlLaneUnfence port nl lanes => Sys2Proof.Machine.execNlLaneUnfence port nl lanes s
  | .routeEntWrite port value => Sys2Proof.Machine.execRouteEntWrite port value s
  | .fabIdWrite port value => Sys2Proof.Machine.execFabIdWrite port value s
  | .routeWaitExpire n => Sys2Proof.Machine.execRouteWaitExpire n s
  | .orderedFlitReceive => Sys2Proof.Machine.execOrderedFlitReceive s
  | .ordAckReceive => Sys2Proof.Machine.execOrdAckReceive s
  | .ordRetransmit dst => Sys2Proof.Machine.execOrdRetransmit dst s
  | .lostNoticeReceive => Sys2Proof.Machine.execLostNoticeReceive s
  | .getReqReceive => Sys2Proof.Machine.execGetReqReceive s
  | .putReceive => Sys2Proof.Machine.execPutReceive s
  | .putOReceive => Sys2Proof.Machine.execPutOReceive s
  | .getReplyReceive => Sys2Proof.Machine.execGetReplyReceive s
  | .putAckReceive => Sys2Proof.Machine.execPutAckReceive s
  | .remoteTimeout tag => Sys2Proof.Machine.execRemoteTimeout tag s
  | .collJoinReceive => Sys2Proof.Machine.execCollJoinReceive s
  | .collGoReceive => Sys2Proof.Machine.execCollGoReceive s
  | .collDataReceive => Sys2Proof.Machine.execCollDataReceive s
  | .collReadyReceive => Sys2Proof.Machine.execCollReadyReceive s
  | .collCommitReceive => Sys2Proof.Machine.execCollCommitReceive s
  | .collDoneReceive => Sys2Proof.Machine.execCollDoneReceive s
  | .collFinishReceive => Sys2Proof.Machine.execCollFinishReceive s
  | .collAbortReceive => Sys2Proof.Machine.execCollAbortReceive s
  | .collTimeout ctx cgen => Sys2Proof.Machine.execCollTimeout ctx cgen s
  | .barArriveReceive dwell => Sys2Proof.Machine.execBarArriveReceive dwell s
  | .barReleaseReceive dwell => Sys2Proof.Machine.execBarReleaseReceive dwell s
  | .barrierRelease => Sys2Proof.Machine.execBarrierRelease s
  | .barAbortReceive => Sys2Proof.Machine.execBarAbortReceive s
  | .barrierTimeout => Sys2Proof.Machine.execBarrierTimeout s
  | .stepWrite port value => Sys2Proof.Machine.execStepWrite port value s
  | .peerInfoReceive => Sys2Proof.Machine.execPeerInfoReceive s
  | .fltTokenAccept => Sys2Proof.Machine.execFltTokenAccept s
  | .moraineWrite => Sys2Proof.Machine.execMoraineWrite s
  | .moraineModTimer => Sys2Proof.Machine.execMoraineModTimer s
  | .morEnWrite port value => Sys2Proof.Machine.execMorEnWrite port value s
  | .rateWindowEnd => Sys2Proof.Machine.execRateWindowEnd s
  | .contextResetDrained ctx => Sys2Proof.Machine.execContextResetDrained ctx s
  | .recoveredPost ctx => Sys2Proof.Machine.execRecoveredPost ctx s
  | .engineResetDone result => Sys2Proof.Machine.execEngineResetDone result s
  | .partitionResetDone quad trained results => Sys2Proof.Machine.execPartitionResetDone quad trained results s
  | .chipResetAssert => Sys2Proof.Machine.execChipResetAssert s
  | .powerCycleHold => Sys2Proof.Machine.execPowerCycleHold s
  | .resetStepOverrun level domain core => Sys2Proof.Machine.execResetStepOverrun level domain core s
  | .progressWindowExpire page => Sys2Proof.Machine.execProgressWindowExpire page s
  | .rstCmdEngine port key core => Sys2Proof.Machine.execRstCmdEngine port key core s
  | .rstCmdPartition port key quad => Sys2Proof.Machine.execRstCmdPartition port key quad s
  | .rstCmdPowerCycle port key => Sys2Proof.Machine.execRstCmdPowerCycle port key s
  | .capDmaGo port => Sys2Proof.Machine.execCapDmaGo port s
  | .capDmaDone ok => Sys2Proof.Machine.execCapDmaDone ok s
  | .soloWrite port value => Sys2Proof.Machine.execSoloWrite port value s
  | .shadowPassStart core exact => Sys2Proof.Machine.execShadowPassStart core exact s
  | .shadowCompare core exact faults parity missed => Sys2Proof.Machine.execShadowCompare core exact faults parity missed s
  | .thirdPassVerdict core exact faults => Sys2Proof.Machine.execThirdPassVerdict core exact faults s
  | .shadowHoldExpire entry => Sys2Proof.Machine.execShadowHoldExpire entry s
  | .sampleDeadline entry => Sys2Proof.Machine.execSampleDeadline entry s
  | .scoreDecay => Sys2Proof.Machine.execScoreDecay s
  | .spareMap core => Sys2Proof.Machine.execSpareMap core s
  | .coreFence core => Sys2Proof.Machine.execCoreFence core s
  | .packLoad port => Sys2Proof.Machine.execPackLoad port s
  | .packAdmit readOk => Sys2Proof.Machine.execPackAdmit readOk s
  | .sliceStart core => Sys2Proof.Machine.execSliceStart core s
  | .odClockSwitch core => Sys2Proof.Machine.execOdClockSwitch core s
  | .sliceEnd core faults => Sys2Proof.Machine.execSliceEnd core faults s
  | .refWindowDue core => Sys2Proof.Machine.execRefWindowDue core s
  | .qtestCore port quad target drain od => Sys2Proof.Machine.execQtestCore port quad target drain od s
  | .qtestVolt port quad drain => Sys2Proof.Machine.execQtestVolt port quad drain s
  | .qtestPump port quad target drain => Sys2Proof.Machine.execQtestPump port quad target drain s
  | .qtestCancel port quad => Sys2Proof.Machine.execQtestCancel port quad s
  | .testDrainDone quad => Sys2Proof.Machine.execTestDrainDone quad s
  | .testDrainTimeout quad => Sys2Proof.Machine.execTestDrainTimeout quad s
  | .testWaitTimeout quad => Sys2Proof.Machine.execTestWaitTimeout quad s
  | .voltLevelSettled quad => Sys2Proof.Machine.execVoltLevelSettled quad s
  | .avsSettleTimeout quad => Sys2Proof.Machine.execAvsSettleTimeout quad s
  | .pumpGoalReached quad => Sys2Proof.Machine.execPumpGoalReached quad s
  | .pumpGoalTimeout quad => Sys2Proof.Machine.execPumpGoalTimeout quad s
  | .pumpHoldExpire quad => Sys2Proof.Machine.execPumpHoldExpire quad s
  | .pumpCooled quad => Sys2Proof.Machine.execPumpCooled quad s
  | .marginTick margins => Sys2Proof.Machine.execMarginTick margins s
  | .estimateStale core => Sys2Proof.Machine.execEstimateStale core s
  | .freezeComplete ctx => Sys2Proof.Machine.execFreezeComplete ctx s
  | .thawComplete ctx => Sys2Proof.Machine.execThawComplete ctx s
  | .ckptShardDone copy misses => Sys2Proof.Machine.execCkptShardDone copy misses s
  | .ckptSeal holder => Sys2Proof.Machine.execCkptSeal holder s
  | .buddyOfferReceive src step seq size => Sys2Proof.Machine.execBuddyOfferReceive src step seq size s
  | .buddyShardReceive src entry off data => Sys2Proof.Machine.execBuddyShardReceive src entry off data s
  | .buddyManifestReceive src data => Sys2Proof.Machine.execBuddyManifestReceive src data s
  | .restoreDone manifest fetched glitch => Sys2Proof.Machine.execRestoreDone manifest fetched glitch s
  | .firnAreaWrite port reg value => Sys2Proof.Machine.execFirnAreaWrite port reg value s
  | .ctxImgWrite port value => Sys2Proof.Machine.execCtxImgWrite port value s
  | .vmarkClr port ctx value => Sys2Proof.Machine.execVmarkClr port ctx value s
  | .sensorConversion raw => Sys2Proof.Machine.execSensorConversion raw s
  | .sfenceClear port sensor => Sys2Proof.Machine.execSfenceClear port sensor s
  | .grpCfgWrite port group value => Sys2Proof.Machine.execGrpCfgWrite port group value s
  | .thermtrip idx => Sys2Proof.Machine.execThermtrip idx s
  | .rcTrim dt => Sys2Proof.Machine.execRcTrim dt s
  | .vmonSample monitor raw => Sys2Proof.Machine.execVmonSample monitor raw s
  | .vmonRangeValid monitor raw => Sys2Proof.Machine.execVmonRangeValid monitor raw s
  | .pwrTargetRun port => Sys2Proof.Machine.execPwrTargetRun port s
  | .pwrTargetTrim port => Sys2Proof.Machine.execPwrTargetTrim port s
  | .pwrTargetDoze port => Sys2Proof.Machine.execPwrTargetDoze port s
  | .pwrTargetDrone port => Sys2Proof.Machine.execPwrTargetDrone port s
  | .dozeEntered => Sys2Proof.Machine.execDozeEntered s
  | .droneEntered => Sys2Proof.Machine.execDroneEntered s
  | .wakeEvent code port => Sys2Proof.Machine.execWakeEvent code port s
  | .alarmExpire => Sys2Proof.Machine.execAlarmExpire s
  | .calCommit port type => Sys2Proof.Machine.execCalCommit port type s
  | .calWriteDone => Sys2Proof.Machine.execCalWriteDone s
  | .lcReqField port key => Sys2Proof.Machine.execLcReqField port key s
  | .lcReqReturn port key => Sys2Proof.Machine.execLcReqReturn port key s
  | .lcReqScrap port key => Sys2Proof.Machine.execLcReqScrap port key s
  | .tokenLoad port value => Sys2Proof.Machine.execTokenLoad port value s
  | .dbgReqSealed port => Sys2Proof.Machine.execDbgReqSealed port s
  | .dbgReqObserve port => Sys2Proof.Machine.execDbgReqObserve port s
  | .dbgReqInvasive port => Sys2Proof.Machine.execDbgReqInvasive port s
  | .svnCommit port key => Sys2Proof.Machine.execSvnCommit port key s
  | .fwUpdate port => Sys2Proof.Machine.execFwUpdate port s
  | .fwUpdateDone readOk flashOk => Sys2Proof.Machine.execFwUpdateDone readOk flashOk s
  | .tapBypass => Sys2Proof.Machine.execTapBypass s
  | .tapIdcode => Sys2Proof.Machine.execTapIdcode s
  | .tapSamplePreload pins data => Sys2Proof.Machine.execTapSamplePreload pins data s
  | .tapExtest pins data => Sys2Proof.Machine.execTapExtest pins data s
  | .tapSecstat => Sys2Proof.Machine.execTapSecstat s
  | .tapToken data => Sys2Proof.Machine.execTapToken data s
  | .tapDbgreq level => Sys2Proof.Machine.execTapDbgreq level s
  | .tapRegap data => Sys2Proof.Machine.execTapRegap data s
  | .tapMemap data => Sys2Proof.Machine.execTapMemap data s
  | .i3cAddressAssign entdaa static addr => Sys2Proof.Machine.execI3cAddressAssign entdaa static addr s
  | .i3cTransfer addr write value => Sys2Proof.Machine.execI3cTransfer addr write value s
  | .chanterWatchdogExpire => Sys2Proof.Machine.execChanterWatchdogExpire s
  | .chanterSramParity off => Sys2Proof.Machine.execChanterSramParity off s
  | .undefinedOpcode core place => Sys2Proof.Machine.execUndefinedOpcode core place s
  | .fetchOutOfRange core place => Sys2Proof.Machine.execFetchOutOfRange core place s
  | .vfEnableSet => Sys2Proof.Machine.execVfEnableSet s
  | .msixVectorUnmask func vec => Sys2Proof.Machine.execMsixVectorUnmask func vec s
  | .pcieLinkL0 width rate hostFlit => Sys2Proof.Machine.execPcieLinkL0 width rate hostFlit s
  | .dozeExitComplete => Sys2Proof.Machine.execDozeExitComplete s
  | .nlForeignRetry port lanes => Sys2Proof.Machine.execNlForeignRetry port lanes s
  | .barTreeWrite port value => Sys2Proof.Machine.execBarTreeWrite port value s
  | .shadowEnWrite port on => Sys2Proof.Machine.execShadowEnWrite port on s
  | .sliceEnClear port core => Sys2Proof.Machine.execSliceEnClear port core s
  | .sliceCoreChosen quad => Sys2Proof.Machine.execSliceCoreChosen quad s
  | .naturalRefWindow core => Sys2Proof.Machine.execNaturalRefWindow core s
  | .explicitPatternsDone quad faults => Sys2Proof.Machine.execExplicitPatternsDone quad faults s
  | .lcFuseBurnDone => Sys2Proof.Machine.execLcFuseBurnDone s
  | .buddyRefusalReceive src => Sys2Proof.Machine.execBuddyRefusalReceive src s
  | .buddyResendRequestReceive src entry => Sys2Proof.Machine.execBuddyResendRequestReceive src entry s
  | .shardFetchRequestReceive src member step region shard => Sys2Proof.Machine.execShardFetchRequestReceive src member step region shard s

end Sys2Proof.Machine
end

