-- ==== Sys2Proof/Machine/Tick.lean ====
section
/-! DEFINITION. What passes with time alone: one unit of field time of 10 ns, while no command waits (log 5). Core cycles, screening
credits, what owners are charged for, the start barrier's countdown, and upsets of the memories (log 67). -/
namespace Sys2Proof.Machine

/-- The quarter cycles of core c in one unit of field time: its frequency in steps of 25 MHz (R6, R612). -/
def State.quarters (s : State) (c : Nat) : Nat := s.rd CLKRST.CORE_FREQ_F25 0 c

/-- The contexts with a resident group or a running pass on a core (R287). -/
def Core.holders (k : Core) : List Nat :=
  (k.groups.map (·.2.ctx) ++ ([k.dsa.running, k.exu.running].filterMap id).map (·.ctx)).dedup

/-- The clock of core c runs on: its cycle count, what its owners and contexts are charged, and nothing in a test slice (R287, R288,
R612). -/
def State.runCore (s : State) (c : Nat) : State :=
  let n := s.quarters c
  if n = 0 then s
  else
    let xs := if s.inSlice c then [] else (s.core c).holders
    let owners := (xs.map (fun x => (s.ctx x).owner)).dedup
    let s := s.modCore c (fun k => { k with
      cyc := k.cyc + n
      usage := owners.map (fun o => (s.ftime, o, n)) ++ k.usage.filter (fun u => s.ftime < u.1 + 100000) })
    s.each xs (fun s x => s.modCtx x (fun c => { c with deficit := c.deficit - n }))

/-- What the live cores of quadrant q add to a credit in one unit of field time, for a part of 256 (R392); a credit counts 1/1024 of a
unit. -/
def State.accrual (s : State) (q part : Nat) : Nat :=
  ((((List.range 4).map (fun j => 4 * q + j)).filter s.live).map s.quarters).sum * s.share q * part

/-- A credit after it grew by `add`, not above what its quadrant accrues in 1 ms. -/
def grown (credit : Int) (add : Nat) : Int := min (credit + add) (100000 * add : Nat)

/-- The screening credits of quadrant q grow. -/
def State.growCredit (s : State) (q : Nat) : State :=
  let part := s.rd SERAC.SHADOW_PART_Q 0 q
  s.modSerac (fun r => { r with
    shadowCredit := SMap.put r.shadowCredit q (grown (SMap.get r.shadowCredit q 0) (s.accrual q part))
    sliceCredit := SMap.put r.sliceCredit q (grown (SMap.get r.sliceCredit q 0) (s.accrual q (256 - part))) })

/-- The barrier's countdown runs (R343): 128 units of 78.125 ps. -/
def State.countDown (s : State) : State :=
  if s.barState = barCOUNTDOWN then s.modBarrier (fun b => { b with remain := b.remain - 128 }) else s

/-- The word or sector that a draw over the local memories names. -/
def upsetAt (n : Nat) : Nat :=
  if n < 4 * hbmSize then n / 64 * 64 else spadBase + (n - 4 * hbmSize) / 8 * 8

/-- An upset may strike a word or sector: a free value says whether, where, and whether the code corrects it (log 67). -/
def State.upset (s : State) : State :=
  let what := s.drawn 3
  let s := s.drew
  let m := upsetAt (s.drawn (4 * hbmSize + 16 * sliceSize))
  let s := s.drew
  if what = 1 then { s with marksC := if s.marksC.contains m then s.marksC else s.marksC ++ [m] }
  else if what = 2 then { s with marksU := if s.marksU.contains m then s.marksU else s.marksU ++ [m] }
  else s

/-- One unit of field time. -/
def State.tick (s : State) : State :=
  let s := if s.droneRuns then { s with ftime := s.ftime + 1 } else s
  if !s.mainRuns then s
  else
    let s := s.each (List.range 16) State.runCore
    let s := s.when s.inService (fun s => s.each (List.range 4) State.growCredit)
    s.countDown.upset

end Sys2Proof.Machine
end

