-- ==== Sys2Proof/Safety.lean ====
section
/-! DEFINITION. The terms claims are stated in: the canonical form that every step keeps, what a command leaves as it was, and
what an instruction does to the group that issues it. -/
namespace Sys2Proof.Machine

/-- The canonical form of a state: equal memories, register files, contexts and cores are equal data. -/
def State.canon (s : State) : Prop :=
  Memory.wf s.mem = true ∧ Memory.wf s.host = true ∧ SMap.wf s.regs = true ∧ SMap.wf s.ctxs = true ∧ SMap.wf s.cores = true

/-- Every register field but those whose keys are listed is as before. -/
def State.regsBut (s t : State) (keys : List Nat) : Prop :=
  ∀ b, b ∉ keys → SMap.find t.regs b = SMap.find s.regs b

/-- Every byte of local memory outside the n bytes from a reads as before. -/
def State.bytesBut (s t : State) (a n : Nat) : Prop := ∀ j, j < a ∨ a + n ≤ j → t.byte j = s.byte j

/-- A write of a register reaches it: Table 3-3 lets the access through, the port's authority covers the field, and the access wakes
nothing from DOZE. -/
def State.lets (s : State) (a : Authority) (off len : Nat) (r : Row) : Prop :=
  s.gate a off len true = .ok ∧ s.mayWrite a r = true ∧ s.pageWake a (off / 4096) = s

/-- A token as its fields give it, of the class its kind has by default. -/
def tokOf (src kind addr detail : Nat) : Tok :=
  { src := src, kind := kind, cls := defaultClass kind src, addr := addr % 2 ^ 48, detail := detail % 2 ^ 16 }

/-- A token as its fields give it that bears context x in its present generation. -/
def State.ctxTok (s : State) (src kind x addr detail : Nat) : Tok :=
  { tokOf src kind addr detail with ctx := x, gen := (s.ctx x).gen }

/-- A token raised now. -/
def State.rising (s : State) (k : Tok) : Tok := { k with since := s.ftime }

/-- The tokens that FLT has yet to take in are those before and these, raised now, in this order. -/
def State.raised (s t : State) (l : List Tok) : Prop := t.fltIn = s.fltIn ++ l.map s.rising

/-- A function signalled a vector: after `before` the message went out, or it became pending where the vector or the function is masked; a
function whose MSI-X Enable is 0 sends nothing. -/
def State.signalled (s t : State) (func vec : Nat) (before : List Emit := []) : Prop :=
  let v := SMap.get s.pci.msix (msiKey func vec) {}
  let masked := v.mask || s.msixMasked func
  t.pci = (if (s.msixEnabled func && masked) = true
    then { s.pci with msix := SMap.put s.pci.msix (msiKey func vec) { v with pend := true } } else s.pci) ∧
  t.out = s.out ++ before ++ if (s.msixEnabled func && !masked) = true then [.msix func vec v.addr v.data] else []

/-- Nothing keeps the memories from being read and written: no upset stands, no transfer was discarded, no stack is in self-refresh. -/
def State.memoryClear (s : State) : Prop :=
  s.marksC = [] ∧ s.marksU = [] ∧ s.lostPaths = [] ∧ ∀ k, k < 4 → s.asleep k = false

/-! ### Queues of a context -/

/-- Only context x changed, and of its queues only qn, whose commands were changed by f. -/
def State.cmdsBy (s t : State) (x qn : Nat) (f : Cmd → Cmd) : Prop :=
  (∀ y, y ≠ x → t.ctx y = s.ctx y) ∧
  t.ctx x = (s.ctx x).setQueue qn { (s.ctx x).queue qn with cmds := ((s.ctx x).queue qn).cmds.map f }

/-- In queue qn of context x the unfinished command of SSN `ssn` has finished with a status and DETAIL, at this time. -/
def State.doneIn (s t : State) (x qn ssn status detail : Nat) : Prop :=
  ((t.ctx x).queue qn).cmds = ((s.ctx x).queue qn).cmds.map (fun k =>
    if k.ssn = ssn ∧ k.over = false then { k with phase := .done status detail s.ftime } else k)

/-- In queue qn of context x the command of SSN `ssn` runs. -/
def State.runsIn (s t : State) (x qn ssn : Nat) : Prop :=
  ((t.ctx x).queue qn).cmds = ((s.ctx x).queue qn).cmds.map (fun k =>
    if k.ssn = ssn then { k with phase := .running } else k)

/-- The unfinished command of SSN `ssn` has finished with a status and DETAIL, at this time. -/
def State.finished (s t : State) (x qn ssn status detail : Nat) : Prop :=
  s.cmdsBy t x qn (fun k => if k.ssn = ssn ∧ k.over = false then { k with phase := .done status detail s.ftime } else k)

/-- The command of SSN `ssn` runs. -/
def State.started (s t : State) (x qn ssn : Nat) : Prop :=
  s.cmdsBy t x qn (fun k => if k.ssn = ssn then { k with phase := .running } else k)

/-! ### Instructions of a group -/

/-- The register fields that every issue of an instruction counts in. -/
def Issue.counters (i : Issue) : List Nat := [FE.FE_STARVE_COUNT.bit i.core 0, HDR.BLK_PROG.bit (pgFE i.core) 0]

/-- The register fields in which the slices and stacks count the accesses they serve. -/
def servedKeys : List Nat :=
  (List.range 16).map (fun c => HDR.BLK_PROG.bit (pgSPAD c) 0) ++ (List.range 4).map (fun k => HDR.BLK_PROG.bit (pgSTACK k) 0)

/-- An issue touches its own group and the fields that count issues (and those listed in `extra`), and nothing else of its core. -/
def State.otherGroups (s t : State) (i : Issue) (extra : List Nat := []) : Prop :=
  (∀ c, c ≠ i.core → t.core c = s.core c) ∧
  (∀ p, p ≠ i.place → (t.core i.core).group p = (s.core i.core).group p) ∧
  t.core i.core = { s.core i.core with groups := (t.core i.core).groups } ∧
  s.regsBut t (i.counters ++ extra)

/-- The group moved on: every participating thread stands at the next instruction, and no other thread moved. -/
def Issue.moved (i : Issue) (g : Group) : Prop :=
  g = { i.g with threads := g.threads, regs := g.regs, retired := satInc (2 ^ 32 - 1) i.g.retired } ∧
  ∀ l, l < i.g.threads.length →
    g.thread l = { i.g.thread l with wait := (g.thread l).wait
                                     pc := if l ∈ i.lanes then (i.pc + 8) % 2 ^ 64 else (i.g.thread l).pc }

/-- In every participating lane register xd holds v; every other register of the group is as before. -/
def Issue.wrote (i : Issue) (g : Group) (xd : Nat) (v : Nat → Word) : Prop :=
  ∀ l r, r < 64 → g.reg l r = if l ∈ i.lanes ∧ r = xd then v l else i.g.reg l r

/-- In every participating lane the word xd, or for 8 bytes the pair from xd, holds v zero-extended; every other register of the group
is as before. -/
def Issue.loaded (i : Issue) (g : Group) (v : Nat → Nat) : Prop :=
  (∀ l ∈ i.lanes, (insSize i.word ≠ 8 → (g.reg l (insXD i.word)).toNat = v l) ∧
    (insSize i.word = 8 → g.pair l (insXD i.word) = v l)) ∧
  ∀ l r, r < 64 → (l ∉ i.lanes ∨ (r ≠ insXD i.word ∧ (insSize i.word = 8 → r ≠ insXD i.word + 1))) → g.reg l r = i.g.reg l r

/-- No other participating lane accesses the operand of lane l, at local offset o. -/
def State.alone (s : State) (i : Issue) (l o : Nat) : Prop :=
  ∀ l' ∈ i.lanes, l' ≠ l → s.checkAddr i.g.ctx (i.g.addr l' i.word) (insSize i.word) ≠ .ok o

/-- Every access of a memory instruction passes its checks, and no mark of an upset stands in the memories. -/
def State.accessible (s : State) (i : Issue) : Prop :=
  insXA i.word < 63 ∧ s.memoryClear ∧
  ∀ l ∈ i.lanes, ∃ o, s.checkAddr i.g.ctx (i.g.addr l i.word) (insSize i.word) = .ok o

/-- Every byte of local memory that no participating lane accesses reads as before. -/
def State.storesOnly (s t : State) (i : Issue) : Prop :=
  ∀ j, (∀ l ∈ i.lanes, ∀ o, s.checkAddr i.g.ctx (i.g.addr l i.word) (insSize i.word) = .ok o →
    j < o ∨ o + insSize i.word ≤ j) → t.byte j = s.byte j

/-- The outcome of a memory instruction that completes: the group g moved on, memory changed only where lanes access it, each
operand that one lane alone accesses takes the value `new` gives it, and nothing else of the part changed but the counters, the
stack accounting, and the draws that order lanes. -/
def State.accessed (s : State) (i : Issue) (out : Out) (vmark : Bool) (new : Nat → Nat → Nat) (post : Group → Prop) : Prop :=
  ∃ t g, out = .next t ∧
    t = { s with cores := t.cores, regs := t.regs, hbms := t.hbms, draws := t.draws, mem := t.mem
                 ctxs := if vmark then (s.modCtx i.g.ctx (fun x => { x with vmark := true })).ctxs else s.ctxs } ∧
    s.otherGroups t i servedKeys ∧ (t.core i.core).group i.place = some g ∧ i.moved g ∧ s.storesOnly t i ∧
    (∀ l ∈ i.lanes, ∀ o, s.checkAddr i.g.ctx (i.g.addr l i.word) (insSize i.word) = .ok o → s.alone i l o →
      t.load o (insSize i.word) = new l (s.load o (insSize i.word))) ∧ post g

/-- The outcome of a register-to-register instruction: it completes, each participating lane has its result in xd and stands at the
next instruction, and nothing else of the part changed. -/
def State.issued (s : State) (i : Issue) (out : Out) (v : Nat → Word) : Prop :=
  ∃ t g, out = .next t ∧ t = { s with cores := t.cores, regs := t.regs } ∧ s.otherGroups t i ∧
    (t.core i.core).group i.place = some g ∧ i.moved g ∧ i.wrote g (insXD i.word) v

/-! ### Ports -/

/-- The register fields that follow the service level, with BLK_ERR of the page that raises its change. -/
def levelKeys : List Nat :=
  [CHIP.SVC_LEVEL_LACK_LINK, CHIP.SVC_LEVEL_LACK_CORE, CHIP.SVC_LEVEL_LACK_QENG, CHIP.SVC_LEVEL_LACK_CAL,
    CHIP.SVC_LEVEL_LACK_AVS, CHIP.SVC_LEVEL_LACK_THERM, CHIP.SVC_LEVEL_LACK_MORAINE, CHIP.SVC_LEVEL_LACK_FLT,
    CHIP.SVC_LEVEL_NL_UP, CHIP.SVC_LEVEL_CQUAD, CHIP.SVC_LEVEL_LEVEL].map (fun r => r.bit 0 0) ++ [HDR.BLK_ERR.bit pgCHIP 0]

/-- A port is as before, but for the ROUTE_STATE that is due on it where the part's own routability changed (R308). -/
def State.portKept (s t : State) (q : Nat) : Prop :=
  t.port q = s.port q ∨
  (t.routable ≠ s.routable ∧ t.nlUp q = true ∧
    t.port q = { s.port q with ctrl := (s.port q).ctrl ++ [(tCTRL, [0x05#8, BitVec.ofNat 8 (b2n t.routable)])] })

/-- Only port p, the service level and what they raise and send changed, and of the registers only these and the level's. -/
def State.onPort (s t : State) (p : Nat) (keys : List Nat) : Prop :=
  t = { s with nl := t.nl, regs := t.regs, fltIn := t.fltIn, pci := t.pci, out := t.out } ∧
  (∀ q, q ≠ p → s.portKept t q) ∧ s.regsBut t (levelKeys ++ keys)

/-- A token was raised. -/
def State.told (s t : State) (k : Tok) : Prop := ∃ l, t.fltIn = s.fltIn ++ l ∧ s.rising k ∈ l

/-- Port p lost its link at this moment: it is in HOLD with its retry timer running, and LINK_HOLD is raised. -/
def State.linkHeld (s t : State) (p : Nat) (keys : List Nat) : Prop :=
  s.onPort t p ([NL.NL_STAT_STATE.bit p 0, NL.NL_DELAY_VALID.bit p 0, HDR.BLK_ERR.bit (pgNL p) 0] ++ keys) ∧
  t.nlState p = nlHOLD ∧ bit (t.rd CHIP.SVC_LEVEL_NL_UP) p = false ∧ t.rd NL.NL_DELAY_VALID p = 0 ∧
  (t.port p).retryFrom = some ((s.port p).retryFrom.getD s.ftime) ∧ (t.port p).replay = (s.port p).replay ∧
  s.told t (tokOf (pgNL p) kLINK_HOLD 0 (s.rd NL.NL_STAT_P_PART p))

/-- These control flits became due at port p after those that were. -/
def State.ctrlDue (s t : State) (p : Nat) (l : List (Nat × List Byte)) : Prop := (t.port p).ctrl = (s.port p).ctrl ++ l

end Sys2Proof.Machine
end

