-- ==== Sys2Proof/Certificates/Slice0/Obligations.lean ====
section
/-! DEFINITION. What is claimed of the part: the obligations that the provers take up. A clause that says what a command does has the
form "there is t with exec c s = .next t and …": it says that the command completes in every state the hypotheses describe. -/
section
open Sys2Proof Sys2Proof.Machine

/-! ### Thread instructions (*Thread Groups and the Instruction List*) -/

/-- R207, R612 and Table 5-4, OP 0x01–0x10: every integer instruction whose issue goes through completes with its result in xd of
each participating lane; the group moves on, and nothing else changes but the counters of an issue. -/
def Obligations.IntegerResults : Prop :=
  ∀ (z : State) (c p : Nat) (i : Issue), z.issuePoint c p = some i → i.inRange = true → i.got = true →
    let s := z.fetched i;
    (insOp i.word = 0x01 → s.issued i (exec (.iadd c p) z) (fun l => i.g.reg l (insXA i.word) + i.g.reg l (insXB i.word))) ∧
    (insOp i.word = 0x02 → s.issued i (exec (.isub c p) z) (fun l => i.g.reg l (insXA i.word) - i.g.reg l (insXB i.word))) ∧
    (insOp i.word = 0x03 → s.issued i (exec (.imul c p) z) (fun l => i.g.reg l (insXA i.word) * i.g.reg l (insXB i.word))) ∧
    (insOp i.word = 0x04 → s.issued i (exec (.and c p) z) (fun l => i.g.reg l (insXA i.word) &&& i.g.reg l (insXB i.word))) ∧
    (insOp i.word = 0x05 → s.issued i (exec (.or c p) z) (fun l => i.g.reg l (insXA i.word) ||| i.g.reg l (insXB i.word))) ∧
    (insOp i.word = 0x06 → s.issued i (exec (.xor c p) z) (fun l => i.g.reg l (insXA i.word) ^^^ i.g.reg l (insXB i.word))) ∧
    (insOp i.word = 0x07 → s.issued i (exec (.shl c p) z)
      (fun l => i.g.reg l (insXA i.word) <<< ((i.g.reg l (insXB i.word)).toNat % 32))) ∧
    (insOp i.word = 0x08 → s.issued i (exec (.shr c p) z)
      (fun l => i.g.reg l (insXA i.word) >>> ((i.g.reg l (insXB i.word)).toNat % 32))) ∧
    (insOp i.word = 0x09 → s.issued i (exec (.sar c p) z)
      (fun l => (i.g.reg l (insXA i.word)).sshiftRight ((i.g.reg l (insXB i.word)).toNat % 32))) ∧
    (insOp i.word = 0x0B → s.issued i (exec (.sel c p) z) (fun l =>
      if i.g.reg l (insXC i.word) = 0#32 then i.g.reg l (insXB i.word) else i.g.reg l (insXA i.word))) ∧
    (insOp i.word = 0x0C → s.issued i (exec (.imin c p) z) (fun l =>
      if (i.g.reg l (insXB i.word)).slt (i.g.reg l (insXA i.word)) then i.g.reg l (insXB i.word) else i.g.reg l (insXA i.word))) ∧
    (insOp i.word = 0x0D → s.issued i (exec (.imax c p) z) (fun l =>
      if (i.g.reg l (insXA i.word)).slt (i.g.reg l (insXB i.word)) then i.g.reg l (insXB i.word) else i.g.reg l (insXA i.word))) ∧
    (insOp i.word = 0x10 → s.issued i (exec (.movi c p) z) (fun _ => BitVec.ofNat 32 i.word))

/-- R612: ICMP writes 1 or 0 under the predicate that IMM[2:0] selects. Table 5-4: POPC counts the bits set in xa, and CLZ the
zeros above its highest bit set. R183 and R612: SHFL gives each participating thread the xa of thread xb mod W, 0 where that thread
did not take part; VOTE gives 1 where any, or all, participating threads have a non-zero xa, or the mask of those that have. -/
def Obligations.CompareCountShuffleVote : Prop :=
  (∀ (z : State) (c p : Nat) (i : Issue), z.issuePoint c p = some i → i.inRange = true → i.got = true →
      let s := z.fetched i; insOp i.word = 0x0A →
      let gives := fun (holds : Word → Word → Bool) => s.issued i (exec (.icmp c p) z) (fun l =>
        if holds (i.g.reg l (insXA i.word)) (i.g.reg l (insXB i.word)) then 1#32 else 0#32)
      (bits i.word 2 0 = 0 → gives (fun a b => a == b)) ∧ (bits i.word 2 0 = 1 → gives (fun a b => a != b)) ∧
      (bits i.word 2 0 = 2 → gives BitVec.slt) ∧ (bits i.word 2 0 = 3 → gives BitVec.sle) ∧
      (bits i.word 2 0 = 4 → gives BitVec.ult) ∧ (bits i.word 2 0 = 5 → gives BitVec.ule)) ∧
  (∀ (z : State) (c p : Nat) (i : Issue), z.issuePoint c p = some i → i.inRange = true → i.got = true →
      let s := z.fetched i;
      (insOp i.word = 0x0E → s.issued i (exec (.popc c p) z) (fun l =>
        BitVec.ofNat 32 ((List.range 32).countP (fun k => (i.g.reg l (insXA i.word)).getLsbD k)))) ∧
      (insOp i.word = 0x0F → s.issued i (exec (.clz c p) z) (fun l =>
        BitVec.ofNat 32 (((List.range 32).find? (fun k => (i.g.reg l (insXA i.word)).getLsbD (31 - k))).getD 32)))) ∧
  (∀ (z : State) (c p : Nat) (i : Issue), z.issuePoint c p = some i → i.inRange = true → i.got = true →
      let s := z.fetched i;
      let a := fun l => i.g.reg l (insXA i.word)
      (insOp i.word = 0x75 → s.issued i (exec (.shfl c p) z) (fun l =>
        let src := (i.g.reg l (insXB i.word)).toNat % i.g.width
        if src ∈ i.lanes then a src else 0#32)) ∧
      (insOp i.word = 0x76 → bits i.word 1 0 = 0 → s.issued i (exec (.vote c p) z) (fun _ =>
        if ∃ l ∈ i.lanes, a l ≠ 0#32 then 1#32 else 0#32)) ∧
      (insOp i.word = 0x76 → bits i.word 1 0 = 1 → s.issued i (exec (.vote c p) z) (fun _ =>
        if ∀ l ∈ i.lanes, a l ≠ 0#32 then 1#32 else 0#32)) ∧
      (insOp i.word = 0x76 → bits i.word 1 0 = 2 → insXD i.word < 63 →
        ∃ t g, exec (.vote c p) z = .next t ∧ t = { s with cores := t.cores, regs := t.regs } ∧ s.otherGroups t i ∧
          (t.core c).group p = some g ∧ i.moved g ∧
          (∀ l ∈ i.lanes, ∀ k, bit (g.pair l (insXD i.word)) k = decide (k < 64 ∧ k ∈ i.lanes ∧ a k ≠ 0#32)) ∧
          (∀ l r, r < 64 → (l ∉ i.lanes ∨ (r ≠ insXD i.word ∧ r ≠ insXD i.word + 1)) → g.reg l r = i.g.reg l r)))

/-- R181, R208, R209 and Table 5-4, OP 0x20–0x2A: while no pass of the Exact Unit runs on its core, every floating-point
instruction completes with its result in xd of each participating lane. The results of FRCP, FRSQ, FEXP2 and FLOG2 hold the free
error of assumption log entry 12. -/
def Obligations.FloatResults : Prop :=
  ∀ (z : State) (c p : Nat) (i : Issue), z.issuePoint c p = some i → i.inRange = true → i.got = true →
    let s := z.fetched i;
    (s.core c).exu.running = none → (s.core c).exu.serac = none →
    let a := fun l => (i.g.reg l (insXA i.word)).toNat
    let b := fun l => (i.g.reg l (insXB i.word)).toNat
    (insOp i.word = 0x20 → s.issued i (exec (.fadd c p) z) (fun l => BitVec.ofNat 32 (f32.add (a l) (b l)))) ∧
    (insOp i.word = 0x21 → s.issued i (exec (.fmul c p) z) (fun l => BitVec.ofNat 32 (f32.mul (a l) (b l)))) ∧
    (insOp i.word = 0x22 → s.issued i (exec (.ffma c p) z) (fun l =>
      BitVec.ofNat 32 (f32.fma (a l) (b l) (i.g.reg l (insXC i.word)).toNat))) ∧
    (insOp i.word = 0x23 → s.issued i (exec (.fmin c p) z) (fun l => BitVec.ofNat 32 (f32.minimum (a l) (b l)))) ∧
    (insOp i.word = 0x24 → s.issued i (exec (.fmax c p) z) (fun l => BitVec.ofNat 32 (f32.maximum (a l) (b l)))) ∧
    (insOp i.word = 0x25 → bits i.word 2 0 < 6 → s.issued i (exec (.fcmp c p) z) (fun l =>
      if fcmp (bits i.word 2 0) (a l) (b l) then 1#32 else 0#32)) ∧
    (insOp i.word = 0x26 → bits i.word 3 0 ≤ 8 → s.issued i (exec (.fcvt c p) z) (fun l =>
      BitVec.ofNat 32 (fcvt (bits i.word 3 0) (a l) (b l)))) ∧
    (insOp i.word = 0x27 → s.issued i (exec (.frcp c p) z) (fun l => floatApprox 0x27 (i.g.reg l (insXA i.word)))) ∧
    (insOp i.word = 0x28 → s.issued i (exec (.frsq c p) z) (fun l => floatApprox 0x28 (i.g.reg l (insXA i.word)))) ∧
    (insOp i.word = 0x29 → s.issued i (exec (.fexp2 c p) z) (fun l => floatApprox 0x29 (i.g.reg l (insXA i.word)))) ∧
    (insOp i.word = 0x2A → s.issued i (exec (.flog2 c p) z) (fun l => floatApprox 0x2A (i.g.reg l (insXA i.word))))

/-- R185, R186, R188, R612 and Table 5-4: LD gives each participating lane the s bytes at its address, zero-extended, and stores
nothing; ST stores the low s bytes of xb. The order in which lanes that meet on one operand take effect is left open (log 10).
R166, R188, R199, R612 and Table 5-4: RED.IADD and ATOM.IADD add xb to the operand modulo 2^(8s), ATOM.CAS replaces an operand that
equals xb by xc, RED.FADD and ATOM.FADD add with one rounding; the ATOM forms give the old value to xd, and all but RED.IADD mark
the context. -/
def Obligations.LoadsStoresAtomics : Prop :=
  (∀ (z : State) (c p : Nat) (i : Issue), z.issuePoint c p = some i → i.inRange = true → i.got = true →
      let s := z.fetched i; s.accessible i →
      (insOp i.word = 0x40 → (insSize i.word = 8 → insXD i.word < 63) →
        s.accessed i (exec (.ld c p) z) false (fun _ old => old) (fun g =>
          i.loaded g (fun l => s.load (i.g.addr l i.word % 2 ^ 52) (insSize i.word))) ∧
        ∀ t, exec (.ld c p) z = .next t → t.mem = s.mem) ∧
      (insOp i.word = 0x41 → (insSize i.word = 8 → insXB i.word < 63) →
        s.accessed i (exec (.st c p) z) false (fun l _ => i.g.data l (insXB i.word) (insSize i.word)) (fun g => g.regs = i.g.regs))) ∧
  (∀ (z : State) (c p : Nat) (i : Issue), z.issuePoint c p = some i → i.inRange = true → i.got = true →
      let s := z.fetched i; s.accessible i →
      let n := insSize i.word
      let b := fun l => i.g.data l (insXB i.word) n
      let old := fun g => ∀ l ∈ i.lanes, ∀ o, s.checkAddr i.g.ctx (i.g.addr l i.word) n = .ok o → s.alone i l o →
        (n ≠ 8 → (g.reg l (insXD i.word)).toNat = s.load o n) ∧ (n = 8 → g.pair l (insXD i.word) = s.load o n)
      (insOp i.word = 0x42 → (n = 8 → insXB i.word < 63) →
        s.accessed i (exec (.redIadd c p) z) false (fun l v => (v + b l) % 2 ^ (8 * n)) (fun g => g.regs = i.g.regs)) ∧
      (insOp i.word = 0x43 → i.d.kernel.vAllow = true → (n = 8 → insXB i.word < 63 ∧ insXD i.word < 63) →
        s.accessed i (exec (.atomIadd c p) z) true (fun l v => (v + b l) % 2 ^ (8 * n)) old) ∧
      (insOp i.word = 0x44 → i.d.kernel.vAllow = true → (n = 8 → insXB i.word < 63 ∧ insXC i.word < 63 ∧ insXD i.word < 63) →
        s.accessed i (exec (.atomCas c p) z) true (fun l v => if v = b l then i.g.data l (insXC i.word) n else v) old) ∧
      (insOp i.word = 0x45 → i.d.kernel.vAllow = true → n = 4 ∨ n = 2 →
        s.accessed i (exec (.redFadd c p) z) true (fun l v => (if n = 4 then f32 else bf16).add v (b l) % 2 ^ (8 * n))
          (fun g => g.regs = i.g.regs)) ∧
      (insOp i.word = 0x46 → i.d.kernel.vAllow = true → n = 4 ∨ n = 2 →
        s.accessed i (exec (.atomFadd c p) z) true (fun l v => (if n = 4 then f32 else bf16).add v (b l) % 2 ^ (8 * n)) old))

/-- Table 5-4: BRA moves each participating thread whose xa is not 0 to PC + 8 × sign-extended IMM, and JMP every one; no register
and no memory changes. R201 and R202: an undefined opcode raises ILLEGAL_OP and a fetch outside the program FETCH_FAULT; the
dispatch ends with status KERNEL_FAULT, its groups issue nothing further, its pending passes are withdrawn, and FE_FAULT keeps the
first such fault. R203, R213, R219 and Table 14-2: an instruction is read from a line of the core's cache, or from memory, whose
line the cache then holds and PROG counts; a fetch changes nothing else but what the memories count. Where the line cannot be read,
no instruction of the line does anything but what the error does. Which held lines the part fetches again it leaves open (log 171).
-/
def Obligations.ControlFlowAndFaults : Prop :=
  (∀ (z : State) (c p : Nat) (i : Issue), z.issuePoint c p = some i → i.inRange = true → i.got = true →
      let s := z.fetched i;
      let target := (((i.pc : Int) + 8 * (BitVec.ofNat 32 i.word).toInt) % 2 ^ 64).toNat
      let jumps := fun (t : State) (takes : Nat → Prop) => ∃ g,
        t = { s with cores := t.cores, regs := t.regs } ∧ s.otherGroups t i ∧ (t.core c).group p = some g ∧ g.regs = i.g.regs ∧
        ∀ l, l < i.g.threads.length →
          (takes l → (g.thread l).pc = target) ∧
          (¬ takes l → (g.thread l).pc = if l ∈ i.lanes then (i.pc + 8) % 2 ^ 64 else (i.g.thread l).pc) ∧
          (g.thread l).exited = (i.g.thread l).exited ∧ (g.thread l).gsync = (i.g.thread l).gsync ∧
          (g.thread l).waits = (i.g.thread l).waits
      (insOp i.word = 0x70 → ∃ t, exec (.bra c p) z = .next t ∧
        jumps t (fun l => l ∈ i.lanes ∧ i.g.reg l (insXA i.word) ≠ 0#32)) ∧
      (insOp i.word = 0x71 → ∃ t, exec (.jmp c p) z = .next t ∧ jumps t (fun l => l ∈ i.lanes))) ∧
  (∀ (z : State) (c p : Nat) (i : Issue), z.issuePoint c p = some i → z.boot.fltUp = true →
      let s := z.fetched i;
      let ends := fun (t : State) (src kind addr detail : Nat) =>
        s.raised t [{ src := src, kind := kind, cls := cINFO, ctx := i.g.ctx, gen := (s.ctx i.g.ctx).gen,
                      addr := addr % 2 ^ 48, detail := detail % 2 ^ 16 }] ∧
        (∀ q g, (q, g) ∈ (t.core c).groups → g.disp ≠ i.g.disp) ∧
        (∀ d ∈ (t.core c).disps, d.id = i.g.disp → d.fault.isSome = true) ∧
        (∀ x, (t.core c).dsa.pending = some x → x.disp ≠ i.g.disp) ∧ (∀ x, (t.core c).exu.pending = some x → x.disp ≠ i.g.disp) ∧
        (s.rd FE.FE_FAULT_VALID c = 0 → t.rd FE.FE_FAULT_VALID c = 1 ∧ t.rd FE.FE_FAULT_KIND c = kind) ∧
        (∀ c', c' ≠ c → t.core c' = s.core c') ∧ t.mem = s.mem ∧ t.ctxs = s.ctxs
      (i.inRange = true → i.got = true → opcodes.contains (insOp i.word) = false →
        ∃ t, exec (.undefinedOpcode c p) z = .next t ∧ ends t (pgFE c) kILLEGAL_OP i.off i.lane) ∧
      (i.inRange = false → ∃ t, exec (.fetchOutOfRange c p) z = .next t ∧ ends t (pgPROG c) kFETCH_FAULT i.pc 0)) ∧
  (∀ (z : State) (c p : Nat) (i : Issue), z.issuePoint c p = some i → i.inRange = true →
      let n := i.pc / 64
      (∀ l, z.heldLine c n = some l → i.got = true ∧ i.word = leAt l (i.pc % 64) 8 ∧ z.fetched i = z) ∧
      (z.heldLine c n = none → z.memoryClear →
        let t := z.fetched i;
        i.got = true ∧ i.word = leAt (z.bytes (n * 64) 64) (i.pc % 64) 8 ∧
        t = { z with cores := t.cores, regs := t.regs, hbms := t.hbms } ∧ (∀ c', c' ≠ c → t.core c' = z.core c') ∧
        t.core c = { z.core c with icache := (t.core c).icache } ∧
        SMap.find (t.core c).icache n = some (z.bytes (n * 64) 64) ∧
        (∀ m, m ≠ n → SMap.find (t.core c).icache m = SMap.find (z.core c).icache m) ∧
        z.regsBut t (HDR.BLK_PROG.bit (pgPROG c) 0 :: servedKeys) ∧
        t.rd HDR.BLK_PROG (pgPROG c) = (z.rd HDR.BLK_PROG (pgPROG c) + 1) % 2 ^ 32) ∧
      (i.got = false → exec (.iadd c p) z = .next (z.fetched i) ∧ exec (.ld c p) z = .next (z.fetched i) ∧
        exec (.st c p) z = .next (z.fetched i) ∧ exec (.bra c p) z = .next (z.fetched i) ∧ exec (.passD c p) z = .next (z.fetched i) ∧
        exec (.rget c p) z = .next (z.fetched i) ∧ exec (.undefinedOpcode c p) z = .next (z.fetched i)))

/-- R175, R182 and Table 5-4: EXIT ends the participating threads, and the group with its last one; GSYNC holds them until every
non-exited thread waits at a GSYNC at the same PC, when all go on together. R184: KSYNC holds each group that executes it until
every group of the dispatch has executed a KSYNC; the last one releases them all. -/
def Obligations.ExitAndBarriers : Prop :=
  (∀ (z : State) (c p : Nat) (i : Issue), z.issuePoint c p = some i → i.inRange = true → i.got = true →
      let s := z.fetched i;
      let others := fun l => l < i.g.threads.length ∧ l ∉ i.lanes ∧ (i.g.thread l).exited = false
      let keeps := fun (t : State) => t = { s with cores := t.cores, regs := t.regs } ∧ (∀ c', c' ≠ c → t.core c' = s.core c') ∧
        (∀ p', p' ≠ p → (t.core c).group p' = (s.core c).group p') ∧ s.regsBut t i.counters
      (insOp i.word = 0x72 → (∀ l, ¬ others l) → ∃ t, exec (.exit c p) z = .next t ∧ keeps t ∧ (t.core c).group p = none) ∧
      (insOp i.word = 0x72 → (∃ l, others l ∧ (i.g.thread l).gsync = false) →
        ∃ t g, exec (.exit c p) z = .next t ∧ keeps t ∧ (t.core c).group p = some g ∧ g.regs = i.g.regs ∧
          ∀ l, l < i.g.threads.length → (g.thread l).exited = ((i.g.thread l).exited || decide (l ∈ i.lanes))) ∧
      (insOp i.word = 0x73 → (∃ l, others l ∧ (i.g.thread l).gsync = false) →
        ∃ t g, exec (.gsync c p) z = .next t ∧ keeps t ∧ (t.core c).group p = some g ∧ g.regs = i.g.regs ∧
          ∀ l ∈ i.lanes, (g.thread l).gsync = true ∧ (g.thread l).pc = i.pc) ∧
      (insOp i.word = 0x73 → i.lanes ≠ [] → (∀ l, others l → (i.g.thread l).gsync = true ∧ (i.g.thread l).pc = i.pc) →
        ∃ t g, exec (.gsync c p) z = .next t ∧ keeps t ∧ (t.core c).group p = some g ∧ g.regs = i.g.regs ∧
          ∀ l, l < i.g.threads.length → (i.g.thread l).exited = false →
            (g.thread l).gsync = false ∧ (g.thread l).pc = (i.pc + 8) % 2 ^ 64)) ∧
  (∀ (z : State) (c p : Nat) (i : Issue), z.issuePoint c p = some i → i.inRange = true → i.got = true →
      let s := z.fetched i; insOp i.word = 0x74 →
      i.d.kernel.ksyncOk = true →
      ∃ t g d, exec (.ksync c p) z = .next t ∧ t = { s with cores := t.cores, regs := t.regs } ∧
        (∀ c', c' ≠ c → t.core c' = s.core c') ∧ s.regsBut t i.counters ∧ (t.core c).group p = some g ∧ g.regs = i.g.regs ∧
        (t.core c).disp i.g.disp = some d ∧
        (i.d.ksynced + 1 < i.d.kernel.groups → g.ksync = true ∧ d = { i.d with ksynced := i.d.ksynced + 1 }) ∧
        (¬ i.d.ksynced + 1 < i.d.kernel.groups → d = { i.d with ksynced := 0 } ∧
          ∀ q g', (t.core c).group q = some g' → g'.disp = i.d.id → g'.ksync = false))

/-- R192, R193 and R195: a PASS whose pass record and descriptor pass every check issues exactly one pass to the free pending place
of its unit, with the tile ordinal TILE_BASE + tile index modulo 2^32 and the dispatch's step number; no memory and no register of
the group changes. R195, R196, R197, R266 and Table 5-4: WAITP moves on when the group has no unfinished pass and else waits; FENCE
and SIGNAL move on when no earlier remote write of the group is outstanding; SIGNAL adds to its object, saturating; WAITS lets the
threads wait for an object below its threshold. -/
def Obligations.PassesWaitsAndSignals : Prop :=
  (∀ (z : State) (c p : Nat) (i : Issue), z.issuePoint c p = some i → ∀ (exact : Bool) (st : Nat),
      i.d.kernel.storeBase c exact = some st → i.inRange = true → i.got = true →
      let s := z.fetched i;
      ∀ o, s.descOff i.g.ctx (i.recPair 0) = some o →
      ∀ d : List Byte, insXA i.word ≤ 56 → ((s.core c).unit exact).pending = none →
      (SMap.find i.d.descs (i.recPair 0) = some d ∨
        (SMap.find i.d.descs (i.recPair 0) = none ∧ s.memoryClear ∧ d = s.bytes o 64)) →
      ldReason d = 0 → (ldV d = true → i.d.kernel.vAllow = true) → decide (ldMode d = mEXACT) = exact →
      bits (i.record 7) 7 1 = 0 → i.record 7 / 256 % 64 = 0 →
      s.rowsIn i.g.ctx (i.recPair 2) (ldM d) (i.record 7 / 256) (rowBytes d) = true →
      (ldAccIn d = true → s.rowsIn i.g.ctx (i.recPair 4) (ldM d) (partialPitch d) (ldN d * partialBytes d) = true) →
      let issues := fun (t : State) => ∃ g ps, t = { s with cores := t.cores, regs := t.regs, hbms := t.hbms } ∧
        (∀ c', c' ≠ c → t.core c' = s.core c') ∧ (t.core c).group p = some g ∧ g.regs = i.g.regs ∧ g.passes = i.g.passes + 1 ∧
        ((t.core c).unit exact).pending = some ps ∧ ((t.core c).unit exact).running = ((s.core c).unit exact).running ∧
        (t.core c).unit (!exact) = (s.core c).unit (!exact) ∧ ps.desc = d ∧ ps.ctx = i.g.ctx ∧ ps.gen = i.g.gen ∧ ps.disp = i.g.disp ∧
        ps.out = i.recPair 2 % 2 ^ 52 ∧ ps.part = i.recPair 4 % 2 ^ 52 ∧
        ps.tile = (i.d.kernel.tileBase + i.record 6) % 2 ^ 32 ∧ ps.step = i.d.kernel.step ∧ ps.bank = i.record 7 % 2 ∧
        ps.pitch = i.record 7 / 256
      (insOp i.word = 0x77 → exact = false → ∃ t, exec (.passD c p) z = .next t ∧ issues t) ∧
      (insOp i.word = 0x78 → exact = true → ∃ t, exec (.passE c p) z = .next t ∧ issues t)) ∧
  (∀ (z : State) (c p : Nat) (i : Issue), z.issuePoint c p = some i → i.inRange = true → i.got = true →
      let s := z.fetched i;
      let j := (i.g.reg i.lane (insXA i.word)).toNat % 16
      let goes := fun (t : State) => ∃ g, t = { s with cores := t.cores, regs := t.regs } ∧ s.otherGroups t i ∧
        (t.core c).group p = some g ∧ i.moved g ∧ g.regs = i.g.regs
      (insOp i.word = 0x79 → i.g.passes = 0 → ∃ t, exec (.waitp c p) z = .next t ∧ goes t) ∧
      (insOp i.word = 0x79 → i.g.passes ≠ 0 → ∃ t, exec (.waitp c p) z = .next t ∧ t = { s with cores := t.cores } ∧
        s.otherGroups t i ∧ (t.core c).group p = some { i.g with waitp := true }) ∧
      (insOp i.word = 0x7F → s.groupWrites i.g.disp i.g.index = 0 → ∃ t, exec (.fence c p) z = .next t ∧ goes t) ∧
      (insOp i.word = 0x7A → s.groupWrites i.g.disp i.g.index = 0 →
        ∃ t, exec (.signal c p) z = .next t ∧ t = { s with cores := t.cores, regs := t.regs, ctxs := t.ctxs } ∧
          (∀ x, x ≠ i.g.ctx → t.ctx x = s.ctx x) ∧ t.ctx i.g.ctx = { s.ctx i.g.ctx with sync := (t.ctx i.g.ctx).sync } ∧
          (∀ k, (t.ctx i.g.ctx).syncVal k = if k = j then
            min (2 ^ 64 - 1) ((s.ctx i.g.ctx).syncVal j + (i.g.reg i.lane (insXB i.word)).toNat) else (s.ctx i.g.ctx).syncVal k) ∧ s.regsBut t i.counters) ∧
      (insOp i.word = 0x7B → insXB i.word < 63 → i.g.pair i.lane (insXB i.word) ≤ (s.ctx i.g.ctx).syncVal j → ∃ t, exec (.waits c p) z = .next t ∧ goes t) ∧
      (insOp i.word = 0x7B → insXB i.word < 63 → (s.ctx i.g.ctx).syncVal j < i.g.pair i.lane (insXB i.word) →
        ∃ t g, exec (.waits c p) z = .next t ∧ t = { s with cores := t.cores, regs := t.regs } ∧ s.otherGroups t i ∧
          (t.core c).group p = some g ∧ g.regs = i.g.regs ∧
          ∀ l ∈ i.lanes, (g.thread l).waits = some (j, i.g.pair i.lane (insXB i.word)) ∧ (g.thread l).pc = (i.pc + 8) % 2 ^ 64))

/-- R199 and R612: RDTIME gives field time and RDCYC the core cycle count to the pair from xd, RDCORE the core index to xd; each
marks the context. Between two ticks of field time RDCYC stands anywhere in the tick's cycles, above what it gave before (logs 10,
124). R191 and R194: while its bank is not held, FEED writes the 8 bytes of each participating thread's pair to its line of the
operand store, and no other byte of memory. -/
def Obligations.CountersAndFeed : Prop :=
  (∀ (z : State) (c p : Nat) (i : Issue), z.issuePoint c p = some i → i.inRange = true → i.got = true →
      let s := z.fetched i; i.d.kernel.vAllow = true →
      let reads := fun (t : State) (wide : Bool) (holds : Group → Nat → Prop) => ∃ g,
        t = { s with cores := t.cores, regs := t.regs, draws := t.draws,
                     ctxs := (s.modCtx i.g.ctx (fun x => { x with vmark := true })).ctxs } ∧
        (∀ c', c' ≠ c → t.core c' = s.core c') ∧ (∀ q, q ≠ p → (t.core c).group q = (s.core c).group q) ∧
        t.core c = { s.core c with groups := (t.core c).groups, cycSeen := (t.core c).cycSeen } ∧ s.regsBut t i.counters ∧
        (t.core c).group p = some g ∧ i.moved g ∧ (∀ l ∈ i.lanes, holds g l) ∧
        ∀ l r, r < 64 → (l ∉ i.lanes ∨ (r ≠ insXD i.word ∧ (wide = true → r ≠ insXD i.word + 1))) → g.reg l r = i.g.reg l r
      (insOp i.word = 0x7C → insXD i.word < 63 → ∃ t, exec (.rdtime c p) z = .next t ∧
        (t.core c).cycSeen = (s.core c).cycSeen ∧ reads t true (fun g l =>
        g.pair l (insXD i.word) = s.ftime % 2 ^ 64)) ∧
      (insOp i.word = 0x7D → ∃ t, exec (.rdcore c p) z = .next t ∧ (t.core c).cycSeen = (s.core c).cycSeen ∧
        reads t false (fun g l => g.reg l (insXD i.word) = BitVec.ofNat 32 c)) ∧
      (insOp i.word = 0x7E → insXD i.word < 63 → ∃ t n, exec (.rdcyc c p) z = .next t ∧
        (s.core c).cyc / 4 ≤ n ∧ (∀ m, (s.core c).cycSeen = some m → m < n) ∧
        (n ≤ (s.core c).cyc / 4 + s.rd CLKRST.CORE_FREQ_F25 0 c / 4 ∨ (s.core c).cycSeen = some (n - 1)) ∧
        (t.core c).cycSeen = some n ∧ reads t true (fun g l => g.pair l (insXD i.word) = n % 2 ^ 64))) ∧
  (∀ (z : State) (c p : Nat) (i : Issue), z.issuePoint c p = some i → ∀ st, i.d.kernel.storeBase c (feedExact i.word) = some st →
      i.inRange = true → i.got = true → insOp i.word = 0x60 → insXA i.word < 63 →
      let s := z.fetched i;
      s.memoryClear →
      (∀ l ∈ i.lanes, feedFits i.word l = true ∧
        s.bankPresent c ((feedAddr st i.word l - sliceBase c) / bankSize) = true) →
      s.bankHeld c (feedExact i.word) st (feedBank i.word) = false →
      ∃ t g, exec (.feed c p) z = .next t ∧ t = { s with cores := t.cores, regs := t.regs, mem := t.mem } ∧
        s.otherGroups t i servedKeys ∧ (t.core c).group p = some g ∧ i.moved g ∧ g.regs = i.g.regs ∧
        (∀ l ∈ i.lanes, t.load (feedAddr st i.word l) 8 = i.g.pair l (insXA i.word)) ∧
        ∀ j, (∀ l ∈ i.lanes, j < feedAddr st i.word l ∨ feedAddr st i.word l + 8 ≤ j) → t.byte j = s.byte j)

/-- R328, R330 and Table 5-4: an RGET, RPUT or RPUT.O whose participating lanes all name other parts that have a path sends one
request for each destination part and sector, and holds each as outstanding until its reply; no memory of this part changes. -/
def Obligations.RemoteRequests : Prop :=
  ∀ (z : State) (c p : Nat) (i : Issue), z.issuePoint c p = some i → i.inRange = true → i.got = true →
    let s := z.fetched i; insXA i.word < 63 →
    (∀ l ∈ i.lanes, i.g.addr l i.word % insSize i.word = 0 ∧ s.localOf (i.g.addr l i.word) = none) →
    (∀ f : DataFlit, (∃ l ∈ i.lanes, f.dst = i.g.addr l i.word / 2 ^ 52) → s.hop f ≠ .lost) →
    i.g.ctx < 8192 → i.g.gen < 256 → s.ownPart < 4096 →
    let sectors := sectorsOf (i.lanes.map (fun l => (l, i.g.addr l i.word)))
    let sends := fun (t : State) (fop : Nat) => ∃ g new, t.mem = s.mem ∧ (t.core c).group p = some g ∧
      i.moved g ∧ g.regs = i.g.regs ∧ t.fabric.remotes = s.fabric.remotes ++ new ∧
      new.map (fun r => r.sector) = sectors.map (fun k => k * 64) ∧
      ∀ r ∈ new, r.op = fop ∧ r.dst = r.sector / 2 ^ 52 ∧ r.ctx = i.g.ctx ∧ r.gen = i.g.gen ∧ r.core = c ∧ r.place = p ∧
        r.size = insSize i.word
    (insOp i.word = 0x47 → i.d.kernel.vAllow = true → (insSize i.word = 8 → insXD i.word < 63) → ∃ t, exec (.rget c p) z = .next t ∧ sends t 0x01) ∧
    (insOp i.word = 0x48 → i.d.kernel.vAllow = true → (insSize i.word = 8 → insXB i.word < 63) → ∃ t, exec (.rput c p) z = .next t ∧ sends t 0x03) ∧
    (insOp i.word = 0x49 → (insSize i.word = 8 → insXB i.word < 63) → ∃ t, exec (.rputO c p) z = .next t ∧ sends t 0x04)

/-! ### Dispatches and queues -/

/-- R173, R174, R175 and R277: a waiting dispatch goes to the core that R277 chooses; the one launchable dispatch of a core
launches its next group in the lowest free place and slots, with the thread index, group index and argument address in x0 to x3 and
0 in every other register; and a dispatch whose groups have ended, with no pass and no remote write left, finishes. -/
def Obligations.DispatchPlaceLaunchComplete : Prop :=
  (∀ (s : State) (n c : Nat) (d : Dispatch), s.waiting.find? (fun e => e.id = n) = some d → s.ctxIssues d.ctx d.gen = true →
    s.leastLoaded ((s.soloCores d.ctx (s.liveAffinity d.ctx)).filter (fun e =>
      !s.inSlice e && (s.takesWork (pgFE e) && !s.fencePending e))) = some c →
    s.liveAffinity d.ctx ≠ [] → s.kdReason d.ctx c d.raw = 0 →
    ∃ t, exec (.dispatchPlace n) s = .next t ∧ t = { s with cores := t.cores, regs := t.regs, waiting := t.waiting } ∧
      t.waiting = s.waiting.filter (fun e => e.id ≠ d.id) ∧
      (t.core c).disps = (s.core c).disps ++ [{ d with kernel := parseKernel d.kernel.addr d.raw }] ∧
      (∀ l, SMap.find (t.core c).icache l = if (parseKernel d.kernel.addr d.raw).progAddr < l * 64 + 64 ∧
        l * 64 < (parseKernel d.kernel.addr d.raw).progAddr + (parseKernel d.kernel.addr d.raw).progLen then none
        else SMap.find (s.core c).icache l) ∧
      (∀ e, (t.core e).groups = (s.core e).groups) ∧ s.regsBut t [HDR.BLK_PROG.bit (pgQUAD (c / 4)) 0]) ∧
  (∀ (s : State) (c slot p : Nat) (d : Dispatch), s.coreIssues c = true →
    (s.core c).disps.filter (fun e => (s.core c).launchable e && s.ctxIssues e.ctx e.gen) = [d] →
    (s.core c).freeRun d.kernel.width = some slot → (s.core c).freePlace = some p →
    ∃ t g, exec (.groupLaunch c) s = .next t ∧ t = { s with cores := t.cores, ctxs := t.ctxs } ∧
      (∀ e, e ≠ c → t.core e = s.core e) ∧ (∀ q, q ≠ p → (t.core c).group q = (s.core c).group q) ∧
      (t.core c).group p = some g ∧ g.ctx = d.ctx ∧ g.gen = d.gen ∧ g.disp = d.id ∧ g.width = d.kernel.width ∧
      g.index = d.launched ∧ g.slot = slot ∧ g.threads = List.replicate d.kernel.width { pc := d.kernel.progAddr } ∧
      (∀ l r, l < d.kernel.width → r < 64 → g.reg l r =
        if r = 0 then BitVec.ofNat 32 l else if r = 1 then BitVec.ofNat 32 d.launched
        else if r = 2 then BitVec.ofNat 32 d.kernel.argAddr else if r = 3 then BitVec.ofNat 32 (d.kernel.argAddr / 2 ^ 32)
        else 0#32)) ∧
  (∀ (s : State) (c n : Nat) (d : Dispatch), (s.core c).disp n = some d → d.fault = none → d.launched = d.kernel.groups →
    d.ended = d.kernel.groups → (s.core c).hasPass d.id = false → s.remoteWrites d.id = 0 → s.ctxIssues d.ctx d.gen = true →
    ∃ t, exec (.dispatchComplete c n) s = .next t ∧ t = { s with cores := t.cores, ctxs := t.ctxs } ∧
      (t.core c).disps = (s.core c).disps.filter (fun e => e.id ≠ d.id) ∧ (t.core c).groups = (s.core c).groups ∧
      s.finished t d.ctx d.queue d.ssn stOK 0)

/-- R249 and Table 7-2: a doorbell of the host for an owned context of PF0, with the context's generation and a tail after Q_EXPECT
that leaves no more than the queue's size outstanding, sets Q_EXPECT to the tail while the part is at level C or above, and does
nothing else but place the entries of an URGENT queue in the order of doorbells and ask the host for the first entry. R250, R251
and R254: the engine fetches the next accepted entry of a queue from host memory; one that passes its checks waits to start, and
one that does not is finished at once with the status they give. -/
def Obligations.DoorbellAndEntryFetch : Prop :=
  (∀ (s : State) (x qn value : Nat), x < 8192 → qn < 64 → s.barGate .host = .ok → s.rangeVf x = 0 →
      (s.ctx x).owned = true → (s.ctx x).state ≠ .lost → (s.ctx x).state ≠ .recovering → ((s.ctx x).queue qn).en = true →
      bits value 63 56 = (s.ctx x).gen → before32 ((s.ctx x).queue qn).expect (bits value 31 0) = true →
      dist32 ((s.ctx x).queue qn).done (bits value 31 0) ≤ 2 ^ ((s.ctx x).queue qn).log2 → s.boot.qengUp = true →
      3 ≤ s.rd CHIP.SVC_LEVEL_LEVEL → s.rd DRONE.PWR_STAT_STATE ≠ 2 →
      ∃ t, exec (.doorbellWrite .host (0x100_0000 + x * 0x200 + 8 * qn) value) s = .next t ∧
        t = { s with ctxs := t.ctxs, urgent := t.urgent, pci := t.pci, out := t.out } ∧ (∀ y, y ≠ x → t.ctx y = s.ctx y) ∧
        t.ctx x = (s.ctx x).setQueue qn { (s.ctx x).queue qn with expect := bits value 31 0, dbGen := (s.ctx x).gen } ∧
        (((s.ctx x).queue qn).urgent = false → t.urgent = s.urgent)) ∧
  (∀ (s : State) (x qn ssn : Nat), s.queueRuns x = true → ((s.ctx x).queue qn).en = true →
      ((s.ctx x).queue qn).fetchNext = some ssn →
      ∃ t k, exec (.entryFetch x qn) s = .next t ∧ ((t.ctx x).queue qn).cmds.getLast? = some k ∧ t = { s with ctxs := t.ctxs, regs := t.regs, urgent := t.urgent, pci := t.pci, out := t.out } ∧
        (∀ y, y ≠ x → t.ctx y = s.ctx y) ∧
        t.ctx x = (s.ctx x).setQueue qn { (s.ctx x).queue qn with cmds := ((s.ctx x).queue qn).cmds ++ [k] } ∧ k.ssn = ssn ∧
        k.words = (List.range 8).map (fun j =>
          ofLE (s.hostBytes (((s.ctx x).queue qn).base + ssn % 2 ^ ((s.ctx x).queue qn).log2 * 64 + 8 * j) 8)) ∧
        (s.entryCheck x ((s.ctx x).queue qn) (commandOf ssn k.words) = none → k.phase = .fetched) ∧
        (∀ st d, s.entryCheck x ((s.ctx x).queue qn) (commandOf ssn k.words) = some (st, d) → k.phase = .done st d s.ftime) ∧
        s.regsBut t [HDR.BLK_PROG.bit pgHOSTIF 0, HDR.BLK_PROG.bit pgQENG 0])

/-- R251, R252, R266 and Table 7-4: what the commands of a queue do when they start. NOP finishes; DISPATCH reads its kernel
descriptor and waits for placement; a COPY or FILL whose local ranges are good runs; SIG_ADD adds to its object and finishes;
SIG_WAIT runs. R252, R266 and R475: a FILL that runs writes its pattern, byte (a mod 8) at address a, and a COPY inside local
memory its source bytes, and nothing else of memory changes; a SIG_WAIT whose object has reached its threshold finishes. -/
def Obligations.QueueCommands : Prop :=
  (∀ (s : State) (x qn : Nat) (k : Cmd),
      (s.startOf x qn 0x00 = some k → ∃ t, exec (.nop x qn) s = .next t ∧ t = { s with ctxs := t.ctxs } ∧
        s.finished t x qn k.ssn stOK 0) ∧
      (s.startOf x qn 0x01 = some k → k.at 0x10 % 64 = 0 → s.inExtent x (k.at 0x10) 64 = true → s.memoryClear →
        ∃ t, exec (.dispatch x qn) s = .next t ∧
          t = { s with ctxs := t.ctxs, regs := t.regs, hbms := t.hbms, nextDisp := s.nextDisp + 1, waiting := t.waiting } ∧
          (∃ d, t.waiting = s.waiting ++ [d] ∧ d.id = s.nextDisp ∧ d.ctx = x ∧ d.gen = k.gen ∧ d.queue = qn ∧ d.ssn = k.ssn ∧
            d.raw = s.bytes (k.at 0x10) 64 ∧ d.kernel = parseKernel (k.at 0x10) d.raw ∧ d.launched = 0 ∧ d.fault = none) ∧
          s.started t x qn k.ssn ∧ s.regsBut t servedKeys) ∧
      (s.startOf x qn 0x02 = some k → (bit (k.at 0x28) 0 = true ∨ s.rangeStatus x (k.at 0x10) (k.at 0x20) = stOK) →
        (bit (k.at 0x28) 1 = true ∨ s.rangeStatus x (k.at 0x18) (k.at 0x20) = stOK) →
        ∃ t, exec (.copy x qn) s = .next t ∧ t = { s with ctxs := t.ctxs, pci := t.pci, out := t.out } ∧ s.started t x qn k.ssn) ∧
      (s.startOf x qn 0x03 = some k → (bit (k.at 0x28) 1 = true ∨ s.rangeStatus x (k.at 0x10) (k.at 0x18) = stOK) →
        ∃ t, exec (.fill x qn) s = .next t ∧ t = { s with ctxs := t.ctxs, pci := t.pci, out := t.out } ∧ s.started t x qn k.ssn) ∧
      (s.startOf x qn 0x04 = some k → (((s.ctx x).queue qn).cmds.takeWhile (fun e => e.ssn != k.ssn)).all Cmd.over = true →
        ∃ t, exec (.sigAdd x qn) s = .next t ∧ t = { s with ctxs := t.ctxs, cores := t.cores } ∧
          (∀ y, y ≠ x → t.ctx y = s.ctx y) ∧
          (∀ j, (t.ctx x).syncVal j = if j = bits (k.at 0x10) 3 0 then min (2 ^ 64 - 1) ((s.ctx x).syncVal j + k.at 0x18)
            else (s.ctx x).syncVal j) ∧
          ((t.ctx x).queue qn).cmds = ((s.ctx x).queue qn).cmds.map (fun e =>
            if e.ssn = k.ssn ∧ e.over = false then { e with phase := .done stOK 0 s.ftime } else e)) ∧
      (s.startOf x qn 0x05 = some k → ∃ t, exec (.sigWait x qn) s = .next t ∧ t = { s with ctxs := t.ctxs } ∧
        s.started t x qn k.ssn)) ∧
  (∀ (s : State) (x qn ssn : Nat) (k : Cmd), s.runningCmd x qn ssn = some k → s.inService = true → s.queueRuns x = true →
      s.memoryClear →
      (k.opc = 0x03 → bit (k.at 0x28) 1 = false →
        ∃ t, exec (.commandComplete x qn ssn) s = .next t ∧
          t = { s with ctxs := t.ctxs, regs := t.regs, hbms := t.hbms, mem := t.mem } ∧ s.finished t x qn ssn stOK 0 ∧
          s.bytesBut t (k.at 0x10) (k.at 0x18) ∧ s.regsBut t servedKeys ∧
          ∀ j, j < k.at 0x18 → t.byte (k.at 0x10 + j) = BitVec.ofNat 8 (k.at 0x20 / 2 ^ (8 * ((k.at 0x10 + j) % 8)))) ∧
      (k.opc = 0x02 → bit (k.at 0x28) 0 = false → bit (k.at 0x28) 1 = false →
        ∃ t, exec (.commandComplete x qn ssn) s = .next t ∧
          t = { s with ctxs := t.ctxs, regs := t.regs, hbms := t.hbms, mem := t.mem } ∧ s.finished t x qn ssn stOK 0 ∧
          s.bytesBut t (k.at 0x18) (k.at 0x20) ∧ s.regsBut t servedKeys ∧
          ∀ j, j < k.at 0x20 → t.byte (k.at 0x18 + j) = s.byte (k.at 0x10 + j)) ∧
      (k.opc = 0x05 → k.at 0x18 ≤ (s.ctx x).syncVal (bits (k.at 0x10) 3 0) →
        ∃ t, exec (.commandComplete x qn ssn) s = .next t ∧ t = { s with ctxs := t.ctxs } ∧ s.finished t x qn ssn stOK 0))

/-- R253, R256, R258 and Table 7-5: the record of a finished command at the head of its queue goes to the completion ring, where it
has room, with the next CSN, its SSN, status and DETAIL; Q_DONE moves past it and CQ_PIDX by one. R282 and R284: when the
moderation time of a context has run out with records unsignalled, its vector goes out where the function's MSI-X is enabled, or
its pending bit is set while the vector or the function is masked, and the count starts anew. -/
def Obligations.CompletionAndModeration : Prop :=
  (∀ (s : State) (x qn st d tm : Nat) (k : Cmd) (rest : List Cmd), s.inService = true → s.boot.qengUp = true →
      (s.ctx x).state = .owned → ((s.ctx x).queue qn).cmds = k :: rest → k.phase = .done st d tm →
      k.ssn = ((s.ctx x).queue qn).done → (s.ctx x).cq.room = true →
      s.pci.linkUp = true → s.lostPaths = [] →
      ∃ t, exec (.completionPost x qn) s = .next t ∧
        t = { s with ctxs := t.ctxs, host := t.host, regs := t.regs, pci := t.pci, out := t.out, urgent := t.urgent } ∧
        (∀ y, y ≠ x → t.ctx y = s.ctx y) ∧ (t.ctx x).csn = ((s.ctx x).csn + 1) % 2 ^ 32 ∧
        (t.ctx x).cq = { (s.ctx x).cq with pidx := ((s.ctx x).cq.pidx + 1) % 2 ^ 32 } ∧
        (t.ctx x).queue qn = { (s.ctx x).queue qn with done := (k.ssn + 1) % 2 ^ 32, cmds := rest } ∧
        t.hostBytes (s.ctx x).cq.slot 32 = toLE (s.ctx x).csn 4 ++
          toLE (0x01 * 2 ^ 24 + k.gen * 2 ^ 16 + st * 2 ^ 8 + qn * 4 + b2n (bit (s.ctx x).cq.pidx (s.ctx x).cq.log2)) 4 ++
          toLE k.ssn 4 ++ toLE (2 ^ 16 + d) 4 ++ toLE (k.words.getD 7 0) 8 ++ toLE tm 8 ∧
        (∃ l, t.out = s.out ++ .dmaWrite (s.ctx x).owner (s.ctx x).cq.slot 32 s.maxPayload false false :: l) ∧
        (∀ a, (a < (s.ctx x).cq.slot ∨ (s.ctx x).cq.slot + 32 ≤ a) → Memory.read t.host a = Memory.read s.host a) ∧
        s.regsBut t [HDR.BLK_PROG.bit pgHOSTIF 0]) ∧
  (∀ (s : State) (x t0 : Nat), (s.ctx x).firstPending = some t0 → s.inService = true → (s.ctx x).cfg.intEn = true →
      (s.ctx x).cfg.modUs ≠ 0 → t0 + 100 * (s.ctx x).cfg.modUs ≤ s.ftime →
      ∃ t, exec (.modTimerExpire x) s = .next t ∧ t = { s with ctxs := t.ctxs, pci := t.pci, out := t.out } ∧
        t.ctx x = { s.ctx x with pending := 0, firstPending := none } ∧ (∀ y, y ≠ x → t.ctx y = s.ctx y) ∧
        s.signalled t (s.ctx x).owner (s.ctx x).cfg.vector)

/-! ### Contexts and tenancy -/

/-- R470, R475, R476 and Table 15-1: FREEZE, FREEZE_EVICT and THAW start on a target whose state lets them; a freeze ends, once the
passes of its target have drained, with the groups in the image and the context FROZEN; a thaw ends with the image gone and the
context owned again. -/
def Obligations.FreezeAndThaw : Prop :=
  (∀ (s : State) (x qn : Nat) (k : Cmd) (evict : Bool), s.startOf x qn (if evict then 0x11 else 0x10) = some k → k.target ≠ x →
    (s.ctx k.target).state = .owned → s.firnBusy k.target = false → (s.ctx k.target).imageOk evict = true →
    let begun := fun (t : State) => (t.ctx k.target).freezing = true ∧ s.runsIn t x qn k.ssn ∧ t.mem = s.mem ∧
      t.firn.freezes = s.firn.freezes ++ [{ target := k.target, by_ := some (x, qn, k.ssn), evict := evict }];
    (evict = false → ∃ t, exec (.freeze x qn) s = .next t ∧ begun t) ∧
    (evict = true → ∃ t, exec (.freezeEvict x qn) s = .next t ∧ begun t)) ∧
  (∀ (s : State) (x y qn n : Nat) (op : FirnOp), s.firn.freezes.find? (fun o => o.target = x) = some op → op.evict = false →
    op.by_ = some (y, qn, n) → y ≠ x → s.passesDone x = true → (s.ctx x).state = .owned →
    ∃ t m, exec (.freezeComplete x) s = .next t ∧ t = { s with ctxs := t.ctxs, cores := t.cores, firn := t.firn } ∧
      (t.ctx x).state = .frozen ∧ (t.ctx x).freezing = false ∧ t.image x = some m ∧
      m.groups = s.cores.flatMap (fun e => (e.2.groups.filter (fun g => g.2.ctx = x)).map (fun g => (e.1, g.1, g.2))) ∧
      (∀ c q g, (q, g) ∈ (t.core c).groups → g.ctx ≠ x) ∧
      t.firn.freezes = s.firn.freezes.filter (fun o => o.target ≠ x) ∧ s.doneIn t y qn n stOK 0) ∧
  (∀ (s : State) (x qn : Nat) (k : Cmd), s.startOf x qn 0x12 = some k → k.target ≠ x → (s.ctx k.target).state = .frozen →
    s.firnBusy k.target = false → ((s.image k.target).map (·.test)).getD false = false → (s.thawCheck k.target).1 = stOK →
    ∃ t, exec (.thaw x qn) s = .next t ∧ s.runsIn t x qn k.ssn ∧ t.mem = s.mem ∧ (t.ctx k.target).state = .frozen ∧
      t.firn.thaws = s.firn.thaws ++ [{ target := k.target, by_ := some (x, qn, k.ssn) }]) ∧
  (∀ (s s2 : State) (x y qn n : Nat) (op : FirnOp) (m : Image), s.firn.thaws.find? (fun o => o.target = x) = some op →
    op.by_ = some (y, qn, n) → y ≠ x → s.image x = some m → m.evicted = none → m.lostRemotes = false → m.passes = [] →
    s.fabric.remotes.any (fun r => r.ctx = x) = false → s.seatAll (s.thawCheck x).2 m.groups = some (s2, []) →
    ∃ t, exec (.thawComplete x) s = .next t ∧ (t.ctx x).state = .owned ∧ (t.ctx x).evicted = false ∧ t.image x = none ∧
      t.mem = s.mem ∧ t.regs = s.regs ∧ t.firn.thaws = s.firn.thaws.filter (fun o => o.target ≠ x) ∧ s.doneIn t y qn n stOK 0)

/-- R263, R442, R443 and Table 14-4: CTX_RESET begins the reset of its target, which is RECOVERING from then on with none of its
groups left on a core; once its requests have drained and no queue of it has an unfinished command, its generation rises by one;
and RECOVERED makes it owned again. -/
def Obligations.ContextReset : Prop :=
  (∀ (s : State) (x qn : Nat) (k : Cmd), s.startOf x qn 0x13 = some k → k.target ≠ x → (s.ctx k.target).state = .owned →
    (s.ctx k.target).reset = none → (s.ctx k.target).zeroing = false →
    ∃ t, exec (.ctxReset x qn) s = .next t ∧ (t.ctx k.target).state = .recovering ∧
      (t.ctx k.target).reset.map (·.level) = some 1 ∧ (t.ctx k.target).gen = (s.ctx k.target).gen ∧
      ∀ c q g, (q, g) ∈ (t.core c).groups → g.ctx ≠ k.target) ∧
  (∀ (s : State) (x : Nat) (r : CtxReset), (s.ctx x).reset = some r → r.changed = false → (s.ctx x).queues = [] →
    (s.ctx x).state = .recovering → s.recordsDue x = true → s.genHeld x = false → (s.ctx x).eq.en = false →
    ∃ t, exec (.contextResetDrained x) s = .next t ∧ t = { s with ctxs := t.ctxs } ∧ (∀ y, y ≠ x → t.ctx y = s.ctx y) ∧
      t.ctx x = { s.ctx x with gen := ((s.ctx x).gen + 1) % 256, cqFull := false, unposted := [],
                               reset := some { r with drained := true, changed := true } }) ∧
  (∀ (s : State) (x : Nat) (r : CtxReset), (s.ctx x).reset = some r → r.changed = true → r.release = false → r.failed = false →
    s.recordsDue x = true → s.fabric.remotes.any (fun q => q.ctx = x) = false → (s.ctx x).eq.en = false →
    s.fabric.heldReqs = [] →
    ∃ t, exec (.recoveredPost x) s = .next t ∧ t = { s with ctxs := t.ctxs, ladder := t.ladder } ∧
      (∀ y, y ≠ x → t.ctx y = s.ctx y) ∧ t.ctx x = { s.ctx x with reset := none, deficit := 0, zeroing := false, state := .owned } ∧
      ∀ w ∈ t.ladder.running, ¬ (w.level = 1 ∧ w.domain = x))

/-- R245–R247, R258, R259, R269 and R515: what the owner's writes of a context window of PF0 do where their values are good:
CQ_CIDX and EQ_CIDX move, a disabled ring or queue takes its base, size and enable, and VMARK clears while no command is in
progress. -/
def Obligations.WindowWrites : Prop :=
  ∀ (s : State) (x v : Nat), x < 8192 → v < 2 ^ 32 → s.barGate .host = .ok → s.ctxVf x = 0 →
    let only := fun (t : State) (c : Ctx) => t = { s with ctxs := t.ctxs } ∧ t.ctx x = c ∧ ∀ y, y ≠ x → t.ctx y = s.ctx y
    (before32 (s.ctx x).cq.pidx v = false → (s.ctx x).reset = none →
      ∃ t, exec (.cqCidxWrite .host x v) s = .next t ∧
        only t { s.ctx x with cq := { (s.ctx x).cq with cidx := v },
                              cqFull := (s.ctx x).cqFull && !({ (s.ctx x).cq with cidx := v } : Ring).room }) ∧
    (before32 (s.ctx x).eq.pidx v = false → (s.ctx x).evDrop = false →
      ∃ t, exec (.eqCidxWrite .host x v) s = .next t ∧ only t { s.ctx x with eq := { (s.ctx x).eq with cidx := v } }) ∧
    (∀ w, (s.ctx x).cq.en = false → w < 2 ^ 64 → w % 4096 = 0 →
      ∃ t, exec (.ringCfgWrite .host x 0x10 w) s = .next t ∧ only t { s.ctx x with cq := { (s.ctx x).cq with base := w } }) ∧
    (∀ w, (s.ctx x).eq.en = false → w < 2 ^ 64 → w % 4096 = 0 →
      ∃ t, exec (.ringCfgWrite .host x 0x28 w) s = .next t ∧ only t { s.ctx x with eq := { (s.ctx x).eq with base := w } }) ∧
    ((s.ctx x).cq.en = false → 4 ≤ bits v 3 0 → (s.ctx x).reset = none → (s.ctx x).cqFull = false →
      ∃ t, exec (.ringCfgWrite .host x 0x18 v) s = .next t ∧
        only t { s.ctx x with cq := { (s.ctx x).cq with en := bit v 31, log2 := bits v 3 0 } }) ∧
    ((s.ctx x).eq.en = false → 4 ≤ bits v 3 0 → (s.ctx x).evDrop = false →
      ∃ t, exec (.ringCfgWrite .host x 0x24 v) s = .next t ∧
        only t { s.ctx x with eq := { (s.ctx x).eq with en := bit v 31, log2 := bits v 3 0 } }) ∧
    (((s.ctx x).queue (s.ctx x).qsel).en = false → 4 ≤ bits v 3 0 → (s.ctx x).cq.en = true → (s.ctx x).eq.en = true →
      s.queuesEnabled < 65536 →
      ∃ t, exec (.queueEnableWrite .host x v) s = .next t ∧
        only t ((s.ctx x).setQueue (s.ctx x).qsel { (s.ctx x).queue (s.ctx x).qsel with
          en := bit v 31, urgent := bit v 30, log2 := bits v 3 0 })) ∧
    (bit v 0 = true → (s.ctx x).runs = true → (s.ctx x).busy = false →
      ∃ t, exec (.vmarkClr .host x v) s = .next t ∧ only t { s.ctx x with vmark := false })

/-- R238, R240, R271–R275 and Table 8-1: an ASSIGN that passes its checks begins a lifetime of the context for its owner, one that
does not only sets RESULT; a RELEASE begins a reset of the context; and once the zeroing is over every byte of its extents reads 0
and it is unowned. R274–R276, R286 and Table 8-5: the settings of an unowned selected context take what is written; a core set that
still holds every affinity of its owner's contexts is taken; and SHARE bytes are taken while a quadrant's shares sum to no more
than 256. -/
def Obligations.TenancyCommands : Prop :=
  ((∀ (s : State) (a : Authority) (x o : Nat), x < 8192 → o < 64 → s.lets a 0xC040 4 QENG.CTX_CMD_OP → s.releasing = false →
      s.assignResult x o = 0 →
      ∃ t, exec (.assign a x o) s = .next t ∧
        t = { s with ctxs := t.ctxs, regs := t.regs, urgent := t.urgent, fabric := t.fabric, firn := t.firn } ∧
        t.ctx x = { state := .owned, owner := o, cfg := (s.ctx x).cfg } ∧ (∀ y, y ≠ x → t.ctx y = s.ctx y) ∧
        t.rd QENG.CTX_CMD_STAT_RESULT = 0 ∧ s.regsBut t [QENG.CTX_CMD_STAT_RESULT.bit 0 0]) ∧
    (∀ (s : State) (a : Authority) (x o : Nat), x < 8192 → o < 64 → s.lets a 0xC040 4 QENG.CTX_CMD_OP → s.releasing = false →
      s.assignResult x o ≠ 0 →
      ∃ t, exec (.assign a x o) s = .next t ∧ t = { s with regs := t.regs } ∧ t.rd QENG.CTX_CMD_STAT_RESULT = s.assignResult x o ∧
        s.regsBut t [QENG.CTX_CMD_STAT_RESULT.bit 0 0]) ∧
    (∀ (s : State) (a : Authority) (x : Nat), x < 8192 → s.lets a 0xC040 4 QENG.CTX_CMD_OP → s.releasing = false →
      (s.ctx x).state = .owned → (s.ctx x).reset = none → (s.ctx x).zeroing = false →
      ∃ t, exec (.release a x) s = .next t ∧ (t.ctx x).state = .recovering ∧ (t.ctx x).reset.map (·.release) = some true ∧
        t.rd QENG.CTX_CMD_STAT_RESULT = 0) ∧
    (∀ (s : State) (x : Nat), (s.ctx x).zeroing = true → s.inService = true → (s.ctx x).cfg.home < 4 →
      (s.ctx x).cfg.hbmBase + (s.ctx x).cfg.hbmLen ≤ 512 → (s.ctx x).cfg.spadFirst + (s.ctx x).cfg.spadNb ≤ 64 →
      s.fabric.heldReqs = [] →
      ∃ t, exec (.releaseDone x) s = .next t ∧
        t = { s with ctxs := t.ctxs, mem := t.mem, marksC := t.marksC, marksU := t.marksU, firn := t.firn } ∧
        (t.ctx x).state = .unowned ∧ (t.ctx x).owner = 0 ∧ (t.ctx x).deficit = 0 ∧ (t.ctx x).gen = (s.ctx x).gen ∧ (t.ctx x).csn = (s.ctx x).csn ∧
        (∀ y, y ≠ x → t.ctx y = s.ctx y) ∧
        ∀ j, t.byte j = if s.inExtent x j 1 = true then 0#8 else s.byte j)) ∧
  ((∀ (s : State) (a : Authority) (v : Nat), s.lets a 0xC050 8 QENG.CTX_CFG_AFFINITY → v < 2 ^ 64 →
      let x := s.rd QENG.CTX_SEL_CTX
      (s.ctx x).owned = false → (s.ctx x).cfg.intEn = false → vectorOk (s.ctxVf x) (bits v 42 32) = true →
      ∃ t, exec (.ctxCfgWrite a 0x50 8 v) s = .next t ∧ t = { s with ctxs := t.ctxs } ∧ (∀ y, y ≠ x → t.ctx y = s.ctx y) ∧
        t.ctx x = { s.ctx x with cfg := { (s.ctx x).cfg with
          affinity := bits v 15 0, home := bits v 17 16, intEn := bit v 19, weight := bits v 31 24,
          vector := bits v 42 32, modCnt := bits v 55 48, modUs := bits v 63 56 } }) ∧
    (∀ (s : State) (a : Authority) (v : Nat), s.lets a 0xC058 4 QENG.CTX_CFG_AFFINITY → v < 2 ^ 32 →
      let x := s.rd QENG.CTX_SEL_CTX
      (s.ctx x).owned = false →
      ∃ t, exec (.ctxCfgWrite a 0x58 4 v) s = .next t ∧ t = { s with ctxs := t.ctxs } ∧ (∀ y, y ≠ x → t.ctx y = s.ctx y) ∧
        t.ctx x = { s.ctx x with cfg := { (s.ctx x).cfg with spadNb := bits v 14 8, spadFirst := bits v 5 0 } }) ∧
    (∀ (s : State) (a : Authority) (o v : Nat), o < 64 → s.lets a (0xC100 + 4 * o) 4 QENG.OWN_CORES_CORES →
      (∀ e ∈ s.ctxs, e.2.owned = true → e.2.owner = o → within e.2.cfg.affinity (v % 2 ^ 16) = true) →
      ∃ t, exec (.ownCoresWrite a o v) s = .next t ∧ t = { s with regs := t.regs } ∧ t.rd QENG.OWN_CORES_CORES 0 o = v % 2 ^ 16 ∧
        s.regsBut t [QENG.OWN_CORES_CORES.bit 0 o]) ∧
    (∀ (s : State) (a : Authority) (q o len v : Nat), q < 4 → o + len ≤ 64 → s.lets a (pgQUAD q * 4096 + 0x100 + o) len QUAD.SHARE →
      s.shareSum q + ((List.range len).map (fun j => bits v (8 * j + 7) (8 * j))).sum ≤ 256 →
      ∃ t, exec (.shareWrite a q o len v) s = .next t ∧ t = { s with regs := t.regs } ∧
        (∀ j, j < len → t.rd QUAD.SHARE q (o + j) = bits v (8 * j + 7) (8 * j)) ∧
        s.regsBut t ((List.range len).map (fun j => QUAD.SHARE.bit q (o + j)))))

/-! ### Checkpoints -/

/-- R486, R488, R490–R495: a CKPT whose descriptor and regions are good, and for which its area (and host buffer) has room, clears
the header of the slot its area's newest checkpoint does not hold, offers the copy to the buddy it has, and runs with the entries
of its regions to do; one for a step that is not due ends at once with DETAIL 1. A running checkpoint's next entry of its own is
encoded, written to the slot with its digest kept; and once none is left and the clean horizon has passed, its manifest is written,
CKPT_SEQ rises by one and the command ends. -/
def Obligations.CheckpointRuns : Prop :=
  (∀ (s : State) (x qn : Nat) (k : Cmd), s.startOf x qn 0x18 = some k → ∀ ar, s.homeArea = some ar →
    s.firnServes = true → s.firnIdle = true → s.memoryClear → s.inExtent x (k.at 0x10) 64 = true →
    let d := s.bytes (k.at 0x10) 64
    let rs := (List.range (ckNreg d)).map (fun i => ((s.bytes (ckRegions d) (32 * ckNreg d)).drop (32 * i)).take 32)
    let list := if (rs.any rgReplica && ckG d != 1) = true then s.bytes (ckRegions d + 32 * ckNreg d) (4 * ckG d) else []
    ckDescReason d = none → s.inExtent x (ckRegions d) (32 * ckNreg d) = true → s.ckRegionReason x d rs = none →
    (list ≠ [] → s.inExtent x (ckRegions d + 32 * ckNreg d) (4 * ckG d) = true) →
    let es := placeEntries (rs.zipIdx.flatMap (fun r => regionEntries d list r.2 r.1))
    es.2 ≤ ar.slot → (ckHost d = true → es.2 ≤ ckHostCap d) →
    (ckIfDue d = true → s.on FIRN.TRIG_STAT_DUE = false →
      ∃ t, exec (.ckpt x qn) s = .next t ∧ t = { s with ctxs := t.ctxs, regs := t.regs, hbms := t.hbms } ∧
        s.cmdsBy t x qn (fun e => if e.ssn = k.ssn then { e with phase := .done stOK 1 s.ftime } else e) ∧
        s.regsBut t servedKeys) ∧
    ((ckIfDue d = true → s.on FIRN.TRIG_STAT_DUE = true) →
      ∃ t, exec (.ckpt x qn) s = .next t ∧
        t = { s with ctxs := t.ctxs, regs := t.regs, hbms := t.hbms, mem := t.mem, firn := t.firn, out := t.out } ∧
        s.started t x qn k.ssn ∧
        t.firn = { s.firn with ckpt := some { ctx := x, queue := qn, ssn := k.ssn, desc := d, slot := s.nextSlot ar,
                                              clean := s.ftime, todo := es.1 } } ∧
        (∀ j, j < 4 → t.byte (ar.slotAt (s.nextSlot ar) + j) = 0#8) ∧ s.bytesBut t (ar.slotAt (s.nextSlot ar)) 4 ∧
        t.out = s.out ++ (if ckBuddy d = true then
          [Emit.firn (s.rd FIRN.BUDDY_PART) fmOFFER [ckStep d, s.rd FIRN.CKPT_SEQ_SEQ + 1, es.2] []] else []) ∧
        (ckIfDue d = true → t.rd FIRN.TRIG_STAT_DUE = 0) ∧ (ckIfDue d = false → s.regsBut t (HDR.BLK_PROG.bit pgFIRN 0 :: servedKeys)) ∧
        s.regsBut t ([FIRN.TRIG_STAT_DUE.bit 0 0, FIRN.LAST_STEP_STEP.bit 0 0, FIRN.LAST_TIME_TIME.bit 0 0,
          HDR.BLK_PROG.bit pgFIRN 0] ++ servedKeys))) ∧
  (∀ (s : State) (k : Ckpt), s.firn.ckpt = some k → ∀ e rest, k.todo = e :: rest → ∀ copy misses, s.firnServes = true → s.firnPaused k.ctx = false → s.memoryClear → e.ref = none →
    (ckVerify k.desc = true → misses < 2) →
    let out := encodeShard e.fmt (s.bytes e.src e.len)
    ∃ t, exec (.ckptShardDone copy misses) s = .next t ∧
      t = { s with regs := t.regs, hbms := t.hbms, mem := t.mem, firn := t.firn, host := t.host, out := t.out } ∧
      t.firn = { s.firn with ckpt := some { k with todo := rest, entries := k.entries ++ [{ e with digest := sha256 out }] } } ∧
      t.bytes (s.ckptSlot k + e.off) out.length = out ∧ s.bytesBut t (s.ckptSlot k + e.off) out.length ∧
      (ckHost k.desc = true → t.hostBytes (ckHostAddr k.desc + e.off) out.length = out) ∧
      (ckHost k.desc = false → t.host = s.host) ∧
      t.out = s.out ++ (if ckHost k.desc = true then [Emit.dmaWrite (s.ctx k.ctx).owner (ckHostAddr k.desc + e.off) out.length
        s.maxPayload false (s.relaxedOn (s.ctx k.ctx).owner)] else []) ++ (if (ckBuddy k.desc && !k.refused) = true then
        [Emit.firn (s.rd FIRN.BUDDY_PART) fmSHARD [k.entries.length, e.off] out] else []) ∧
      s.regsBut t ([HDR.BLK_PROG.bit pgFIRN 0, HDR.BLK_PROG.bit pgHOSTIF 0] ++ servedKeys)) ∧
  (∀ (s : State) (k : Ckpt), s.firn.ckpt = some k → k.todo = [] → s.firnServes = true → s.firnPaused k.ctx = false →
    k.clean ≤ s.horizon → s.ckptSpoiled k = false → ckBuddy k.desc = false → k.refused = false → s.memoryClear →
    let m := s.manifestBytes k false
    ∃ t, exec (.ckptSeal 0) s = .next t ∧
      t = { s with ctxs := t.ctxs, regs := t.regs, hbms := t.hbms, mem := t.mem, firn := t.firn, host := t.host, out := t.out } ∧
      s.finished t k.ctx k.queue k.ssn stOK 0 ∧ t.firn.ckpt = none ∧ (ckHost k.desc = false → t.host = s.host ∧ t.out = s.out) ∧
      (ckHost k.desc = true → t.hostBytes (ckHostAddr k.desc) m.length = m ∧ t.out = s.out ++
        [.dmaWrite (s.ctx k.ctx).owner (ckHostAddr k.desc) m.length s.maxPayload false (s.relaxedOn (s.ctx k.ctx).owner)]) ∧
      t.rd FIRN.CKPT_SEQ_SEQ = (s.rd FIRN.CKPT_SEQ_SEQ + 1) % 2 ^ FIRN.CKPT_SEQ_SEQ.width ∧
      t.bytes (s.ckptSlot k) m.length = m ∧ s.bytesBut t (s.ckptSlot k) m.length ∧
      s.regsBut t ([FIRN.CKPT_SEQ_SEQ.bit 0 0, HDR.BLK_PROG.bit pgFIRN 0, HDR.BLK_PROG.bit pgHOSTIF 0] ++ servedKeys))

/-- R498 and R500 at the part that holds a member's copies, and R497 and R503 at the part that has one: an OFFER that fits clears
the slot header and awaits its shards, and one that does not is refused; a shard is written with its digest kept; a manifest all of
whose digests agree seals the copy; a REFUSAL leaves the home copy to go on; and a shard asked for is sent. -/
def Obligations.HolderReceives : Prop :=
  (∀ (s : State) (src : Nat) (a : Area), s.heldArea src = some a → ∀ step seq size : Nat, s.firnServes = true → s.memoryClear →
    (a.slot < size → ∃ t, exec (.buddyOfferReceive src step seq size) s = .next t ∧
      t = { s with regs := t.regs, out := s.out ++ [.firn src fmREFUSAL [step, seq] []] } ∧
      s.regsBut t [HDR.BLK_PROG.bit pgFIRN 0]) ∧
    (size ≤ a.slot → ∃ t, exec (.buddyOfferReceive src step seq size) s = .next t ∧ t = { s with mem := t.mem, firn := t.firn, regs := t.regs } ∧ s.regsBut t servedKeys ∧
      t.firn = { s.firn with helds := s.firn.helds.filter (fun h => h.member ≠ src) ++
        [{ member := src, slot := s.nextSlot a, step := step, seq := seq }] } ∧
      (∀ j, j < 4 → t.byte (a.slotAt (s.nextSlot a) + j) = 0#8) ∧ s.bytesBut t (a.slotAt (s.nextSlot a)) 4)) ∧
  (∀ (s : State) (src : Nat) (a : Area), s.heldArea src = some a → ∀ h, s.firn.helds.find? (fun h => h.member = src) = some h →
    ∀ (entry off : Nat) (data : List Byte), s.firnServes = true → off + data.length ≤ a.slot → h.manifest = none →
    s.memoryClear →
    ∃ t, exec (.buddyShardReceive src entry off data) s = .next t ∧
      t = { s with mem := t.mem, firn := t.firn, regs := t.regs, hbms := t.hbms } ∧
      t.bytes (a.slotAt h.slot + off) data.length = data ∧ s.bytesBut t (a.slotAt h.slot + off) data.length ∧
      t.firn.helds.find? (fun h => h.member = src) = some { h with
        digests := h.digests.filter (fun d => d.1 ≠ entry) ++ [(entry, sha256 data)] } ∧
      s.regsBut t (HDR.BLK_PROG.bit pgFIRN 0 :: servedKeys)) ∧
  (∀ (s : State) (src : Nat) (a : Area), s.heldArea src = some a → ∀ h, s.firn.helds.find? (fun h => h.member = src) = some h →
    ∀ data : List Byte, s.firnServes = true → data.length ≤ a.slot → s.memoryClear →
    (∀ i, i < leAt data 0x14 4 → let e := entryOf ((data.drop (128 * (1 + i))).take 128)
      e.ref.isSome = true ∨ (h.digests.find? (fun d => d.1 = i)).map (·.2) = some e.digest) →
    ∃ t, exec (.buddyManifestReceive src data) s = .next t ∧
      t = { s with mem := t.mem, firn := t.firn, regs := t.regs, hbms := t.hbms } ∧
      t.bytes (a.slotAt h.slot) data.length = data ∧ s.bytesBut t (a.slotAt h.slot) data.length ∧
      t.firn = { s.firn with helds := s.firn.helds.filter (fun o => o.member ≠ h.member) } ∧
      s.regsBut t (HDR.BLK_PROG.bit pgFIRN 0 :: servedKeys)) ∧
  (∀ (s : State) (k : Ckpt), s.firn.ckpt = some k → ∀ src, ckBuddy k.desc = true → s.rd FIRN.BUDDY_PART = src →
    exec (.buddyRefusalReceive src) s = .next { s with firn := { s.firn with ckpt := some { k with refused := true } } }) ∧
  (∀ (s : State) (k : Ckpt), s.firn.ckpt = some k → ∀ entry e, k.entries[entry]? = some e → ∀ src, e.ref = none → s.firnServes = true → s.on FIRN.BUDDY_VALID = true → s.rd FIRN.BUDDY_PART = src → s.memoryClear →
    ∃ t, exec (.buddyResendRequestReceive src entry) s = .next t ∧ t = { s with regs := t.regs, hbms := t.hbms, out := t.out } ∧
      t.out = s.out ++ [.firn src fmSHARD [entry, e.off] (s.bytes (s.ckptSlot k + e.off) e.stored)] ∧
      s.regsBut t (HDR.BLK_PROG.bit pgFIRN 0 :: servedKeys)) ∧
  (∀ (s : State) (member : Nat) (area : Area), (if member = s.ownPart then s.homeArea else s.heldArea member) = some area →
    ∀ step c, s.copyOf area step = some c → ∀ region shard e,
    (c.2.1.entries.map entryOf).find? (fun e => e.region = region && e.shard = shard && e.ref.isNone) = some e → ∀ src, s.firnServes = true → s.memoryClear →
    ∃ t, exec (.shardFetchRequestReceive src member step region shard) s = .next t ∧
      t = { s with regs := t.regs, hbms := t.hbms, out := t.out } ∧
      t.out = s.out ++ [.firn src fmANSWER [region, shard] (e.digest ++ s.bytes (c.1 + e.off) e.stored)] ∧
      s.regsBut t (HDR.BLK_PROG.bit pgFIRN 0 :: servedKeys))

/-- R502 and R503: a RESTORE from this part runs when its step's checkpoint exists there and its destinations may be written, ends
with NO_CHECKPOINT where none exists, and, for a checkpoint whose one shard has the right digest, ends with the shard's values at
its destination and every other byte as it was. R468, R485 and R501: HOME, BUDDY and the HOLD_ENT entry that HOLD_IDX names take
what is written while no checkpoint or restore runs, an area's registers where the area fits; the image region and survival bits of
a context that is not FROZEN take what is written to CTX_IMG. -/
def Obligations.RestoreAndRegisters : Prop :=
  ((∀ (s : State) (x qn : Nat) (k : Cmd), s.startOf x qn 0x19 = some k → s.firnServes = true → s.firnIdle = true →
      let r : Restore := { ctx := x, queue := qn, ssn := k.ssn, step := bits (k.at 0x10) 31 0, source := bits (k.at 0x10) 33 32,
                           hostFb := bit (k.at 0x10) 40, member := bits (k.at 0x18) 11 0, holder := bits (k.at 0x18) 43 32,
                           hostAddr := k.at 0x20 }
      r.source < 2 → s.memoryClear →
      (∀ m, s.restoreManifest r [] = some m → s.restoreFits x m.2.1 = true →
        ∃ t, exec (.restore x qn) s = .next t ∧ t = { s with ctxs := t.ctxs, regs := t.regs, firn := { s.firn with restore := some r } } ∧
          s.regsBut t servedKeys ∧ s.started t x qn k.ssn) ∧
      (s.restoreManifest r [] = none →
        ∃ t, exec (.restore x qn) s = .next t ∧ t = { s with ctxs := t.ctxs, regs := t.regs } ∧ s.regsBut t servedKeys ∧
          s.finished t x qn k.ssn fNO_CHECKPOINT 0)) ∧
    (∀ (s : State) (r : Restore), s.firn.restore = some r → ∀ sent c, s.restoreManifest r sent = some c → ∀ a, c.1 = some a →
      ∀ fetched, s.firnServes = true → s.firnPaused r.ctx = false → s.memoryClear → c.2.2 = [] →
      s.restoreFits r.ctx c.2.1 = true → c.2.1.entries.length = 1 →
      let e := entryOf (c.2.1.entries.getD 0 [])
      let stored := s.bytes (a + e.off) e.stored
      let new := (decodeShard e.fmt stored).1
      e.ref = none → sha256 stored = e.digest →
      ∃ t, exec (.restoreDone sent fetched []) s = .next t ∧
        t = { s with ctxs := t.ctxs, regs := t.regs, hbms := t.hbms, mem := t.mem, firn := { s.firn with restore := none } } ∧
        s.finished t r.ctx r.queue r.ssn stOK 0 ∧ t.bytes e.src new.length = new ∧ s.bytesBut t e.src new.length ∧
        s.regsBut t ([FIRN.NONFINITE_COUNT.bit 0 0, HDR.BLK_PROG.bit pgFIRN 0] ++ servedKeys))) ∧
  ((∀ (s : State) (a : Authority) (v : Nat), s.lets a (offFirn 0x58) 4 FIRN.HOME_VALID → s.firnIdle = true → v < 2 ^ 32 →
      ∃ t, exec (.firnAreaWrite a 0x58 v) s = .next t ∧ t = { s with regs := t.regs } ∧ t.rd FIRN.BUDDY_VALID = bits v 31 31 ∧
        t.rd FIRN.BUDDY_PART = bits v 11 0 ∧ s.regsBut t [FIRN.BUDDY_VALID.bit 0 0, FIRN.BUDDY_PART.bit 0 0]) ∧
    (∀ (s : State) (a : Authority) (v : Nat), s.lets a (offFirn 0x5C) 4 FIRN.HOME_VALID → s.firnIdle = true → v < 2 ^ 32 →
      (bit v 31 = true → s.areaOk 16 (bits v 25 24) (bits v 23 16) (bits v 7 0) = true) →
      ∃ t, exec (.firnAreaWrite a 0x5C v) s = .next t ∧ t = { s with regs := t.regs } ∧ t.rd FIRN.HOME_VALID = bits v 31 31 ∧
        t.rd FIRN.HOME_STACK = bits v 25 24 ∧ t.rd FIRN.HOME_OFFSET = bits v 23 16 ∧ t.rd FIRN.HOME_SIZE = bits v 7 0 ∧
        s.regsBut t [FIRN.HOME_VALID.bit 0 0, FIRN.HOME_STACK.bit 0 0, FIRN.HOME_OFFSET.bit 0 0, FIRN.HOME_SIZE.bit 0 0]) ∧
    (∀ (s : State) (a : Authority) (v : Nat), s.lets a (offFirn 0x64) 4 FIRN.HOME_VALID → s.firnIdle = true → v < 2 ^ 32 →
      let i := s.rd FIRN.HOLD_IDX_IDX
      bit v 31 = true → s.areaOk i (bits v 29 28) (bits v 27 20) (bits v 19 12) = true →
      ∃ t, exec (.firnAreaWrite a 0x64 v) s = .next t ∧ t = { s with firn := t.firn } ∧ t.holdEnt i = Nat.land v 0xBFFF_FFFF ∧
        (∀ j, j ≠ i → t.holdEnt j = s.holdEnt j) ∧
        t.firn.helds = s.firn.helds.filter (fun h => h.member ≠ bits (s.holdEnt i) 11 0)) ∧
    (∀ (s : State) (a : Authority) (v : Nat), s.lets a (offFirn 0x74) 4 FIRN.CTX_IMG_IMG_OFF → v < 2 ^ 32 →
      let x := s.rd FIRN.CTX_SEL_CTX
      (s.ctx x).state ≠ .frozen →
      ∃ t, exec (.ctxImgWrite a v) s = .next t ∧ t = { s with ctxs := t.ctxs } ∧ (∀ y, y ≠ x → t.ctx y = s.ctx y) ∧
        t.ctx x = { s.ctx x with cfg := { (s.ctx x).cfg with
          imgOff := bits v 31 17, imgMib := bits v 16 4, survChip := bit v 2, survPart := bit v 1, survEng := bit v 0 } }))

/-! ### Collectives and the start barrier -/

/-- R333, R334 and R341: a COLL whose descriptor passes its checks becomes a running collective in phase JOIN, with the joins that
came early; one whose descriptor does not ends with CMD_INVALID and its reason. A BARRIER for the BGEN being gathered waits with
the others while commands or children are missing; one for another BGEN, or of a context outside PEER_CTX, ends with CMD_INVALID
and DETAIL 0x17. -/
def Obligations.FieldCommandsStart : Prop :=
  (∀ (s : State) (x qn : Nat) (k : Cmd), s.startOf x qn 0x20 = some k → ∀ o, s.descOff x (k.at 0x10) = some o →
    s.memoryClear →
    let d := s.bytes o 64;
    let mem := collMembers d (s.bytes (leAt d 8 8 % 2 ^ 52) (2 * collNmem d));
    (s.collDetail x d mem ≠ 0 → ∃ t, exec (.coll x qn) s = .next t ∧ t = { s with ctxs := t.ctxs, regs := t.regs, hbms := t.hbms } ∧
      s.cmdsBy t x qn (fun e => if e.ssn = k.ssn then { e with phase := .done stCMD_INVALID (s.collDetail x d mem) s.ftime } else e) ∧
      s.regsBut t servedKeys) ∧
    (s.collDetail x d mem = 0 → ∀ c : Coll, c =
          { ctx := x, queue := qn, ssn := k.ssn, cgen := leAt d 4 4, op := bits (leAt d 0 4) 23 20,
            dtype := bits (leAt d 0 4) 19 16, red := bit (leAt d 0 4) 15, members := mem,
            index := (mem.findIdx? (fun p => p = s.ownPart)).getD 0, src := leAt d 0x14 8 % 2 ^ 52,
            dst := leAt d 0x1C 8 % 2 ^ 52, stage := leAt d 0x24 8 % 2 ^ 52, len := leAt d 0x2C 4,
            joined := (s.fabric.earlyJoins.filter (fun e => e.2.ctx = x ∧ e.2.be % 2 ^ 32 = leAt d 4 4)).map
              (fun e => e.2.be / 2 ^ 32), started := s.ftime } →
      c.kids.all c.joined.contains = false →
      ∃ t, exec (.coll x qn) s = .next t ∧
        t = { s with ctxs := t.ctxs, regs := t.regs, hbms := t.hbms, fabric := t.fabric } ∧ s.started t x qn k.ssn ∧
        s.regsBut t servedKeys ∧ t.fabric = { s.fabric with
          colls := s.fabric.colls ++ [c], lastCgen := SMap.put s.fabric.lastCgen x c.cgen,
          earlyJoins := s.fabric.earlyJoins.filter (fun e => ¬ (e.2.ctx = x ∧ e.2.be % 2 ^ 32 = c.cgen)) })) ∧
  (∀ (s : State) (x qn dwell : Nat) (k : Cmd), s.startOf x qn 0x21 = some k →
    (k.at 0x10 % 2 ^ 32 ≠ s.nextBgen ∨ s.peerCtx x = false →
      ∃ t, exec (.barrier x qn dwell) s = .next t ∧ t = { s with ctxs := t.ctxs } ∧
        s.cmdsBy t x qn (fun e => if e.ssn = k.ssn then { e with phase := .done stCMD_INVALID 0x17 s.ftime } else e)) ∧
    (k.at 0x10 % 2 ^ 32 = s.nextBgen → s.peerCtx x = true →
      (s.barrier.cmds.length + 1 < s.rd BARRIER.BAR_TREE_LOCAL ∨ s.childPorts.all s.barrier.children.contains = false) →
      ∃ t, exec (.barrier x qn dwell) s = .next t ∧ t = { s with ctxs := t.ctxs, barrier := t.barrier, regs := t.regs } ∧
        s.started t x qn k.ssn ∧ t.barrier = { s.barrier with
          cmds := s.barrier.cmds ++ [⟨x, qn, k.ssn, bit (k.at 0x10) 32⟩], since := some (s.barrier.since.getD s.ftime) } ∧
        t.barState = (if s.barState = barIDLE then barGATHER else s.barState) ∧ s.regsBut t [BARRIER.BAR_STAT_STATE.bit 0 0]))

/-- R335, R336, R338 and R339: what a member does with each flit of a collective that it takes, u being the state once the flit is
taken. A child's JOIN, READY or DONE counts, and waits for the others; GO from the parent begins READ; the parent's data goes into
staging; COMMIT copies staging to the destination, a member with no child then sending DONE up; FINISH completes the command. R337:
a COLL_ABORT for a member's collective, and a collective that outlives COLL_TMO, end its command with COLLECTIVE_ABORT and DETAIL 1
(2 once the destination has been written), raise COLL_ABORT and tell the members beside it. -/
def Obligations.CollectiveRuns : Prop :=
  (∀ s : State,
      (∀ p f u, s.takeFlit clORDERED (fun e => e.op = 0x10 && e.aux % 2 = 0) = some (p, f, u) → ∀ c, u.coll f.ctx (f.be % 2 ^ 32) = some c →
        let i := f.be / 2 ^ 32
        c.kids.all (i :: c.joined).contains = false →
        ∃ t, exec .collJoinReceive s = .next t ∧ t = u.setColl { c with joined := i :: c.joined }) ∧
      (∀ p f u, s.takeFlit clORDERED (fun e => e.op = 0x10 && e.aux % 2 = 1 && s.collReadyFor e) = some (p, f, u) → ∀ c, u.coll f.ctx (f.be % 2 ^ 32) = some c →
        let i := f.be / 2 ^ 32
        c.phase = .join → c.parent = some i →
        c.upDone = false ∨ (c.op = 1 ∧ c.kids = [] ∧ u.collBarred c = false) →
        ∃ t, exec .collGoReceive s = .next t ∧ t = (u.tellKids c 0x10 1).setColl { c with phase := .read }) ∧
      (∀ p f u, s.takeFlit clBULK (fun e => e.op = 0x12 && e.aux % 2 = 0 && s.collReadyFor e) = some (p, f, u) → ∀ c, u.coll f.ctx (f.be % 2 ^ 32) = some c →
        let i := f.be / 2 ^ 32
        c.phase = .read → c.parent = some i →
        c.got + f.len < c.outLen → u.memoryClear →
        ∃ t, exec .collDataReceive s = .next t ∧
          t = { u.setColl { c with got := c.got + f.len } with mem := t.mem, regs := t.regs, hbms := t.hbms } ∧
          t.bytes (c.stage + f.addr) (f.body.take f.len).length = f.body.take f.len ∧
          u.bytesBut t (c.stage + f.addr) (f.body.take f.len).length ∧ u.regsBut t servedKeys) ∧
      (∀ p f u, s.takeFlit clORDERED (fun e => e.op = 0x13 && e.aux % 2 = 0 && s.collReadyFor e) = some (p, f, u) → ∀ c, u.coll f.ctx (f.be % 2 ^ 32) = some c →
        let i := f.be / 2 ^ 32
        (c.phase ≠ .read ∨ c.whole = false ∨ c.kids.all (i :: c.readies).contains = false) →
        ∃ t, exec .collReadyReceive s = .next t ∧ t = u.setColl { c with readies := i :: c.readies }) ∧
      (∀ p f u, s.takeFlit clORDERED (fun e => e.op = 0x14 && e.aux % 2 = 0 && s.collReadyFor e) = some (p, f, u) → ∀ c, u.coll f.ctx (f.be % 2 ^ 32) = some c → ∀ q, c.parent = some q →
        c.phase = .ready → c.kids = [] → u.collBarred c = false → u.memoryClear →
        ∃ t w, exec .collCommitReceive s = .next t ∧
          t = (w.setColl { c with phase := .done }).send [w.collFlit { c with phase := .done } 0x15 0 q] ∧
          w = { u with mem := w.mem, regs := w.regs, hbms := w.hbms } ∧ u.regsBut w servedKeys ∧
          w.bytes c.dst c.outLen = u.bytes c.stage c.outLen ∧ u.bytesBut w c.dst c.outLen) ∧
      (∀ p f u, s.takeFlit clORDERED (fun e => e.op = 0x15 && e.aux % 2 = 0 && s.collReadyFor e) = some (p, f, u) → ∀ c, u.coll f.ctx (f.be % 2 ^ 32) = some c →
        let i := f.be / 2 ^ 32
        (c.phase ≠ .done ∨ c.kids.all (i :: c.dones).contains = false) →
        ∃ t, exec .collDoneReceive s = .next t ∧ t = u.setColl { c with dones := i :: c.dones }) ∧
      (∀ p f u, s.takeFlit clORDERED (fun e => e.op = 0x15 && e.aux % 2 = 1 && s.collReadyFor e) = some (p, f, u) → ∀ c, u.coll f.ctx (f.be % 2 ^ 32) = some c →
        c.phase = .done →
        let w := u.send (c.kids.map (u.collFlit c 0x15 1))
        ∃ t, exec .collFinishReceive s = .next t ∧
          t = { w with ctxs := t.ctxs, fabric := { w.fabric with
            colls := w.fabric.colls.filter (fun e => e.ctx ≠ c.ctx ∨ e.cgen ≠ c.cgen) } } ∧
          w.finished t c.ctx c.queue c.ssn stOK 0)) ∧
  (let aborted := fun (u t : State) (c : Coll) =>
      let detail := if c.phase = .done then 2 else 1
      let w := u.collFail c
      t = w.send (u.abortFlits c none) ∧
        w = { u with ctxs := w.ctxs, regs := w.regs, fltIn := w.fltIn, pci := w.pci, out := w.out,
                     fabric := { u.fabric with colls := u.fabric.colls.filter (fun e => e.ctx ≠ c.ctx ∨ e.cgen ≠ c.cgen) } } ∧
        u.finished w c.ctx c.queue c.ssn stCOLLECTIVE_ABORT detail ∧ u.raised w [u.ctxTok pgFABRIC kCOLL_ABORT c.ctx c.cgen detail] ∧
        u.regsBut w [HDR.BLK_ERR.bit pgFABRIC 0];
    (∀ s : State, ∀ p f u, s.takeFlit clORDERED (fun e => e.op = 0x16 && e.aux % 2 = 0 && s.collReadyFor e) = some (p, f, u) →
      ∀ c, u.coll f.ctx (f.be % 2 ^ 32) = some c → u.boot.fltUp = true → c.phase ≠ .commit →
      ∃ t, exec .collAbortReceive s = .next t ∧ aborted u t c) ∧
    (∀ (s : State) (x g : Nat), ∀ c, s.coll x g = some c → s.boot.fltUp = true → c.phase ≠ .commit →
      c.started + max 1 (s.rd FABRIC.COLL_TMO_MS) * 100000 ≤ s.ftime →
      ∃ t, exec (.collTimeout x g) s = .next t ∧ aborted s t c))

/-- R341, R343 and R344: a child's arrival for the BGEN being gathered counts, and one for a later BGEN is kept; the parent's
BAR_RELEASE starts the countdown with what it carries; and at its end every local command completes OK, BAR_GEN, STEP, LAST_REL,
SKEW_OK, HOPS and DUE are set, and the next barrier begins from the arrivals that came early. R346, R347 and R349: a BAR_ABORT for
the BGEN being gathered, and BAR_TMO, end the barrier: its commands end with PEER_LOST, BAR_GEN advances, TIMEOUT is set and
BARRIER_TIMEOUT is raised; STEP and BAR_TREE take what is written while the barrier is IDLE; the root's offset is then 0, and a new
parent's rate is not VALID (R340). -/
def Obligations.BarrierEndsOrAborts : Prop :=
  ((∀ (s : State) (dwell : Nat), ∀ p f u, s.takeFlit clORDERED (fun e => e.op = 0x20) = some (p, f, u) →
      p ∈ u.childPorts →
      (f.be % 2 ^ 32 = u.nextBgen → u.barrier.arrived = true ∨ u.barrier.cmds.length < u.rd BARRIER.BAR_TREE_LOCAL →
        ∃ t, exec (.barArriveReceive dwell) s = .next t ∧
          t = { u with barrier := { u.barrier with children := p :: u.barrier.children }, regs := t.regs } ∧
          t.barState = (if u.barState = barIDLE then barGATHER else u.barState) ∧ u.regsBut t [BARRIER.BAR_STAT_STATE.bit 0 0]) ∧
      (before32 u.nextBgen (f.be % 2 ^ 32) = true →
        exec (.barArriveReceive dwell) s =
          .next { u with barrier := { u.barrier with early := u.barrier.early ++ [(f.be % 2 ^ 32, p)] } })) ∧
    (∀ (s : State) (dwell : Nat), ∀ p f u, s.takeFlit clORDERED (fun e => e.op = 0x21) = some (p, f, u) →
      f.be % 2 ^ 32 = u.nextBgen → u.isParentPort p = true → u.childPorts = [] →
      let r := u.ownRemain (f.aux % 2 ^ 31 : Nat) p
      0 < r →
      ∃ t, exec (.barReleaseReceive dwell) s = .next t ∧ t = { u with barrier := t.barrier, regs := t.regs } ∧
        t.barrier = { u.barrier with
          remain := r, hops := (f.hops + 1) % 16,
          carried := some (leAt f.body 0 4, bit (leAt f.body 4 1) 0,
            bit f.aux 31 && u.on BARRIER.BAR_STAT_RATE_VALID && u.on NL.NL_DELAY_VALID p) } ∧
        t.barState = barCOUNTDOWN ∧ u.regsBut t [BARRIER.BAR_STAT_STATE.bit 0 0]) ∧
    (∀ s : State, ∀ step due skew, s.barrier.carried = some (step, due, skew) → s.barState = barCOUNTDOWN →
      s.barrier.remain ≤ 0 → s.ftime < 2 ^ 64 → s.barrier.hops < 16 → step < 2 ^ 32 →
      ∃ t, exec .barrierRelease s = .next t ∧ t = { s with ctxs := t.ctxs, regs := t.regs, barrier := t.barrier } ∧
        (∀ x qn, ((t.ctx x).queue qn).cmds = ((s.ctx x).queue qn).cmds.map (fun k =>
          if (s.barrier.cmds.any (fun c => c.ctx = x && c.queue = qn && c.ssn = k.ssn) && !k.over) = true
          then { k with phase := .done stOK 0 s.ftime } else k)) ∧
        t.rd BARRIER.BAR_GEN_BGEN = s.nextBgen ∧ t.rd BARRIER.STEP_STEP = step ∧ t.rd BARRIER.LAST_REL_TIME = s.ftime ∧
        t.rd BARRIER.BAR_STAT_SKEW_OK = b2n skew ∧ t.rd BARRIER.BAR_STAT_HOPS = s.barrier.hops ∧ t.rd FIRN.TRIG_STAT_DUE = b2n due ∧
        t.barrier.cmds = [] ∧ t.barrier.arrived = false ∧ t.barrier.carried = none ∧
        t.barrier.children = (s.barrier.early.filter (fun e => e.1 = t.nextBgen)).map (·.2) ∧
        t.barState = (if t.barrier.children = [] then barIDLE else barGATHER))) ∧
  (let aborted := fun (u t : State) =>
      t = { u with ctxs := t.ctxs, regs := t.regs, fltIn := t.fltIn, pci := t.pci, out := t.out, nl := t.nl, fabric := t.fabric,
                   draws := t.draws, barrier := t.barrier } ∧
      (∀ x qn, ((t.ctx x).queue qn).cmds = ((u.ctx x).queue qn).cmds.map (fun k =>
        if (u.barrier.cmds.any (fun c => c.ctx = x && c.queue = qn && c.ssn = k.ssn) && !k.over) = true
        then { k with phase := .done stPEER_LOST 0 u.ftime } else k)) ∧
      t.rd BARRIER.BAR_GEN_BGEN = u.nextBgen ∧ t.rd BARRIER.BAR_STAT_TIMEOUT = 1 ∧ t.barrier.cmds = [] ∧
      u.raised t [u.ctxTok pgBARRIER kBARRIER_TIMEOUT ((u.barrier.cmds.head?.map (·.ctx)).getD 0) u.nextBgen 0] ∧
      u.regsBut t [BARRIER.BAR_GEN_BGEN.bit 0 0, BARRIER.BAR_STAT_TIMEOUT.bit 0 0, BARRIER.BAR_STAT_STATE.bit 0 0,
        HDR.BLK_ERR.bit pgBARRIER 0];
    (∀ s : State, ∀ p f u, s.takeFlit clORDERED (fun e => e.op = 0x22) = some (p, f, u) → u.boot.fltUp = true →
      f.be % 2 ^ 32 = u.nextBgen → ∃ t, exec .barAbortReceive s = .next t ∧ aborted u t) ∧
    (∀ (s : State) (t0 : Nat), s.boot.fltUp = true → s.barrier.since = some t0 →
      t0 + max 1 (s.rd BARRIER.BAR_TMO_MS) * 100000 ≤ s.ftime → ∃ t, exec .barrierTimeout s = .next t ∧ aborted s t) ∧
    (∀ (s : State) (a : Authority) (v : Nat), s.lets a (offBarrier 0x50) 4 BARRIER.STEP_STEP → s.barState = barIDLE → v < 2 ^ 32 →
      ∃ t, exec (.stepWrite a v) s = .next t ∧ t = { s with regs := t.regs } ∧ t.rd BARRIER.STEP_STEP = v ∧
        s.regsBut t [BARRIER.STEP_STEP.bit 0 0]) ∧
    (∀ (s : State) (a : Authority) (v : Nat), s.lets a (offBarrier 0x40) 4 BARRIER.BAR_TREE_CHILD → s.barState = barIDLE → v < 2 ^ 32 →
      ∃ t, exec (.barTreeWrite a v) s = .next t ∧ t = { s with regs := t.regs, barrier := t.barrier } ∧ t.rd BARRIER.BAR_TREE_CHILD = bits v 31 16 ∧
        t.rd BARRIER.BAR_TREE_IS_ROOT = bits v 8 8 ∧ t.rd BARRIER.BAR_TREE_LOCAL = bits v 7 4 ∧
        t.rd BARRIER.BAR_TREE_PARENT = bits v 3 0 ∧
        t.rd BARRIER.FT_OFFSET_OFFSET = (if bit v 8 then 0 else s.rd BARRIER.FT_OFFSET_OFFSET) ∧
        (if s.isRoot = bit v 8 ∧ s.rd BARRIER.BAR_TREE_PARENT = bits v 3 0
         then t.barrier = s.barrier ∧ t.rd BARRIER.BAR_STAT_RATE_VALID = s.rd BARRIER.BAR_STAT_RATE_VALID
         else t.barrier = { s.barrier with ratePrev := none, rate := none } ∧ t.rd BARRIER.BAR_STAT_RATE_VALID = 0) ∧
        s.regsBut t [BARRIER.BAR_TREE_CHILD.bit 0 0, BARRIER.BAR_TREE_IS_ROOT.bit 0 0, BARRIER.BAR_TREE_LOCAL.bit 0 0,
          BARRIER.BAR_TREE_PARENT.bit 0 0, BARRIER.FT_OFFSET_OFFSET.bit 0 0, BARRIER.BAR_STAT_RATE_VALID.bit 0 0]))

/-! ### Links and routes -/

/-- R301–R305, R308, R317 and R348: the steps of a negotiation. Signal on an enabled port that is OFF, in DETECT or HOLD, FAILED or
FOREIGN begins it with a CAP; the partner's CAP fixes the mode of R302, or fails the port where none is common; training that
leaves no lane out goes on to IDENTIFY, and one that does repeats without it; IDENT makes the port LOOPBACK or FOREIGN, resumes or
makes a new link; the sixteen probes give NL_DELAY; and the partner's credits make it UP. An IDENT or a CREDIT_INIT that comes too
early is kept. -/
def Obligations.PortsNegotiate : Prop :=
  ∀ (s : State) (p lanes : Nat) (f : Flit), p < 16 → s.boot.fltUp = true →
    let began := fun (t : State) => s.onPort t p [NL.NL_STAT_STATE.bit p 0] ∧ t.nlState p = nlNEGOTIATE ∧
      bit (t.rd CHIP.SVC_LEVEL_NL_UP) p = false ∧ (t.port p).signal = lanes % 16 ∧
      (t.port p).cfg = s.nlCfg p ∧ (t.port p).fenced = s.rd NL.NL_LANE_FENCED p ∧
      (t.port p).ctrl = [(tCTRL, recCAP (s.rd NL.NL_CFG_RATES p) (t.usableLanes p) (s.rd NL.NL_CFG_FEC53 p))];
    let up := fun (d : List Byte) (t : State) (keys : List Nat) =>
      t = { s with nl := t.nl, regs := t.regs, fltIn := t.fltIn, pci := t.pci, out := t.out, barrier := t.barrier } ∧
      s.regsBut t (levelKeys ++ [NL.NL_STAT_STATE.bit p 0, NL.NL_STAT_RESUMED.bit p 0, BARRIER.BAR_STAT_RATE_VALID.bit 0 0] ++ keys) ∧
      t.nlState p = nlUP ∧ bit (t.rd CHIP.SVC_LEVEL_NL_UP) p = true ∧
      t.rd NL.NL_STAT_RESUMED p = (if (s.port p).outcome = 1 then 1 else 0) ∧
      (t.port p).credit = [(clURGENT, leAt d 1 2), (clORDERED, leAt d 3 2), (clBULK, leAt d 5 2)] ∧
      (t.port p).recorded = some (s.rd NL.NL_PSERIAL_SERIAL p, s.rd NL.NL_PNONCE_NONCE p) ∧ (t.port p).retryFrom = none ∧
      (t.port p).replay = (if (s.port p).outcome = 1 then
        (s.port p).replay.filter (fun e => !before16 e.1 (s.port p).resumeFrom) else []);
    let kept := fun (t : State) (n : NlPort) => t = { s with nl := t.nl } ∧ t.port p = n ∧ ∀ q, q ≠ p → t.port q = s.port q;
    (s.nlEnabled p = true → lanes % 16 ≠ 0 →
      (s.nlState p ∈ [nlOFF, nlDETECT, nlHOLD] → ∃ t, exec (.nlDetect p lanes) s = .next t ∧ began t) ∧
      (s.nlState p = nlFAILED → ∃ t, exec (.nlFailedRetry p lanes) s = .next t ∧ began t) ∧
      (s.nlState p = nlFOREIGN → ∃ t, exec (.nlForeignRetry p lanes) s = .next t ∧ began t)) ∧
    (∀ d, ctrlOf f 0x01 = some d → s.nlState p = nlNEGOTIATE →
      let common := Nat.land (s.usableLanes p) (bits (leAt d 1 1) 6 3)
      let mode := bestMode (Nat.land (s.port p).cfg.rates (bits (leAt d 1 1) 2 0)) common
      (∀ m, mode = some m → ∃ t, exec (.nlCapReceive p f) s = .next t ∧
        s.onPort t p [NL.NL_STAT_STATE.bit p 0, NL.NL_STAT_RATE.bit p 0, NL.NL_STAT_WIDTH.bit p 0, NL.NL_STAT_LANES_USED.bit p 0,
          NL.NL_STAT_FEC_ON.bit p 0] ∧
        t.nlState p = nlTRAIN ∧ t.rd NL.NL_STAT_RATE p = m.1 ∧ t.rd NL.NL_STAT_WIDTH p = widthCode m.2 ∧
        t.rd NL.NL_STAT_LANES_USED p = lowestLanes common m.2 ∧
        (t.on NL.NL_STAT_FEC_ON p = true ↔ 0 < m.1 ∨ bit (leAt d 1 1) 7 = true ∨ (s.port p).cfg.fec53 = 1)) ∧
      (mode = none → (s.port p).negFailAt = none → ∃ t, exec (.nlCapReceive p f) s = .next t ∧
        s.onPort t p [NL.NL_STAT_STATE.bit p 0, HDR.BLK_ERR.bit (pgNL p) 0] ∧ t.nlState p = nlFAILED ∧
        s.told t (tokOf (pgNL p) kNEG_FAIL 0 0))) ∧
    (s.nlState p = nlTRAIN →
      let used := s.rd NL.NL_STAT_LANES_USED p
      ((∀ l, l < 4 → bit used l = true → bit lanes l = true) → s.on FABRIC.FAB_ID_VALID = true →
        (s.port p).keptIdent = none → ∃ t, exec (.nlTrainDone p lanes) s = .next t ∧ s.onPort t p [NL.NL_STAT_STATE.bit p 0, NL.NL_LANE_LOCKED.bit p 0] ∧
          t.nlState p = nlIDENTIFY ∧ t.rd NL.NL_LANE_LOCKED p = used % 16 ∧ (t.port p).identSent = true ∧
          s.ctrlDue t p [(tCTRL, t.recIDENT p)]) ∧
      ((∃ l, l < 4 ∧ bit used l = true ∧ bit lanes l = false) → (∀ l, l < 4 → countAt (s.port p).leftOut l < 2) →
        ∃ t, exec (.nlTrainDone p lanes) s = .next t ∧ s.onPort t p [NL.NL_STAT_STATE.bit p 0] ∧ t.nlState p = nlNEGOTIATE ∧
          (∀ l, l < 4 → bit (t.port p).failed l = (bit (s.port p).failed l || (bit used l && !bit lanes l))) ∧
          s.ctrlDue t p [(tCTRL, recCAP (s.port p).cfg.rates (t.usableLanes p) (s.port p).cfg.fec53)])) ∧
    (∀ d, ctrlOf f 0x02 = some d → s.nlState p = nlIDENTIFY → (s.port p).identSent = true → (s.port p).outcome = 0 →
      let serial := leAt d 1 8
      let nonce := leAt d 9 8
      let tag := leAt d 0x11 4
      let part := leAt d 0x15 2 % 0x1000
      let own := serial = s.sec.serial ∧ nonce = s.boot.nonce
      let resumes := (s.port p).recorded = some (serial, nonce) ∧ (s.port p).resumable = true ∧
        (s.port p).retryFrom.isSome = true ∧ bit (leAt d 0x17 1) 1 = true
      let met := fun (t : State) => t.rd NL.NL_PSERIAL_SERIAL p = serial ∧ t.rd NL.NL_PNONCE_NONCE p = nonce ∧
        t.rd NL.NL_PFIELD_FIELD_TAG p = tag ∧ t.rd NL.NL_STAT_P_PART p = part
      let keys := [NL.NL_STAT_STATE.bit p 0, NL.NL_PSERIAL_SERIAL.bit p 0, NL.NL_PNONCE_NONCE.bit p 0, NL.NL_PFIELD_FIELD_TAG.bit p 0,
        NL.NL_STAT_P_PART.bit p 0, NL.NL_STAT_P_PORT.bit p 0, NL.NL_STAT_P_ROUTABLE.bit p 0, HDR.BLK_ERR.bit (pgNL p) 0]
      let probes := (List.range 16).map (fun k => (tPROBE, toLE k 1))
      let other := (s.port p).retryFrom.isSome = true ∧ ∃ e, (s.port p).recorded = some e ∧ e.1 ≠ serial
      let apart := fun (t : State) => s.onPort t p (FABRIC.ROUTE_GEN_GEN.bit 0 0 :: keys) ∧ met t ∧
        (other → (t.port p).retryFrom = none ∧ t.rd FABRIC.ROUTE_GEN_GEN = (s.rd FABRIC.ROUTE_GEN_GEN + 1) % 2 ^ 32) ∧
        (¬ other → (t.port p).retryFrom = (s.port p).retryFrom ∧ t.rd FABRIC.ROUTE_GEN_GEN = s.rd FABRIC.ROUTE_GEN_GEN)
      ((other → (s.port p).replay = [] ∧ s.fabric.stuck = []) → own →
        ∃ t, exec (.nlIdentReceive p f) s = .next t ∧ apart t ∧ t.nlState p = nlLOOPBACK ∧
        s.told t (tokOf (pgNL p) kLOOPBACK 0 0)) ∧
      ((other → (s.port p).replay = [] ∧ s.fabric.stuck = []) → ¬ own → tag ≠ s.rd NL.NL_FIELD_FIELD_TAG p →
        ∃ t, exec (.nlIdentReceive p f) s = .next t ∧ apart t ∧ t.nlState p = nlFOREIGN ∧ s.told t (tokOf (pgNL p) kPARTNER_FOREIGN tag part)) ∧
      (¬ own → tag = s.rd NL.NL_FIELD_FIELD_TAG p → resumes → ∃ t, exec (.nlIdentReceive p f) s = .next t ∧ s.onPort t p keys ∧
        met t ∧ (t.port p).outcome = 1 ∧ (t.port p).resumeFrom = leAt d 0x18 2 ∧ (t.port p).replay = (s.port p).replay ∧
        s.ctrlDue t p probes ∧ s.told t (tokOf (pgNL p) kLINK_RESUMED 0 part)) ∧
      (¬ own → tag = s.rd NL.NL_FIELD_FIELD_TAG p → ¬ resumes → (s.port p).replay = [] → s.fabric.stuck = [] →
        ∃ t, exec (.nlIdentReceive p f) s = .next t ∧ s.onPort t p (FABRIC.ROUTE_GEN_GEN.bit 0 0 :: keys) ∧ met t ∧
          (t.port p).outcome = 2 ∧ (t.port p).seqTx = 0 ∧ (t.port p).rxNext = 0 ∧
          t.rd FABRIC.ROUTE_GEN_GEN = (s.rd FABRIC.ROUTE_GEN_GEN + 1) % 2 ^ 32 ∧ s.ctrlDue t p probes ∧
          s.told t (tokOf (pgNL p) kPARTNER_NEW 0 part))) ∧
    (∀ d, ctrlOf f 0x02 = some d → s.nlState p ∈ [nlNEGOTIATE, nlTRAIN] ∨ (s.nlState p = nlIDENTIFY ∧ (s.port p).identSent = false) →
      ∃ t, exec (.nlIdentReceive p f) s = .next t ∧ kept t { s.port p with keptIdent := some d }) ∧
    (16 ≤ (s.port p).probes.length → s.isParentPort p = false → (s.port p).keptCredit = none →
      ∃ t, exec (.nlProbesDone p) s = .next t ∧
      s.onPort t p [NL.NL_DELAY_ONE_WAY.bit p 0, NL.NL_DELAY_VALID.bit p 0] ∧
      t.rd NL.NL_DELAY_ONE_WAY p = (delayMean (s.port p).probes).toNat % 2 ^ 16 ∧ t.rd NL.NL_DELAY_VALID p = 1 ∧
      (t.port p).probes = [] ∧ s.ctrlDue t p (if s.nlState p = nlIDENTIFY then [(tCTRL, recCREDIT)] else [])) ∧
    (∀ d, ctrlOf f 0x03 = some d → s.nlState p = nlIDENTIFY → (s.port p).outcome ≠ 0 → s.on NL.NL_DELAY_VALID p = true →
      s.fabric.stuck = [] → ∃ t, exec (.nlCreditInit p f) s = .next t ∧ up d t []) ∧
    (∀ d, (s.port p).keptCredit = some d → 16 ≤ (s.port p).probes.length → s.isParentPort p = false → s.nlState p = nlIDENTIFY →
      (s.port p).outcome ≠ 0 → s.fabric.stuck = [] → ∃ t, exec (.nlProbesDone p) s = .next t ∧
        up d t [NL.NL_DELAY_ONE_WAY.bit p 0, NL.NL_DELAY_VALID.bit p 0] ∧
        t.rd NL.NL_DELAY_ONE_WAY p = (delayMean (s.port p).probes).toNat % 2 ^ 16 ∧ t.rd NL.NL_DELAY_VALID p = 1) ∧
    (∀ d, ctrlOf f 0x03 = some d → s.nlState p ∈ [nlTRAIN, nlIDENTIFY] →
      ¬ (s.nlState p = nlIDENTIFY ∧ (s.port p).outcome ≠ 0 ∧ s.on NL.NL_DELAY_VALID p = true) →
      ∃ t, exec (.nlCreditInit p f) s = .next t ∧ kept t { s.port p with keptCredit := some d })

/-- R299 and R309–R311: an UP port takes a DATA flit that is good, in sequence and for this part, releasing what its ACK covers,
asks with a NAK where its CRC is wrong, and does neither with a later one; it sends control flits first, then flits to be replayed,
then URGENT, then ORDERED and BULK in turn, an idle flit where there is none, each in a frame with its sequence number; and NAK,
ACK_US and a full replay buffer replay every unacknowledged flit, and REPLAY_MAX of them without progress put it into HOLD. -/
def Obligations.FlitsInAndOut : Prop :=
  ∀ (s : State) (p : Nat) (f : Flit), p < 16 → s.boot.fltUp = true →
    let d : DataFlit := { cls := flitClass f.bytes, data := flitPayload f.bytes }
    let left := (s.port p).replay.filter (fun e => !before16 e.1 (flitAck f.bytes))
    let owed := (s.port p).owed
    let c := ((List.range 3).find? (fun e => 0 < countAt owed e)).getD 0
    let k := if s.nlUp p = true then min 4095 (countAt owed c) else 0
    let sent := fun (t : State) (n : NlPort) (seq type cls : Nat) (payload : List Byte) =>
      t = { s with nl := t.nl, out := s.out ++
        [.flit p (flitOf (linkWord seq (s.port p).rxNext type cls c k) payload)] } ∧
      (∀ q, q ≠ p → t.port q = s.port q) ∧ t.port p = { n with owed := SMap.put owed c (countAt owed c - k) }
    (s.nlUp p = true → flitOk f.bytes = false → ∃ t, exec (.dataFlitReceive p f) s = .next t ∧ s.onPort t p [] ∧
      t.port p = { s.port p with ctrl := (s.port p).ctrl ++ [(tNAK, [])] }) ∧
    (s.nlUp p = true → flitOk f.bytes = true → flitType f.bytes = tDATA → s.ladder.chip = none →
      flitSeq f.bytes = (s.port p).rxNext → s.classFits d = true → d.dst = s.ownPart →
      ∃ t, exec (.dataFlitReceive p f) s = .next t ∧ t = { s with nl := t.nl, fabric := t.fabric } ∧
        (∀ q, q ≠ p → t.port q = s.port q) ∧ (t.port p).rxNext = ((s.port p).rxNext + 1) % 2 ^ 16 ∧ (t.port p).replay = left ∧
        (d.cls = clORDERED ∧ d.op ≠ 0x28 → t.fabric = { s.fabric with inOrdered := s.fabric.inOrdered ++ [(p, d)] }) ∧
        (¬ (d.cls = clORDERED ∧ d.op ≠ 0x28) → t.fabric = { s.fabric with inbox := s.fabric.inbox ++ [(p, d)] })) ∧
    (s.nlUp p = true → flitOk f.bytes = true → flitType f.bytes = tIDLE →
      ∃ t, exec (.dataFlitReceive p f) s = .next t ∧ t = { s with nl := t.nl } ∧ (∀ q, q ≠ p → t.port q = s.port q) ∧
        (t.port p).replay = left ∧
        (t.port p).credit = addAt (s.port p).credit (flitCrClass f.bytes) (flitCrCount f.bytes)) ∧
    (∀ ty pl rest, (s.port p).ctrl = (ty, pl) :: rest → s.nlState p ≠ nlOFF → s.nlState p ≠ nlFAILED →
      ∃ t, exec (.flitTransmit p) s = .next t ∧ sent t { s.port p with ctrl := rest } (s.port p).seqTx ty 0 pl) ∧
    ((s.port p).ctrl = [] → s.nlState p = nlUP → s.routable = false →
      ∃ t, exec (.flitTransmit p) s = .next t ∧ sent t (s.port p) (s.port p).seqTx tIDLE 0 []) ∧
    ((s.port p).ctrl = [] → s.nlState p = nlUP → s.routable = true →
      let n := s.port p
      let may := fun c => 0 < countAt n.credit c ∧ n.replay.length < 4096
      let new := fun (n' : NlPort) (g : DataFlit) => ∃ t, exec (.flitTransmit p) s = .next t ∧
        sent t { n' with seqTx := (n.seqTx + 1) % 2 ^ 16, replay := n.replay ++ [(n.seqTx, g)],
                         ackAt := if n.replay = [] then s.ftime else n.ackAt,
                         credit := SMap.put n.credit g.cls (countAt n.credit g.cls - 1) } n.seqTx tDATA g.cls g.data
      (∀ q g rest, n.again = (q, g) :: rest → ∃ t, exec (.flitTransmit p) s = .next t ∧
        sent t { n with again := rest } q tDATA g.cls g.data) ∧
      (n.again = [] → ∀ q g rest, n.replay = (q, g) :: rest → 4096 ≤ n.replay.length → n.retries < max 1 n.cfg.replayMax →
        ∃ t, exec (.flitTransmit p) s = .next t ∧ s.onPort t p [NL.NL_CNT_REPLAY.bit p 0, HDR.BLK_ERR.bit (pgNL p) 0] ∧
          (t.port p).again = rest ∧ (t.port p).replay = n.replay ∧ (t.port p).retries = n.retries + 1 ∧
          t.out = s.out ++ [.flit p (flitOf (linkWord q n.rxNext tDATA g.cls c k) g.data)] ∧ s.told t (tokOf (pgNL p) kREPLAY 0 1)) ∧
      (n.again = [] → n.replay.length < 4096 →
        (∀ g rest, n.urgent = g :: rest → may clURGENT → new { n with urgent := rest } g) ∧
        (n.urgent = [] → ∀ g rest, n.ordered = g :: rest → may clORDERED → (n.bulk = [] ∨ ¬ may clBULK ∨ n.bulkTurn = false) →
          new { n with ordered := rest, bulkTurn := true } g) ∧
        (n.urgent = [] → ∀ g rest, n.bulk = g :: rest → may clBULK → (n.ordered = [] ∨ ¬ may clORDERED ∨ n.bulkTurn = true) →
          new { n with bulk := rest, bulkTurn := false } g) ∧
        (n.urgent = [] → n.ordered = [] → n.bulk = [] → ∃ t, exec (.flitTransmit p) s = .next t ∧ sent t n n.seqTx tIDLE 0 []))) ∧
    (s.nlUp p = true →
      let again := fun (t : State) (l : List (Nat × DataFlit)) (keys : List Nat) =>
        s.onPort t p ([NL.NL_CNT_REPLAY.bit p 0, HDR.BLK_ERR.bit (pgNL p) 0] ++ keys) ∧ (t.port p).replay = l ∧ (t.port p).again = l ∧
        s.told t (tokOf (pgNL p) kREPLAY 0 1)
      (flitOk f.bytes = true → flitType f.bytes = tNAK → left ≠ [] → (s.port p).retries < max 1 (s.port p).cfg.replayMax →
        ∃ t, exec (.nakReceive p f) s = .next t ∧ again t left [NL.NL_CNT_NAK.bit p 0] ∧
          t.rd NL.NL_CNT_NAK p = min (2 ^ 16 - 1) (s.rd NL.NL_CNT_NAK p + 1)) ∧
      ((s.port p).replay ≠ [] → (s.port p).ackAt + max 1 (s.port p).cfg.ackUs * 100 ≤ s.ftime →
        (s.port p).retries < max 1 (s.port p).cfg.replayMax →
        ∃ t, exec (.ackTimeout p) s = .next t ∧ again t (s.port p).replay [] ∧ (t.port p).retries = (s.port p).retries + 1) ∧
      ((s.port p).replay ≠ [] → (s.port p).ackAt + max 1 (s.port p).cfg.ackUs * 100 ≤ s.ftime →
        max 1 (s.port p).cfg.replayMax ≤ (s.port p).retries →
        ∃ t, exec (.ackTimeout p) s = .next t ∧ s.linkHeld t p []))

/-- R306, R308, R312–R315, R317 and R340: a lane fenced while others are usable sends WIDTH, and a WIDTH record narrows the link to
the mode of R302 over the lanes both ends can use, in RETRAIN, which leads back to UP with a delay measurement; the loss of every
lane in use, of FEC alignment, and RENEG put the port into HOLD, and the retry timer's end makes it a new link; HOST unfences
lanes; and probes, their replies and ROUTE_STATE have their effects. -/
def Obligations.LanesHoldAndProbes : Prop :=
  ∀ (s : State) (p : Nat) (f : Flit), p < 16 → s.boot.fltUp = true →
    (∀ l n, l < 4 → s.nlUp p = true → bit (s.rd NL.NL_LANE_FENCED p) l = false → s.rd NL.NL_LANE_FENCED p < 16 →
      bit (s.rd NL.NL_STAT_LANES_USED p) l = true →
      (∃ m, m < 4 ∧ m ≠ l ∧ bit (s.usableLanes p) m = true) →
      ∃ t, exec (.laneFence p l n) s = .next t ∧
        s.onPort t p [NL.NL_LANE_FENCED.bit p 0, NL.NL_FEC_CE_COUNT.bit p l, HDR.BLK_ERR.bit (pgNL p) 0] ∧
        (∀ m, m < 4 → bit (t.rd NL.NL_LANE_FENCED p) m = (decide (m = l) || bit (s.rd NL.NL_LANE_FENCED p) m)) ∧
        (t.port p).widthOwed = (s.port p).widthOwed + 1 ∧ s.ctrlDue t p [(tCTRL, recWIDTH (t.usableLanes p))] ∧ s.told t (tokOf (pgNL p) kLANE_FENCED 0 l)) ∧
    (∀ d, ctrlOf f 0x04 = some d → s.nlUp p = true →
      let common := Nat.land (s.usableLanes p) (leAt d 1 1 % 16)
      ∀ m, bestMode (2 ^ s.rd NL.NL_STAT_RATE p) common = some m →
      ∃ t, exec (.widthReceive p f) s = .next t ∧
        s.onPort t p [NL.NL_STAT_STATE.bit p 0, NL.NL_STAT_WIDTH.bit p 0, NL.NL_STAT_LANES_USED.bit p 0, HDR.BLK_ERR.bit (pgNL p) 0] ∧
        t.nlState p = nlRETRAIN ∧ t.rd NL.NL_STAT_WIDTH p = widthCode m.2 ∧
        t.rd NL.NL_STAT_LANES_USED p = lowestLanes common m.2 ∧ (t.port p).widthOwed = (s.port p).widthOwed - 1 ∧
        (t.routable = s.routable → s.ctrlDue t p (if (s.port p).widthOwed = 0 then [(tCTRL, recWIDTH (s.usableLanes p))] else [])) ∧
        s.told t (tokOf (pgNL p) kWIDTH_DEGRADED 0 (lowestLanes common m.2))) ∧
    (s.nlState p = nlRETRAIN → ∃ t, exec (.retrainDone p) s = .next t ∧ s.onPort t p [NL.NL_STAT_STATE.bit p 0] ∧
      t.nlState p = nlUP ∧ (t.port p).replay = (s.port p).replay ∧ (t.port p).credit = (s.port p).credit ∧
      (t.routable = s.routable → s.ctrlDue t p ((List.range 16).map (fun k => (tPROBE, toLE k 1))))) ∧
    (s.nlState p ≠ nlOFF → s.nlState p ≠ nlHOLD →
      (∃ t, exec (.pmaLockLoss p) s = .next t ∧ s.linkHeld t p [NL.NL_LANE_LOCKED.bit p 0]) ∧
      (∃ t, exec (.fecAlignLoss p) s = .next t ∧ s.linkHeld t p []) ∧
      (∀ a, s.lets a (offNl p 0x40) 4 NL.NL_CFG_RENEG → ∃ t, exec (.nlReneg a p) s = .next t ∧ s.linkHeld t p [])) ∧
    (∀ t0, (s.port p).retryFrom = some t0 → t0 + (s.port p).retryTicks ≤ s.ftime → (s.port p).outcome ≠ 1 →
      (s.port p).replay = [] → s.fabric.stuck = [] → ∃ t, exec (.retryTimerExpire p) s = .next t ∧
      s.onPort t p [FABRIC.ROUTE_GEN_GEN.bit 0 0, HDR.BLK_ERR.bit (pgNL p) 0] ∧ (t.port p).retryFrom = none ∧
      (t.port p).resumable = false ∧ t.rd FABRIC.ROUTE_GEN_GEN = (s.rd FABRIC.ROUTE_GEN_GEN + 1) % 2 ^ 32 ∧
      s.told t (tokOf (pgNL p) kLINK_LOST 0 (s.rd NL.NL_STAT_P_PART p))) ∧
    (∀ a lanes, s.lets a (offNl p 0x68) 4 NL.NL_LANE_FENCED → s.rd NL.NL_LANE_FENCED p < 16 →
      ∃ t, exec (.nlLaneUnfence a p lanes) s = .next t ∧ t = { s with regs := t.regs } ∧
        (∀ l, l < 4 → bit (t.rd NL.NL_LANE_FENCED p) l = (bit (s.rd NL.NL_LANE_FENCED p) l && !bit lanes l)) ∧
        s.regsBut t [NL.NL_LANE_FENCED.bit p 0]) ∧
    (∀ d, ctrlOf f 0x05 = some d → s.nlUp p = true → s.fabric.stuck = [] → ∃ t, exec (.routeStateReceive p f) s = .next t ∧
      s.onPort t p [NL.NL_STAT_P_ROUTABLE.bit p 0] ∧ t.rd NL.NL_STAT_P_ROUTABLE p = leAt d 1 1 % 2) ∧
    (∀ t2 t3, flitOk f.bytes = true → flitType f.bytes = tPROBE → s.nlState p ≠ nlOFF →
      ∃ t, exec (.probeReceive p f t2 t3) s = .next t ∧ t = { s with nl := t.nl, draws := s.draws + 1 } ∧
        (∀ q, q ≠ p → t.port q = s.port q) ∧ s.ctrlDue t p [(tPROBE_REPLY, toLE t2 8 ++ toLE t3 8 ++
          toLE ((s.ftime * 128 + Config.free s.draws % 128 + s.rd BARRIER.FT_OFFSET_OFFSET) % 2 ^ 64) 8)]) ∧
    (∀ t1 t4 : Nat, flitOk f.bytes = true → flitType f.bytes = tPROBE_REPLY → (s.port p).probes.length < 16 →
      let d := flitPayload f.bytes
      let trip : Int := ((t4 : Int) - t1) - ((leAt d 8 8 : Int) - leAt d 0 8)
      let own := s.ftime * 128 + Config.free s.draws % 128
      ∃ t, exec (.probeReplyReceive p f t1 t4) s = .next t ∧
        t = { s with nl := t.nl, regs := t.regs, draws := s.draws + 1 } ∧ (∀ q, q ≠ p → t.port q = s.port q) ∧
        (t.port p).probes = (s.port p).probes ++ [(trip, own, (leAt d 0x10 8 : Int))] ∧
        s.regsBut t [BARRIER.FT_OFFSET_OFFSET.bit 0 0] ∧
        (s.isParentPort p = true → t.rd BARRIER.FT_OFFSET_OFFSET = ofInt 64 ((leAt d 0x10 8 : Int) + trip / 2 - own)) ∧
        (s.isParentPort p = false → t.regs = s.regs)) ∧
    (s.nlState p = nlUP → ∃ t, exec (.nlProbeTimer p) s = .next t ∧ s.onPort t p [] ∧ (t.port p).probes = [] ∧
      s.ctrlDue t p ((List.range 16).map (fun k => (tPROBE, toLE k 1))))

/-- R322, R324, R348 and R565: a write to ROUTE_ENT sets the entry that ROUTE_IDX names and moves ROUTE_IDX on; one to FAB_ID sets
the part's ID while no port is identified or up, and lets the ports that waited for it send IDENT; a flit of another part that
outlived the retry timer is dropped and answered with a LOST_NOTICE; and PEER_INFO is answered with the part's identity. -/
def Obligations.RoutesAndIdentity : Prop :=
  (∀ (s : State) (a : Authority) (v : Nat), s.lets a (offFabric 0x4C) 4 FABRIC.ROUTE_ENT_PORTS → s.fabric.stuck = [] →
    let i := s.rd FABRIC.ROUTE_IDX_IDX
    ∃ t, exec (.routeEntWrite a v) s = .next t ∧ t = { s with fabric := { s.fabric with routes := t.fabric.routes }, regs := t.regs } ∧
      (∀ j, SMap.get t.fabric.routes j 0 = if j = i then v % 2 ^ 20 else SMap.get s.fabric.routes j 0) ∧
      t.rd FABRIC.ROUTE_IDX_IDX = (i + 1) % 2 ^ 12 ∧ s.regsBut t [FABRIC.ROUTE_IDX_IDX.bit 0 0]) ∧
  (∀ (s : State) (a : Authority) (v : Nat), s.lets a (offFabric 0x40) 4 FABRIC.FAB_ID_PART → v < 2 ^ 32 →
    (∀ p, p < 16 → s.nlUp p = false ∧ s.nlHeld p = false ∧ (s.port p).keptIdent = none ∧ (s.nlState p = nlIDENTIFY → (s.port p).identSent = false)) →
    ∃ t, exec (.fabIdWrite a v) s = .next t ∧
      t = { s with nl := t.nl, regs := t.regs, fltIn := t.fltIn, pci := t.pci, out := t.out } ∧
      t.rd FABRIC.FAB_ID_VALID = bits v 31 31 ∧ t.rd FABRIC.FAB_ID_PART = bits v 11 0 ∧
      (∀ p, p < 16 → s.nlState p = nlIDENTIFY → (s.port p).identDue = true → bit v 31 = true →
        (t.port p).identSent = true ∧ s.ctrlDue t p [(tCTRL, t.recIDENT p)]) ∧
      (∀ p, p < 16 → (s.nlState p ≠ nlIDENTIFY ∨ (s.port p).identDue = false) → t.port p = s.port p) ∧
      s.regsBut t (levelKeys ++ [FABRIC.FAB_ID_VALID.bit 0 0, FABRIC.FAB_ID_PART.bit 0 0] ++
        (List.range 16).map (fun p => NL.NL_STAT_STATE.bit p 0))) ∧
  (∀ (s : State) (n : Nat) (e : Stuck), s.fabric.stuck[n]? = some e → e.flit.src ≠ s.ownPart →
    (e.flit.cls = clORDERED → s.heldPair e.flit = false) → e.since + s.routeWait e.flit ≤ s.ftime →
    let u := { s with fabric := { s.fabric with stuck := s.fabric.stuck.eraseIdx n } }.oweCredit e.port e.flit.cls
    let w := u.count FABRIC.FAB_CNT_DROP
    ∃ t, exec (.routeWaitExpire n) s = .next t ∧ w = { u with regs := w.regs } ∧
      w.rd FABRIC.FAB_CNT_DROP = min (2 ^ 16 - 1) (s.rd FABRIC.FAB_CNT_DROP + 1) ∧ s.regsBut w [FABRIC.FAB_CNT_DROP.bit 0 0] ∧
      t = w.send [w.mkFlit { cls := clORDERED, op := 0x06, dst := e.flit.src, ctx := e.flit.ctx, tag := e.flit.tag,
                             be := e.flit.be, status := e.flit.op }]) ∧
  (∀ s : State, ∀ p f u, s.takeFlit clURGENT (fun e => e.op = 0x40) = some (p, f, u) → leAt f.body 0 1 = 1 →
    ∃ t, exec .peerInfoReceive s = .next t ∧
      t = u.send [u.mkFlit { cls := clURGENT, op := 0x40, dst := f.src, tag := f.tag, len := 14,
                             body := toLE u.sec.serial 8 ++ toLE u.ownPart 2 ++ toLE (u.rd CHIP.SVC_LEVEL_LEVEL) 1 ++
                               toLE u.lc 1 ++ toLE (u.rd CHIP.CORE_MAP_LIVE) 2 }])

/-- R325–R327: the destination applies the ORDERED flit of a session that comes next and acknowledges it, keeps an early one,
acknowledges a duplicate again, and starts a session with the flit that opens it; an ORD_ACK releases the flits it covers, and one
that refuses the session makes the source open another; what stays unacknowledged for ORD_US goes out again in its order. -/
def Obligations.OrderedSessions : Prop :=
  (∀ s : State, ∀ p f rest, s.fabric.inOrdered = (p, f) :: rest →
    s.rd DRONE.PWR_STAT_STATE ≠ 2 → ∀ r, SMap.find s.fabric.rx f.src = some r → r.snonce = f.snonce → r.session = f.session →
    let u := fun (r : RxSession) => { s with fabric := { s.fabric with inOrdered := rest, rx := SMap.put s.fabric.rx f.src r } }
    let next := (r.expect + 1) % 2 ^ 16
    (f.oseq = r.expect → (∀ h ∈ r.held, h.1 ≠ next) →
      ∃ t, exec .orderedFlitReceive s = .next t ∧
        t = { u { r with expect := next } with fabric := { (u { r with expect := next }).fabric with
          inbox := s.fabric.inbox ++ [(p, f)] } }.ordAck f.src r.session next 0) ∧
    (before16 r.expect f.oseq = true → r.held.length < 64 → (∀ h ∈ r.held, h.1 ≠ f.oseq) →
      exec .orderedFlitReceive s = .next (u { r with held := r.held ++ [(f.oseq, p, f)] })) ∧
    (f.oseq ≠ r.expect → before16 r.expect f.oseq = false →
      ∃ t, exec .orderedFlitReceive s = .next t ∧
        t = ((u r).oweCredit p clORDERED).ordAck f.src r.session r.expect 0)) ∧
  (∀ s : State, ∀ p f rest, s.fabric.inOrdered = (p, f) :: rest →
    s.rd DRONE.PWR_STAT_STATE ≠ 2 → SMap.find s.fabric.rx f.src = none → f.opens = true → f.oseq = 0 →
    ∃ t, exec .orderedFlitReceive s = .next t ∧
      t = { s with fabric := { s.fabric with
              inOrdered := rest, inbox := s.fabric.inbox ++ [(p, f)],
              rx := SMap.put s.fabric.rx f.src { snonce := f.snonce, session := f.session, expect := 1 } } }.ordAck
            f.src f.session 1 0) ∧
  (∀ s : State, ∀ p f u, s.takeFlit 3 (fun e => e.op = 0x28) = some (p, f, u) → ∀ x, SMap.find u.fabric.tx f.src = some x →
    (f.status ≠ stPEER_LOST → exec .ordAckReceive s = .next { u with fabric := { u.fabric with
      tx := SMap.put u.fabric.tx f.src { x with
        unacked := x.unacked.filter (fun e => ¬ (e.2.2.session = f.session ∧ before16 e.1 f.oseq = true)) } } }) ∧
    (f.status = stPEER_LOST → x.session = f.session → (∀ e ∈ x.unacked, e.2.2.session ≠ f.session) →
      exec .ordAckReceive s = .next { u with fabric := { u.fabric with
        tx := SMap.put u.fabric.tx f.src { x with reopen := true } } })) ∧
  (∀ (s : State) (d q : Nat) (x : TxSession), SMap.find s.fabric.tx d = some x →
    let due := fun (e : Nat × Nat × DataFlit) => decide (e.2.1 + max 1 (s.rd FABRIC.FAB_TMO_ORD_US) * 100 ≤ s.ftime);
    (∀ e ∈ x.unacked, due e = true → e.2.2.cls = clORDERED ∧ s.hop e.2.2 = .port q) →
    ∃ t, exec (.ordRetransmit d) s = .next t ∧
      t = { s with nl := t.nl, fabric := { s.fabric with tx := SMap.put s.fabric.tx d { x with
        unacked := x.unacked.map (fun e => if due e = true then (e.1, s.ftime, e.2.2) else e) } } } ∧
      (∀ r, r ≠ q → t.port r = s.port r) ∧
      t.port q = { s.port q with ordered := (s.port q).ordered ++ (x.unacked.filter due).map (·.2.2) })

/-- R329 and R330 at the target: a get of bytes this part admits is answered with the sector; a PUT or PUT_O of them writes the
bytes its mask enables and no other, and is answered; one for a context that recovers is held, and so is a PUT_O behind a held one
of its source; and any other is refused with REMOTE_DENIED and ADDR_FAULT. u is the state once the request is taken. R330–R332 at
the source: a good GET_REPLY of the present generation puts its data into the registers of the lanes that asked, and a PUT_ACK ends
its request; one of a past generation has no effect but that; and a LOST_NOTICE or RMT_MS ends the request with PEER_LOST, and its
dispatch with it where the generation is still the context's; a lost PUT_O opens a new session. -/
def Obligations.RemoteMemory : Prop :=
  (let reply := fun (f : DataFlit) (w : State) (op cls status len : Nat) (body : List Byte) => w.send [w.mkFlit
      { cls := cls, op := op, dst := f.src, ctx := f.ctx, gen := f.gen, tag := f.tag, be := f.be, addr := f.addr,
        status := status, len := len, body := body }];
    let sector := fun (f : DataFlit) => f.addr % 2 ^ 52 / 64 * 64;
    let charged := fun (u : State) (f : DataFlit) => u.chargeStack f.ctx (sector f) 64;
    let served := fun (u : State) (f : DataFlit) => u.admits f.ctx (sector f) 64 = true ∧ (u.ctx f.ctx).state ≠ .recovering ∧
      u.putWaits f = false ∧ u.memoryClear ∧ 64 ≤ f.body.length;
    let waits := fun (u : State) (f : DataFlit) => (u.peerCtx f.ctx = true ∧ (u.ctx f.ctx).state = .recovering) ∨ u.putWaits f = true;
    let refused := fun (u : State) (f : DataFlit) => ¬ waits u f ∧ u.admits f.ctx (sector f) 64 = false ∧ u.boot.fltUp = true;
    let moved := fun (u w : State) (f : DataFlit) => w = { u with mem := w.mem, regs := w.regs, hbms := w.hbms } ∧
      u.regsBut w servedKeys ∧ u.bytesBut w (sector f) 64;
    let gets := fun (u t : State) (f : DataFlit) => ∃ w, w = ((charged u f).readMem (sector f) 64).1 ∧ moved u w f ∧ w.mem = u.mem ∧
      t = reply f w 0x02 clBULK stOK 64 (u.bytes (sector f) 64);
    let puts := fun (u t : State) (f : DataFlit) => ∃ w, w = ((charged u f).writeSector (sector f) f.be f.body).1 ∧ moved u w f ∧
      (∀ j, j < 64 → w.byte (sector f + j) = if bit f.be j = true then f.body.getD j 0#8 else u.byte (sector f + j)) ∧
      t = reply f w 0x05 f.cls stOK 0 [];
    let denied := fun (u t : State) (f : DataFlit) (op : Nat) => ∃ w, w = u.remoteDenied (f.addr % 2 ^ 52) f.src ∧
      w = { u with regs := w.regs, fltIn := w.fltIn, pci := w.pci, out := w.out } ∧ u.regsBut w [HDR.BLK_ERR.bit pgFABRIC 0] ∧
      u.raised w [tokOf pgFABRIC kREMOTE_DENIED (f.addr % 2 ^ 52) f.src] ∧ t = reply f w op f.cls stADDR_FAULT 0 [];
    (∀ s : State, ∀ p f u, s.takeFlit clBULK (fun e => e.op = 0x01) = some (p, f, u) →
      (served u f → ∃ t, exec .getReqReceive s = .next t ∧ gets u t f) ∧
      (waits u f → ∃ t, exec .getReqReceive s = .next t ∧ t = { u with fabric := { u.fabric with heldReqs := u.fabric.heldReqs ++ [(p, f)] } }) ∧
      (refused u f → ∃ t, exec .getReqReceive s = .next t ∧ denied u t f 0x02)) ∧
    (∀ s : State, ∀ p f u, s.takeFlit clBULK (fun e => e.op = 0x03) = some (p, f, u) →
      (served u f → ∃ t, exec .putReceive s = .next t ∧ puts u t f) ∧
      (waits u f → ∃ t, exec .putReceive s = .next t ∧ t = { u with fabric := { u.fabric with heldReqs := u.fabric.heldReqs ++ [(p, f)] } }) ∧
      (refused u f → ∃ t, exec .putReceive s = .next t ∧ denied u t f 0x05)) ∧
    (∀ s : State, ∀ p f u, s.takeFlit clORDERED (fun e => e.op = 0x04) = some (p, f, u) →
      (served u f → ∃ t, exec .putOReceive s = .next t ∧ puts u t f) ∧
      (waits u f → ∃ t, exec .putOReceive s = .next t ∧ t = { u with fabric := { u.fabric with heldReqs := u.fabric.heldReqs ++ [(p, f)] } }) ∧
      (refused u f → ∃ t, exec .putOReceive s = .next t ∧ denied u t f 0x05))) ∧
  (let gone := fun (u : State) (r : Remote) => u.fabric.remotes.filter (fun e => e.tag ≠ r.tag)
    let current := fun (u : State) (f : DataFlit) (r : Remote) => (u.ctx r.ctx).gen = f.gen ∧ r.gen = f.gen
    let lost := fun (u t : State) (r : Remote) =>
      t.rd FABRIC.FAB_CNT_LOST = min (2 ^ 16 - 1) (u.rd FABRIC.FAB_CNT_LOST + 1) ∧
      t = { u with fabric := { u.fabric with remotes := gone u r, tx := if r.op = 0x04 then (u.reopen r.dst).fabric.tx else u.fabric.tx },
                   regs := t.regs, fltIn := t.fltIn, pci := t.pci, out := t.out, cores := t.cores, firn := t.firn } ∧
      u.regsBut t [FABRIC.FAB_CNT_LOST.bit 0 0, HDR.BLK_ERR.bit pgFABRIC 0] ∧
      u.raised t [{ tokOf pgFABRIC kPEER_LOST r.sector 0 with ctx := r.ctx, gen := r.gen, detail := r.dst }] ∧
      ((u.ctx r.ctx).gen ≠ r.gen → t.cores = u.cores ∧ t.firn = u.firn) ∧
      ((u.ctx r.ctx).gen = r.gen →
        (t.core r.core).disps = (u.core r.core).disps.map (fun e =>
          if e.id = r.disp ∧ e.fault = none then { e with fault := some (stPEER_LOST, 0) } else e));
    (∀ s : State, ∀ p f u, s.takeFlit clBULK (fun e => e.op = 0x02) = some (p, f, u) →
      ∀ r, u.fabric.remotes.find? (fun e => e.tag = f.tag && e.dst = f.src) = some r →
      (current u f r → f.status = stOK →
        ∃ t, exec .getReplyReceive s = .next t ∧
          t = { u with fabric := { u.fabric with remotes := gone u r }, cores := t.cores, firn := t.firn } ∧
          (∀ c, c ≠ r.core → t.core c = u.core c) ∧
          (t.core r.core).groups = (u.core r.core).groups.map (fun e =>
            (e.1, if e.2.disp = r.disp ∧ e.2.index = r.group then
              r.lanes.foldl (fun g l => g.setData l.1 r.xd r.size (leAt f.body l.2 r.size)) e.2 else e.2))) ∧
      (¬ current u f r → exec .getReplyReceive s = .next { u with fabric := { u.fabric with remotes := gone u r } })) ∧
    (∀ s : State, ∀ p f u, s.takeFlit clORDERED (fun e => e.op = 0x05) = some (p, f, u) →
      ∀ r, u.fabric.remotes.find? (fun e => e.tag = f.tag && e.dst = f.src) = some r → f.status = stOK →
      exec .putAckReceive s = .next { u with fabric := { u.fabric with remotes := gone u r } }) ∧
    (∀ s : State, ∀ p f u, s.takeFlit clBULK (fun e => e.op = 0x05) = some (p, f, u) →
      s.takeFlit clORDERED (fun e => e.op = 0x05) = none →
      ∀ r, u.fabric.remotes.find? (fun e => e.tag = f.tag && e.dst = f.src) = some r → f.status = stOK →
      exec .putAckReceive s = .next { u with fabric := { u.fabric with remotes := gone u r } }) ∧
    (∀ s : State, ∀ p f u, s.takeFlit clORDERED (fun e => e.op = 0x06) = some (p, f, u) → u.boot.fltUp = true →
      ∀ r, u.fabric.remotes.find? (fun e => e.tag = f.tag && (f.status = e.op || f.status = 0)) = some r →
      ∃ t, exec .lostNoticeReceive s = .next t ∧ lost u t r) ∧
    (∀ (s : State) (tag : Nat) (r : Remote), s.fabric.remotes.find? (fun e => e.tag = tag) = some r → s.boot.fltUp = true →
      r.since + max 1 (s.rd FABRIC.FAB_TMO_RMT_MS) * 100000 ≤ s.ftime → ∃ t, exec (.remoteTimeout tag) s = .next t ∧ lost s t r))

/-! ### Arithmetic units -/

/-- R125, R127, R128, R150, R151, R167, R171, R194 and R197: a pending pass starts when its unit may, marking its context with V =
1; at its end its accumulators hold what the operands of its store give and its readout begins; and the readout writes every row of
the tile, touches no other byte, frees the unit, and leaves the group and the dispatch with one pass fewer. R373 and R374: a
verdict, of the disagreement found first, raises for the columns, rows and corner that disagree, a token each with the layer, the
first line and how many lines; CHK says that every line was the checksum lane's own. -/
def Obligations.PassesAndVerdicts : Prop :=
  (∀ (s : State) (c : Nat) (exact : Bool), c < 16 →
      (∀ p, ((s.core c).unit exact).pending = some p → p.exact = exact → s.passStarts c p = true → s.ctxIssues p.ctx p.gen = true →
        ∃ t, exec (.passStart c exact) s = .next t ∧ t = { s with cores := t.cores, ctxs := t.ctxs } ∧
          (∀ e, e ≠ c → t.core e = s.core e) ∧
          t.core c = (s.core c).setUnit exact { (s.core c).unit exact with pending := none, running := some p } ∧
          (∀ x, t.ctx x = if x = p.ctx ∧ ldV p.desc = true then { s.ctx x with vmark := true } else s.ctx x)) ∧
      (∀ p, ((s.core c).unit exact).running = some p → ∀ faults, ((s.core c).unit exact).readout = none → s.memoryClear → ∀ d, (s.readOperands p).2 = some d →
        (ldShadowOk p.desc && s.on SERAC.SRC_CTL_SHADOW_EN && !s.compFenced) = false →
        ∃ t, exec (.passEnd c exact faults) s = .next t ∧ t = { s with cores := t.cores, regs := t.regs } ∧
          (∀ e, e ≠ c → t.core e = s.core e) ∧
          t.core c = (s.core c).setUnit exact { (s.core c).unit exact with
            running := none, readout := some p, accs := accumulateOf d.ops (s.core c).table p.desc faults,
            retained := if exact = true then none else some d } ∧
          (exact = false → t.rd DSA.DSA_PASSES_COUNT c = (s.rd DSA.DSA_PASSES_COUNT c + 1) % 2 ^ 32 ∧
            t.rd DSA.DSA_STAT_LAST_CYC c = ldLength p.desc % 2 ^ 16 ∧ t.rd DSA.DSA_STAT_LAST_MODE c = ldMode p.desc % 16) ∧
          s.regsBut t (servedKeys ++ [HDR.BLK_PROG.bit (unitPage c exact) 0] ++ if exact = true then [] else
            [DSA.DSA_PASSES_COUNT.bit c 0, DSA.DSA_STAT_LAST_CYC.bit c 0, DSA.DSA_STAT_LAST_MODE.bit c 0])) ∧
      (∀ p, ((s.core c).unit exact).readout = some p → s.memoryClear →
        let rows := s.tile (s.core c).table p ((s.core c).unit exact).accs
        let width := if ldWbOp p.desc = 1 then ldN p.desc * (outBits p.desc / 8) else rowBytes p.desc
        ∃ t, exec (.readoutEnd c exact) s = .next t ∧
          t = { s with cores := t.cores, regs := t.regs, hbms := t.hbms, mem := t.mem, fltIn := t.fltIn, pci := t.pci, out := t.out } ∧
          (∀ e, e ≠ c → t.core e = s.core e) ∧ ((t.core c).unit exact).readout = none ∧
          s.regsBut t (servedKeys ++ [EXU.EXU_EXC_INVALID.bit c 0, EXU.EXU_EXC_OVERFLOW.bit c 0, DSA.DSA_STAT_CHK_FAIL.bit c 0,
            HDR.BLK_ERR.bit (pgDSA c) 0, HDR.BLK_ERR.bit (pgEXU c) 0]) ∧
          ((t.core c).unit exact).running = ((s.core c).unit exact).running ∧
          (∀ g, (s.core c).group p.place = some g → g.disp = p.disp → g.index = p.group →
            (t.core c).group p.place = some { g with passes := g.passes - 1, waitp := g.waitp && decide (1 < g.passes) }) ∧
          (∀ d, (s.core c).disp p.disp = some d → (t.core c).disp p.disp = some { d with passes := d.passes - 1 }) ∧
          (∀ j, (∀ r, r < ldM p.desc → j < p.out + r * p.pitch ∨ p.out + r * p.pitch + width ≤ j) → t.byte j = s.byte j) ∧
          (ldWbOp p.desc ≠ 1 → rowBytes p.desc ≤ p.pitch → ∀ r, r < ldM p.desc →
            t.bytes (p.out + r * p.pitch) (rowBytes p.desc) = rowOf p.desc (rows.getD r [])))) ∧
  (∀ (s : State) (c : Nat) (d : Disagree) (rest : List Disagree), (s.core c).dsa.verdict = d :: rest → c < 16 → s.boot.fltUp = true →
      (d.cols ≠ [] ∨ d.rows ≠ [] ∨ d.corner.isSome = true) →
      ∃ t, exec (.checksumVerdict c) s = .next t ∧
        t = { s with cores := t.cores, regs := t.regs, fltIn := t.fltIn, pci := t.pci, out := t.out } ∧
        t.core c = (s.core c).setUnit false { (s.core c).dsa with verdict := rest } ∧ (∀ e, e ≠ c → t.core e = s.core e) ∧
        s.regsBut t [HDR.BLK_ERR.bit (pgDSA c) 0] ∧ ∃ l, t.fltIn = s.fltIn ++ l ∧
        (∀ k ∈ l, k.src = pgDSA c ∧ k.ctx = d.ctx ∧ k.gen = d.gen ∧ k.cls = cDEFERRED) ∧
        l.map (fun k => (k.kind, k.addr, k.detail, k.chk)) =
          (match d.cols with
            | e :: _ => [(kCHECKSUM_COLSUM, d.layer * 2 ^ 16 + e.1, d.cols.length, d.cols.all (fun v => !v.2.2))] | [] => []) ++
          (match d.rows with
            | e :: _ => [(kCHECKSUM_ROWSUM, d.layer * 2 ^ 16 + e.1, d.rows.length, d.rows.all (fun v => !v.2.2))] | [] => []) ++
          (match d.corner with | some v => [(kCHECKSUM_CORNER, d.layer * 2 ^ 16, 1, !v.2)] | none => []))

/-- R142–R146 and R171: COMMIT with both pages quiesced and a staged table that is monotonic and in range starts its copy, and says
which of the three it fails otherwise; DEFAULT starts the copy of the ROM table; the end of a copy makes it the active table; and
CKSUM_EN and HOLD take what is written, CKSUM_DISABLED being raised when the comparisons are turned off. -/
def Obligations.CorrectionTable : Prop :=
  ∀ (s : State) (a : Authority) (c : Nat), c < 16 →
    (s.lets a (offLogCtl c) 4 LOG.LOG_CTL_COMMIT → (s.core c).logBusy = none →
      let r := if s.logFree c = false then rNOT_QUIESCED else (s.core c).stageCheck
      (∃ t, exec (.logCommit a c) s = .next t ∧ t = { s with cores := t.cores, regs := t.regs } ∧
        (∀ e, e ≠ c → t.core e = s.core e) ∧
        t.core c = (if r = 0 then { s.core c with
          logBusy := some false, logCopyP := (s.core c).logStageP, logCopyM := (s.core c).logStageM } else s.core c) ∧
        t.rd LOG.LOG_STAT_RESULT c = (if r = 0 then rBUSY else r) ∧ s.regsBut t [LOG.LOG_STAT_RESULT.bit c 0]) ∧
      (s.logFree c = true → ∃ t, exec (.logDefault a c) s = .next t ∧ t = { s with cores := t.cores, regs := t.regs } ∧
        (∀ e, e ≠ c → t.core e = s.core e) ∧ t.core c = { s.core c with logBusy := some true } ∧
        t.rd LOG.LOG_STAT_RESULT c = rBUSY ∧ s.regsBut t [LOG.LOG_STAT_RESULT.bit c 0])) ∧
    (∀ rom, (s.core c).logBusy = some rom → ∃ t, exec (.logCopyDone c) s = .next t ∧
      t = { s with cores := t.cores, regs := t.regs } ∧ (∀ e, e ≠ c → t.core e = s.core e) ∧
      t.core c = (if rom = true then { s.core c with logBusy := none, logStageP := [], logStageM := [], logActP := [], logActM := [] }
        else { s.core c with logBusy := none, logActP := (s.core c).logCopyP, logActM := (s.core c).logCopyM, logCopyP := [], logCopyM := [] }) ∧
      t.rd LOG.LOG_STAT_RESULT c = 0 ∧ t.rd LOG.LOG_STAT_IS_DEFAULT c = (if rom = true then 1 else 0) ∧
      (rom = false → t.rd LOG.LOG_STAT_CT_GEN c = (s.rd LOG.LOG_STAT_CT_GEN c + 1) % 256) ∧
      s.regsBut t [LOG.LOG_STAT_RESULT.bit c 0, LOG.LOG_STAT_IS_DEFAULT.bit c 0, LOG.LOG_STAT_CT_GEN.bit c 0,
        CHIP.PROV_EPOCH_EPOCH.bit 0 0]) ∧
    (∀ on, s.lets a (offDsaCtl c) 4 DSA.DSA_CTL_CKSUM_EN → s.boot.fltUp = true →
      ∃ t, exec (.dsaCksumEnWrite a c on) s = .next t ∧
        t = { s with regs := t.regs, fltIn := t.fltIn, pci := t.pci, out := t.out } ∧
        t.rd DSA.DSA_CTL_CKSUM_EN c = (if on = true then 1 else 0) ∧
        s.raised t (if (s.on DSA.DSA_CTL_CKSUM_EN c && !on) = true then [tokOf (pgDSA c) kCKSUM_DISABLED 0 0] else []) ∧
        s.regsBut t [DSA.DSA_CTL_CKSUM_EN.bit c 0, HDR.BLK_ERR.bit (pgDSA c) 0]) ∧
    (∀ on, s.lets a (offDsaCtl c) 4 DSA.DSA_CTL_HOLD →
      ∃ t, exec (.dsaHoldWrite a c on) s = .next t ∧ t = { s with regs := t.regs } ∧
        t.rd DSA.DSA_CTL_HOLD c = (if on = true then 1 else 0) ∧ s.regsBut t [DSA.DSA_CTL_HOLD.bit c 0])

/-! ### Errors, resets and screening -/

/-- R356, R360 and R361: FLT takes the oldest token in (of one moment, that of the lowest page): its page's sticky bit is set,
FLT_CNT counts it, and Moraine queues it with the class it then has and its stamps; a token of class INFO or CORRECTED does nothing
else, and one of class CONTEXT that is no secondary one and meets no cascade begins the reset of its context. R355 and R442: a
token of class CONTEXT, in the generation of its context, no secondary one and meeting no cascade, starts the reset of that
context, which is RECOVERING from then on with none of its groups left on a core. -/
def Obligations.TokensReachFlt : Prop :=
  (∀ s : State, ∀ t rest, tokOrder s.fltIn = t :: rest → s.boot.fltUp = true → s.rd HDR.TOKCFG_RATE t.src = 0 →
      t.src < 4096 → s.mor.ovf = none → s.mor.taken none < 4095 → copyRule t = .none ∨ (copyRule t = .byCtx ∧ (s.ctx t.ctx).gen ≠ t.gen) →
      s.secondary t = false →
      let cls := s.withDomain t (s.overridden t)
      let key := FLT.STICKY.bit 0 (t.src / 32)
      (cls = cINFO ∨ cls = cCORRECTED →
        ∃ u, exec .fltTokenAccept s = .next u ∧
          u = { s with fltIn := rest, regs := u.regs, mor := u.mor,
                       boot := (if t.kind = kCHANTER_PARITY then { s.boot with parity := true } else s.boot) } ∧
          u.mor = { s.mor with queue := s.mor.queue ++ [s.stamped { t with cls := cls, sec := false }] } ∧
          (∀ j, j < 32 → bit (u.rd FLT.STICKY 0 (t.src / 32)) j =
            (decide (j = t.src % 32) || bit (s.rd FLT.STICKY 0 (t.src / 32)) j)) ∧
          u.rd FLT.FLT_CNT_COUNT = min (2 ^ FLT.FLT_CNT_COUNT.width - 1) (s.rd FLT.FLT_CNT_COUNT + 1) ∧
          s.regsBut u [key, FLT.FLT_CNT_COUNT.bit 0 0])) ∧
  (∀ s : State, ∀ t rest, tokOrder s.fltIn = t :: rest → s.boot.fltUp = true → s.secondary t = false →
      s.soloStall t = false → s.withDomain t (s.overridden t) = cCONTEXT → s.cascDue (1 * 2 ^ 16 + t.ctx) = false →
      t.charges = [] → { t with cls := cCONTEXT, sec := false }.tableCharges = [] → (s.ctx t.ctx).gen = t.gen →
      (s.ctx t.ctx).state = .owned → (s.ctx t.ctx).reset = none → (s.ctx t.ctx).zeroing = false →
      ∃ u, exec .fltTokenAccept s = .next u ∧ (u.ctx t.ctx).state = .recovering ∧
        (u.ctx t.ctx).reset.map (·.level) = some 1 ∧ (u.ctx t.ctx).gen = t.gen ∧
        ∀ c q g, (q, g) ∈ (u.core c).groups → g.ctx ≠ t.ctx)

/-- R364, R367, R369 and R613: the head of Moraine's queue goes to the ring's next place while there is room, with the next RSEQ,
and is signalled when MOD_CNT entries wait, or at once from class CONTEXT up; the moderation time signals the others; enabling the
ring starts it anew; and at the end of a rate window each page that had tokens withheld gets one RATE_LIMITED. -/
def Obligations.MoraineRing : Prop :=
  (∀ s : State, ∀ e rest, s.mor.queue = e :: rest → s.boot.fltUp = true → s.morRoom = true →
    let slot := s.rd MORAINE.MOR_BASE_BASE * 4096 + s.rd MORAINE.MOR_PIDX_PIDX % 2 ^ s.rd MORAINE.MOR_CTL_LOG2 * 32
    let n := s.mor.unsignalled + 1
    let due := max 1 (s.rd MORAINE.MOR_MOD_MOD_CNT) ≤ n ∨ cCONTEXT ≤ e.tok.cls ∨ e.tok.kind = kOVF
    ∃ t, exec .moraineWrite s = .next t ∧ t = { s with host := t.host, regs := t.regs, mor := t.mor, pci := t.pci, out := t.out } ∧
      t.hostBytes slot 32 = e.bytes (s.rd MORAINE.MOR_RSEQ_NEXT) ∧
      (∀ a, (a < slot ∨ slot + 32 ≤ a) → Memory.read t.host a = Memory.read s.host a) ∧
      t.rd MORAINE.MOR_PIDX_PIDX = (s.rd MORAINE.MOR_PIDX_PIDX + 1) % 2 ^ 32 ∧
      t.rd MORAINE.MOR_RSEQ_NEXT = (s.rd MORAINE.MOR_RSEQ_NEXT + 1) % 2 ^ 32 ∧ t.mor.queue = rest ∧
      (due → t.mor.unsignalled = 0 ∧ t.mor.firstUnsignalled = none ∧ s.signalled t 0 1 [.dmaWrite 0 slot 32 s.maxPayload false false]) ∧
      (¬ due → t.mor.unsignalled = n ∧ t.mor.firstUnsignalled = some (s.mor.firstUnsignalled.getD s.ftime) ∧
        t.out = s.out ++ [.dmaWrite 0 slot 32 s.maxPayload false false] ∧ t.pci = s.pci) ∧
      s.regsBut t [MORAINE.MOR_PIDX_PIDX.bit 0 0, MORAINE.MOR_RSEQ_NEXT.bit 0 0, HDR.BLK_PROG.bit pgMORAINE 0,
        HDR.BLK_PROG.bit pgHOSTIF 0]) ∧
  (∀ (s : State) (t0 : Nat), s.mor.firstUnsignalled = some t0 → s.rd MORAINE.MOR_MOD_MOD_US ≠ 0 →
    t0 + 100 * s.rd MORAINE.MOR_MOD_MOD_US ≤ s.ftime → ∃ t, exec .moraineModTimer s = .next t ∧
      t = { s with mor := { s.mor with unsignalled := 0, firstUnsignalled := none }, pci := t.pci, out := t.out } ∧
      s.signalled t 0 1) ∧
  (∀ (s : State) (a : Authority) (v : Nat), s.lets a (offMoraine 0x48) 4 MORAINE.MOR_CTL_EN →
    (s.on MORAINE.MOR_CTL_EN = false → bit v 31 = true → 10 ≤ bits v 4 0 → bits v 4 0 ≤ 20 →
      ∃ t, exec (.morEnWrite a v) s = .next t ∧
        t = { s with regs := t.regs, mor := { s.mor with unsignalled := 0, firstUnsignalled := none } } ∧
        t.rd MORAINE.MOR_CTL_EN = 1 ∧ t.rd MORAINE.MOR_CTL_LOG2 = bits v 4 0 ∧ t.rd MORAINE.MOR_PIDX_PIDX = 0 ∧
        t.rd MORAINE.MOR_CIDX_CIDX = 0 ∧ s.regsBut t [MORAINE.MOR_CTL_EN.bit 0 0, MORAINE.MOR_CTL_LOG2.bit 0 0,
          MORAINE.MOR_PIDX_PIDX.bit 0 0, MORAINE.MOR_CIDX_CIDX.bit 0 0]) ∧
    (s.on MORAINE.MOR_CTL_EN = true → bits v 4 0 = s.rd MORAINE.MOR_CTL_LOG2 →
      ∃ t, exec (.morEnWrite a v) s = .next t ∧ t = { s with regs := t.regs } ∧ t.rd MORAINE.MOR_CTL_EN = bits v 31 31 ∧
        s.regsBut t [MORAINE.MOR_CTL_EN.bit 0 0])) ∧
  (∀ s : State, s.boot.fltUp = true →
    let held := s.ratesNow.filter (fun e => 0 < e.2.due)
    ∃ t, exec .rateWindowEnd s = .next t ∧
      t = { s with rate := t.rate, regs := t.regs, fltIn := t.fltIn, pci := t.pci, out := t.out } ∧
      (∀ e, e ∈ t.rate ↔ ∃ w ∈ s.ratesNow, 0 < w.2.passed + w.2.withheld ∧ e = (w.1, w.2.reported)) ∧
      s.raised t (held.map (fun w => tokOf pgFLT kRATE_LIMITED w.1 (min 0xFFFF w.2.due))) ∧
      (s.rd FLT.FLT_LIMIT_COUNT < 2 ^ FLT.FLT_LIMIT_COUNT.width → t.rd FLT.FLT_LIMIT_COUNT =
        min (2 ^ FLT.FLT_LIMIT_COUNT.width - 1) (s.rd FLT.FLT_LIMIT_COUNT + (held.map (fun w => w.2.due)).sum)) ∧
      s.regsBut t [FLT.FLT_LIMIT_COUNT.bit 0 0, HDR.BLK_ERR.bit pgFLT 0])

/-- R438, R439, R445–R447, R452–R455 and R464: a page that holds work and makes no progress for WIN_US raises one PROGRESS_STALL; a
reset of an engine or a partition asked for with the key, or that a step overrunning its bound climbs to, begins with its pages in
RESET, where none that encloses it runs; with the patterns of its cores passed it ends with their logic new, the links aligned
again and memory as it was. -/
def Obligations.LadderResets : Prop :=
  ∀ (s : State) (a : Authority) (c q : Nat), c < 16 → q < 4 →
    let begun := fun (t : State) (level domain : Nat) (pages : List Nat) =>
      (∃ k ∈ t.ladder.running, k.level = level ∧ k.domain = domain) ∧ ∀ p ∈ pages, t.rd HDR.STAT_STATE p = stRESET
    let quiet := (∀ k ∈ s.ladder.running, k.suspects = []) ∧ ∀ cores home, s.suspectsOn cores home = []
    (∀ p, s.inService = true → s.boot.fltUp = true → hasProg p = true → s.rd HDR.PROGWIN_WIN_US p ≠ 0 → s.on HDR.CTL_ENABLE p = true →
      s.rd HDR.STAT_STATE p ∈ [stREADY, stBUSY] →
      let now := s.rd HDR.BLK_PROG p
      (s.armed p = true → SMap.find s.ladder.timers p ≠ some ⟨now⟩ → ∃ t, exec (.progressWindowExpire p) s = .next t ∧
        t = { s with ladder := { s.ladder with timers := SMap.put s.ladder.timers p ⟨now⟩ }, regs := t.regs, fltIn := t.fltIn,
                     pci := t.pci, out := t.out } ∧
        s.raised t [tokOf p kPROGRESS_STALL now 0] ∧ s.regsBut t [HDR.BLK_ERR.bit p 0]) ∧
      (s.armed p = true → SMap.find s.ladder.timers p = some ⟨now⟩ → exec (.progressWindowExpire p) s = .next s) ∧
      (s.armed p = false → exec (.progressWindowExpire p) s =
        .next { s with ladder := { s.ladder with timers := SMap.drop s.ladder.timers p } })) ∧
    (s.lets a (offClkrst 0x100) 4 CLKRST.RST_CMD_KEY →
      (quiet → s.fused c = true → s.joins 2 c = false → ∃ t, exec (.rstCmdEngine a 0xB007 c) s = .next t ∧ begun t 2 c (corePages c)) ∧
      (quiet → s.joins 3 q = false → ∃ t, exec (.rstCmdPartition a 0xB007 q) s = .next t ∧ begun t 3 q (quadPages q)) ∧
      (∀ key, key < 2 ^ 16 → key ≠ 0xB007 → s.boot.fltUp = true →
        let denied := fun (t : State) =>
          t = { s with regs := t.regs, fltIn := t.fltIn, pci := t.pci, out := t.out } ∧ s.raised t [tokOf pgCLKRST kRST_KEY 0 key] ∧
          s.regsBut t [HDR.BLK_ERR.bit pgCLKRST 0];
        (∃ t, exec (.rstCmdEngine a key c) s = .next t ∧ denied t) ∧ (∃ t, exec (.rstCmdPartition a key q) s = .next t ∧ denied t) ∧
        (∃ t, exec (.rstCmdPowerCycle a key) s = .next t ∧ denied t)) ∧
      (s.ladder.chip = none → ∃ t, exec (.rstCmdPowerCycle a 0xB007) s = .next t ∧ t.ladder.chip.map (·.level) = some 6)) ∧
    (∀ r, s.ladder.running.find? (fun r => r.level = 2 && r.domain = c) = some r → quiet → s.joins 3 (c / 4) = false →
      ∀ core, ∃ t, exec (.resetStepOverrun 2 c core) s = .next t ∧ begun t 3 (c / 4) (quadPages (c / 4)) ∧
        ∀ k ∈ t.ladder.running, ¬ (k.level = 2 ∧ k.domain = c)) ∧
    (∀ r, s.ladder.running.find? (fun r => r.level = 2 && r.domain = c) = some r → r.suspects = [] → ∀ res : AdmitResult,
      res.core = c → res.badRows = [] → res.badCols = [] → res.firstRun = none → s.fused c = true → s.coreFenced c = false →
      ∃ t, exec (.engineResetDone res) s = .next t ∧ t.core c = (s.core c).afterReset ∧ (∀ e, e ≠ c → t.core e = s.core e) ∧
        t.mem = s.mem ∧ (∀ p ∈ corePages c, t.rd HDR.STAT_STATE p = stREADY) ∧
        t.rd CLKRST.ALIGN_ALIGN_GEN = (s.rd CLKRST.ALIGN_ALIGN_GEN + 1) % 2 ^ 16 ∧
        t.ladder.running = s.ladder.running.filter (fun k => ¬ (k.level = 2 ∧ k.domain = c))) ∧
    (∀ r, s.ladder.running.find? (fun r => r.level = 3 && r.domain = q) = some r → r.suspects = [] →
      ∀ results : List AdmitResult, s.on HBM.HBM_STAT_IN_SERVICE q = true →
      ∃ t, exec (.partitionResetDone q true results) s = .next t ∧
        (∀ e, t.core e = if e / 4 = q then (s.core e).afterReset else s.core e) ∧ t.mem = s.mem ∧
        t.on HBM.HBM_STAT_IN_SERVICE q = true ∧ t.rd CLKRST.ALIGN_ALIGN_GEN = (s.rd CLKRST.ALIGN_ALIGN_GEN + 1) % 2 ^ 16 ∧
        t.ladder.running = s.ladder.running.filter (fun k => ¬ (k.level = 3 ∧ k.domain = q)))

/-- R54, R55, R58, R448 and R464: a write of RST_REQ with another key raises RST_KEY; with the key it starts the preparation of a
chip reset while FLT is in service, and resets at once while it is not, the cause being that of its port; an expired watchdog of
Chanter is a WATCHDOG of class CHIP, or a reset of cause 0x6 without FLT; and a parity error of its SRAM raises its token, which
FLT's log turns into an image unfit to keep. R448, R449, R463 and R465: once the steps before it are done a chip reset leaves no
core with work, the stage POWER, the warm path and its cause, and keeps what the Drone domain holds; a power cycle holds with
PENDING, the source and kind of its cause, ALERT_n and an in-band interrupt; a capture record is copied to host memory on GO; and
SOLO takes an owned context and a live core its affinity holds. -/
def Obligations.ChipResets : Prop :=
  (∀ (s : State),
      let asserted := fun (t : State) (cause : Nat) => t.cores = [] ∧ t.fltIn = [] ∧ t.stage = 0 ∧
        t.rd CHIP.BOOT_PATH = 1 ∧ t.rd CHIP.BOOT_CAUSE = cause ∧ t.mem = s.mem ∧ t.ftime = s.ftime;
      let told := fun (t : State) (k : Tok) => t = { s with regs := t.regs, fltIn := t.fltIn, pci := t.pci, out := t.out } ∧
        s.raised t [k] ∧ s.regsBut t [HDR.BLK_ERR.bit k.src 0];
      (∀ (a : Authority) (v : Nat), s.lets a 0x50 4 CHIP.RST_REQ_CHIP →
        (bits v 31 16 ≠ 0xB007 → s.boot.fltUp = true →
          ∃ t, exec (.chipRstReq a v) s = .next t ∧ told t (tokOf pgCHIP kRST_KEY 0 (bits v 31 16))) ∧
        (bits v 31 16 = 0xB007 → bit v 0 = false → ∃ t, exec (.chipRstReq a v) s = .next t ∧ t = s) ∧
        (bits v 31 16 = 0xB007 → bit v 0 = true → s.ladder.chip = none →
          let cause := if a = .debug then 7 else 3;
          (s.boot.fltUp = false → ∃ t, exec (.chipRstReq a v) s = .next t ∧ asserted t cause) ∧
          (s.boot.fltUp = true → s.inService = true → s.pins.perst = false → ∃ t, exec (.chipRstReq a v) s = .next t ∧
            t.ladder.chip.map (·.level) = some 4 ∧ t.boot.chipReq = some cause ∧ t.stage = 6))) ∧
      (s.mainRuns = true → 2 ≤ s.stage →
        (s.boot.fltUp = true → ∃ t, exec .chanterWatchdogExpire s = .next t ∧ told t (tokOf pgCHANTER kWATCHDOG 0 0)) ∧
        (s.boot.fltUp = false → ∃ t, exec .chanterWatchdogExpire s = .next t ∧ asserted t 6)) ∧
      (∀ off, s.mainRuns = true → s.boot.fltUp = true →
        ∃ t, exec (.chanterSramParity off) s = .next t ∧ told t (tokOf pgCHANTER kCHANTER_PARITY off 0))) ∧
  ((∀ (s : State) (r : Reset), s.ladder.chip = some r → r.level = 4 → s.fltIn = [] → s.mor.queue = [] → s.reached = [] →
      s.boot.chipReq.getD 4 < 16 →
      ∃ t, exec .chipResetAssert s = .next t ∧ t.cores = [] ∧ t.waiting = [] ∧ t.ladder.chip = none ∧ t.stage = 0 ∧
        t.rd CHIP.BOOT_PATH = 1 ∧ t.rd CHIP.BOOT_CAUSE = s.boot.chipReq.getD 4 ∧ t.mem = s.mem ∧ t.ftime = s.ftime ∧
        t.rd CLKRST.CAP_SEQ_SEQ = s.rd CLKRST.CAP_SEQ_SEQ ∧ t.cal.store = s.cal.store) ∧
    (∀ (s : State) (r : Reset), s.ladder.chip = some r → r.level = 6 →
      ∃ t, exec .powerCycleHold s = .next t ∧ t.boot.hold = true ∧ t.pins.alert = true ∧ t.rd CLKRST.PC_STAT_PENDING = 1 ∧
        t.rd CLKRST.PC_STAT_SRC = ((r.cause.map (·.src)).getD 0) % 2 ^ 12 ∧
        t.rd CLKRST.PC_STAT_KIND = ((r.cause.map (·.kind)).getD 0) % 2 ^ 8 ∧ (∃ l, t.out = s.out ++ l ∧ .ibi 0xC7 ∈ l) ∧
        (∀ c, c < 16 → t.rd CLKRST.CORE_FREQ_F25 0 c = 0) ∧ t.mem = s.mem ∧ t.cores = s.cores) ∧
    (∀ (s : State) (a : Authority), s.lets a (offClkrst 0x13C) 4 CLKRST.CAP_DMA_CTL_GO → s.on CLKRST.CAP_DMA_CTL_BUSY = false →
      ∃ t, exec (.capDmaGo a) s = .next t ∧ t = { s with regs := t.regs } ∧
        (s.capRecord.isSome = true → t.rd CLKRST.CAP_DMA_CTL_BUSY = 1 ∧ s.regsBut t [CLKRST.CAP_DMA_CTL_BUSY.bit 0 0]) ∧
        (s.capRecord = none → t.rd CLKRST.CAP_DMA_CTL_RESULT = 1 ∧ s.regsBut t [CLKRST.CAP_DMA_CTL_RESULT.bit 0 0])) ∧
    (∀ s : State, ∀ seq off len, s.capRecord = some (seq, off, len) → s.on CLKRST.CAP_DMA_CTL_BUSY = true → s.memoryClear →
      (∃ t, exec (.capDmaDone true) s = .next t ∧ t = { s with regs := t.regs, host := t.host, out := t.out } ∧
        t.hostBytes (s.rd CLKRST.CAP_DMA_ADDR_ADDR) len = s.bytes (captureBase + off) len ∧
        t.rd CLKRST.CAP_DMA_CTL_BUSY = 0 ∧ t.rd CLKRST.CAP_DMA_CTL_RESULT = 0 ∧
        s.regsBut t ([CLKRST.CAP_DMA_CTL_BUSY.bit 0 0, CLKRST.CAP_DMA_CTL_RESULT.bit 0 0, HDR.BLK_PROG.bit pgHOSTIF 0] ++ servedKeys)) ∧
      (∃ t, exec (.capDmaDone false) s = .next t ∧ t = { s with regs := t.regs } ∧ t.rd CLKRST.CAP_DMA_CTL_BUSY = 0 ∧
        t.rd CLKRST.CAP_DMA_CTL_RESULT = 2 ∧
        s.regsBut t (servedKeys ++ [CLKRST.CAP_DMA_CTL_BUSY.bit 0 0, CLKRST.CAP_DMA_CTL_RESULT.bit 0 0]))) ∧
    (∀ (s : State) (a : Authority) (v : Nat), s.lets a (pgQENG * 4096 + 0x60) 4 QENG.SOLO_EN →
      (s.ctx (bits v 12 0)).owned = true → s.live (bits v 19 16) = true → bit (s.ctx (bits v 12 0)).cfg.affinity (bits v 19 16) = true →
      ∃ t, exec (.soloWrite a v) s = .next t ∧ t = { s with regs := t.regs } ∧ t.rd QENG.SOLO_EN = bits v 31 31 ∧
        t.rd QENG.SOLO_CORE = bits v 19 16 ∧ t.rd QENG.SOLO_CTX = bits v 12 0 ∧
        s.regsBut t [QENG.SOLO_EN.bit 0 0, QENG.SOLO_CORE.bit 0 0, QENG.SOLO_CTX.bit 0 0]))

/-- R378, R381, R386, R388, R389 and R392: a shadow or third pass takes the start of a unit that may host it, for its cost in
credit; the comparison that ends the shadow pass frees the entry on a match and asks for a third pass otherwise, drops an entry
with a parity error with DELAY_PARITY, and after 4,095 comparisons checks a canary, whose miss fences the comparator; the third
pass gives the verdict of Table 12-3 with its token and its charges. -/
def Obligations.ShadowPasses : Prop :=
  ∀ (s : State) (c : Nat) (exact : Bool) (x : Sample), c < 16 →
    let u := (s.core c).unit exact
    let freed := fun (t : State) (d : Streams) => t.core c = (s.core c).setUnit exact
      { u with serac := none, retained := if exact = true then none else some d } ∧ ∀ e, e ≠ c → t.core e = s.core e
    let rest := s.serac.samples.filter (fun y => y.entry != x.entry)
    let tok := fun (verdict third : Nat) (chk : Bool) (charges : List (Nat × Nat)) =>
      { tokOf (pgSHADOW x.primary) kSHADOW_MISMATCH (x.pass.tile % 2 ^ 32 * 2 ^ 16 + x.pass.ctx) 0 with
        chk := chk, addr := x.pass.tile % 2 ^ 32 * 2 ^ 16 + x.pass.ctx, charges := charges
        detail := verdict * 2 ^ 12 + third * 2 ^ 8 + x.shadow * 2 ^ 4 + x.primary }
    (s.waitingSample c exact = some x → s.unitStarts c exact = true → s.mayHost c = true → passCost x.len ≤ s.shadowCredit (c / 4) →
      (ldMode x.pass.desc = mLOG → s.takesWork (pgLOG c) = true) →
      ∃ t, exec (.shadowPassStart c exact) s = .next t ∧ t = { s with cores := t.cores, regs := t.regs, serac := t.serac } ∧
        t.core c = (s.core c).setUnit exact { u with serac := some x.entry } ∧ (∀ e, e ≠ c → t.core e = s.core e) ∧
        t.serac = { s.serac with
          samples := s.serac.samples.map (fun y => if y.entry = x.entry
            then { x with phase := if x.phase = .waitShadow then .runShadow else .runThird } else y)
          shadowCredit := t.serac.shadowCredit } ∧
        (∀ q, t.shadowCredit q = s.shadowCredit q - if q = c / 4 then passCost x.len else 0) ∧
        t.rd SHADOW.SHD_CNT_HOSTED c = min (2 ^ SHADOW.SHD_CNT_HOSTED.width - 1) (s.rd SHADOW.SHD_CNT_HOSTED c + 1) ∧
        s.regsBut t [SHADOW.SHD_CNT_HOSTED.bit c 0]) ∧
    (∀ faults d, u.serac = some x.entry → u.readout = none → s.sample x.entry = some x → x.phase = .runShadow → x.shadow = c →
      x.pass.exact = exact → s.memoryClear → (s.readOperands x.pass).2 = some d →
      let sig := s.signs c x d faults
      let agree := sig.1 = x.accSig ∧ (ldAccIn x.pass.desc = true ∨ sig.2 = x.outSig)
      let keys := servedKeys ++ [SERAC.CMP_CNT_COUNT.bit 0 0, HDR.BLK_PROG.bit (unitPage c exact) 0]
      (∀ missed, s.serac.sinceCanary < 4094 →
        ∃ t, exec (.shadowCompare c exact faults false missed) s = .next t ∧
          t = { s with cores := t.cores, regs := t.regs, serac := t.serac } ∧ freed t d ∧
          t.rd SERAC.CMP_CNT_COUNT = min (2 ^ SERAC.CMP_CNT_COUNT.width - 1) (s.rd SERAC.CMP_CNT_COUNT + 1) ∧
          t.serac = { s.serac with sinceCanary := s.serac.sinceCanary + 1, samples := t.serac.samples } ∧
          (agree → t.serac.samples = rest) ∧
          (¬ agree → t.serac.samples = s.serac.samples.map (fun y => if y.entry = x.entry
            then { x with phase := .waitThird, accSig2 := sig.1, outSig2 := sig.2, compared := s.ftime
                          third := s.pickHost x.primary [x.primary, x.shadow] (decide (ldMode x.pass.desc = mLOG)) } else y)) ∧
          s.regsBut t keys) ∧
      (s.boot.fltUp = true → s.serac.sinceCanary < 4095 → ∃ t, exec (.shadowCompare c exact faults true false) s = .next t ∧ freed t d ∧
        t.serac = { s.serac with samples := rest } ∧
        s.raised t [{ tokOf pgSERAC kDELAY_PARITY 0 0 with chk := true, addr := x.entry }] ∧
        s.regsBut t (servedKeys ++ [HDR.BLK_PROG.bit (unitPage c exact) 0, HDR.BLK_ERR.bit pgSERAC 0])) ∧
      (s.boot.fltUp = true → s.serac.sinceCanary = 4094 → agree →
        (∃ t, exec (.shadowCompare c exact faults false false) s = .next t ∧ freed t d ∧ t.serac.sinceCanary = 0 ∧
          t.rd SERAC.CANARY_COUNT = min (2 ^ SERAC.CANARY_COUNT.width - 1) (s.rd SERAC.CANARY_COUNT + 1) ∧ t.fltIn = s.fltIn) ∧
        (∃ t, exec (.shadowCompare c exact faults false true) s = .next t ∧ freed t d ∧ t.serac.sinceCanary = 0 ∧
          t.on SERAC.SRC_CTL_COMP_FENCED = true ∧ t.serac.samples = [] ∧ ∃ l, t.fltIn = s.fltIn ++ l ∧
          l.map (·.kind) = [kCANARY_MISSED, kUNIT_FENCED, kSCREEN_DEGRADED]))) ∧
    (∀ faults d, u.serac = some x.entry → u.readout = none → s.sample x.entry = some x → x.phase = .runThird → x.third = some c →
      x.pass.exact = exact → s.memoryClear → (s.readOperands x.pass).2 = some d → s.boot.fltUp = true →
      let g := s.signs c x d faults
      let same := fun (a o : Nat) => g.1 = a ∧ (ldAccIn x.pass.desc = true ∨ g.2 = o)
      let ruled := fun (row : Row) (k : Tok) (bad : Bool) => ∃ t, exec (.thirdPassVerdict c exact faults) s = .next t ∧
        t = { s with cores := t.cores, regs := t.regs, serac := { s.serac with samples := rest }, fltIn := t.fltIn
                     pci := t.pci, out := t.out
                     firn := if bad = true then { s.firn with verdicts := s.firn.verdicts ++ [(x.pass.ctx, x.ended)] } else s.firn } ∧
        freed t d ∧ t.rd row = min (2 ^ row.width - 1) (s.rd row + 1) ∧ s.raised t [k] ∧
        s.regsBut t (servedKeys ++ [HDR.BLK_PROG.bit (unitPage c exact) 0, row.bit 0 0, HDR.BLK_ERR.bit (pgSHADOW x.primary) 0]);
      x.primary < 16 → (same x.accSig x.outSig → ruled SERAC.VERDICTS_SHADOW (tok 2 c true [(uCORE x.shadow, 8)]) false) ∧
      (¬ same x.accSig x.outSig → same x.accSig2 x.outSig2 →
        ruled SERAC.VERDICTS_PRIMARY (tok 1 c false [(uCORE x.primary, 8)]) true) ∧
      (¬ same x.accSig x.outSig → ¬ same x.accSig2 x.outSig2 →
        ruled SERAC.VERDICTS_SPLIT (tok 3 c true [(uCOMPARATOR, 8)]) false))

/-- R378, R381, R382, R385, R397, R399, R401 and R404: a sample held past HOLD_US or 100 µs is abandoned while its shadow pass
waits (or runs) and UNRESOLVED, with its token, while its third pass does; every 24 h of field time halves the scores and frees
those that reach 0; the spare line asked for first is mapped once the DSA stands still; a fence takes effect once its core has
drained, with UNIT_FENCED; and turning SHADOW_EN off raises SCREEN_DEGRADED. -/
def Obligations.ScreeningUpkeep : Prop :=
  ∀ (s : State), s.boot.fltUp = true →
    (∀ (e : Nat) (x : Sample), s.sample e = some x → x.primary < 16 →
      let gone := s.serac.samples.filter (fun y => y.entry = e)
      let rest := s.serac.samples.filter (fun y => y.entry != e)
      let dropped := fun (t : State) =>
        t = { s with regs := t.regs, serac := { s.serac with samples := rest } } ∧
        t.rd SERAC.SKIPPED_COUNT = min (2 ^ SERAC.SKIPPED_COUNT.width - 1) (s.rd SERAC.SKIPPED_COUNT + gone.length) ∧
        s.regsBut t [SERAC.SKIPPED_COUNT.bit 0 0];
      let unresolved := fun (t : State) =>
        t = { s with regs := t.regs, serac := { s.serac with samples := rest }, fltIn := t.fltIn, pci := t.pci, out := t.out
                     firn := { s.firn with verdicts := s.firn.verdicts ++ [(x.pass.ctx, x.ended)] } } ∧
        t.rd SERAC.VERDICTS_UNRESOLVED = min (2 ^ SERAC.VERDICTS_UNRESOLVED.width - 1) (s.rd SERAC.VERDICTS_UNRESOLVED + 1) ∧
        s.raised t [{ tokOf (pgSHADOW x.primary) kSHADOW_MISMATCH 0 0 with
          addr := x.pass.tile % 2 ^ 32 * 2 ^ 16 + x.pass.ctx, detail := 4 * 2 ^ 12 + x.shadow * 2 ^ 4 + x.primary
          charges := [(uCORE x.primary, 4), (uCORE x.shadow, 4)] }] ∧
        s.regsBut t [SERAC.VERDICTS_UNRESOLVED.bit 0 0, HDR.BLK_ERR.bit (pgSHADOW x.primary) 0];
      (s.holdOver x = true → x.phase = .waitShadow → ∃ t, exec (.shadowHoldExpire e) s = .next t ∧ dropped t) ∧
      (s.holdOver x = true → x.phase = .waitThird → ∃ t, exec (.shadowHoldExpire e) s = .next t ∧ unresolved t) ∧
      (x.ended + 10000 ≤ s.ftime → x.phase = .waitShadow ∨ x.phase = .runShadow →
        ∃ t, exec (.sampleDeadline e) s = .next t ∧ dropped t) ∧
      (x.ended + 10000 ≤ s.ftime → x.phase = .waitThird ∨ x.phase = .runThird →
        ∃ t, exec (.sampleDeadline e) s = .next t ∧ unresolved t)) ∧
    (s.ftime % (24 * 3600 * 100000000) = 0 → ∃ t, exec .scoreDecay s = .next t ∧ t = { s with serac := t.serac } ∧
      t.serac = { s.serac with
        scores := (s.serac.scores.map (fun e => (e.1, { e.2 with score := e.2.score / 2 }))).filter (fun e => 0 < e.2.score) }) ∧
    (∀ c, c < 16 → ∀ d row l, s.serac.spares.find? (fun e => e.1 = c) = some (d, row, l) → l < 2 ^ 10 →
      (s.core c).dsa.running = none → (s.core c).dsa.readout = none → (s.core c).dsa.serac = none →
      let valid := if row = true then DSA.DSA_ROWMAP_VALID else DSA.DSA_COLMAP_VALID
      let logical := if row = true then DSA.DSA_ROWMAP_LOGICAL else DSA.DSA_COLMAP_LOGICAL
      let used := if row = true then DSA.DSA_SPARE_ROW_USED else DSA.DSA_SPARE_COL_USED
      ∀ i, (List.range 7).find? (fun j => !s.on valid c j) = some i →
      ∃ t, exec (.spareMap c) s = .next t ∧
        t = { s with regs := t.regs, serac := { s.serac with spares := s.serac.spares.erase (c, row, l) }, fltIn := t.fltIn
                     pci := t.pci, out := t.out } ∧
        t.rd valid c i = 1 ∧ t.rd logical c i = l ∧ t.rd used c = (s.rd used c + 1) % 2 ^ used.width ∧
        s.raised t [tokOf pgSERAC kSPARE_MAPPED (if row = true then uROW c l else uCOL c l) (513 + i)] ∧
        s.regsBut t [valid.bit c i, logical.bit c i, used.bit c 0, HDR.BLK_ERR.bit pgSERAC 0]) ∧
    (∀ c, c < 16 → ∀ d due score, s.serac.fencing.find? (fun e => e.1 = c) = some (d, due, score) → (s.core c).groups = [] →
      (s.tcore c).chosen = false →
      ∃ t, exec (.coreFence c) s = .next t ∧ bit t.boot.fenceCores c = true ∧ (∀ d, d ≠ c → bit t.boot.fenceCores d = bit s.boot.fenceCores d) ∧
        t.serac = { s.serac with fencing := s.serac.fencing.filter (fun e => e.1 != c) } ∧ t.cores = s.cores ∧ t.mem = s.mem ∧
        (∀ p ∈ corePages c, t.rd HDR.STAT_STATE p = stFENCED) ∧ t.live c = false ∧
        s.told t (tokOf pgSERAC kUNIT_FENCED (uCORE c) score)) ∧
    (∀ (a : Authority) (on : Bool), s.lets a offSrcCtl 4 SERAC.SRC_CTL_SHADOW_EN →
      ∃ t, exec (.shadowEnWrite a on) s = .next t ∧ t = { s with regs := t.regs, fltIn := t.fltIn, pci := t.pci, out := t.out } ∧
        t.rd SERAC.SRC_CTL_SHADOW_EN = (if on = true then 1 else 0) ∧
        s.raised t (if (s.on SERAC.SRC_CTL_SHADOW_EN && !on) = true then [tokOf pgSERAC kSCREEN_DEGRADED 0 3] else []) ∧
        s.regsBut t [SERAC.SRC_CTL_SHADOW_EN.bit 0 0, HDR.BLK_ERR.bit pgSERAC 0])

/-! ### Tests -/

/-- R405, R411 and R412: LOAD makes Chanter read the pack that PACK_ADDR and PACK_LEN name; a pack that passes every check of Table
13-3 becomes the one in use, raises the highest PACK_SEQ and starts the cursor of every core that runs no slice anew; one that
fails leaves the pack in use and raises PACK_REJECTED with the reason. R585 and R586: MIN_SVN rises to the SVN of the running
image; an update takes the image that the mailbox names, while none runs and the part is not in SCRAP; an image that does not stand
leaves the flash as it was and gives its reason, and one that stands is in the other slot with the next WSEQ, no byte outside it
changed. -/
def Obligations.PacksAndUpdates : Prop :=
  (∀ (s : State),
      (∀ a : Authority, s.lets a (offChanter 0x10C) 4 CHANTER.PACK_CTL_LOAD → s.test.loading = none → exec (.packLoad a) s =
        .next { s with test := { s.test with
          loading := some (s.rd CHANTER.PACK_ADDR_ADDR, s.rd CHANTER.PACK_LEN_LEN, decide (a = .tray)) } }) ∧
      (∀ addr len tray, s.test.loading = some (addr, len, tray) → tray = false → len ≤ 0x100_0000 → s.boot.fltUp = true → ∀ ok,
        let p := s.hostBytes addr len
        let r := s.packReason p len ok
        (r = 0 → (∀ c, c < 16 → (s.tcore c).chosen = false) → ∃ t, exec (.packAdmit ok) s = .next t ∧
          t = { s with regs := t.regs, test := t.test } ∧ t.test.loading = none ∧ t.test.pack = some p ∧
          t.test.highest = some (max (s.test.highest.getD 0) (packSeq p)) ∧ t.rd CHANTER.PACK_STAT_REASON = 0 ∧
          (∀ c, c < 16 → t.rd TEST.TST_STAT_CURSOR c = 0 ∧ t.tcore c = { s.tcore c with cond := 0 }) ∧
          s.regsBut t (CHANTER.PACK_STAT_REASON.bit 0 0 :: (List.range 16).map (fun c => TEST.TST_STAT_CURSOR.bit c 0))) ∧
        (r ≠ 0 → ∃ t, exec (.packAdmit ok) s = .next t ∧
          t = { s with regs := t.regs, test := { s.test with loading := none }, fltIn := t.fltIn, pci := t.pci, out := t.out } ∧
          t.rd CHANTER.PACK_STAT_REASON = r ∧
          s.raised t [tokOf pgSERAC kPACK_REJECTED (if r = 1 ∨ r = 10 then 0 else packId p) r] ∧
          s.regsBut t [CHANTER.PACK_STAT_REASON.bit 0 0, HDR.BLK_ERR.bit pgSERAC 0]))) ∧
  (∀ (s : State) (a : Authority),
      (∀ key, key < 2 ^ 16 → s.lets a (offSec 0x50) 4 SEC.SVN_COMMIT_KEY →
        (key = 0x5EC0 → s.boot.resident.isSome = true → ∃ t, exec (.svnCommit a key) s = .next t ∧ t = { s with regs := t.regs } ∧
          t.rd SEC.SEC_STAT_MIN_SVN = max (s.rd SEC.SEC_STAT_MIN_SVN) s.sec.runSvn % 64 ∧ s.regsBut t [SEC.SEC_STAT_MIN_SVN.bit 0 0]) ∧
        (key ≠ 0x5EC0 → exec (.svnCommit a key) s = .next s)) ∧
      (s.lets a (offChanter 0x14C) 4 CHANTER.FW_CTL_UPDATE →
        (s.sec.update.isSome = true → exec (.fwUpdate a) s = .next s) ∧
        (s.sec.update = none → s.lc ≠ 3 → s.memoryClear → ∃ t image, exec (.fwUpdate a) s = .next t ∧ (s.fwImage a).2 = some image ∧
          t = { s with regs := t.regs, sec := { s.sec with update := some image } } ∧ t.on CHANTER.FW_STAT_BUSY = true ∧
          s.regsBut t (CHANTER.FW_STAT_BUSY.bit 0 0 :: servedKeys)) ∧
        (s.sec.update = none → s.lc = 3 → ∃ t, exec (.fwUpdate a) s = .next t ∧ t = { s with regs := t.regs } ∧
          t.rd CHANTER.FW_STAT_RESULT = 7 ∧ s.regsBut t [CHANTER.FW_STAT_RESULT.bit 0 0])) ∧
      (∀ image, s.sec.update = some image → ∀ readOk flashOk : Bool, s.inService = true → s.sec.runSlot < 2 → 0x10_1000 ≤ s.sec.flashHalf →
        let h := image.take 4096
        let b := (image.drop 4096).take (leAt h 0xC 4)
        let base := (1 - s.sec.runSlot) * s.sec.flashHalf
        let r := if readOk = false then 6 else if image.length < 4096 then 1 else fwReason h b (s.rd SEC.SEC_STAT_MIN_SVN)
        ∃ t, exec (.fwUpdateDone readOk flashOk) s = .next t ∧ t.on CHANTER.FW_STAT_BUSY = false ∧ t.sec.update = none ∧
          t.mem = s.mem ∧ t.host = s.host ∧ t.fltIn = s.fltIn ∧
          s.regsBut t [CHANTER.FW_STAT_BUSY.bit 0 0, CHANTER.FW_STAT_RESULT.bit 0 0, CHANTER.FW_STAT_SLOT.bit 0 0] ∧
          (r ≠ 0 → t.rd CHANTER.FW_STAT_RESULT = r ∧ t.sec = { s.sec with update := none } ∧ t.boot = s.boot) ∧
          (r = 0 → flashOk = false → t.rd CHANTER.FW_STAT_RESULT = 5 ∧
            ∀ j, j < base ∨ base + 4096 ≤ j → Memory.read t.sec.flash j = Memory.read s.sec.flash j) ∧
          (r = 0 → flashOk = true → t.rd CHANTER.FW_STAT_RESULT = 0 ∧ t.rd CHANTER.FW_STAT_SLOT = 1 - s.sec.runSlot ∧
            t.boot = { s.boot with imgDig := none } ∧
            Memory.readBytes t.sec.flash base (4096 + b.length) = putLE h 0xFF0 4 (s.sec.runWseq + 1) ++ b ∧
            ∀ j, j < base ∨ base + 4096 + b.length ≤ j → Memory.read t.sec.flash j = Memory.read s.sec.flash j)))

/-- R414–R420, R431 and R432: the next eligible core of a quadrant with slice credit is chosen, its slice starts once its units
stand still with its pages in TEST, an overdrive slice switches to the margin PLL and back with an ALIGN pulse, its end counts it,
pays its credit and leaves TEST, clearing SLICE_EN cuts it off with SLICE_ABORTED; REF_S without a valid reference window makes one
due, and a window makes the estimate fresh. -/
def Obligations.SlicesRun : Prop :=
  ∀ (s : State) (c : Nat), c < 16 →
    let k := s.core c
    let still := [k.dsa.running, k.dsa.readout, k.exu.running, k.exu.readout].all (·.isNone) = true ∧
      k.dsa.serac = none ∧ k.exu.serac = none
    let pages := (corePages c).map (fun p => HDR.STAT_STATE.bit p 0)
    (s.inService = true → s.share (c / 4) ≠ 0 → 0 ≤ s.sliceCredit (c / 4) → (∀ d, d < 16 → d / 4 = c / 4 → (s.tcore d).chosen = false) →
      s.pw.entering = none → s.rd DRONE.PWR_STAT_STATE ≤ 1 → s.ladder.chip = none →
      nextAfter (SMap.get s.test.lastSlice (c / 4) 99) (((List.range 4).map (fun j => 4 * (c / 4) + j)).filter s.sliceEligible) = some c →
      (s.tcore c).due = false → s.slicePairs c ≠ [] →
      ∃ t, exec (.sliceCoreChosen (c / 4)) s = .next t ∧ t = { s with test := t.test } ∧ (∀ d, d ≠ c → t.tcore d = s.tcore d) ∧
        t.tcore c = { s.tcore c with chosen := true, window := false, started := none
                                     overdrive := (s.slicePairs c).any (fun p => p.2 = 1)
                                     run := (s.slicePairs c).map (fun p => (p.1, s.entries.getD p.1 [])) } ∧
        SMap.get t.test.lastSlice (c / 4) 99 = c) ∧
    ((s.tcore c).chosen = true → (s.tcore c).started = none → still →
      ∃ t, exec (.sliceStart c) s = .next t ∧ t = { s with regs := t.regs, test := t.test } ∧
        t.tcore c = { s.tcore c with started := some s.ftime } ∧ (∀ d, d ≠ c → t.tcore d = s.tcore d) ∧
        t.rd TEST.TST_STAT_STATE c = (if (s.tcore c).window = true then 2 else 1) ∧
        (∀ p ∈ corePages c, t.rd HDR.STAT_STATE p = stTEST) ∧ s.regsBut t (TEST.TST_STAT_STATE.bit c 0 :: pages)) ∧
    (let switched := fun (on mhz : Nat) =>
        ∃ t, exec (.odClockSwitch c) s = .next t ∧ t = { s with regs := t.regs } ∧ t.rd CLKRST.CORE_FREQ_OVERDRIVE 0 c = on ∧ t.rd TEST.TST_STAT_OVERDRIVE c = on ∧ t.rd CLKRST.CORE_FREQ_F25 0 c = mhz / 25 ∧
        t.rd CLKRST.ALIGN_ALIGN_GEN = (s.rd CLKRST.ALIGN_ALIGN_GEN + 1) % 2 ^ 16 ∧
        s.regsBut t [CLKRST.CORE_FREQ_OVERDRIVE.bit 0 c, CLKRST.CORE_FREQ_F25.bit 0 c, CLKRST.ALIGN_ALIGN_GEN.bit 0 0,
          TEST.TST_STAT_OVERDRIVE.bit c 0];
      (s.on CLKRST.CORE_FREQ_OVERDRIVE 0 c = true → switched 0 s.profileMhz) ∧
      (s.on CLKRST.CORE_FREQ_OVERDRIVE 0 c = false → (s.tcore c).chosen = true → (s.tcore c).overdrive = true →
        (s.tcore c).started.isSome = true → switched 1 (odMhz (s.coreProfile c)))) ∧
    (∀ t0, (s.tcore c).started = some t0 → ∀ faults : List PatFault, (s.tcore c).chosen = true → (s.tcore c).window = false →
      ∃ t, exec (.sliceEnd c faults) s = .next t ∧
        t = { s with regs := t.regs, test := t.test, serac := t.serac, cores := t.cores, fltIn := t.fltIn, pci := t.pci
                     out := t.out, draws := t.draws, droneToks := t.droneToks, mor := t.mor } ∧
        (∀ d, t.core d = { s.core d with waitFor := (t.core d).waitFor }) ∧
        (t.tcore c).chosen = false ∧ (t.tcore c).started = none ∧ (∀ d, d ≠ c → t.tcore d = s.tcore d) ∧
        t.rd TEST.TST_STAT_STATE c = 0 ∧ t.on CLKRST.CORE_FREQ_OVERDRIVE 0 c = false ∧
        t.rd TEST.TST_CNT_SLICES c = min (2 ^ TEST.TST_CNT_SLICES.width - 1) (s.rd TEST.TST_CNT_SLICES c + 1) ∧
        t.sliceCredit (c / 4) = s.sliceCredit (c / 4) - ((s.ftime - t0) * s.profileMhz * 256 * 1024 / 100 : Nat) ∧
        (s.rd HDR.STAT_STATE (pgFE c) = stTEST → ∀ p ∈ corePages c, t.rd HDR.STAT_STATE p = stREADY)) ∧
    (∀ a : Authority, s.lets a (pgTEST c * 4096 + 0x40) 4 TEST.TST_CTL_SLICE_EN → s.boot.fltUp = true →
      ((s.tcore c).chosen = false → ∃ t, exec (.sliceEnClear a c) s = .next t ∧ t = { s with regs := t.regs } ∧
        t.rd TEST.TST_CTL_SLICE_EN c = 0 ∧ s.regsBut t [TEST.TST_CTL_SLICE_EN.bit c 0]) ∧
      ((s.tcore c).chosen = true → ∃ t, exec (.sliceEnClear a c) s = .next t ∧
        t = { s with regs := t.regs, test := t.test, serac := t.serac, cores := t.cores, fltIn := t.fltIn, pci := t.pci
                     out := t.out } ∧
        (∀ d, t.core d = { s.core d with waitFor := (t.core d).waitFor }) ∧ t.rd TEST.TST_CTL_SLICE_EN c = 0 ∧ (t.tcore c).chosen = false ∧ (t.tcore c).started = none ∧
        t.rd TEST.TST_STAT_STATE c = 0 ∧ s.raised t [tokOf pgSERAC kSLICE_ABORTED c 4] ∧
        t.rd TEST.TST_CNT_ABORTED c = min (2 ^ TEST.TST_CNT_ABORTED.width - 1) (s.rd TEST.TST_CNT_ABORTED c + 1))) ∧
    (max 1 (min 60 (s.rd TEST.TST_CTL_REF_S c)) ≤ s.refAge c → ∃ t, exec (.refWindowDue c) s = .next t ∧
      t = { s with test := t.test } ∧ t.tcore c = { s.tcore c with due := true } ∧ ∀ d, d ≠ c → t.tcore d = s.tcore d) ∧
    (s.inSlice c = false → s.pins.throttle = false → s.rd CLKRST.CORE_FREQ_F25 0 c * 25 = mhzOf (s.coreProfile c) →
      s.voltTests (c / 4) = false → (∀ e ∈ k.groups, e.2.stopped = true) → still →
      ∃ t, exec (.naturalRefWindow c) s = .next t ∧ t = { s with regs := t.regs, test := t.test, limits := t.limits } ∧
        (t.tcore c).lastRef = s.ftime ∧ (t.tcore c).due = false ∧ t.rd TEST.REF_AGE_AGE c = 0 ∧ t.on TEST.TST_STAT_STALE c = false ∧
        (s.on TEST.TST_STAT_STALE c = true → (t.limit c).margin = none ∧ t.on TEST.TST_STAT_CAPPED c = false))

/-- R422–R425: with its parameters in range and its target live an explicit test is accepted, draining, and another request is
REFUSED while it runs; KIND 0xF ends one that drains as ABORTED; the test starts on its drained set once that stands still, freezes
what still has groups there after DRAIN_MS where it drains on request, and ends as NOT_STARTED after WAIT_MS where it waits. -/
def Obligations.ExplicitTestsStart : Prop :=
  ∀ (s : State) (a : Authority) (q : Nat), q < 4 →
    (s.lets a (pgQUAD q * 4096 + 0x40) 4 QUAD.QTEST_KIND → ∀ target drain od,
      let stat := [QUAD.QTEST_STAT_BUSY, QUAD.QTEST_STAT_RESULT, QUAD.QTEST_STAT_REACHED, QUAD.QTEST_STAT_FAILS, QUAD.QTEST_STAT_REASON]
      let free := (s.qtest q).phase = .none ∧ s.test.loading = none
      let begun := fun (t : State) (kind tgt : Nat) (o : Bool) =>
        t.rd QUAD.QTEST_STAT_BUSY q = 1 ∧ (∀ r ∈ stat, r ≠ QUAD.QTEST_STAT_BUSY → t.rd r q = 0) ∧
        s.regsBut t (stat.map (fun r => r.bit q 0)) ∧ t.mem = s.mem ∧
        t.qtest q = { kind := kind, target := tgt, od := o, drain := drain, phase := .drain, since := s.ftime, held := (t.qtest q).held
                      vp := (s.volts q (s.rd CLKRST.PROFILE_ACTIVE)).1, lo := s.rd AVS.VALARM_LO 0 q } ∧
        (drain = false → t = { s with regs := t.regs, test := t.test } ∧ (t.qtest q).held = [])
      let refused := fun (t : State) => t = { s with regs := t.regs } ∧
        t.rd QUAD.QTEST_STAT_RESULT q = 6 ∧ s.regsBut t [QUAD.QTEST_STAT_RESULT.bit q 0]
      (free → s.qparBad q 1 = false → target < 16 → target / 4 = q → s.live target = true →
        ∃ t, exec (.qtestCore a q target drain od) s = .next t ∧ begun t 1 target od) ∧
      (free → s.qparBad q 2 = false → ∃ t, exec (.qtestVolt a q drain) s = .next t ∧ begun t 2 0 false) ∧
      (free → s.qparBad q 3 = false → target < 16 → target / 4 = q → s.live target = true →
        (∃ e, e / 4 = q ∧ e ≠ target ∧ s.live e = true) → 
        ∃ t, exec (.qtestPump a q target drain) s = .next t ∧ begun t 3 target false) ∧
      (¬ free → (∃ t, exec (.qtestCore a q target drain od) s = .next t ∧ refused t) ∧
        (∃ t, exec (.qtestVolt a q drain) s = .next t ∧ refused t) ∧
        ∃ t, exec (.qtestPump a q target drain) s = .next t ∧ refused t) ∧
      ((s.qtest q).phase = .none → exec (.qtestCancel a q) s = .next s) ∧
      ((s.qtest q).phase = .drain → ∃ t, exec (.qtestCancel a q) s = .next t ∧ (t.qtest q).phase = .none ∧ (t.qtest q).held = [] ∧
        t.rd QUAD.QTEST_STAT_BUSY q = 0 ∧ t.rd QUAD.QTEST_STAT_RESULT q = 5 ∧ t.mem = s.mem) ∧
      ((s.qtest q).phase = .running → (s.qtest q).kind = 2 → ∃ t, exec (.qtestCancel a q) s = .next t ∧
        (t.qtest q).phase = TestPhase.restore ∧ (t.qtest q).result = 5 ∧ t.mem = s.mem)) ∧
    ((s.qtest q).phase = .drain → s.setIdle q = true → (s.qtest q).drain = true ∨ s.heldSet q (s.qtest q).kind = [] →
      ((s.qtest q).kind = 1 ∨ (s.qtest q).kind = 2) →
      ∃ t, exec (.testDrainDone q) s = .next t ∧ (t.qtest q).phase = .running ∧ (t.qtest q).level = (s.qtest q).kind - 1 ∧
        (∀ c ∈ s.drainedSet q, t.rd TEST.TST_STAT_STATE c = 3 ∧ ∀ p ∈ corePages c, t.rd HDR.STAT_STATE p = stTEST) ∧
        ((s.qtest q).kind = 2 → t.rd AVS.VMON_RANGE 0 q = 1 ∧ t.on AVS.VMON_VALID 0 q = false) ∧ t.mem = s.mem ∧ t.cores = s.cores) ∧
    ((s.qtest q).phase = .drain → (s.qtest q).drain = true →
      (s.qtest q).since + s.rd QUAD.QTEST_WAIT_DRAIN_MS q * 100_000 ≤ s.ftime →
      ∃ t, exec (.testDrainTimeout q) s = .next t ∧ t.regs = s.regs ∧ t.mem = s.mem ∧ (t.qtest q).phase = .drain ∧
        ∀ c ∈ s.drainedSet q, ∀ g ∈ (s.core c).groups, (s.ctx g.2.ctx).state = .owned → (s.ctx g.2.ctx).imageOk false = true →
          (t.ctx g.2.ctx).freezing = true) ∧
    ((s.qtest q).phase = .drain → (s.qtest q).drain = false →
      (s.qtest q).since + s.rd QUAD.QTEST_WAIT_WAIT_MS q * 100_000 ≤ s.ftime → ∃ t, exec (.testWaitTimeout q) s = .next t ∧
      (t.qtest q).phase = .none ∧ t.rd QUAD.QTEST_STAT_BUSY q = 0 ∧ t.rd QUAD.QTEST_STAT_RESULT q = 4 ∧
      t.rd QUAD.QTEST_STAT_REASON q = 4 ∧ t.mem = s.mem ∧ t.cores = s.cores)

/-- R426–R429: a VOLT test takes the rail to its level, and a rail that does not settle raises AVS_FAULT and ends it as
INCONCLUSIVE with the target and the alarm restored; a CORE test reports PASS where no pattern failed and FAIL otherwise, after its
overdrive run where it has one; and a PUMP test holds at its goal, ends as INCONCLUSIVE where the goal is not reached in time,
takes its heaters off after the hold, and reports the rise once its target has cooled. -/
def Obligations.ExplicitTestsRun : Prop :=
  ∀ (s : State) (q : Nat), q < 4 →
    let k := s.qtest q
    let becomes := fun (t : State) (f : QTest) => t = { s with test := t.test } ∧ t.qtest q = f ∧
      t.test = { s.test with quads := t.test.quads } ∧ ∀ p, p ≠ q → t.qtest p = s.qtest p
    (k.kind = 2 → k.phase = .running →
      (k.settled = false → s.on AVS.VMON_VALID 0 q = true → s.voltTarget q < 2 ^ 16 → ∃ t, exec (.voltLevelSettled q) s = .next t ∧
        t = { s with regs := t.regs, test := t.test, monitors := t.monitors, out := t.out } ∧ t.qtest q = { k with settled := true } ∧
        t.rd AVS.TARGET_CODE 0 q = s.voltTarget q ∧ s.regsBut t [AVS.TARGET_CODE.bit 0 q]) ∧
      (s.boot.fltUp = true → s.on AVS.VMON_VALID 0 q = true → s.restoreVolts q < 2 ^ 16 → k.lo < 2 ^ 16 →
        ∃ t, exec (.avsSettleTimeout q) s = .next t ∧ s.raised t [tokOf pgAVS kAVS_FAULT q 2] ∧
        t.qtest q = { k with phase := TestPhase.restore, since := s.ftime, result := 3, reason := 2, settled := false } ∧
        t.rd AVS.TARGET_CODE 0 q = s.restoreVolts q ∧ t.rd AVS.VALARM_LO 0 q = k.lo ∧ t.rd AVS.VMON_RANGE 0 q = 0 ∧ t.mem = s.mem)) ∧
    (∀ faults, k.kind = 1 → k.phase = .running → k.level = 0 → k.target < 16 →
      let r := s.runPatterns k.target 4 0 true faults s.explicitEntries
      (k.od = true → ∃ t, exec (.explicitPatternsDone q faults) s = .next t ∧
        t.qtest q = { k with level := 1, fails := k.fails + r.2 } ∧ t.mem = s.mem ∧ t.cores = s.cores) ∧
      (k.od = false → ∃ t, exec (.explicitPatternsDone q faults) s = .next t ∧ (t.qtest q).phase = .none ∧
        t.rd QUAD.QTEST_STAT_BUSY q = 0 ∧ t.rd QUAD.QTEST_STAT_RESULT q = (if k.fails + r.2 = 0 then 1 else 2) ∧
        t.rd QUAD.QTEST_STAT_FAILS q = min 255 (s.rd QUAD.QTEST_STAT_FAILS q + r.2) ∧ t.mem = s.mem ∧ t.cores = s.cores)) ∧
    (k.kind = 3 →
      (k.phase = .heat → s.pumpGoal q ≤ s.targetTemp q →
        ∃ t, exec (.pumpGoalReached q) s = .next t ∧ becomes t { k with phase := .hold, since := s.ftime }) ∧
      (k.phase = .heat → k.since + 50_000_000 ≤ s.ftime → ∃ t, exec (.pumpGoalTimeout q) s = .next t ∧
        becomes t { k with phase := TestPhase.restore, since := s.ftime, result := 3, reason := 4, settled := false }) ∧
      (k.phase = .hold → k.since + s.rd QUAD.QTEST_PAR_HOLD_MS q * 100_000 ≤ s.ftime → ∃ t, exec (.pumpHoldExpire q) s = .next t ∧
        becomes t { k with phase := TestPhase.restore, since := s.ftime, result := if k.fails = 0 then 1 else 2, reason := 0, settled := false }) ∧
      (k.phase = TestPhase.restore → s.targetTemp q ≤ k.startTemp + 40 → k.result < 16 → k.reason < 256 →
        ∃ t, exec (.pumpCooled q) s = .next t ∧ (t.qtest q).phase = .none ∧ t.rd QUAD.QTEST_STAT_BUSY q = 0 ∧
          t.rd QUAD.QTEST_STAT_RESULT q = k.result ∧ t.rd QUAD.QTEST_STAT_REASON q = k.reason ∧
          t.rd QUAD.QTEST_STAT_REACHED q = ((toInt 16 (s.rd QUAD.QTEST_TEMP_PEAK q) - k.startTemp) / 8).toNat % 256 ∧
          t.mem = s.mem ∧ t.cores = s.cores))

/-! ### Clocks, temperature, voltage and power states -/

/-- R40, R41, R48, R533 and R534: a request for another profile starts its change with every running core to relock, a request
meanwhile is kept, and one for P-MAX on a part not rated for it selects P-NOM with PROFILE_DENIED; a core at a boundary relocks
with an ALIGN pulse; the change is done when all have; and THROTTLE_n holds every running core at 0.8 GHz. -/
def Obligations.ProfilesAndThrottle : Prop :=
  ∀ (s : State),
    (∀ (a : Authority) (v : Nat), s.lets a (offClkrst 0x40) 4 CLKRST.PROFILE_REQ → v < 4 →
      let p := if v = 3 ∨ (v = 2 ∧ s.on CHIP.CORE_MAP_PMAX_OK = false) then 1 else v
      let running := (List.range 16).filter (fun c => s.rd CLKRST.CORE_FREQ_F25 0 c != 0)
      let denied := v = 2 ∧ s.on CHIP.CORE_MAP_PMAX_OK = false
      s.boot.fltUp = true → ∃ t, exec (.profileReq a v) s = .next t ∧ t.rd CLKRST.PROFILE_REQ = v ∧
        t = { s with regs := t.regs, boot := t.boot, monitors := t.monitors, fltIn := t.fltIn, pci := t.pci, out := t.out } ∧
        s.raised t (if denied then [tokOf pgCLKRST kPROFILE_DENIED 0 2] else []) ∧ t.rd CLKRST.PROFILE_ACTIVE = s.rd CLKRST.PROFILE_ACTIVE ∧
        (s.on CLKRST.PROFILE_CHANGING = true → t.boot = { s.boot with queuedReq := some p }) ∧
        (s.on CLKRST.PROFILE_CHANGING = false → p = s.rd CLKRST.PROFILE_ACTIVE → t.boot = s.boot) ∧
        (s.on CLKRST.PROFILE_CHANGING = false → p ≠ s.rd CLKRST.PROFILE_ACTIVE → t.on CLKRST.PROFILE_CHANGING = true ∧
          t.boot = { s.boot with clkTarget := p, relock := t.boot.relock } ∧
          ∀ c, bit t.boot.relock c = running.contains c)) ∧
    (∀ c, c < 16 → s.mayRelock c = true →
      let s' := { s with boot := { s.boot with relock := clearBit s.boot.relock c } }
      ∃ t, exec (.coreRelock c) s = .next t ∧ t = { s' with regs := t.regs } ∧ t.rd CLKRST.CORE_FREQ_F25 0 c = s'.coreMhz c / 25 ∧
        t.rd CLKRST.ALIGN_ALIGN_GEN = (s.rd CLKRST.ALIGN_ALIGN_GEN + 1) % 2 ^ 16 ∧
        t.on CLKRST.CORE_FREQ_THROTTLED 0 c = decide (s'.coolMhz c < mhzOf (s'.coreProfile c)) ∧
        s.regsBut t [CLKRST.CORE_FREQ_F25.bit 0 c, CLKRST.ALIGN_ALIGN_GEN.bit 0 0, CLKRST.CORE_FREQ_THROTTLED.bit 0 c]) ∧
    (s.on CLKRST.PROFILE_CHANGING = true → s.boot.relock = 0 → s.boot.queuedReq = none → s.boot.clkTarget < 4 →
      ∃ t, exec .profileChangeDone s = .next t ∧ t = { s with regs := t.regs, monitors := t.monitors, out := t.out } ∧
        t.on CLKRST.PROFILE_CHANGING = false ∧ t.rd CLKRST.PROFILE_ACTIVE = s.boot.clkTarget ∧
        t.rd CHIP.PROV_EPOCH_EPOCH = (s.rd CHIP.PROV_EPOCH_EPOCH + 1) % 2 ^ CHIP.PROV_EPOCH_EPOCH.width ∧
        ∀ q, q < 4 → s.voltTests q = false → (s.volts q s.boot.clkTarget).1 ≤ 7600 →
          t.rd AVS.VALARM_LO 0 q = (s.volts q s.boot.clkTarget).1 * 90 / 100 ∧
          t.rd AVS.VALARM_HI 0 q = (s.volts q s.boot.clkTarget).1 * 106 / 100) ∧
    (s.boot.mainUp = true → ∃ t, exec .throttleFall s = .next t ∧ t.pins = { s.pins with throttle := true } ∧ t.mem = s.mem ∧
      (∀ c, t.core c = { s.core c with waitFor := (t.core c).waitFor }) ∧ ∀ c, c < 16 → (t.limit c).throttle = some 800 ∧ (t.limit c).thermal = (s.limit c).thermal ∧
        (s.on CLKRST.CORE_FREQ_OVERDRIVE 0 c = false → t.rd CLKRST.CORE_FREQ_F25 0 c ≤ 32)) ∧
    (s.boot.mainUp = false → exec .throttleFall s = .next { s with pins := { s.pins with throttle := true } }) ∧
    (s.pins.throttle = true → s.boot.mainUp = true → ∃ t, exec .throttleRise s = .next t ∧
      t = { s with pins := { s.pins with throttle := false }, limits := t.limits } ∧
      ∀ c, c < 16 → t.limit c = { s.limit c with throttle := some 800 }) ∧
    (s.pins.throttle = false ∨ s.boot.mainUp = false →
      exec .throttleRise s = .next { s with pins := { s.pins with throttle := false } })

/-- R430, R433, R434 and R531: each 1 ms the thermal limit of a core that is hot falls by 100 MHz, not below 0.8 GHz,
THERM_THROTTLE being raised where its episode begins; a core that is not hot keeps it until 10 ms have been cool; the margin and
the age of each live core's reference are reported and a quadrant short of margin goes up by 5 mV; and an estimate 600 s old is
STALE, its core pinned to its safe frequency. -/
def Obligations.LimitsAndMargins : Prop :=
  ∀ (s : State), s.boot.fltUp = true →
    (s.boot.thermUp = true → ∃ t, exec .thermalRevision s = .next t ∧ t.mem = s.mem ∧ t.pins = s.pins ∧
      (∀ c, t.core c = { s.core c with waitFor := (t.core c).waitFor }) ∧
      (∀ e ∈ s.firstFalls, s.told t (tokOf pgTHERM kTHERM_THROTTLE e.1 (ofInt 16 e.2))) ∧
      ∀ c, c < 16 → s.fused c = true →
        ((s.hotBy c).isSome = true → (t.limit c).thermal =
            some (max 800 (min (mhzOf (s.coreProfile c)) ((s.limit c).thermal.getD (mhzOf (s.coreProfile c))) - 100)) ∧
          (t.limit c).cool = 0 ∧ (t.limit c).episode = true) ∧
        (s.hotBy c = none → (s.limit c).cool < 10 → (t.limit c).thermal = (s.limit c).thermal ∧
          (t.limit c).cool = (s.limit c).cool + 1)) ∧
    (∀ margins : List Int, s.inService = true → ∃ t, exec (.marginTick margins) s = .next t ∧ t.mem = s.mem ∧ t.cores = s.cores ∧
      t.test = s.test ∧
      (∀ c, c < 16 → s.live c = true → t.rd TEST.MARGIN_M c = ofInt 16 (margins.getD c 0) ∧
        t.rd TEST.MARGIN_G c = min 255 (s.guard c).toNat ∧ t.rd TEST.REF_AGE_AGE c = min (2 ^ 32 - 1) (s.refAge c)) ∧
      (∀ q, q < 4 → s.cal.due.contains 4 = false → s.voltTests q = false → s.on AVS.VMON_VALID 0 q = true →
        ∀ c, bestBy (fun a b => decide (margins.getD a 0 < margins.getD b 0)) (((List.range 4).map (fun j => 4 * q + j)).filter
          (fun d => s.live d && !s.on TEST.TST_STAT_STALE d)) = some c →
        let top := (s.volts q (s.rd CLKRST.PROFILE_ACTIVE)).2.2
        margins.getD c 0 < s.guard c → s.rd AVS.TARGET_CODE 0 q < top → top < 2 ^ 16 →
          t.rd AVS.TARGET_CODE 0 q = min top (s.rd AVS.TARGET_CODE 0 q + 40))) ∧
    (∀ c, c < 16 → 600 ≤ s.refAge c → s.on TEST.TST_STAT_STALE c = false → s.live c = true →
      ∃ t, exec (.estimateStale c) s = .next t ∧
        t = { s with regs := t.regs, limits := t.limits, fltIn := t.fltIn, pci := t.pci, out := t.out } ∧
        t.on TEST.TST_STAT_STALE c = true ∧ s.raised t [tokOf (pgTEST c) kESTIMATE_STALE 0 (min 0xFFFF (s.refAge c))] ∧
        (t.limit c).margin = some (safeMhz (s.tcore c).safe (c / 4) (s.rd AVS.VMON_CODE 0 (c / 4))) ∧
        (∀ d, d ≠ c → t.limit d = s.limit d) ∧
        s.regsBut t [TEST.TST_STAT_STALE.bit c 0, CLKRST.CORE_FREQ_F25.bit 0 c, CLKRST.ALIGN_ALIGN_GEN.bit 0 0,
          CLKRST.CORE_FREQ_THROTTLED.bit 0 c, HDR.BLK_ERR.bit (pgTEST c) 0])

/-- R525–R529, R535, R538 and R540–R543: a sensor that works shows its reading, its fourth reading out of range fences it with
SENSOR_FAIL; writing its fence bit clears the fence; THROT below WARN is denied; 118 °C stops every clock and latches its source;
DT shows its reading; and a monitor shows its sample, raises VOLT_ALARM at the fourth outside its thresholds, and after a change of
range reads again and lets the held target go. -/
def Obligations.SensorsAndMonitors : Prop :=
  ∀ (s : State),
    (∀ raw : List Int, s.boot.thermUp = true → s.mainRuns = true → s.boot.fltUp = true →
      ∃ t, exec (.sensorConversion raw) s = .next t ∧ t.mem = s.mem ∧ t.cores = s.cores ∧ ∀ i, i < 72 →
        let v := (s.calTake 1).thermCode i (raw.getD i 0)
        (s.sensorFenced i = true → t.rd THERM.TEMP_CODE 0 i = s.rd THERM.TEMP_CODE 0 i ∧ t.sensorFenced i = true) ∧
        (s.sensorFenced i = false → (s.sensor i).disagree < 39 →
          (-320 ≤ v → v ≤ 1200 → t.rd THERM.TEMP_CODE 0 i = ofInt 16 v ∧ t.sensorFenced i = false ∧ (t.sensor i).outRange = 0) ∧
          (v < -320 ∨ 1200 < v → (s.sensor i).outRange = 3 → t.rd THERM.TEMP_CODE 0 i = 0x8000 ∧ t.sensorFenced i = true ∧
            s.told t (tokOf pgTHERM kSENSOR_FAIL i (ofInt 16 (raw.getD i 0)))))) ∧
    (∀ (a : Authority) (i : Nat), i < 72 → s.lets a (pgTHERM * 4096 + 0x68 + 4 * (i / 32)) 4 THERM.SFENCE_S0_63 →
      ∃ t, exec (.sfenceClear a i) s = .next t ∧ t.mem = s.mem ∧ t.cores = s.cores ∧ t.sensorFenced i = false ∧
        (s.sensorFenced i = true → t.sensor i = {}) ∧ ∀ j, j < 72 → j ≠ i → t.sensorFenced j = s.sensorFenced j ∧ t.sensor j = s.sensor j) ∧
    (∀ (a : Authority) (g v : Nat), g < 6 → s.lets a (pgTHERM * 4096 + 0x40 + 4 * g) 4 THERM.GRP_CFG_RATE → s.boot.fltUp = true →
      (bits v 7 0 ≤ bits v 15 8 → ∃ t, exec (.grpCfgWrite a g v) s = .next t ∧ t = { s with regs := t.regs } ∧
        t.rd THERM.GRP_CFG_RATE 0 g = bits v 23 16 ∧ t.rd THERM.GRP_CFG_THROT 0 g = bits v 15 8 ∧ t.rd THERM.GRP_CFG_WARN 0 g = bits v 7 0 ∧
        s.regsBut t [THERM.GRP_CFG_RATE.bit 0 g, THERM.GRP_CFG_THROT.bit 0 g, THERM.GRP_CFG_WARN.bit 0 g]) ∧
      (bits v 15 8 < bits v 7 0 → ∃ t, exec (.grpCfgWrite a g v) s = .next t ∧
        t = { s with regs := t.regs, fltIn := t.fltIn, pci := t.pci, out := t.out } ∧
        s.raised t [tokOf pgHOSTIF kCFG_DENIED (accessAddr a (pgTHERM * 4096 + 0x40 + 4 * g)) 4] ∧
        s.regsBut t [HDR.BLK_ERR.bit pgHOSTIF 0])) ∧
    (∀ idx, s.boot.droneRail = true → s.pins.thermtrip = false → idx < 76 → ∃ t, exec (.thermtrip idx) s = .next t ∧
      t.rd DRONE.TRIP_LATCHED = 1 ∧ t.rd DRONE.TRIP_IDX = idx ∧ t.pins = { s.pins with thermtrip := true } ∧
      (∀ c, c < 16 → t.rd CLKRST.CORE_FREQ_F25 0 c = 0) ∧ t.boot = { s.boot with fltUp := false, clocks := false } ∧
      (∀ k, k < 4 → s.on HBM.HBM_STAT_IN_SERVICE k = true → t.on HBM.HBM_STAT_SELF_REFRESH k = true) ∧
      (s.fltIn = [] → s.droneToks.length < 16 → ∃ e, t.droneToks = s.droneToks ++ [e] ∧ e.tok = tokOf pgDRONE kTHERMTRIP 0 idx) ∧
      t.mem = s.mem ∧ t.ctxs = s.ctxs ∧ t.fltIn = []) ∧
    (∀ dt : Int, s.droneRuns = true → ∃ t, exec (.rcTrim dt) s = .next t ∧
      t = { s with regs := t.regs, cal := t.cal, draws := s.draws + 1 } ∧ t.rd DRONE.DRONE_T_CODE = ofInt 16 dt ∧
      (s.cal.due.contains 2 = false → s.calUse 2 = none → t.cal = { s.cal with rcTrim := 0 }) ∧
      s.regsBut t [DRONE.DRONE_T_CODE.bit 0 0]) ∧
    (∀ m raw, m < 5 → s.mainRuns = true →
      let code := (s.calTake 3).vmonCode m raw
      let reads := fun (t : State) => t.rd AVS.VMON_CODE 0 m = code ∧ t.rd AVS.VMON_LAST 0 m = code ∧ t.on AVS.VMON_VALID 0 m = true ∧
        (t.monitor m).sampled = true ∧ t.draws = s.draws + 1 ∧ t.mem = s.mem ∧ t.cores = s.cores
      let k := s.monitor m
      code < 2 ^ 16 →
        (k.sampled = false ∨ s.on AVS.VMON_VALID 0 m = true → s.boot.fltUp = true → ∃ t, exec (.vmonSample m raw) s = .next t ∧ reads t ∧
          (m < 4 → s.rd AVS.VALARM_LO 0 m ≤ code → code ≤ s.rd AVS.VALARM_HI 0 m → (t.monitor m).low = 0 ∧ (t.monitor m).high = 0 ∧
            s.raised t []) ∧
          (m < 4 → code < s.rd AVS.VALARM_LO 0 m → code ≤ s.rd AVS.VALARM_HI 0 m → k.low = 3 →
            (t.monitor m).low = 4 ∧ s.raised t [tokOf (pgQUAD m) kVOLT_ALARM code 1]) ∧
          (m < 4 → s.rd AVS.VALARM_LO 0 m ≤ code → s.rd AVS.VALARM_HI 0 m < code → k.high = 3 →
            (t.monitor m).high = 4 ∧ s.raised t [tokOf (pgQUAD m) kVOLT_ALARM code 2])) ∧
        (m < 4 → k.sampled = true → s.on AVS.VMON_VALID 0 m = false → ∃ t, exec (.vmonRangeValid m raw) s = .next t ∧ reads t ∧
          (t.monitor m).heldTarget = none ∧ ∀ v, k.heldTarget = some v → v < 2 ^ 16 → t.rd AVS.TARGET_CODE 0 m = v))

/-- R544–R553: TARGET is refused where the conditions of a state do not hold and BUSY during a change; TRIM and RUN are at once,
DOZE and DRONE begin; DOZE stops the core clocks with the stacks in self-refresh, and DRONE closes the link and takes FLT out of
service too; a wake source that acts cancels an entry or begins the return from DOZE; and the return is done with DRONE_WAKE. -/
def Obligations.PowerStates : Prop :=
  ∀ (s : State),
    let stopped := fun (t : State) => (∀ c, c < 16 → t.rd CLKRST.CORE_FREQ_F25 0 c = 0) ∧
      (∀ k, k < 4 → s.on HBM.HBM_STAT_IN_SERVICE k = true → t.on HBM.HBM_STAT_SELF_REFRESH k = true) ∧ t.mem = s.mem ∧ t.pw.entering = none
    let result := fun (t : State) (r : Nat) => t = { s with regs := t.regs } ∧
      t.rd DRONE.PWR_STAT_RESULT = r ∧ s.regsBut t [DRONE.PWR_STAT_RESULT.bit 0 0]
    let stands := fun (t : State) (st : Nat) => t = { s with regs := t.regs } ∧
      t.rd DRONE.PWR_STAT_RESULT = 0 ∧ t.rd DRONE.PWR_STAT_STATE = st
    let enters := fun (t : State) (st : Nat) =>
      t = { s with regs := t.regs, pw := { s.pw with entering := some st } } ∧ t.rd DRONE.PWR_STAT_RESULT = 0 ∧
      s.regsBut t [DRONE.PWR_STAT_RESULT.bit 0 0]
    let acts := fun (code p : Nat) => s.power = 2 ∧ s.pw.entering = none ∧ s.pw.waking = none ∧ s.pins.thermtrip = false ∧
      s.wakeActs code p 2 = true
    let wakes := fun (t : State) (code : Nat) =>
      t = { s with regs := t.regs, pw := t.pw, pins := t.pins } ∧ t.pw = { s.pw with waking := some code } ∧
      t.pins = { s.pins with wake := s.pins.wake || [4, 5, 7, 8].contains code } ∧ t.rd DRONE.PWR_STAT_LAST_WAKE = code ∧
      s.regsBut t [DRONE.PWR_STAT_LAST_WAKE.bit 0 0]
    let stays := fun (code p : Nat) => s.boot.fltUp = true ∧ ∃ st, s.pw.entering = some st ∧ s.wakeActs code p st = true
    let cancels := fun (t : State) (code : Nat) =>
      t = { s with regs := t.regs, pw := { s.pw with entering := none }, fltIn := t.fltIn, pci := t.pci, out := t.out } ∧
      t.rd DRONE.PWR_STAT_RESULT = 3 ∧ t.rd DRONE.PWR_STAT_STATE = 0 ∧ t.rd DRONE.PWR_STAT_LAST_WAKE = code ∧
      s.raised t [tokOf pgDRONE kDRONE_WAKE 0 code]
    (∀ a, s.lets a (offDrone 0x40) 4 DRONE.PWR_CTL_TARGET →
      (s.pw.entering.isSome = true ∨ s.pw.waking.isSome = true →
        (∃ t, exec (.pwrTargetRun a) s = .next t ∧ result t 1) ∧ (∃ t, exec (.pwrTargetTrim a) s = .next t ∧ result t 1) ∧
        (∃ t, exec (.pwrTargetDoze a) s = .next t ∧ result t 1) ∧ ∃ t, exec (.pwrTargetDrone a) s = .next t ∧ result t 1) ∧
      (s.pw.entering = none → s.pw.waking = none →
        (s.power = 0 → (∃ t, exec (.pwrTargetRun a) s = .next t ∧ result t 0) ∧
          ∃ t, exec (.pwrTargetTrim a) s = .next t ∧ stands t 1) ∧
        (s.power = 1 → (∃ t, exec (.pwrTargetRun a) s = .next t ∧ stands t 0) ∧
          (∃ t, exec (.pwrTargetTrim a) s = .next t ∧ result t 0) ∧ ∃ t, exec (.pwrTargetDrone a) s = .next t ∧ result t 2) ∧
        (s.power = 2 → (∃ t, exec (.pwrTargetTrim a) s = .next t ∧ result t 2) ∧
          ∃ t, exec (.pwrTargetDrone a) s = .next t ∧ result t 2) ∧
        (s.power = 2 → s.pins.thermtrip = false → a = .host → ∃ t, exec (.pwrTargetRun a) s = .next t ∧
          t = { s with regs := t.regs, pw := { s.pw with waking := some 3 } } ∧ t.rd DRONE.PWR_STAT_RESULT = 0) ∧
        (s.power ≤ 1 → ∃ t, exec (.pwrTargetDoze a) s = .next t ∧ (s.mayDoze = true → enters t 2) ∧ (s.mayDoze = false → result t 2)) ∧
        (s.power = 0 → (∀ c, c < 16 → (s.tcore c).chosen = false) → ∃ t, exec (.pwrTargetDrone a) s = .next t ∧
          (s.mayDrone = true → enters t 3) ∧ (s.mayDrone = false → result t 2)))) ∧
    (s.pw.entering = some 2 → (∀ c, c < 16 → (s.tcore c).chosen = false) → ∃ t, exec .dozeEntered s = .next t ∧
      t = { s with regs := t.regs, pw := { s.pw with entering := none } } ∧ stopped t ∧ t.rd DRONE.PWR_STAT_STATE = 2) ∧
    (s.pw.entering = some 3 → s.fltIn = [] → s.mor.queue = [] → ∃ t, exec .droneEntered s = .next t ∧ stopped t ∧
      t.rd DRONE.PWR_STAT_STATE = 3 ∧ t.boot = { s.boot with fltUp := false, clocks := false } ∧ t.pci.linkUp = false ∧
      ∀ q, q < 4 → s.on AVS.VMON_VALID 0 q = true → t.rd AVS.TARGET_CODE 0 q = 6000) ∧
    (∀ code, s.pw.waking = some code → code < 256 → s.boot.fltUp = true → ∃ t, exec .dozeExitComplete s = .next t ∧
      t.rd DRONE.PWR_STAT_STATE = 0 ∧ t.pw = { s.pw with waking := none } ∧ t.pins = { s.pins with wake := false } ∧ t.mem = s.mem ∧
      (∀ k, k < 4 → s.on HBM.HBM_STAT_IN_SERVICE k = true → t.on HBM.HBM_STAT_SELF_REFRESH k = false) ∧
      s.raised t [tokOf pgDRONE kDRONE_WAKE 0 code] ∧
      t.rd CLKRST.ALIGN_ALIGN_GEN = (s.rd CLKRST.ALIGN_ALIGN_GEN + 1) % 2 ^ 16) ∧
    (s.droneRuns = true →
      (∀ code p, code ∈ [5, 6, 8] →
        (acts code p → ∃ t, exec (.wakeEvent code p) s = .next t ∧ wakes t code) ∧
        (stays code p → ∃ t, exec (.wakeEvent code p) s = .next t ∧ cancels t code)) ∧
      (s.rd DRONE.ALARM_TIME ≠ 0 → s.rd DRONE.ALARM_TIME ≤ s.ftime →
        (acts 7 0 → ∃ t, exec .alarmExpire s = .next t ∧ wakes t 7) ∧
        (stays 7 0 → ∃ t, exec .alarmExpire s = .next t ∧ cancels t 7)))

/-! ### Bring-up and the host interface -/

/-- R42–R44, R51, R365, R451, R536, R537 and R591–R593: losing the main rails leaves no memory, contexts or work, and keeps the
calibration store, field time and the Drone domain; their return starts the cold path with its cause and releases the latch of
THERMTRIP_n once every diode is below 108 °C; the Drone rail takes its own state with it; the TCXO is taken within 5,000 ppm, and
its loss, or a rate outside the window of R43, raises TCXO_LOST; PERST_n resets the part at once. -/
def Obligations.RailsAndPins : Prop :=
  ∀ (s : State),
    let bare := fun (t : State) => t.mem = [] ∧ t.ctxs = [] ∧ t.cores = [] ∧ t.waiting = [] ∧ t.fltIn = [] ∧ t.host = s.host ∧
      t.cal.store = s.cal.store ∧ t.boot.fltUp = false
    let latch := fun (t : State) (diodes : List Int) =>
      ((∀ d ∈ diodes, d < 864) → t.pins.thermtrip = false ∧ t.rd DRONE.TRIP_LATCHED = 0) ∧
      ((∃ d ∈ diodes, 864 ≤ d) → t.pins.thermtrip = s.pins.thermtrip)
    (if s.boot.mainUp = true then ∃ t, exec .mainPowerLoss s = .next t ∧ bare t ∧ t.boot.mainUp = false ∧ t.stage = 0 ∧
        t.rd DRONE.PWR_STAT_STATE = 0 ∧ t.ftime = s.ftime ∧ t.boot.fenceCores = s.boot.fenceCores ∧
        t.pins = { s.pins with alert := false, nlDriven := false, wake := false }
      else exec .mainPowerLoss s = .next s) ∧
    (∀ diodes : List Int, s.boot.droneRail = true → s.boot.mainUp = false → ∃ t, exec (.mainPor diodes) s = .next t ∧
      t = { s with regs := t.regs, pins := t.pins, boot := { s.boot with mainUp := true, coldDue := true, fromDrone := false }
                   sec := t.sec, fabric := { s.fabric with counter := none } } ∧
      t.rd CHIP.BOOT_PATH = 0 ∧ t.rd CHIP.BOOT_CAUSE = (if s.boot.fromDrone = true then 0 else 1) ∧ latch t diodes ∧
      t.rd SEC.SEC_STAT_LC = t.sec.state) ∧
    (s.boot.droneRail = true → ∃ t, exec .droneBrownout s = .next t ∧ t.mem = [] ∧ t.ctxs = [] ∧ t.cores = [] ∧ t.fltIn = [] ∧
      t.host = s.host ∧ t.cal.store = s.cal.store ∧ t.boot = { mainUp := s.boot.mainUp, droneRail := false, coldDue := true } ∧
      t.pins.droneOk = false) ∧
    (∀ diodes : List Int, s.boot.droneRail = false → ∃ t, exec (.dronePor diodes) s = .next t ∧ bare t ∧ t.boot.droneRail = true ∧
      t.boot.counting = true ∧ t.boot.mainUp = s.boot.mainUp ∧ t.pins.droneOk = false ∧ t.pins.perst = s.pins.perst ∧
      t.ftime = State.reset.ftime ∧ t.stage = 0 ∧ latch t diodes) ∧
    (∀ error : Option Int, s.boot.counting = true → ∃ t, exec (.tcxoSelect error) s = .next t ∧
      t = { s with regs := t.regs, boot := { s.boot with counting := false, picked := true } } ∧
      ((∃ e, error = some e ∧ -5000 ≤ e ∧ e ≤ 5000) → t.rd CLKRST.CLK_STAT_DRONE_SRC = 0) ∧
      ((∀ e, error = some e → e < -5000 ∨ 5000 < e) → t.rd CLKRST.CLK_STAT_DRONE_SRC = 1) ∧
      s.regsBut t [CLKRST.CLK_STAT_DRONE_SRC.bit 0 0]) ∧
    (s.boot.picked = true → exec .dronePllLock s = .next { s with pins := { s.pins with droneOk := true } }) ∧
    (∀ error : Option Int, s.droneRuns = true → s.rd CLKRST.CLK_STAT_DRONE_SRC = 0 → s.boot.fltUp = true →
      (∀ e, error = some e → (if (s.calUse 2).isSome = true then 1000 else 5000) < e.natAbs) → ∃ t, exec (.tcxoLost error) s = .next t ∧
      t = { s with regs := t.regs, fltIn := t.fltIn, pci := t.pci, out := t.out } ∧ t.rd CLKRST.CLK_STAT_DRONE_SRC = 1 ∧
      t.rd CLKRST.CLK_STAT_TCXO_LOST = 1 ∧ s.raised t [tokOf pgCLKRST kTCXO_LOST 0 0] ∧
      s.regsBut t [CLKRST.CLK_STAT_DRONE_SRC.bit 0 0, CLKRST.CLK_STAT_TCXO_LOST.bit 0 0, HDR.BLK_ERR.bit pgCLKRST 0]) ∧
    (s.pins.perst = false →
      (s.mainRuns = false → exec .perstAssert s = .next { s with pins := { s.pins with perst := true } }) ∧
      (s.mainRuns = true → ∃ t, exec .perstAssert s = .next t ∧ t.pins.perst = true ∧ t.cores = [] ∧ t.waiting = [] ∧ t.fltIn = [] ∧
        t.pci = {} ∧ t.stage = 0 ∧ t.rd CHIP.BOOT_CAUSE = 2 ∧ t.rd CHIP.BOOT_PATH = 1 ∧ t.rd CLKRST.PC_STAT_PENDING = 0 ∧
        t.mem = s.mem ∧ t.ftime = s.ftime ∧ t.cal.store = s.cal.store ∧ t.boot.fltUp = false)) ∧
    (s.pins.perst = true → s.power ≠ 3 → exec .perstDeassert s = .next { s with pins := { s.pins with perst := false } })

/-- R48, R56–R66, R69–R74, R360, R543 and R558: the PLLs lock and the blocks align while no diode is hot; IDENT answers on the host
link; the ROM keeps or loads an image and goes on, or straight to SERVICE with the reason in FAIL; FLT enters service with what
waited for it; MEMORY leaves the trained stacks in service with their contents and the scratchpads zero; ADMIT gives the live map
R19 asks for; CALIB starts the clocks with fresh reference windows; SERVICE sends the boot vector; an overrun stage gives what it
has. -/
def Obligations.BootStages : Prop :=
  ∀ (s : State), s.mainRuns = true →
    (∀ diodes : List Int, s.stage = 0 → s.boot.aligned = false → s.pins.perst = false → s.pins.droneOk = true →
      ((∀ d ∈ diodes, d < 864) → ∃ t, exec (.pllLockAlign diodes) s = .next t ∧
        t = { s with regs := t.regs, sec := t.sec, boot := { s.boot with aligned := true } } ∧
        t.rd CLKRST.ALIGN_ALIGN_GEN = 1 ∧ t.rd CLKRST.CLK_STAT_QPLL_LOCK = 15 ∧ t.rd SEC.SEC_STAT_LC = t.sec.state ∧
        ∀ r ∈ [CLKRST.CLK_STAT_REFCLK_OK, CLKRST.CLK_STAT_HOST_LOCK, CLKRST.CLK_STAT_HBM_LOCK, CLKRST.CLK_STAT_FAB_LOCK,
          CLKRST.CLK_STAT_CHANTER_LOCK], t.rd r = 1) ∧
      ((∃ d ∈ diodes, 864 ≤ d) → exec (.pllLockAlign diodes) s = .next s)) ∧
    (s.stage = 0 → s.boot.aligned = true → ∃ t, exec .ident s = .next t ∧
      t = { s with regs := t.regs, pci := { s.pci with identity := true } } ∧ t.stage = 1 ∧ s.regsBut t [CHIP.BOOT_STAGE.bit 0 0]) ∧
    (∀ readable, s.stage = 1 →
      let fails := fun (n : Nat) => ∃ t, exec (.firmwareStage readable) s = .next t ∧ t.stage = 6 ∧ t.rd CHIP.BOOT_FAIL = n ∧
        t.rd CHIP.BOOT_FW_RELOAD = (if n = 4 then 0 else 1) ∧ t.pins.alert = (decide (n ≠ 4) || s.pins.alert) ∧ t.mem = s.mem
      let runs := fun (more : State → Prop) => ∃ t, exec (.firmwareStage readable) s = .next t ∧ t.stage = 2 ∧ t.boot.avsUp = true ∧
        t.boot.thermUp = true ∧ t.boot.coldDue = false ∧ t.mem = s.mem ∧ t.ctxs = s.ctxs ∧ more t
      (s.lc = 3 → fails 4) ∧
      (s.lc ≠ 3 → s.fwKept = true → runs (fun t => t.rd CHIP.BOOT_FW_RELOAD = 0 ∧ t.boot.resident = s.boot.resident)) ∧
      (s.lc ≠ 3 → s.fwKept = false →
        (readable = false ∨ s.sec.flashOk = false → fails 1) ∧
        (readable = true → s.sec.flashOk = true → s.fwSelect = none → fails 2) ∧
        (∀ i, s.fwSelect = some i → readable = true → s.sec.flashOk = true → runs (fun t => t.rd CHIP.BOOT_FW_RELOAD = 1 ∧
          t.rd CHIP.BOOT_FW_SLOT = i ∧ t.boot.resident = some (s.fwSlot i).2 ∧ t.boot.imgDig = some (sha256 (s.fwSlot i).2))))) ∧
    (s.stage = 2 → s.boot.fltUp = false → s.boot.avsUp = true → ∃ t, exec .fltEnterService s = .next t ∧ t.stage = 3 ∧
      t.boot.fltUp = true ∧ t.boot.qengUp = true ∧ t.droneToks = [] ∧ t.boot.deferred = [] ∧ t.mem = s.mem ∧
      (∀ k ∈ s.boot.deferred, s.told t k) ∧ t.rd CHIP.BOOT_EARLY_WR = 0 ∧
      (s.rd CHIP.BOOT_EARLY_WR ≠ 0 → s.told t (tokOf pgHOSTIF kEARLY_WRITE s.boot.earlyFirst (s.rd CHIP.BOOT_EARLY_WR)))) ∧
    (∀ (results : List StackResult) (bad : List (Nat × Nat)), s.stage = 3 → ∃ t, exec (.memoryStage results bad) s = .next t ∧
      t.stage = 4 ∧ (∀ a, spadBase ≤ a → a < spadBase + 16 * sliceSize → t.byte a = 0#8) ∧
      (∀ k, k < 4 → ∀ r, results.find? (fun r => r.stack = k) = some r → r.trained = true → t.on HBM.HBM_STAT_IN_SERVICE k = true) ∧
      (s.boot.ueLogs = [] → s.sec.lcLast = some s.lc → ∀ a, a < 4 * hbmSize → t.byte a = s.byte a) ∧
      (s.sec.lcLast = some s.lc → s.boot.restoreOk = true → s.on HBM.HBM_STAT_IN_SERVICE 0 = true → bit s.boot.hadStacks 0 = false →
        t.ctxs = s.ctxs)) ∧
    (∀ results : List AdmitResult, s.stage = 4 → ∃ t, exec (.admitStage results) s = .next t ∧ t.stage = 5 ∧ t.mem = s.mem ∧
      t.rd CHIP.CORE_MAP_LIVE = t.liveNow ∧
      ∀ c, c < 16 → s.fused c = true → s.coreFenced c = false → ∀ r, results.find? (fun r => r.core = c) = some r →
        (r.badRows = [] → r.badCols = [] → r.firstRun = none → bit t.boot.admitted c = true ∧ t.coreFenced c = false) ∧
        (r.firstRun.isSome = true → r.secondRun.isSome = true → bit t.boot.fenceCores c = true ∧ bit t.boot.admitted c = false)) ∧
    (s.stage = 5 → s.boot.clocks = false → ∃ t, exec .calibStage s = .next t ∧ t.boot = { s.boot with clocks := true } ∧
      t.pins = { s.pins with nlDriven := true } ∧ t.mem = s.mem ∧
      (∀ c, c < 16 → s.live c = true → t.rd TEST.REF_AGE_AGE c = 0 ∧ (t.tcore c).lastRef = s.ftime) ∧
      ∀ q, q < 4 → (s.volts q (s.rd CLKRST.PROFILE_ACTIVE)).1 ≤ 7600 →
        t.rd AVS.VALARM_LO 0 q = (s.volts q (s.rd CLKRST.PROFILE_ACTIVE)).1 * 90 / 100 ∧
        t.rd AVS.VALARM_HI 0 q = (s.volts q (s.rd CLKRST.PROFILE_ACTIVE)).1 * 106 / 100) ∧
    (s.stage = 5 → s.boot.clocks = true → let v := SMap.get s.pci.msix (msiKey 0 0) {};
      ∃ t, exec .serviceEntry s = .next t ∧ t.stage = 6 ∧ t.sec.lcLast = some s.lc ∧ t.boot.lvlFrom = none ∧ t.pw.droneWake = none ∧
        (v.mask = false → s.msixMasked 0 = false → s.msixEnabled 0 = true → ∃ l, t.out = s.out ++ l ∧ .msix 0 0 v.addr v.data ∈ l)) ∧
    (∀ (trained : List StackResult) (banks : List (Nat × Nat)) (cores : List AdmitResult) (serdes : Bool) (windows : List Nat),
      s.pins.perst = false → let s' := s.wr CHIP.BOOT_FAIL 3;
      (s.stage = 0 → s.boot.aligned = true → ∃ t, exec (.stageOverrun trained banks cores serdes windows) s = .next t ∧ t = { s with regs := t.regs } ∧ t.rd CHIP.BOOT_FAIL = 3 ∧
        t.stage = 1 ∧ s.regsBut t [CHIP.BOOT_FAIL.bit 0 0, CHIP.BOOT_STAGE.bit 0 0]) ∧
      (s.stage = 0 → s.boot.aligned = false → ∃ t, exec (.stageOverrun trained banks cores serdes windows) s = .next t ∧ t.rd CHIP.BOOT_FAIL = 3 ∧ t.stage = 0 ∧
        t = { s with regs := t.regs, sec := t.sec, boot := { s.boot with aligned := true } } ∧
        t.rd CLKRST.CLK_STAT_HOST_LOCK = s.rd CLKRST.CLK_STAT_HOST_LOCK) ∧
      (s.stage = 1 → ∃ t, exec (.stageOverrun trained banks cores serdes windows) s = .next t ∧ t.stage = 6 ∧ t.rd CHIP.BOOT_FAIL = 3 ∧ t.boot.avsUp = s.boot.avsUp ∧
        t.pins.alert = true ∧ t.mem = s.mem) ∧
      (s.stage = 2 → ∃ t, exec (.stageOverrun trained banks cores serdes windows) s = .next t ∧ t = { s with regs := t.regs } ∧ t.rd CHIP.BOOT_FAIL = 3 ∧
        t.stage = 3 ∧ s.regsBut t [CHIP.BOOT_FAIL.bit 0 0, CHIP.BOOT_STAGE.bit 0 0]) ∧
      (s.stage = 3 → exec (.stageOverrun trained banks cores serdes windows) s = exec (.memoryStage trained banks) s') ∧
      (s.stage = 4 → exec (.stageOverrun trained banks cores serdes windows) s = exec (.admitStage cores) s') ∧
      (s.stage = 5 → s.boot.clocks = false → ∃ t, exec (.stageOverrun trained banks cores serdes windows) s = .next t ∧ t.rd CHIP.BOOT_FAIL = 3 ∧
        t.boot = { s.boot with clocks := true } ∧ t.pins = { s.pins with nlDriven := serdes } ∧ t.mem = s.mem ∧
        ∀ c, c < 16 → s.live c = true → c ∈ windows → t.rd TEST.REF_AGE_AGE c = 0 ∧ (t.tcore c).lastRef = s.ftime))

/-- R118–R121, R358, R370, R401 and R609: LOCK is set for good; QUIESCE, TEST_HOLD and ENABLE take what is written, a READY block
held for test standing in TEST; FENCE of a core's page asks for a fence of the core and lifts it, that of SERAC fences the
comparator, and other pages have none; BLK_ERRINJ raises its tokens in ascending order with INJ unless LOCK is set; and BLK_TOKCFG
is taken whole, or dropped whole with CFG_DENIED. -/
def Obligations.PageHeaders : Prop :=
  ∀ (s : State) (a : Authority) (p : Nat), p < 0x400 →
    (s.lets a (p * 4096 + 0x10) 4 HDR.CTL_LOCK → ∃ t, exec (.blkLockSet a p) s = .next t ∧ t = { s with regs := t.regs } ∧
      t.rd HDR.CTL_LOCK p = 1 ∧ s.regsBut t [HDR.CTL_LOCK.bit p 0]) ∧
    (∀ on : Bool, s.lets a (p * 4096 + 0x10) 4 HDR.CTL_QUIESCE → ∃ t, exec (.blkQuiesceWrite a p on) s = .next t ∧
      t = { s with regs := t.regs } ∧ t.rd HDR.CTL_QUIESCE p = (if on = true then 1 else 0) ∧ s.regsBut t [HDR.CTL_QUIESCE.bit p 0]) ∧
    (∀ on : Bool, s.lets a (p * 4096 + 0x10) 4 HDR.CTL_TEST_HOLD →
      let st := s.rd HDR.STAT_STATE p
      ∃ t, exec (.blkTestHoldWrite a p on) s = .next t ∧ t = { s with regs := t.regs } ∧
        t.rd HDR.CTL_TEST_HOLD p = (if on = true then 1 else 0) ∧
        t.rd HDR.STAT_STATE p = (if on = true then (if st = stREADY then stTEST else st)
          else if st = stTEST then (match coreOfPage p with
            | some c => if s.inSlice c = true then stTEST else s.coreState c
            | none => stREADY) else st) ∧
        s.regsBut t [HDR.CTL_TEST_HOLD.bit p 0, HDR.STAT_STATE.bit p 0]) ∧
    (s.lets a (p * 4096 + 0x10) 4 HDR.CTL_FENCE →
      (∀ c, c < 16 → p ∈ corePages c →
        (bit s.boot.softFence c = false → bit s.boot.fenceCores c = false → s.serac.softFencing.any (fun e => e.1 = c) = false →
          exec (.blkFenceWrite a p true) s = .next { s with serac := { s.serac with
            softFencing := s.serac.softFencing ++ [(c, s.ftime + max 1 (min 4000 (s.rd SERAC.DRAIN_MS)) * 100000)] } }) ∧
        (bit s.boot.softFence c = true → s.rd HDR.STAT_STATE (pgFE c) ≠ stRESET →
          ∃ t, exec (.blkFenceWrite a p false) s = .next t ∧ bit t.boot.softFence c = false ∧ t.boot.fenceCores = s.boot.fenceCores ∧
            t.serac = { s.serac with softFencing := s.serac.softFencing.filter (fun e => e.1 != c) } ∧ t.mem = s.mem ∧
            ∀ q ∈ corePages c, t.rd HDR.STAT_STATE q = t.coreState c)) ∧
      (p = pgSERAC → s.compFenced = false → s.boot.fltUp = true → ∃ t, exec (.blkFenceWrite a p true) s = .next t ∧
        t.boot = { s.boot with softComp := true } ∧ t.serac = { s.serac with samples := [] } ∧
        s.raised t [tokOf pgSERAC kSCREEN_DEGRADED 0 1]) ∧
      (p = pgSERAC → exec (.blkFenceWrite a p false) s = .next { s with boot := { s.boot with softComp := false } }) ∧
      (∀ on : Bool, p ≠ pgSERAC → (∀ c, c < 16 → p ∉ corePages c) → exec (.blkFenceWrite a p on) s = .next s)) ∧
    (∀ on : Bool, s.lets a (p * 4096 + 0x10) 4 HDR.CTL_ENABLE → ∃ t, exec (.blkEnableWrite a p on) s = .next t ∧
      t = { s with regs := t.regs, ladder := t.ladder } ∧ t.rd HDR.CTL_ENABLE p = (if on = true then 1 else 0) ∧
      t.ladder = (if on = true then s.ladder else { s.ladder with timers := SMap.drop s.ladder.timers p }) ∧
      s.regsBut t [HDR.CTL_ENABLE.bit p 0]) ∧
    (∀ v, s.lets a (p * 4096 + 0x20) 4 HDR.BLK_ERRINJ →
      (s.on HDR.CTL_LOCK p = true → exec (.blkErrinjWrite a p v) s = .next s) ∧
      (s.on HDR.CTL_LOCK p = false → s.boot.fltUp = true → ∃ t, exec (.blkErrinjWrite a p v) s = .next t ∧
        t = { s with regs := t.regs, fltIn := t.fltIn, pci := t.pci, out := t.out } ∧ s.regsBut t [HDR.BLK_ERR.bit p 0] ∧
        ∃ l, t.fltIn = s.fltIn ++ l ∧ l.map (·.kind) = ((List.range 32).filter (bit v)).filterMap (kindAt p) ∧
          ∀ k ∈ l, k.src = p ∧ k.inj = true)) ∧
    (∀ v, s.lets a (p * 4096 + 0x24) 4 HDR.TOKCFG_OVR_EN →
      (overrideForbidden p v = false → ∃ t, exec (.blkTokcfgWrite a p v) s = .next t ∧ t = { s with regs := t.regs } ∧
        t.rd HDR.TOKCFG_OVR_EN p = bits v 31 31 ∧ t.rd HDR.TOKCFG_OVR_CLASS p = bits v 30 28 ∧
        t.rd HDR.TOKCFG_OVR_KIND p = bits v 23 16 ∧ t.rd HDR.TOKCFG_RATE p = bits v 15 0 ∧
        s.regsBut t [HDR.TOKCFG_OVR_EN.bit p 0, HDR.TOKCFG_OVR_CLASS.bit p 0, HDR.TOKCFG_OVR_KIND.bit p 0, HDR.TOKCFG_RATE.bit p 0]) ∧
      (overrideForbidden p v = true → s.boot.fltUp = true → ∃ t, exec (.blkTokcfgWrite a p v) s = .next t ∧
        t = { s with regs := t.regs, fltIn := t.fltIn, pci := t.pci, out := t.out } ∧
        s.raised t [tokOf pgHOSTIF kCFG_DENIED (accessAddr a (p * 4096 + 0x24)) 4] ∧ s.regsBut t [HDR.BLK_ERR.bit pgHOSTIF 0]))

/-- R100–R104 and R271: a Function Level Reset begins with the resets of the contexts of its VF's range, and ends with the VF's
vectors and configuration space as at reset and its stale reads discarded; NumVFs takes a number up to 63 while VF Enable is 0;
clearing VF Enable resets every VF first; and a range of contexts is taken where R271 allows it, and denied otherwise. -/
def Obligations.VirtualFunctions : Prop :=
  ∀ (s : State),
    (∀ v, s.vfExists v = true → v < 64 → s.flrBusy v = false → ∃ t, exec (.flrStart v) s = .next t ∧
      bit (t.rd HOSTIF.FLR_STAT_BUSY) (v - 1) = true ∧
      (s.rangeCtxs v = [] → t = { s with regs := t.regs } ∧
        s.regsBut t [HOSTIF.FLR_STAT_BUSY.bit 0 0]) ∧
      ∀ x ∈ s.rangeCtxs v, (s.ctx x).state = .owned → (s.ctx x).reset = none → (s.ctx x).zeroing = false →
        (t.ctx x).state = .recovering) ∧
    (∀ v, 1 ≤ v → v < 64 → s.flrBusy v = true → (∀ x ∈ s.rangeCtxs v, (s.ctx x).reset = none) →
      ∃ t, exec (.flrDone v) s = .next t ∧ t = { s with regs := t.regs, pci := t.pci } ∧
        bit (t.rd HOSTIF.FLR_STAT_BUSY) (v - 1) = false ∧ s.regsBut t [HOSTIF.FLR_STAT_BUSY.bit 0 0] ∧
        t.pci = { s.pci with
          reads := s.pci.reads.filter (fun d => !(s.inRange v d.ctx && decide (d.gen ≠ (s.ctx d.ctx).gen))),
          msix := s.pci.msix.filter (fun e => decide (e.1 / 4096 ≠ v)), cfg := s.pci.cfg.filter (fun e => decide (e.1 / 4096 ≠ v)),
          vfEnable := s.pci.vfEnable && !(s.pci.vfClearing && decide (t.rd HOSTIF.FLR_STAT_BUSY = 0)),
          vfClearing := s.pci.vfClearing && decide (t.rd HOSTIF.FLR_STAT_BUSY ≠ 0) }) ∧
    (∀ n, s.pci.identity = true → (if s.pci.vfEnable = false ∧ n ≤ 63
      then exec (.numvfsWrite n) s = .next { s with pci := { s.pci with numVfs := n } } else exec (.numvfsWrite n) s = .next s)) ∧
    (∀ v, s.vfExists v = true ↔ 1 ≤ v ∧ v ≤ s.pci.numVfs ∧ s.pci.vfEnable = true) ∧
    (s.pci.identity = true → exec .vfEnableSet s = .next { s with pci := { s.pci with vfEnable := true } }) ∧
    (s.pci.vfEnable = true → ∃ t, exec .vfEnableClear s = .next t ∧
      (∀ v, s.vfExists v = true → v < 64 → bit (t.rd HOSTIF.FLR_STAT_BUSY) (v - 1) = true ∧ t.pci.vfEnable = true ∧
        t.pci.vfClearing = true) ∧
      (s.pci.numVfs = 0 → s.rd HOSTIF.FLR_STAT_BUSY = 0 → t = { s with pci := { s.pci with vfEnable := false, vfClearing := false } })) ∧
    (∀ (a : Authority) (v value : Nat), 1 ≤ v → v < 64 → s.lets a (pgHOSTIF * 4096 + 0x100 + 4 * v) 4 HOSTIF.VF_CTX_BASE →
      (s.vfCtxOk v (bits value 28 16) (bits value 10 0) = true → ∃ t, exec (.vfCtxWrite a v value) s = .next t ∧
        t = { s with regs := t.regs } ∧ t.rd HOSTIF.VF_CTX_BASE 0 v = bits value 28 16 ∧ t.rd HOSTIF.VF_CTX_COUNT 0 v = bits value 10 0 ∧
        s.regsBut t [HOSTIF.VF_CTX_BASE.bit 0 v, HOSTIF.VF_CTX_COUNT.bit 0 v]) ∧
      (s.vfCtxOk v (bits value 28 16) (bits value 10 0) = false → s.boot.fltUp = true → ∃ t, exec (.vfCtxWrite a v value) s = .next t ∧
        t = { s with regs := t.regs, fltIn := t.fltIn, pci := t.pci, out := t.out } ∧
        s.raised t [tokOf pgHOSTIF kCFG_DENIED (accessAddr a (pgHOSTIF * 4096 + 0x100 + 4 * v)) 4] ∧
        s.regsBut t [HDR.BLK_ERR.bit pgHOSTIF 0]))

/-- R92, R98, R264 and R284: the link comes up with its width and rate; its errors raise their tokens, a poisoned completion being
asked for once more; the data of a good one reaches the command's destination, and no byte where its generation is stale; and a
vector with a message pending sends it as it is unmasked, where its function is enabled and not masked; AER logs each error.
Configuration space answers with the part's identity from IDENT on, and what the host programs there holds. -/
def Obligations.HostTransactions : Prop :=
  ∀ (s : State), s.boot.fltUp = true →
    let raises := fun (u t : State) (k : Tok) =>
      t = { u with regs := t.regs, fltIn := t.fltIn, pci := t.pci, out := t.out } ∧ u.raised t [k] ∧
      t.pci.aerCorr = u.pci.aerCorr ∧ t.pci.aerUnc = u.pci.aerUnc ∧ u.regsBut t [HDR.BLK_ERR.bit pgHOSTIF 0];
    (∀ width rate flit, s.mainRuns = true → s.pins.perst = false → width < 16 → rate < 16 →
      ∃ t, exec (.pcieLinkL0 width rate flit) s = .next t ∧
        t = { s with regs := t.regs, pins := t.pins, pci := { s.pci with linkUp := true, trained := true } } ∧
        t.rd HOSTIF.LINK_STAT_WIDTH = width % 2 ^ HOSTIF.LINK_STAT_WIDTH.width ∧
        t.rd HOSTIF.LINK_STAT_RATE = rate % 2 ^ HOSTIF.LINK_STAT_RATE.width ∧
        t.on HOSTIF.LINK_STAT_FLIT = (decide (rate = 6) || flit) ∧
        s.regsBut t [HOSTIF.LINK_STAT_WIDTH.bit 0 0, HOSTIF.LINK_STAT_RATE.bit 0 0, HOSTIF.LINK_STAT_FLIT.bit 0 0,
          HOSTIF.LINK_STAT_RETRAIN.bit 0 0] ∧
        (s.pci.trained = true → t.rd HOSTIF.LINK_STAT_RETRAIN =
          min (2 ^ HOSTIF.LINK_STAT_RETRAIN.width - 1) (s.rd HOSTIF.LINK_STAT_RETRAIN + 1))) ∧
    (∀ status, (∃ t, exec (.linkCorr status) s = .next t ∧ raises (s.aerCorrLog status) t (tokOf pgHOSTIF kLINK_CORR 0 status)) ∧
      (∃ t, exec (.tlpBad status) s = .next t ∧ raises (s.aerUncLog status) t (tokOf pgHOSTIF kTLP_BAD 0 status))) ∧
    (s.pins.perst = false → s.pci.linkUp = true → ∃ t, exec .linkDown s = .next t ∧
      raises ({ s with pci := { s.pci with linkUp := false } }.aerUncLog (2 ^ 5)) t (tokOf pgHOSTIF kLINK_DOWN 0 0)) ∧
    (∀ func off, func < 64 → off < 2 ^ 28 → ∃ t, exec (.poisonedWrite func off) s = .next t ∧
      raises (s.aerUncLog (2 ^ 12)) t { tokOf pgHOSTIF kHOST_POISON (off + func * 2 ^ 28) 2 with cls := cINFO }) ∧
    (∀ tag : Nat, ∀ d, s.pci.reads.find? (fun d => d.tag = tag) = some d →
      let tok := fun (kind detail : Nat) => { tokOf pgHOSTIF kind d.addr detail with ctx := d.ctx, gen := d.gen };
      (d.reissued = false → ∃ t, exec (.poisonedCompletion tag) s = .next t ∧ t = { s with
        pci := { (s.aerUncLog (2 ^ 12)).pci with
          reads := s.pci.reads.map (fun e => if e.tag = tag then { e with reissued := true, since := s.ftime } else e) }
        out := s.out ++ [.dmaRead (s.ctx d.ctx).owner tag d.addr d.len false false] }) ∧
      (d.reissued = true → ∃ t, exec (.poisonedCompletion tag) s = .next t ∧ s.told t (tok kHOST_POISON 1) ∧ t.mem = s.mem ∧
        t.pci.aerUnc = (s.aerUncLog (2 ^ 12)).pci.aerUnc) ∧
      (s.timeoutOn = true → d.since + 100 * s.timeoutUs ≤ s.ftime → ∃ t, exec (.completionTimeout tag) s = .next t ∧
        s.told t (tok kCPL_TIMEOUT 0) ∧ t.mem = s.mem ∧ t.pci.aerUnc = (s.aerUncLog (2 ^ 14)).pci.aerUnc) ∧
      (s.timeoutOn = false → exec (.completionTimeout tag) s = .next s) ∧
      (d.entry = false → d.gen ≠ (s.ctx d.ctx).gen → ∃ t, exec (.hostDmaCompletion tag) s = .next t ∧ t.mem = s.mem ∧ t.host = s.host ∧ t.cores = s.cores) ∧
      (∀ k, ((s.ctx d.ctx).queue d.queue).cmds.find? (fun k => k.ssn = d.ssn) = some k → d.entry = false → d.gen = (s.ctx d.ctx).gen →
        (s.ctx d.ctx).state = .owned → (s.ctx d.ctx).freezing = false → k.hostCopy = true → s.memoryClear →
        ∃ t, exec (.hostDmaCompletion tag) s = .next t ∧
          (bit (k.at 0x28) 1 = false → t.bytes (k.at 0x18 + k.moved) d.len = s.hostBytes d.addr d.len ∧
            s.bytesBut t (k.at 0x18 + k.moved) d.len ∧ t.host = s.host) ∧
          (bit (k.at 0x28) 1 = true → t.hostBytes (k.at 0x18 + k.moved) d.len = s.hostBytes d.addr d.len ∧ t.mem = s.mem))) ∧
    (∀ func vec, s.inService = true → vec < vectorsOf func → func = 0 ∨ (s.vfExists func = true ∧ s.flrBusy func = false) →
      let m := SMap.get s.pci.msix (msiKey func vec) {};
      let goes := m.pend && s.msixEnabled func && !s.msixMasked func;
      ∃ t, exec (.msixVectorUnmask func vec) s = .next t ∧ t = { s with pci := { s.pci with msix := t.pci.msix }, out := t.out } ∧
        SMap.get t.pci.msix (msiKey func vec) {} = { m with mask := false, pend := m.pend && !goes } ∧
        (∀ j, j ≠ msiKey func vec → SMap.find t.pci.msix j = SMap.find s.pci.msix j) ∧
        t.out = s.out ++ (if goes = true then [.msix func vec m.addr m.data] else [])) ∧
    (s.mainRuns = true → s.pins.perst = false →
      (s.pci.identity = false → ∀ o, exec (.rcRead .host (cfgBase + o) 4 true) s = .next { s with out := s.out ++ [.cfgRetry .host] }) ∧
      (s.pci.identity = true →
        (∀ e, e ∈ [(0x00, 0xC016_1F3C), (0x08, 0x1200_00B0), (0x0C, 0), (0x18, 0), (0x1C, 0), (0x20, 0), (0x24, 0),
            (0x2C, s.sec.subsys % 2 ^ 16 * 2 ^ 16 + 0x1F3C), (0x154, s.sec.serial % 2 ^ 32), (0x17C, 63 * 2 ^ 16 + 63), (0x184, 0x0001_0001)] →
          exec (.rcRead .host (cfgBase + e.1) 4 true) s = .next { s with out := s.out ++ [.answer .host [e.2]] }) ∧
        (∀ v, v < 2 ^ 32 → ∃ t, exec (.regWrite .host (cfgBase + cfgDevCtl) 4 true v) s = .next t ∧
          t = { s with pci := { s.pci with cfg := t.pci.cfg } } ∧
          t.maxPayload = min 512 (128 * 2 ^ bits v 7 5) ∧ t.maxRead = min 4096 (128 * 2 ^ bits v 14 12) ∧ t.relaxedOn 0 = bit v 4) ∧
        (∀ v, v < 2 ^ 32 → ∃ t, exec (.regWrite .host (cfgBase + cfgDevCtl2) 4 true v) s = .next t ∧
          t = { s with pci := { s.pci with cfg := t.pci.cfg } } ∧
          t.readLimit = (if bit v 12 = true then 768 else 256) ∧ t.timeoutOn = !bit v 4 ∧
          (bits v 3 0 = 0 → t.timeoutUs = 50000))))

/-- R10, R34, R81, R83, R86, R116, R562 and R563: a register write that Table 3-3 lets through gives the register its new value and
changes nothing else; a read answers with the words, and clears the fields that reading clears; the low word of CORE_MAP latches
the high one. An offset without a register reads 0 and raises UNMAPPED, one without authority reads 0xFFFFDE1D and raises
AUTH_DENIED, a block in RESET and a part that is not ready read 0xFFFFB00F; a write without all its byte enables raises BAD_ACCESS,
and one that gets no further changes nothing else. -/
def Obligations.RegisterAccesses : Prop :=
  (∀ (s : State) (a : Authority) (v : Nat),
    (∀ r ∈ [FLT.FLT_INJ_CTX_CTX, FABRIC.ROUTE_IDX_IDX, FABRIC.COLL_TMO_MS, BARRIER.BAR_LEAD_US, BARRIER.BAR_TMO_MS],
      s.lets a (r.page * 4096 + r.off) 4 r → ∃ t, exec (.regWrite a (r.page * 4096 + r.off) 4 true v) s = .next t ∧
        t = { s with regs := t.regs } ∧ t.rd r = v % 2 ^ r.width ∧ s.regsBut t [r.bit 0 0]) ∧
    (∀ p, p < 0x400 → s.lets a (p * 4096 + 0x1C) 4 HDR.BLK_ERRMASK →
      ∃ t, exec (.regWrite a (p * 4096 + 0x1C) 4 true v) s = .next t ∧ t = { s with regs := t.regs, pci := t.pci, out := t.out } ∧
        t.rd HDR.BLK_ERRMASK p = v % 2 ^ 32 ∧ s.regsBut t [HDR.BLK_ERRMASK.bit p 0])) ∧
  (∀ (s : State) (a : Authority), a = .host ∨ a = .tray ∨ a = .debug → s.inService = true →
    (∀ off len, off < 0x40_0000 → goodShape off len = true → s.gate a off len false = .ok → s.pageWake a (off / 4096) = s →
      ∃ t, exec (.rcRead a off len true) s = .next t ∧ t = { s with regs := t.regs, latchHi := t.latchHi, out := t.out } ∧
        (∀ b, SMap.find t.regs b = SMap.find s.regs b ∨ SMap.find t.regs b = some 0) ∧
        (∀ c ∈ covered (off / 4096) (off % 4096) len, c.row.acc = .rc → s.mayRead a c.row = true → t.rd c.row c.k c.i = 0) ∧
        (len = 4 → off ≠ offCoreMap + 4 → t.out = s.out ++ [.answer a [s.wordFor a off]])) ∧
    (∀ off, off < 0x40_0000 → off % 4 = 0 → s.gate a off 4 false = .ok →
      exec (.rcRead a (off + 1) 2 true) s = exec (.rcRead a off 4 true) s) ∧
    (s.gate a offCoreMap 4 false = .ok → ∃ t, exec (.coreMapLowRead a) s = .next t ∧
      t = { s with latchHi := some (s.wordFor a (offCoreMap + 4)), out := s.out ++ [.answer a [s.wordFor a offCoreMap]] } ∧
      exec (.rcRead a (offCoreMap + 4) 4 true) t = .next { s with
        latchHi := none, out := t.out ++ [.answer a [s.wordFor a (offCoreMap + 4)]] }) ∧
    (s.gate a (offCoreMap + 4) 4 false = .ok → s.latchHi = none →
      exec (.rcRead a (offCoreMap + 4) 4 true) s = .next { s with out := s.out ++ [.answer a [s.wordFor a (offCoreMap + 4)]] })) ∧
  (∀ (s : State) (a : Authority) (off len v : Nat), a = .host ∨ a = .tray ∨ a = .debug → off < 0x40_0000 → s.boot.fltUp = true →
    let seen := s.on HOSTIF.BAD_LOG_VALID
    let logged := fun (t : State) (kind : Nat) =>
      s.raised t [tokOf pgHOSTIF kind (accessAddr a off) len] ∧ t.on HOSTIF.BAD_LOG_VALID = true ∧
      (seen = false → t.rd HOSTIF.BAD_LOG_KIND = kind ∧ t.rd HOSTIF.BAD_LOG_OFFSET = off) ∧
      s.regsBut t [HDR.BLK_ERR.bit pgHOSTIF 0, HOSTIF.BAD_LOG_VALID.bit 0 0, HOSTIF.BAD_LOG_FUNC.bit 0 0, HOSTIF.BAD_LOG_KIND.bit 0 0,
        HOSTIF.BAD_LOG_OFFSET.bit 0 0] ∧ t = { s with regs := t.regs, fltIn := t.fltIn, pci := t.pci, out := t.out };
    (len = 4 ∨ len = 8 → off ≠ pgCAL * 4096 + 0x40 →
      (s.gate a off len true = .unmapped → ∃ t, exec (.regWrite a off len true v) s = .next t ∧ logged t kUNMAPPED) ∧
      (s.gate a off len true = .denied → ∃ t, exec (.regWrite a off len true v) s = .next t ∧ logged t kAUTH_DENIED) ∧
      (s.gate a off len true = .shape → ∃ t, exec (.regWrite a off len true v) s = .next t ∧ logged t kBAD_ACCESS) ∧
      (s.answers a off true = true → (pageRows (off / 4096)).isSome = true →
        ∃ t, exec (.regWrite a off len false v) s = .next t ∧ logged t kBAD_ACCESS) ∧
      (s.gate a off len true ∈ [.silent, .unfused, .resetting, .reserved] → exec (.regWrite a off len true v) s = .next s)) ∧
    (goodShape off len = true →
      let words := fun (w : Nat) => List.replicate (len / 4) w;
      (s.gate a off len false = .unmapped → ∃ t, exec (.rcRead a off len true) s = .next t ∧ logged t kUNMAPPED ∧
        ∃ l, t.out = s.out ++ l ++ [.answer a (words 0)]) ∧
      (s.gate a off len false = .denied → ∃ t, exec (.rcRead a off len true) s = .next t ∧ logged t kAUTH_DENIED ∧
        ∃ l, t.out = s.out ++ l ++ [.answer a (words 0xFFFF_DE1D)]) ∧
      (s.gate a off len false ∈ [.early, .silent, .resetting] →
        exec (.rcRead a off len true) s = .next { s with out := s.out ++ [.answer a (words 0xFFFF_B00F)] }) ∧
      (s.gate a off len false ∈ [.unfused, .reserved] →
        exec (.rcRead a off len true) s = .next { s with out := s.out ++ [.answer a (words 0)] })))

/-! ### Memory and calibration -/

/-- R212–R214, R217–R219, R223, R232, R234 and R235: an on-die correction counts, the 4,097th of an hour of field time raising
HBM_ODECC_RATE, and a new hour starts the count anew; the patrol passes a good word and reports a bad one as any read does; a
retried transfer is reported, and discarded where it failed again; a bank that was copied serves its logical bank; BUDDY_GIB takes
a size that no context or area needs; and a stack out of service takes its quadrant's cores with it. -/
def Obligations.MemoryUpkeep : Prop :=
  ∀ (s : State), s.boot.fltUp = true →
    (∀ k, k < 4 → s.mainRuns = true → s.on HBM.HBM_STAT_IN_SERVICE k = true →
      let h := if (s.hbm k).hour = s.ftime / 360000000000 then s.hbm k
        else { s.hbm k with hour := s.ftime / 360000000000, hourCount := 0, rateRaised := false };
      let n := h.hourCount + 1;
      let late := 4096 < n ∧ h.rateRaised = false;
      ∃ t, exec (.hbmOdeccReport k) s = .next t ∧
        t = { s with regs := t.regs, hbms := t.hbms, fltIn := t.fltIn, pci := t.pci, out := t.out } ∧
        t.hbm k = { h with hourCount := n, rateRaised := h.rateRaised || decide (4096 < n) } ∧
        (∀ j, j ≠ k → t.hbm j = s.hbm j) ∧
        t.rd HBM.HBM_ODECC_COUNT k = min (2 ^ HBM.HBM_ODECC_COUNT.width - 1) (s.rd HBM.HBM_ODECC_COUNT k + 1) ∧
        s.raised t (if late then [tokOf (pgSTACK k) kHBM_ODECC_RATE 0 (min n 0xFFFF)] else []) ∧
        s.regsBut t [HBM.HBM_ODECC_COUNT.bit k 0, HDR.BLK_ERR.bit (pgSTACK k) 0]) ∧
    (∃ t, exec .hbmOdeccHour s = .next t ∧ t = { s with hbms := t.hbms } ∧
      ∀ k, (t.hbm k).ceSeen = (s.hbm k).ceSeen ∧
        (if (s.hbm k).hour = s.ftime / 360000000000 then t.hbm k = s.hbm k
         else (t.hbm k).hourCount = 0 ∧ (t.hbm k).rateRaised = false)) ∧
    (s.inService = true → s.rd DRONE.PWR_STAT_STATE ≤ 1 →
      (∀ c, c < 16 → s.fused c = true → s.rd HDR.STAT_STATE (pgSPAD c) ≠ stRESET → s.lostPaths = [] → ∀ o,
        s.nextInService c ((s.core c).scrubPos * 8) = some o → ∀ j, s.logicalOf c (o / bankSize) = some j → j < 64 → o < sliceSize → o % 8 = 0 →
        let a := sliceBase c + j * bankSize + o % bankSize;
        let passed := fun (t : State) (toks : List Tok) => (t.core c).scrubPos = o / 8 + 1 ∧
          s.raised t toks ∧ t.mem = s.mem ∧ (∀ d, d ≠ c → t.core d = s.core d) ∧ t.marksC = [];
        (s.marksC = [] → s.marksU = [] → ∃ t, exec (.scrubStep false c) s = .next t ∧ passed t []) ∧
        (s.marksC = [a] → s.marksU = [] → ∃ t, exec (.scrubStep false c) s = .next t ∧ passed t
          [tokOf (pgSPAD c) (if (s.core c).ceSeen.contains a = true then kSPAD_CE_REPEAT else kSPAD_CE) a (s.bankOf c (a - sliceBase c))]) ∧
        (s.marksC = [] → s.marksU = [a] → ∃ t, exec (.scrubStep false c) s = .next t ∧
          passed t [tokOf (pgSPAD c) kSPAD_UE a (s.bankOf c (a - sliceBase c))])) ∧
      (∀ k, k < 4 → s.on HBM.HBM_STAT_IN_SERVICE k = true → s.on HBM.HBM_STAT_SELF_REFRESH k = false → s.memoryClear →
        let o := (s.hbm k).scrubPos * 64
        ∃ t, exec (.scrubStep true k) s = .next t ∧ t = { s with regs := t.regs, hbms := t.hbms } ∧
          (o < hbmSize → (t.hbm k).scrubPos = (s.hbm k).scrubPos + 1) ∧
          (hbmSize ≤ o → (t.hbm k).scrubPos = 0 ∧ t.rd HBM.HBM_SCRUB_PASSES k = (s.rd HBM.HBM_SCRUB_PASSES k + 1) % 2 ^ 16))) ∧
    (∀ dst, dst ∈ allPages → ∀ (src addr : Nat) (equal : Bool), s.mainRuns = true → s.memoryClear →
      let told := fun (t : State) (k : Tok) => s.raised t [k] ∧ s.regsBut t (servedKeys ++ [HDR.BLK_ERR.bit dst 0]);
      (∃ t, exec (.pathRetryResult dst src addr false equal) s = .next t ∧
        t = { s with regs := t.regs, fltIn := t.fltIn, pci := t.pci, out := t.out, lostPaths := [(dst, src, addr)] } ∧
        told t (tokOf dst kPATH_PARITY_UE addr src)) ∧
      (∃ t, exec (.pathRetryResult dst src addr true equal) s = .next t ∧
        t = { s with regs := t.regs, fltIn := t.fltIn, pci := t.pci, out := t.out } ∧
        told t { tokOf dst kPATH_PARITY addr src with chk := equal })) ∧
    (∀ dst, dst ∈ allPages → ∀ addr src : Nat, memPage addr = some src → ∀ good equal : Bool, s.mainRuns = true → s.lostPaths = [] →
      ∀ m rest, touched s.marksU (addr / (if addr < spadBase then 64 else 8) * (if addr < spadBase then 64 else 8))
        (if addr < spadBase then 64 else 8) = m :: rest → rest = [] →
      (∀ k, k < 4 → s.asleep k = false) →
      ∃ t, exec (.pathRetryResult dst src addr good equal) s = .next t ∧ t.mem = s.mem ∧ t.lostPaths = [(dst, src, addr)] ∧
        ∀ k ∈ t.fltIn, k ∈ s.fltIn ∨ k.kind = kSPAD_UE ∨ k.kind = kHBM_UE) ∧
    (∀ c, c < 16 → ∀ m, (s.core c).mig = some m → m.phys < 64 → m.logical < 64 → s.mainRuns = true →
      s.rd HDR.STAT_STATE (pgSPAD c) ≠ stRESET → bit (s.rd SPAD.SPAD_FENCED_BANKS c) m.phys = false → (s.core c).migQueue = [] →
      s.memoryClear →
      ∃ t, exec (.bankMigrationDone c) s = .next t ∧ t = { s with regs := t.regs, cores := t.cores } ∧
        t.core c = { s.core c with mig := none } ∧ (∀ d, d ≠ c → t.core d = s.core d) ∧
        t.rd SPAD.SPAD_BANKMAP_PHYS c m.logical = m.phys ∧ t.on SPAD.SPAD_BANKMAP_VALID c m.logical = true ∧
        t.on SPAD.SPAD_STAT_MIGRATING c = false ∧
        s.regsBut t [SPAD.SPAD_BANKMAP_PHYS.bit c m.logical, SPAD.SPAD_BANKMAP_VALID.bit c m.logical, SPAD.SPAD_STAT_MIGRATING.bit c 0,
          SPAD.SPAD_STAT_MIG_BANK.bit c 0, HDR.BLK_PROG.bit (pgSPAD c) 0]) ∧
    (∀ (a : Authority) (k value : Nat), k < 4 → s.lets a (offCarve k) 4 HBM.HBM_CARVE_BUDDY_GIB →
      let v := bits value 3 0
      let used := v ≠ s.rd HBM.HBM_CARVE_BUDDY_GIB k ∧ s.reserveUsed k v = true
      (12 < v → exec (.buddyGibWrite a k value) s = .next s) ∧
      (v ≤ 12 → ∃ t, exec (.buddyGibWrite a k value) s = .next t ∧ t = { s with regs := t.regs } ∧
        t.rd HBM.HBM_CARVE_BUDDY_GIB k = (if used then s.rd HBM.HBM_CARVE_BUDDY_GIB k else v) ∧
        t.rd HBM.HBM_CARVE_CARVE_RESULT k = (if used then 1 else 0) ∧
        s.regsBut t [HBM.HBM_CARVE_BUDDY_GIB.bit k 0, HBM.HBM_CARVE_CARVE_RESULT.bit k 0])) ∧
    (∀ k, k < 4 → s.inService = true → s.on HBM.HBM_STAT_IN_SERVICE k = true → ∃ t, exec (.stackLeavesService k) s = .next t ∧
      t.on HBM.HBM_STAT_IN_SERVICE k = false ∧ t.rd HDR.STAT_STATE (pgSTACK k) = stFAILED ∧ t.mem = s.mem ∧ t.cores = s.cores ∧
      s.told t (tokOf (pgSTACK k) kBUDDY_SHRUNK 0 (s.rd HBM.HBM_CARVE_BUDDY_GIB k)) ∧ ∀ c, c < 16 → c / 4 = k → t.live c = false)

/-- R556–R559: a commit is BUSY while a record is being written, and otherwise checks the staged record and begins to write one
that stands; when that is done its slot holds the payload with the next WRSEQ and a CRC that fits, waits for its moment, and
CAL_WRITTEN is raised. -/
def Obligations.CalibrationStore : Prop :=
  ∀ (s : State),
    (∀ (a : Authority) (type : Nat), type < 256 → s.lets a (pgCAL * 4096 + 0x40) 4 CAL.CAL_CMD_COMMIT →
      s.answers a (pgCAL * 4096 + 0x40) true = true →
      let r := Memory.readBytes s.cal.stage 0 1024
      let res := calCheck type r
      (s.cal.writing.isSome = true → ∃ t, exec (.calCommit a type) s = .next t ∧ t = { s with regs := t.regs } ∧
        t.rd CAL.CAL_STAT_RESULT = 5 ∧ s.regsBut t [CAL.CAL_STAT_RESULT.bit 0 0]) ∧
      (s.cal.writing = none → ∃ t, exec (.calCommit a type) s = .next t ∧
        t = { s with regs := t.regs, cal := { s.cal with
          writing := if res = 0 then some (type, r.take (20 + recLen r)) else none } } ∧
        t.rd CAL.CAL_STAT_RESULT = res ∧ t.rd CAL.CAL_STAT_TYPE = type ∧
        s.regsBut t [CAL.CAL_STAT_RESULT.bit 0 0, CAL.CAL_STAT_TYPE.bit 0 0])) ∧
    (∀ (type : Nat) (r : List Byte), s.cal.writing = some (type, r) → 1 ≤ type → type ≤ 7 → s.boot.fltUp = true →
      r.length = 20 + recLen r → calLenOk type (recLen r) = true →
      let seq := min 0xFFFF (recSeq (s.calSlot type) + 1)
      ∃ t, exec .calWriteDone s = .next t ∧
        t = { s with regs := t.regs, cal := t.cal, fltIn := t.fltIn, pci := t.pci, out := t.out } ∧
        t.cal.writing = none ∧ t.cal.due.contains type = true ∧ t.cal.inUse = s.cal.inUse ∧
        recPayload (t.calSlot type) = recPayload r ∧ recSeq (t.calSlot type) = seq ∧ recCrcOk (t.calSlot type) = true ∧
        s.raised t [tokOf pgCAL kCAL_WRITTEN type (recOrigin (s.calSlot type) * 256 + seq % 256)] ∧
        s.regsBut t [HDR.BLK_ERR.bit pgCAL 0])

/-! ### Security -/

/-- R567–R571 and R574–R576: a loaded token stands only where it passes every check, and one that does not counts in TOK_FAIL; a
transition is refused with LIFECYCLE and its reason or begins to burn its fuse, and the burned fuse brings a chip reset of cause
0x5; a debug level is taken with DEBUG_LEVEL or refused with its reason. -/
def Obligations.LifecycleAndDebug : Prop :=
  ∀ (s : State) (a : Authority), s.boot.fltUp = true →
    (∀ v, s.lets a (offSec 0x17C) 4 SEC.TOKEN →
      let buf := Memory.writeBytes s.sec.tokenBuf 0x17C (toLE (v % 2 ^ 32) 4)
      let b := Memory.readBytes buf 0x100 128
      let r := s.tokenReason b
      ∃ t, exec (.tokenLoad a v) s = .next t ∧
        t = { s with regs := t.regs, sec := { s.sec with tokenBuf := buf, token := if r = 0 then some b else none } } ∧
        t.rd SEC.TOKEN_STAT_RESULT = r ∧ t.rd SEC.TOKEN_STAT_KIND = (if r = 0 then tokenKind b else 0) ∧
        (r ≠ 0 → t.rd SEC.SEC_STAT_TOK_FAIL = min 255 (s.rd SEC.SEC_STAT_TOK_FAIL + 1)) ∧
        s.regsBut t ([SEC.TOKEN_STAT_RESULT.bit 0 0, SEC.TOKEN_STAT_KIND.bit 0 0] ++
          if r = 0 then [] else [SEC.SEC_STAT_TOK_FAIL.bit 0 0])) ∧
    (s.lets a (offSec 0x48) 4 SEC.LC_REQ_KEY → a ≠ .debug →
      let asked := fun (t : State) (to_ : Nat) =>
        (s.lcReason to_ ≠ 0 → t = { s with regs := t.regs, fltIn := t.fltIn, pci := t.pci, out := t.out } ∧
          t.rd SEC.TOKEN_STAT_RESULT = s.lcReason to_ ∧ s.raised t [tokOf pgSEC kLIFECYCLE 0 (s.lc * 0x1100 + s.lcReason to_)] ∧
          s.regsBut t [SEC.TOKEN_STAT_RESULT.bit 0 0, HDR.BLK_ERR.bit pgSEC 0]) ∧
        (s.lcReason to_ = 0 → t = { s with regs := t.regs, sec := { s.sec with
            token := if lcToken s.lc to_ = some 0 then s.sec.token else none
            burning := some (if to_ = 3 then 7 else s.sec.fuseCount), burnFrom := s.lc } } ∧
          s.regsBut t [SEC.TOKEN_STAT_KIND.bit 0 0]);
      (∃ t, exec (.lcReqField a 0x5EC0) s = .next t ∧ asked t 1) ∧ (∃ t, exec (.lcReqReturn a 0x5EC0) s = .next t ∧ asked t 2) ∧
      (∃ t, exec (.lcReqScrap a 0x5EC0) s = .next t ∧ asked t 3) ∧
      ∀ key, key < 2 ^ 16 → key ≠ 0x5EC0 → exec (.lcReqField a key) s = .next s ∧ exec (.lcReqReturn a key) s = .next s ∧
        exec (.lcReqScrap a key) s = .next s) ∧
    (∀ b, s.sec.burning = some b → s.inService = true → s.pins.perst = false → s.ladder.chip = none →
      let fuses := SMap.put s.sec.fuses b 3
      ∃ t, exec .lcFuseBurnDone s = .next t ∧ t.sec = { s.sec with fuses := fuses, burning := none } ∧ t.boot.chipReq = some 5 ∧
        t.ladder.chip.map (·.level) = some 4 ∧
        s.told t (tokOf pgSEC kLIFECYCLE 0 (s.sec.burnFrom * 2 ^ 12 + Sec.state { s.sec with fuses := fuses } * 2 ^ 8))) ∧
    (s.lets a (offSec 0x44) 4 SEC.DBG_REQ_LEVEL →
      let asked := fun (t : State) (level : Nat) =>
        (s.dbgReason a level ≠ 0 → t = { s with regs := t.regs } ∧ t.rd SEC.TOKEN_STAT_RESULT = s.dbgReason a level ∧
          s.regsBut t [SEC.TOKEN_STAT_RESULT.bit 0 0]) ∧
        (s.dbgReason a level = 0 → level = s.debugLevel → t = s) ∧
        (s.dbgReason a level = 0 → level ≠ s.debugLevel →
          t = { s with regs := t.regs, fltIn := t.fltIn, pci := t.pci, out := t.out
                       sec := { s.sec with token := if s.lc = 1 ∧ level = 2 then none else s.sec.token } } ∧
          t.debugLevel = level ∧ s.raised t [tokOf pgSEC kDEBUG_LEVEL 0 (s.debugLevel * 2 ^ 12 + level * 2 ^ 8 + 1)] ∧
          s.regsBut t [SEC.SEC_STAT_DEBUG.bit 0 0, SEC.TOKEN_STAT_KIND.bit 0 0, HDR.BLK_ERR.bit pgSEC 0]);
      (∃ t, exec (.dbgReqObserve a) s = .next t ∧ asked t 1) ∧ (∃ t, exec (.dbgReqInvasive a) s = .next t ∧ asked t 2) ∧
      (s.debugLevel = 0 → exec (.dbgReqSealed a) s = .next s) ∧
      (s.debugLevel ≠ 0 → ∃ t, exec (.dbgReqSealed a) s = .next t ∧
        t = { s with regs := t.regs, fltIn := t.fltIn, pci := t.pci, out := t.out } ∧ t.debugLevel = 0 ∧
        s.raised t [tokOf pgSEC kDEBUG_LEVEL 0 (s.debugLevel * 2 ^ 12 + 1)] ∧
        s.regsBut t [SEC.SEC_STAT_DEBUG.bit 0 0, HDR.BLK_ERR.bit pgSEC 0]))

/-- R565, R566, R580, R581 and R607: while the main domains run each TAP instruction shifts out what Table 18-8 gives it, and one
that is not available, as all but IDCODE before SEC has read the lifecycle, acts as BYPASS; REGAP makes the access that the DEBUG
port would; MEMAP reads and writes 8 bytes of memory; and the I3C target, once it has its address, makes the access that TRAY asks
for. -/
def Obligations.DebugAndTrayPorts : Prop :=
  ∀ (s : State),
    (s.mainRuns = false → exec .tapBypass s = .next s ∧ exec .tapIdcode s = .next s ∧ exec .tapSecstat s = .next s) ∧
    (s.mainRuns = true →
      let scan := fun (ir v : Nat) (f : Sec → Sec) => { s with
        sec := f { s.sec with tapIr := ir }, out := s.out ++ [.answer .debug [v]] };
      (∃ t, exec .tapBypass s = .next t ∧ t = scan 0xFF 0 id) ∧ (∃ t, exec .tapIdcode s = .next t ∧ t = scan 1 s.idcode id) ∧
      (s.boot.aligned = true → ∃ t, exec .tapSecstat s = .next t ∧ t = scan 0x10 (s.regWord (offSec 0x40)) id) ∧
      (s.boot.aligned = false → ∃ t, exec .tapSecstat s = .next t ∧ t = scan 0x10 0 id) ∧
      (∀ pins data,
        (∃ t, exec (.tapSamplePreload pins data) s = .next t ∧ t = (if s.boot.aligned = true ∧ (s.lc = 0 ∨ s.lc = 2)
          then scan 2 pins (fun x => { x with boundary := data }) else scan 2 0 id)) ∧
        (∃ t, exec (.tapExtest pins data) s = .next t ∧ t = (if s.boot.aligned = true ∧ (s.lc = 0 ∨ s.lc = 2)
          then scan 0 pins (fun x => { x with boundary := data, boundaryOut := data }) else scan 0 0 id))) ∧
      (∀ data : List Byte, data.length = 128 → s.boot.aligned = true → s.lc ≠ 3 → ∃ t, exec (.tapToken data) s = .next t ∧
        t.rd SEC.TOKEN_STAT_RESULT = s.tokenReason data ∧ t.out = s.out ++ [.answer .debug [0]] ∧
        t.sec.token = if s.tokenReason data = 0 then some data else none) ∧
      (∀ level, level < 16 → s.boot.aligned = true → ∃ t, exec (.tapDbgreq level) s = .next t ∧
        (s.dbgReason .debug (min 3 level) ≠ 0 → t.rd SEC.TOKEN_STAT_RESULT = s.dbgReason .debug (min 3 level) ∧
          t.debugLevel = s.debugLevel) ∧
        (s.dbgReason .debug (min 3 level) = 0 → t.debugLevel = min 3 level)) ∧
      (∀ d, 1 ≤ s.debugLevel → s.boot.aligned = true →
        let s' := { s with sec := { s.sec with tapIr := 0x20 }, out := s.out ++ [.answer .debug [s.sec.regapResult]] }
        (bit d 64 = false → exec (.tapRegap d) s = .next s') ∧
        (bit d 64 = true → bit d 65 = true →
          bits d 63 32 < 0x1000_0000 → exec (.tapRegap d) s = exec (.regWrite .debug (bits d 63 32) 4 true (bits d 31 0)) s') ∧
        (bit d 64 = true → bit d 65 = false → ∃ t, exec (.tapRegap d) s = .next t ∧ t.mem = s.mem ∧
          t.sec = { s'.sec with regapResult := (s'.regRead .debug (bits d 63 32) 4 true).2.getD 0 0 })) ∧
      (∀ d, s.debugLevel = 2 → s.boot.aligned = true → bit d 128 = true → s.memapPlace (bits d 127 64) = .memory → s.memoryClear →
        ∃ t, exec (.tapMemap d) s = .next t ∧ t.out = s.out ++ [.answer .debug [s.sec.tapDr]] ∧
          (bit d 129 = true → t.load (bits d 127 64) 8 = bits d 63 0 ∧ s.bytesBut t (bits d 127 64) 8 ∧ t.sec.tapDr = s.sec.tapDr) ∧
          (bit d 129 = false → t.mem = s.mem ∧ t.sec.tapDr = s.load (bits d 127 64) 8))) ∧
    (s.boot.droneRail = true →
      (∀ static addr, addr < 128 →
        exec (.i3cAddressAssign true static addr) s = .next { s with
          sec := { s.sec with i3cAddr := some addr }, out := s.out ++ [.answer .tray [s.i3cId]] } ∧
        exec (.i3cAddressAssign false static addr) s =
          .next (if static = 0x2C then { s with sec := { s.sec with i3cAddr := some addr } } else s)) ∧
      (s.sec.i3cAddr = none → ∀ a w v, exec (.i3cTransfer a w v) s = .next s) ∧
      (s.sec.i3cAddr.isSome = true → ∀ a v,
        (a < 0x100_0000 → exec (.i3cTransfer a true v) s = exec (.regWrite .tray a 4 true v) s ∧
          exec (.i3cTransfer a false v) s = exec (.rcRead .tray (a / 4 * 4) 4 true) s) ∧
        (0x100_0000 ≤ a → a < 0x200_0000 → a % 4 = 0 → s.stagingUp = true → s.memoryClear →
          (∃ t, exec (.i3cTransfer a true v) s = .next t ∧ t.load (stagingAt a) 4 = v % 2 ^ 32 ∧ s.bytesBut t (stagingAt a) 4 ∧
            t.out = s.out) ∧
          (∃ t, exec (.i3cTransfer a false v) s = .next t ∧ t.mem = s.mem ∧ t.out = s.out ++ [.answer .tray [s.load (stagingAt a) 4]]))))

/-! ### The whole part -/

/-- The queue of commands (log 5 says what an empty one means): a step runs the command at the front on the state with the queue's
rest. -/
def Obligations.StepRunsFront : Prop :=
  ∀ (s : State) (i : Instr) (rest : List Instr), step { s with pending := i :: rest } = exec i { s with pending := rest }

/-- R6, R343 and R612, with logs 5 and 67 for the model's choice of an empty queue's step and of upsets: while no command waits one
unit of field time passes where the Drone clock runs; while the main domains run each core's cycle count grows with its clock and
the barrier's countdown runs; no register, no byte and no queue changes. -/
def Obligations.FieldTimePasses : Prop :=
  ∀ (s : State), s.pending = [] → ∃ t, step s = .next t ∧ t.ftime = s.ftime + (if s.droneRuns = true then 1 else 0) ∧
    t.pending = [] ∧ t.regs = s.regs ∧ t.mem = s.mem ∧ t.host = s.host ∧ t.out = s.out ∧ t.fltIn = s.fltIn ∧ t.mor = s.mor ∧
    t.pci = s.pci ∧ t.nl = s.nl ∧ t.fabric = s.fabric ∧ t.boot = s.boot ∧ t.ladder = s.ladder ∧
    (s.mainRuns = false → t = { s with ftime := t.ftime }) ∧
    (s.mainRuns = true →
      (∀ c, c < 16 → (t.core c).cyc = (s.core c).cyc + s.rd CLKRST.CORE_FREQ_F25 0 c ∧ (t.core c).groups = (s.core c).groups ∧
        (t.core c).dsa = (s.core c).dsa ∧ (t.core c).exu = (s.core c).exu) ∧
      (∀ x, (t.ctx x).state = (s.ctx x).state ∧ (t.ctx x).queues = (s.ctx x).queues ∧ (t.ctx x).cfg = (s.ctx x).cfg) ∧
      (s.barState = barCOUNTDOWN → t.barrier = { s.barrier with remain := s.barrier.remain - 128 }) ∧
      (s.barState ≠ barCOUNTDOWN → t.barrier = s.barrier))

/-- The canonical form at reset: what every step keeps holds there. -/
def Obligations.ResetCanonical : Prop := State.reset.canon

/-- The canonical form is kept by every step, from every state that has it: local and host memory list no byte that reads as
unwritten memory does, and the registers, contexts and cores are listed in strictly rising order, so that equal machines are equal
data. -/
def Obligations.StepKeepsCanonical : Prop := ∀ (s t : State), s.canon → step s = .next t → t.canon

/-- After DRONE_POR the part stands at POWER on the cold path, in RUN, in P-NOM, with no core live, no context owned and no work;
every block is enabled, the sensors and monitors have no reading yet, the regulators stand at 0.75 V, the thresholds and test
settings at their defaults, and 16 GiB of HBM are the buddy reserve. -/
def Obligations.ResetValues : Prop :=
  let s := State.reset
  s.pending = [] ∧ s.mem = [] ∧ s.fltIn = [] ∧ s.ladder.running = [] ∧ s.pins.perst = true ∧ s.boot.mainUp = false ∧
  s.boot.fltUp = false ∧ s.stage = 0 ∧ s.power = 0 ∧ s.rd CHIP.BOOT_PATH = 0 ∧ s.rd CHIP.BOOT_CAUSE = 0 ∧ s.rd CHIP.CORE_MAP_LIVE = 0 ∧
  s.rd CLKRST.PROFILE_ACTIVE = 1 ∧ s.rd CLKRST.PROFILE_REQ = 1 ∧ s.rd CLKRST.ALIGN_ALIGN_GEN = 1 ∧
  (∀ x, (s.ctx x).state = .unowned) ∧ (∀ c, (s.core c).groups = [] ∧ (s.core c).disps = []) ∧
  (∀ p, s.on HDR.CTL_ENABLE p = true ∧ s.on HDR.CTL_LOCK p = false ∧ s.rd HDR.BLK_ERR p = 0) ∧
  (∀ i, i < 72 → s.rd THERM.TEMP_CODE 0 i = 0x8000) ∧
  (∀ m, m < 5 → s.on AVS.VMON_VALID 0 m = false ∧ s.rd AVS.VMON_CODE 0 m = 0x8000) ∧ (∀ q, q < 4 → s.rd AVS.TARGET_CODE 0 q = 6000) ∧
  (∀ g, g < 6 → s.rd THERM.GRP_CFG_WARN 0 g = (if g = 4 then 85 else 95) ∧ s.rd THERM.GRP_CFG_THROT 0 g = (if g = 4 then 95 else 105) ∧
    s.rd THERM.GRP_CFG_RATE 0 g = 20) ∧
  (∀ c, c < 16 → s.on TEST.TST_CTL_SLICE_EN c = true ∧ s.on TEST.TST_CTL_OD_EN c = true ∧ s.rd TEST.TST_CTL_REF_S c = 10 ∧
    s.on LOG.LOG_STAT_IS_DEFAULT c = true) ∧
  (∀ k, k < 4 → s.rd HBM.HBM_CARVE_BUDDY_GIB k = 4 ∧ s.on HBM.HBM_STAT_IN_SERVICE k = false)

end
end

