-- ==== Sys2Proof/WellFormed.lean ====
section
/-! DEFINITION. The commands that are well formed: each operand lies in the range of what it numbers (positions, contexts, queues,
pages, ports, lanes) and each frame or list has its length. The meanings are total on the others too. -/
namespace Sys2Proof

/-- A VF is one of 1 to 63 (R79). -/
def authorityOk (a : Authority) : Bool :=
  match a with
  | .tenant v => decide (1 ≤ v ∧ v < 64)
  | _ => true

/-- A result of ADMIT names a core position, and lanes of its DSA. -/
def admitOk (r : AdmitResult) : Bool := decide (r.core < 16) && (r.badRows ++ r.badCols).all (fun l => decide (l < 512))

/-- A result of MEMORY names a stack. -/
def stackOk (r : StackResult) : Bool := decide (r.stack < 4)

/-- The operands of a command lie in their ranges. -/
def Instr.wellFormed (i : Instr) : Bool :=
  match i with
  | .dronePor diodes => decide (diodes.length = 4)
  | .tcxoSelect _ => true
  | .dronePllLock => true
  | .tcxoLost _ => true
  | .mainPor diodes => decide (diodes.length = 4)
  | .mainPowerLoss => true
  | .droneBrownout => true
  | .perstAssert => true
  | .perstDeassert => true
  | .pllLockAlign diodes => decide (diodes.length = 4)
  | .ident => true
  | .firmwareStage _ => true
  | .fltEnterService => true
  | .memoryStage results badBanks => results.all stackOk && badBanks.all (fun b => decide (b.1 < 16 ∧ b.2 < 64))
  | .admitStage cores => cores.all admitOk
  | .calibStage => true
  | .serviceEntry => true
  | .stageOverrun trained banks cores _ windows => trained.all stackOk && banks.all (fun b => decide (b.1 < 16 ∧ b.2 < 64)) && cores.all admitOk && windows.all (fun c => decide (c < 16))
  | .profileReq port value => authorityOk port && decide (value < 2 ^ 64)
  | .coreRelock core => decide (core < 16)
  | .profileChangeDone => true
  | .throttleFall => true
  | .throttleRise => true
  | .thermalRevision => true
  | .regWrite port off len _ value => authorityOk port && decide (off < 2 ^ 28 + 4096) && decide (len < 4097) && decide (value < 2 ^ 64)
  | .rcRead port off len _ => authorityOk port && decide (off < 2 ^ 28 + 4096) && decide (len < 4097)
  | .coreMapLowRead port => authorityOk port
  | .chipRstReq port value => authorityOk port && decide (value < 2 ^ 64)
  | .blkLockSet port page => authorityOk port && decide (page < 1024)
  | .blkQuiesceWrite port page _ => authorityOk port && decide (page < 1024)
  | .blkTestHoldWrite port page _ => authorityOk port && decide (page < 1024)
  | .blkFenceWrite port page _ => authorityOk port && decide (page < 1024)
  | .blkEnableWrite port page _ => authorityOk port && decide (page < 1024)
  | .blkErrinjWrite port page value => authorityOk port && decide (page < 1024) && decide (value < 2 ^ 64)
  | .blkTokcfgWrite port page value => authorityOk port && decide (page < 1024) && decide (value < 2 ^ 64)
  | .doorbellWrite port off value => authorityOk port && decide (off < 2 ^ 28) && decide (value < 2 ^ 64)
  | .flrStart vf => decide (1 ≤ vf ∧ vf < 64)
  | .flrDone vf => decide (1 ≤ vf ∧ vf < 64)
  | .numvfsWrite value => decide (value < 2 ^ 64)
  | .vfEnableClear => true
  | .vfCtxWrite port vf value => authorityOk port && decide (1 ≤ vf ∧ vf < 64) && decide (value < 2 ^ 64)
  | .linkCorr _ => true
  | .poisonedCompletion _ => true
  | .poisonedWrite func off => decide (func < 64) && decide (off < 2 ^ 28)
  | .completionTimeout _ => true
  | .tlpBad _ => true
  | .linkDown => true
  | .hostDmaCompletion _ => true
  | .passStart core _ => decide (core < 16)
  | .passEnd core _ _ => decide (core < 16)
  | .readoutEnd core _ => decide (core < 16)
  | .checksumVerdict core => decide (core < 16)
  | .logCommit port core => authorityOk port && decide (core < 16)
  | .logDefault port core => authorityOk port && decide (core < 16)
  | .logCopyDone core => decide (core < 16)
  | .dsaCksumEnWrite port core _ => authorityOk port && decide (core < 16)
  | .dsaHoldWrite port core _ => authorityOk port && decide (core < 16)
  | .iadd core place => decide (core < 16) && decide (place < 128)
  | .isub core place => decide (core < 16) && decide (place < 128)
  | .imul core place => decide (core < 16) && decide (place < 128)
  | .and core place => decide (core < 16) && decide (place < 128)
  | .or core place => decide (core < 16) && decide (place < 128)
  | .xor core place => decide (core < 16) && decide (place < 128)
  | .shl core place => decide (core < 16) && decide (place < 128)
  | .shr core place => decide (core < 16) && decide (place < 128)
  | .sar core place => decide (core < 16) && decide (place < 128)
  | .icmp core place => decide (core < 16) && decide (place < 128)
  | .sel core place => decide (core < 16) && decide (place < 128)
  | .imin core place => decide (core < 16) && decide (place < 128)
  | .imax core place => decide (core < 16) && decide (place < 128)
  | .popc core place => decide (core < 16) && decide (place < 128)
  | .clz core place => decide (core < 16) && decide (place < 128)
  | .movi core place => decide (core < 16) && decide (place < 128)
  | .fadd core place => decide (core < 16) && decide (place < 128)
  | .fmul core place => decide (core < 16) && decide (place < 128)
  | .ffma core place => decide (core < 16) && decide (place < 128)
  | .fmin core place => decide (core < 16) && decide (place < 128)
  | .fmax core place => decide (core < 16) && decide (place < 128)
  | .fcmp core place => decide (core < 16) && decide (place < 128)
  | .fcvt core place => decide (core < 16) && decide (place < 128)
  | .frcp core place => decide (core < 16) && decide (place < 128)
  | .frsq core place => decide (core < 16) && decide (place < 128)
  | .fexp2 core place => decide (core < 16) && decide (place < 128)
  | .flog2 core place => decide (core < 16) && decide (place < 128)
  | .ld core place => decide (core < 16) && decide (place < 128)
  | .st core place => decide (core < 16) && decide (place < 128)
  | .redIadd core place => decide (core < 16) && decide (place < 128)
  | .atomIadd core place => decide (core < 16) && decide (place < 128)
  | .atomCas core place => decide (core < 16) && decide (place < 128)
  | .redFadd core place => decide (core < 16) && decide (place < 128)
  | .atomFadd core place => decide (core < 16) && decide (place < 128)
  | .rget core place => decide (core < 16) && decide (place < 128)
  | .rput core place => decide (core < 16) && decide (place < 128)
  | .rputO core place => decide (core < 16) && decide (place < 128)
  | .feed core place => decide (core < 16) && decide (place < 128)
  | .bra core place => decide (core < 16) && decide (place < 128)
  | .jmp core place => decide (core < 16) && decide (place < 128)
  | .exit core place => decide (core < 16) && decide (place < 128)
  | .gsync core place => decide (core < 16) && decide (place < 128)
  | .ksync core place => decide (core < 16) && decide (place < 128)
  | .shfl core place => decide (core < 16) && decide (place < 128)
  | .vote core place => decide (core < 16) && decide (place < 128)
  | .passD core place => decide (core < 16) && decide (place < 128)
  | .passE core place => decide (core < 16) && decide (place < 128)
  | .waitp core place => decide (core < 16) && decide (place < 128)
  | .signal core place => decide (core < 16) && decide (place < 128)
  | .waits core place => decide (core < 16) && decide (place < 128)
  | .rdtime core place => decide (core < 16) && decide (place < 128)
  | .rdcore core place => decide (core < 16) && decide (place < 128)
  | .rdcyc core place => decide (core < 16) && decide (place < 128)
  | .fence core place => decide (core < 16) && decide (place < 128)
  | .groupLaunch core => decide (core < 16)
  | .dispatchPlace _ => true
  | .dispatchComplete core _ => decide (core < 16)
  | .hbmOdeccReport stack => decide (stack < 4)
  | .hbmOdeccHour => true
  | .scrubStep _ unit => decide (unit < 16)
  | .pathRetryResult dst src _ _ _ => decide (dst < 1024) && decide (src < 1024)
  | .bankMigrationDone core => decide (core < 16)
  | .buddyGibWrite port stack value => authorityOk port && decide (stack < 4) && decide (value < 2 ^ 64)
  | .stackLeavesService stack => decide (stack < 4)
  | .entryFetch ctx queue => decide (ctx < 8192) && decide (queue < 64)
  | .nop ctx queue => decide (ctx < 8192) && decide (queue < 64)
  | .dispatch ctx queue => decide (ctx < 8192) && decide (queue < 64)
  | .copy ctx queue => decide (ctx < 8192) && decide (queue < 64)
  | .fill ctx queue => decide (ctx < 8192) && decide (queue < 64)
  | .sigAdd ctx queue => decide (ctx < 8192) && decide (queue < 64)
  | .sigWait ctx queue => decide (ctx < 8192) && decide (queue < 64)
  | .freeze ctx queue => decide (ctx < 8192) && decide (queue < 64)
  | .freezeEvict ctx queue => decide (ctx < 8192) && decide (queue < 64)
  | .thaw ctx queue => decide (ctx < 8192) && decide (queue < 64)
  | .ctxReset ctx queue => decide (ctx < 8192) && decide (queue < 64)
  | .ckpt ctx queue => decide (ctx < 8192) && decide (queue < 64)
  | .restore ctx queue => decide (ctx < 8192) && decide (queue < 64)
  | .coll ctx queue => decide (ctx < 8192) && decide (queue < 64)
  | .barrier ctx queue _ => decide (ctx < 8192) && decide (queue < 64)
  | .commandComplete ctx queue ssn => decide (ctx < 8192) && decide (queue < 64) && decide (ssn < 2 ^ 32)
  | .completionPost ctx queue => decide (ctx < 8192) && decide (queue < 64)
  | .modTimerExpire ctx => decide (ctx < 8192)
  | .cqCidxWrite port ctx value => authorityOk port && decide (ctx < 8192) && decide (value < 2 ^ 64)
  | .eqCidxWrite port ctx value => authorityOk port && decide (ctx < 8192) && decide (value < 2 ^ 64)
  | .ringCfgWrite port ctx sub value => authorityOk port && decide (ctx < 8192) && decide (sub < 256) && decide (value < 2 ^ 64)
  | .queueEnableWrite port ctx value => authorityOk port && decide (ctx < 8192) && decide (value < 2 ^ 64)
  | .assign port ctx owner => authorityOk port && decide (ctx < 8192) && decide (owner < 64)
  | .release port ctx => authorityOk port && decide (ctx < 8192)
  | .releaseDone ctx => decide (ctx < 8192)
  | .ctxCfgWrite port reg len value => authorityOk port && decide (reg < 4096) && decide (len < 4097) && decide (value < 2 ^ 64)
  | .ownCoresWrite port owner value => authorityOk port && decide (owner < 64) && decide (value < 2 ^ 64)
  | .shareWrite port quad owner len value => authorityOk port && decide (quad < 4) && decide (owner < 64) && decide (len < 4097) && decide (value < 2 ^ 64)
  | .nlDetect port lanes => decide (port < 16) && decide (lanes < 16)
  | .nlCapReceive port flit => decide (port < 16) && decide (flit.bytes.length = 256)
  | .nlTrainDone port lanes => decide (port < 16) && decide (lanes < 16)
  | .nlIdentReceive port flit => decide (port < 16) && decide (flit.bytes.length = 256)
  | .nlProbesDone port => decide (port < 16)
  | .nlCreditInit port flit => decide (port < 16) && decide (flit.bytes.length = 256)
  | .nlFailedRetry port lanes => decide (port < 16) && decide (lanes < 16)
  | .dataFlitReceive port flit => decide (port < 16) && decide (flit.bytes.length = 256)
  | .flitTransmit port => decide (port < 16)
  | .nakReceive port flit => decide (port < 16) && decide (flit.bytes.length = 256)
  | .ackTimeout port => decide (port < 16)
  | .widthReceive port flit => decide (port < 16) && decide (flit.bytes.length = 256)
  | .retrainDone port => decide (port < 16)
  | .routeStateReceive port flit => decide (port < 16) && decide (flit.bytes.length = 256)
  | .probeReceive port flit _ _ => decide (port < 16) && decide (flit.bytes.length = 256)
  | .probeReplyReceive port flit _ _ => decide (port < 16) && decide (flit.bytes.length = 256)
  | .nlProbeTimer port => decide (port < 16)
  | .laneFence port lane _ => decide (port < 16) && decide (lane < 4)
  | .pmaLockLoss port => decide (port < 16)
  | .fecAlignLoss port => decide (port < 16)
  | .retryTimerExpire port => decide (port < 16)
  | .nlReneg port nl => authorityOk port && decide (nl < 16)
  | .nlLaneUnfence port nl lanes => authorityOk port && decide (nl < 16) && decide (lanes < 16)
  | .routeEntWrite port value => authorityOk port && decide (value < 2 ^ 64)
  | .fabIdWrite port value => authorityOk port && decide (value < 2 ^ 64)
  | .routeWaitExpire _ => true
  | .orderedFlitReceive => true
  | .ordAckReceive => true
  | .ordRetransmit dst => decide (dst < 4096)
  | .lostNoticeReceive => true
  | .getReqReceive => true
  | .putReceive => true
  | .putOReceive => true
  | .getReplyReceive => true
  | .putAckReceive => true
  | .remoteTimeout _ => true
  | .collJoinReceive => true
  | .collGoReceive => true
  | .collDataReceive => true
  | .collReadyReceive => true
  | .collCommitReceive => true
  | .collDoneReceive => true
  | .collFinishReceive => true
  | .collAbortReceive => true
  | .collTimeout ctx _ => decide (ctx < 8192)
  | .barArriveReceive _ => true
  | .barReleaseReceive _ => true
  | .barrierRelease => true
  | .barAbortReceive => true
  | .barrierTimeout => true
  | .stepWrite port value => authorityOk port && decide (value < 2 ^ 64)
  | .peerInfoReceive => true
  | .fltTokenAccept => true
  | .moraineWrite => true
  | .moraineModTimer => true
  | .morEnWrite port value => authorityOk port && decide (value < 2 ^ 64)
  | .rateWindowEnd => true
  | .contextResetDrained ctx => decide (ctx < 8192)
  | .recoveredPost ctx => decide (ctx < 8192)
  | .engineResetDone result => admitOk result
  | .partitionResetDone quad _ results => decide (quad < 4) && results.all admitOk
  | .chipResetAssert => true
  | .powerCycleHold => true
  | .resetStepOverrun level domain core => decide (level < 16) && decide (domain < 8192) && core.all (fun c => decide (c < 16))
  | .progressWindowExpire page => decide (page < 1024)
  | .rstCmdEngine port key core => authorityOk port && decide (key < 2 ^ 16) && decide (core < 16)
  | .rstCmdPartition port key quad => authorityOk port && decide (key < 2 ^ 16) && decide (quad < 4)
  | .rstCmdPowerCycle port key => authorityOk port && decide (key < 2 ^ 16)
  | .capDmaGo port => authorityOk port
  | .capDmaDone _ => true
  | .soloWrite port value => authorityOk port && decide (value < 2 ^ 64)
  | .shadowPassStart core _ => decide (core < 16)
  | .shadowCompare core _ _ _ _ => decide (core < 16)
  | .thirdPassVerdict core _ _ => decide (core < 16)
  | .shadowHoldExpire entry => decide (entry < 256)
  | .sampleDeadline entry => decide (entry < 256)
  | .scoreDecay => true
  | .spareMap core => decide (core < 16)
  | .coreFence core => decide (core < 16)
  | .packLoad port => authorityOk port
  | .packAdmit _ => true
  | .sliceStart core => decide (core < 16)
  | .odClockSwitch core => decide (core < 16)
  | .sliceEnd core faults => decide (core < 16) && faults.all (fun f => decide (f.core < 16))
  | .refWindowDue core => decide (core < 16)
  | .qtestCore port quad target _ _ => authorityOk port && decide (quad < 4) && decide (target < 16)
  | .qtestVolt port quad _ => authorityOk port && decide (quad < 4)
  | .qtestPump port quad target _ => authorityOk port && decide (quad < 4) && decide (target < 16)
  | .qtestCancel port quad => authorityOk port && decide (quad < 4)
  | .testDrainDone quad => decide (quad < 4)
  | .testDrainTimeout quad => decide (quad < 4)
  | .testWaitTimeout quad => decide (quad < 4)
  | .voltLevelSettled quad => decide (quad < 4)
  | .avsSettleTimeout quad => decide (quad < 4)
  | .pumpGoalReached quad => decide (quad < 4)
  | .pumpGoalTimeout quad => decide (quad < 4)
  | .pumpHoldExpire quad => decide (quad < 4)
  | .pumpCooled quad => decide (quad < 4)
  | .marginTick margins => decide (margins.length = 16)
  | .estimateStale core => decide (core < 16)
  | .freezeComplete ctx => decide (ctx < 8192)
  | .thawComplete ctx => decide (ctx < 8192)
  | .ckptShardDone _ _ => true
  | .ckptSeal holder => decide (holder < 4096)
  | .buddyOfferReceive src _ _ _ => decide (src < 4096)
  | .buddyShardReceive src _ off _ => decide (src < 4096) && decide (off < 2 ^ 28)
  | .buddyManifestReceive src _ => decide (src < 4096)
  | .restoreDone _ _ _ => true
  | .firnAreaWrite port reg value => authorityOk port && decide (reg < 4096) && decide (value < 2 ^ 64)
  | .ctxImgWrite port value => authorityOk port && decide (value < 2 ^ 64)
  | .vmarkClr port ctx value => authorityOk port && decide (ctx < 8192) && decide (value < 2 ^ 64)
  | .sensorConversion raw => decide (raw.length = 72)
  | .sfenceClear port sensor => authorityOk port && decide (sensor < 72)
  | .grpCfgWrite port group value => authorityOk port && decide (group < 6) && decide (value < 2 ^ 64)
  | .thermtrip idx => decide (idx < 76)
  | .rcTrim _ => true
  | .vmonSample monitor _ => decide (monitor < 5)
  | .vmonRangeValid monitor _ => decide (monitor < 5)
  | .pwrTargetRun port => authorityOk port
  | .pwrTargetTrim port => authorityOk port
  | .pwrTargetDoze port => authorityOk port
  | .pwrTargetDrone port => authorityOk port
  | .dozeEntered => true
  | .droneEntered => true
  | .wakeEvent code port => decide (code < 16) && decide (port < 16)
  | .alarmExpire => true
  | .calCommit port type => authorityOk port && decide (type < 256)
  | .calWriteDone => true
  | .lcReqField port key => authorityOk port && decide (key < 2 ^ 16)
  | .lcReqReturn port key => authorityOk port && decide (key < 2 ^ 16)
  | .lcReqScrap port key => authorityOk port && decide (key < 2 ^ 16)
  | .tokenLoad port value => authorityOk port && decide (value < 2 ^ 64)
  | .dbgReqSealed port => authorityOk port
  | .dbgReqObserve port => authorityOk port
  | .dbgReqInvasive port => authorityOk port
  | .svnCommit port key => authorityOk port && decide (key < 2 ^ 16)
  | .fwUpdate port => authorityOk port
  | .fwUpdateDone _ _ => true
  | .tapBypass => true
  | .tapIdcode => true
  | .tapSamplePreload _ _ => true
  | .tapExtest _ _ => true
  | .tapSecstat => true
  | .tapToken data => decide (data.length = 128)
  | .tapDbgreq level => decide (level < 16)
  | .tapRegap data => decide (data < 2 ^ 66)
  | .tapMemap data => decide (data < 2 ^ 130)
  | .i3cAddressAssign _ static addr => decide (static < 128) && decide (addr < 128)
  | .i3cTransfer addr _ value => decide (addr < 2 ^ 32) && decide (value < 2 ^ 32)
  | .chanterWatchdogExpire => true
  | .chanterSramParity off => decide (off < 2 ^ 28)
  | .undefinedOpcode core place => decide (core < 16) && decide (place < 128)
  | .fetchOutOfRange core place => decide (core < 16) && decide (place < 128)
  | .vfEnableSet => true
  | .msixVectorUnmask func vec => decide (func < 64) && decide (vec < 2048)
  | .pcieLinkL0 _ _ _ => true
  | .dozeExitComplete => true
  | .nlForeignRetry port lanes => decide (port < 16) && decide (lanes < 16)
  | .barTreeWrite port value => authorityOk port && decide (value < 2 ^ 64)
  | .shadowEnWrite port _ => authorityOk port
  | .sliceEnClear port core => authorityOk port && decide (core < 16)
  | .sliceCoreChosen quad => decide (quad < 4)
  | .naturalRefWindow core => decide (core < 16)
  | .explicitPatternsDone quad faults => decide (quad < 4) && faults.all (fun f => decide (f.core < 16))
  | .lcFuseBurnDone => true
  | .buddyRefusalReceive src => decide (src < 4096)
  | .buddyResendRequestReceive src _ => decide (src < 4096)
  | .shardFetchRequestReceive src member _ _ _ => decide (src < 4096) && decide (member < 4096)

end Sys2Proof
end

