-- ==== Sys2Proof/Decode.lean ====
section
/-! DEFINITION. Words of the opcode table: the table gives no row any bits, so no word spells a command. -/
namespace Sys2Proof

/-- The command that a word spells: none, for every row of the table has an empty list of bit fields. -/
def decodeTableWord (_nbits _w : Nat) : Option Instr := none

end Sys2Proof
end

