-- ==== Sys2Proof/Laws/PerInstr.lean ====
section
/-! SUPPORT. What holds of every command as syntax: each row of the table has a well-formed command, so that WellFormed shuts out no
row. -/
namespace Sys2Proof.Laws.Admits
open Sys2Proof

/-- Some well-formed command is of the row of i. -/
def Statement (i : Instr) : Prop := ∃ j : Instr, j.ctorIdx = i.ctorIdx ∧ j.wellFormed = true

theorem dronePor (diodes : List Int) : Statement (.dronePor diodes) := ⟨.dronePor [0, 0, 0, 0], rfl, by decide⟩
theorem tcxoSelect (error : Option Int) : Statement (.tcxoSelect error) := ⟨.tcxoSelect none, rfl, by decide⟩
theorem dronePllLock : Statement (.dronePllLock) := ⟨.dronePllLock, rfl, by decide⟩
theorem tcxoLost (error : Option Int) : Statement (.tcxoLost error) := ⟨.tcxoLost none, rfl, by decide⟩
theorem mainPor (diodes : List Int) : Statement (.mainPor diodes) := ⟨.mainPor [0, 0, 0, 0], rfl, by decide⟩
theorem mainPowerLoss : Statement (.mainPowerLoss) := ⟨.mainPowerLoss, rfl, by decide⟩
theorem droneBrownout : Statement (.droneBrownout) := ⟨.droneBrownout, rfl, by decide⟩
theorem perstAssert : Statement (.perstAssert) := ⟨.perstAssert, rfl, by decide⟩
theorem perstDeassert : Statement (.perstDeassert) := ⟨.perstDeassert, rfl, by decide⟩
theorem pllLockAlign (diodes : List Int) : Statement (.pllLockAlign diodes) := ⟨.pllLockAlign [0, 0, 0, 0], rfl, by decide⟩
theorem ident : Statement (.ident) := ⟨.ident, rfl, by decide⟩
theorem firmwareStage (readable : Bool) : Statement (.firmwareStage readable) := ⟨.firmwareStage true, rfl, by decide⟩
theorem fltEnterService : Statement (.fltEnterService) := ⟨.fltEnterService, rfl, by decide⟩
theorem memoryStage (results : List StackResult) (badBanks : List (Nat × Nat)) : Statement (.memoryStage results badBanks) := ⟨.memoryStage [] [], rfl, by decide⟩
theorem admitStage (cores : List AdmitResult) : Statement (.admitStage cores) := ⟨.admitStage [], rfl, by decide⟩
theorem calibStage : Statement (.calibStage) := ⟨.calibStage, rfl, by decide⟩
theorem serviceEntry : Statement (.serviceEntry) := ⟨.serviceEntry, rfl, by decide⟩
theorem stageOverrun (trained : List StackResult) (banks : List (Nat × Nat)) (cores : List AdmitResult) (serdes : Bool) (windows : List Nat) : Statement (.stageOverrun trained banks cores serdes windows) := ⟨.stageOverrun [] [] [] true [], rfl, by decide⟩
theorem profileReq (port : Authority) (value : Nat) : Statement (.profileReq port value) := ⟨.profileReq .host 1, rfl, by decide⟩
theorem coreRelock (core : Nat) : Statement (.coreRelock core) := ⟨.coreRelock 1, rfl, by decide⟩
theorem profileChangeDone : Statement (.profileChangeDone) := ⟨.profileChangeDone, rfl, by decide⟩
theorem throttleFall : Statement (.throttleFall) := ⟨.throttleFall, rfl, by decide⟩
theorem throttleRise : Statement (.throttleRise) := ⟨.throttleRise, rfl, by decide⟩
theorem thermalRevision : Statement (.thermalRevision) := ⟨.thermalRevision, rfl, by decide⟩
theorem regWrite (port : Authority) (off : Nat) (len : Nat) (full : Bool) (value : Nat) : Statement (.regWrite port off len full value) := ⟨.regWrite .host 1 1 true 1, rfl, by decide⟩
theorem rcRead (port : Authority) (off : Nat) (len : Nat) (full : Bool) : Statement (.rcRead port off len full) := ⟨.rcRead .host 1 1 true, rfl, by decide⟩
theorem coreMapLowRead (port : Authority) : Statement (.coreMapLowRead port) := ⟨.coreMapLowRead .host, rfl, by decide⟩
theorem chipRstReq (port : Authority) (value : Nat) : Statement (.chipRstReq port value) := ⟨.chipRstReq .host 1, rfl, by decide⟩
theorem blkLockSet (port : Authority) (page : Nat) : Statement (.blkLockSet port page) := ⟨.blkLockSet .host 1, rfl, by decide⟩
theorem blkQuiesceWrite (port : Authority) (page : Nat) (on : Bool) : Statement (.blkQuiesceWrite port page on) := ⟨.blkQuiesceWrite .host 1 true, rfl, by decide⟩
theorem blkTestHoldWrite (port : Authority) (page : Nat) (on : Bool) : Statement (.blkTestHoldWrite port page on) := ⟨.blkTestHoldWrite .host 1 true, rfl, by decide⟩
theorem blkFenceWrite (port : Authority) (page : Nat) (on : Bool) : Statement (.blkFenceWrite port page on) := ⟨.blkFenceWrite .host 1 true, rfl, by decide⟩
theorem blkEnableWrite (port : Authority) (page : Nat) (on : Bool) : Statement (.blkEnableWrite port page on) := ⟨.blkEnableWrite .host 1 true, rfl, by decide⟩
theorem blkErrinjWrite (port : Authority) (page : Nat) (value : Nat) : Statement (.blkErrinjWrite port page value) := ⟨.blkErrinjWrite .host 1 1, rfl, by decide⟩
theorem blkTokcfgWrite (port : Authority) (page : Nat) (value : Nat) : Statement (.blkTokcfgWrite port page value) := ⟨.blkTokcfgWrite .host 1 1, rfl, by decide⟩
theorem doorbellWrite (port : Authority) (off : Nat) (value : Nat) : Statement (.doorbellWrite port off value) := ⟨.doorbellWrite .host 1 1, rfl, by decide⟩
theorem flrStart (vf : Nat) : Statement (.flrStart vf) := ⟨.flrStart 1, rfl, by decide⟩
theorem flrDone (vf : Nat) : Statement (.flrDone vf) := ⟨.flrDone 1, rfl, by decide⟩
theorem numvfsWrite (value : Nat) : Statement (.numvfsWrite value) := ⟨.numvfsWrite 1, rfl, by decide⟩
theorem vfEnableClear : Statement (.vfEnableClear) := ⟨.vfEnableClear, rfl, by decide⟩
theorem vfCtxWrite (port : Authority) (vf : Nat) (value : Nat) : Statement (.vfCtxWrite port vf value) := ⟨.vfCtxWrite .host 1 1, rfl, by decide⟩
theorem linkCorr (status : Nat) : Statement (.linkCorr status) := ⟨.linkCorr 1, rfl, by decide⟩
theorem poisonedCompletion (tag : Nat) : Statement (.poisonedCompletion tag) := ⟨.poisonedCompletion 1, rfl, by decide⟩
theorem poisonedWrite (func : Nat) (off : Nat) : Statement (.poisonedWrite func off) := ⟨.poisonedWrite 1 1, rfl, by decide⟩
theorem completionTimeout (tag : Nat) : Statement (.completionTimeout tag) := ⟨.completionTimeout 1, rfl, by decide⟩
theorem tlpBad (status : Nat) : Statement (.tlpBad status) := ⟨.tlpBad 1, rfl, by decide⟩
theorem linkDown : Statement (.linkDown) := ⟨.linkDown, rfl, by decide⟩
theorem hostDmaCompletion (tag : Nat) : Statement (.hostDmaCompletion tag) := ⟨.hostDmaCompletion 1, rfl, by decide⟩
theorem passStart (core : Nat) (exact : Bool) : Statement (.passStart core exact) := ⟨.passStart 1 true, rfl, by decide⟩
theorem passEnd (core : Nat) (exact : Bool) (faults : List (Nat × Int)) : Statement (.passEnd core exact faults) := ⟨.passEnd 1 true [], rfl, by decide⟩
theorem readoutEnd (core : Nat) (exact : Bool) : Statement (.readoutEnd core exact) := ⟨.readoutEnd 1 true, rfl, by decide⟩
theorem checksumVerdict (core : Nat) : Statement (.checksumVerdict core) := ⟨.checksumVerdict 1, rfl, by decide⟩
theorem logCommit (port : Authority) (core : Nat) : Statement (.logCommit port core) := ⟨.logCommit .host 1, rfl, by decide⟩
theorem logDefault (port : Authority) (core : Nat) : Statement (.logDefault port core) := ⟨.logDefault .host 1, rfl, by decide⟩
theorem logCopyDone (core : Nat) : Statement (.logCopyDone core) := ⟨.logCopyDone 1, rfl, by decide⟩
theorem dsaCksumEnWrite (port : Authority) (core : Nat) (on : Bool) : Statement (.dsaCksumEnWrite port core on) := ⟨.dsaCksumEnWrite .host 1 true, rfl, by decide⟩
theorem dsaHoldWrite (port : Authority) (core : Nat) (on : Bool) : Statement (.dsaHoldWrite port core on) := ⟨.dsaHoldWrite .host 1 true, rfl, by decide⟩
theorem iadd (core : Nat) (place : Nat) : Statement (.iadd core place) := ⟨.iadd 1 1, rfl, by decide⟩
theorem isub (core : Nat) (place : Nat) : Statement (.isub core place) := ⟨.isub 1 1, rfl, by decide⟩
theorem imul (core : Nat) (place : Nat) : Statement (.imul core place) := ⟨.imul 1 1, rfl, by decide⟩
theorem and (core : Nat) (place : Nat) : Statement (.and core place) := ⟨.and 1 1, rfl, by decide⟩
theorem or (core : Nat) (place : Nat) : Statement (.or core place) := ⟨.or 1 1, rfl, by decide⟩
theorem xor (core : Nat) (place : Nat) : Statement (.xor core place) := ⟨.xor 1 1, rfl, by decide⟩
theorem shl (core : Nat) (place : Nat) : Statement (.shl core place) := ⟨.shl 1 1, rfl, by decide⟩
theorem shr (core : Nat) (place : Nat) : Statement (.shr core place) := ⟨.shr 1 1, rfl, by decide⟩
theorem sar (core : Nat) (place : Nat) : Statement (.sar core place) := ⟨.sar 1 1, rfl, by decide⟩
theorem icmp (core : Nat) (place : Nat) : Statement (.icmp core place) := ⟨.icmp 1 1, rfl, by decide⟩
theorem sel (core : Nat) (place : Nat) : Statement (.sel core place) := ⟨.sel 1 1, rfl, by decide⟩
theorem imin (core : Nat) (place : Nat) : Statement (.imin core place) := ⟨.imin 1 1, rfl, by decide⟩
theorem imax (core : Nat) (place : Nat) : Statement (.imax core place) := ⟨.imax 1 1, rfl, by decide⟩
theorem popc (core : Nat) (place : Nat) : Statement (.popc core place) := ⟨.popc 1 1, rfl, by decide⟩
theorem clz (core : Nat) (place : Nat) : Statement (.clz core place) := ⟨.clz 1 1, rfl, by decide⟩
theorem movi (core : Nat) (place : Nat) : Statement (.movi core place) := ⟨.movi 1 1, rfl, by decide⟩
theorem fadd (core : Nat) (place : Nat) : Statement (.fadd core place) := ⟨.fadd 1 1, rfl, by decide⟩
theorem fmul (core : Nat) (place : Nat) : Statement (.fmul core place) := ⟨.fmul 1 1, rfl, by decide⟩
theorem ffma (core : Nat) (place : Nat) : Statement (.ffma core place) := ⟨.ffma 1 1, rfl, by decide⟩
theorem fmin (core : Nat) (place : Nat) : Statement (.fmin core place) := ⟨.fmin 1 1, rfl, by decide⟩
theorem fmax (core : Nat) (place : Nat) : Statement (.fmax core place) := ⟨.fmax 1 1, rfl, by decide⟩
theorem fcmp (core : Nat) (place : Nat) : Statement (.fcmp core place) := ⟨.fcmp 1 1, rfl, by decide⟩
theorem fcvt (core : Nat) (place : Nat) : Statement (.fcvt core place) := ⟨.fcvt 1 1, rfl, by decide⟩
theorem frcp (core : Nat) (place : Nat) : Statement (.frcp core place) := ⟨.frcp 1 1, rfl, by decide⟩
theorem frsq (core : Nat) (place : Nat) : Statement (.frsq core place) := ⟨.frsq 1 1, rfl, by decide⟩
theorem fexp2 (core : Nat) (place : Nat) : Statement (.fexp2 core place) := ⟨.fexp2 1 1, rfl, by decide⟩
theorem flog2 (core : Nat) (place : Nat) : Statement (.flog2 core place) := ⟨.flog2 1 1, rfl, by decide⟩
theorem ld (core : Nat) (place : Nat) : Statement (.ld core place) := ⟨.ld 1 1, rfl, by decide⟩
theorem st (core : Nat) (place : Nat) : Statement (.st core place) := ⟨.st 1 1, rfl, by decide⟩
theorem redIadd (core : Nat) (place : Nat) : Statement (.redIadd core place) := ⟨.redIadd 1 1, rfl, by decide⟩
theorem atomIadd (core : Nat) (place : Nat) : Statement (.atomIadd core place) := ⟨.atomIadd 1 1, rfl, by decide⟩
theorem atomCas (core : Nat) (place : Nat) : Statement (.atomCas core place) := ⟨.atomCas 1 1, rfl, by decide⟩
theorem redFadd (core : Nat) (place : Nat) : Statement (.redFadd core place) := ⟨.redFadd 1 1, rfl, by decide⟩
theorem atomFadd (core : Nat) (place : Nat) : Statement (.atomFadd core place) := ⟨.atomFadd 1 1, rfl, by decide⟩
theorem rget (core : Nat) (place : Nat) : Statement (.rget core place) := ⟨.rget 1 1, rfl, by decide⟩
theorem rput (core : Nat) (place : Nat) : Statement (.rput core place) := ⟨.rput 1 1, rfl, by decide⟩
theorem rputO (core : Nat) (place : Nat) : Statement (.rputO core place) := ⟨.rputO 1 1, rfl, by decide⟩
theorem feed (core : Nat) (place : Nat) : Statement (.feed core place) := ⟨.feed 1 1, rfl, by decide⟩
theorem bra (core : Nat) (place : Nat) : Statement (.bra core place) := ⟨.bra 1 1, rfl, by decide⟩
theorem jmp (core : Nat) (place : Nat) : Statement (.jmp core place) := ⟨.jmp 1 1, rfl, by decide⟩
theorem exit (core : Nat) (place : Nat) : Statement (.exit core place) := ⟨.exit 1 1, rfl, by decide⟩
theorem gsync (core : Nat) (place : Nat) : Statement (.gsync core place) := ⟨.gsync 1 1, rfl, by decide⟩
theorem ksync (core : Nat) (place : Nat) : Statement (.ksync core place) := ⟨.ksync 1 1, rfl, by decide⟩
theorem shfl (core : Nat) (place : Nat) : Statement (.shfl core place) := ⟨.shfl 1 1, rfl, by decide⟩
theorem vote (core : Nat) (place : Nat) : Statement (.vote core place) := ⟨.vote 1 1, rfl, by decide⟩
theorem passD (core : Nat) (place : Nat) : Statement (.passD core place) := ⟨.passD 1 1, rfl, by decide⟩
theorem passE (core : Nat) (place : Nat) : Statement (.passE core place) := ⟨.passE 1 1, rfl, by decide⟩
theorem waitp (core : Nat) (place : Nat) : Statement (.waitp core place) := ⟨.waitp 1 1, rfl, by decide⟩
theorem signal (core : Nat) (place : Nat) : Statement (.signal core place) := ⟨.signal 1 1, rfl, by decide⟩
theorem waits (core : Nat) (place : Nat) : Statement (.waits core place) := ⟨.waits 1 1, rfl, by decide⟩
theorem rdtime (core : Nat) (place : Nat) : Statement (.rdtime core place) := ⟨.rdtime 1 1, rfl, by decide⟩
theorem rdcore (core : Nat) (place : Nat) : Statement (.rdcore core place) := ⟨.rdcore 1 1, rfl, by decide⟩
theorem rdcyc (core : Nat) (place : Nat) : Statement (.rdcyc core place) := ⟨.rdcyc 1 1, rfl, by decide⟩
theorem fence (core : Nat) (place : Nat) : Statement (.fence core place) := ⟨.fence 1 1, rfl, by decide⟩
theorem groupLaunch (core : Nat) : Statement (.groupLaunch core) := ⟨.groupLaunch 1, rfl, by decide⟩
theorem dispatchPlace (dispatch : Nat) : Statement (.dispatchPlace dispatch) := ⟨.dispatchPlace 1, rfl, by decide⟩
theorem dispatchComplete (core : Nat) (dispatch : Nat) : Statement (.dispatchComplete core dispatch) := ⟨.dispatchComplete 1 1, rfl, by decide⟩
theorem hbmOdeccReport (stack : Nat) : Statement (.hbmOdeccReport stack) := ⟨.hbmOdeccReport 1, rfl, by decide⟩
theorem hbmOdeccHour : Statement (.hbmOdeccHour) := ⟨.hbmOdeccHour, rfl, by decide⟩
theorem scrubStep (hbm : Bool) (unit : Nat) : Statement (.scrubStep hbm unit) := ⟨.scrubStep true 1, rfl, by decide⟩
theorem pathRetryResult (dst : Nat) (src : Nat) (addr : Nat) (good : Bool) (equal : Bool) : Statement (.pathRetryResult dst src addr good equal) := ⟨.pathRetryResult 1 1 1 true true, rfl, by decide⟩
theorem bankMigrationDone (core : Nat) : Statement (.bankMigrationDone core) := ⟨.bankMigrationDone 1, rfl, by decide⟩
theorem buddyGibWrite (port : Authority) (stack : Nat) (value : Nat) : Statement (.buddyGibWrite port stack value) := ⟨.buddyGibWrite .host 1 1, rfl, by decide⟩
theorem stackLeavesService (stack : Nat) : Statement (.stackLeavesService stack) := ⟨.stackLeavesService 1, rfl, by decide⟩
theorem entryFetch (ctx : Nat) (queue : Nat) : Statement (.entryFetch ctx queue) := ⟨.entryFetch 1 1, rfl, by decide⟩
theorem nop (ctx : Nat) (queue : Nat) : Statement (.nop ctx queue) := ⟨.nop 1 1, rfl, by decide⟩
theorem dispatch (ctx : Nat) (queue : Nat) : Statement (.dispatch ctx queue) := ⟨.dispatch 1 1, rfl, by decide⟩
theorem copy (ctx : Nat) (queue : Nat) : Statement (.copy ctx queue) := ⟨.copy 1 1, rfl, by decide⟩
theorem fill (ctx : Nat) (queue : Nat) : Statement (.fill ctx queue) := ⟨.fill 1 1, rfl, by decide⟩
theorem sigAdd (ctx : Nat) (queue : Nat) : Statement (.sigAdd ctx queue) := ⟨.sigAdd 1 1, rfl, by decide⟩
theorem sigWait (ctx : Nat) (queue : Nat) : Statement (.sigWait ctx queue) := ⟨.sigWait 1 1, rfl, by decide⟩
theorem freeze (ctx : Nat) (queue : Nat) : Statement (.freeze ctx queue) := ⟨.freeze 1 1, rfl, by decide⟩
theorem freezeEvict (ctx : Nat) (queue : Nat) : Statement (.freezeEvict ctx queue) := ⟨.freezeEvict 1 1, rfl, by decide⟩
theorem thaw (ctx : Nat) (queue : Nat) : Statement (.thaw ctx queue) := ⟨.thaw 1 1, rfl, by decide⟩
theorem ctxReset (ctx : Nat) (queue : Nat) : Statement (.ctxReset ctx queue) := ⟨.ctxReset 1 1, rfl, by decide⟩
theorem ckpt (ctx : Nat) (queue : Nat) : Statement (.ckpt ctx queue) := ⟨.ckpt 1 1, rfl, by decide⟩
theorem restore (ctx : Nat) (queue : Nat) : Statement (.restore ctx queue) := ⟨.restore 1 1, rfl, by decide⟩
theorem coll (ctx : Nat) (queue : Nat) : Statement (.coll ctx queue) := ⟨.coll 1 1, rfl, by decide⟩
theorem barrier (ctx : Nat) (queue : Nat) (dwell : Nat) : Statement (.barrier ctx queue dwell) := ⟨.barrier 1 1 1, rfl, by decide⟩
theorem commandComplete (ctx : Nat) (queue : Nat) (ssn : Nat) : Statement (.commandComplete ctx queue ssn) := ⟨.commandComplete 1 1 1, rfl, by decide⟩
theorem completionPost (ctx : Nat) (queue : Nat) : Statement (.completionPost ctx queue) := ⟨.completionPost 1 1, rfl, by decide⟩
theorem modTimerExpire (ctx : Nat) : Statement (.modTimerExpire ctx) := ⟨.modTimerExpire 1, rfl, by decide⟩
theorem cqCidxWrite (port : Authority) (ctx : Nat) (value : Nat) : Statement (.cqCidxWrite port ctx value) := ⟨.cqCidxWrite .host 1 1, rfl, by decide⟩
theorem eqCidxWrite (port : Authority) (ctx : Nat) (value : Nat) : Statement (.eqCidxWrite port ctx value) := ⟨.eqCidxWrite .host 1 1, rfl, by decide⟩
theorem ringCfgWrite (port : Authority) (ctx : Nat) (sub : Nat) (value : Nat) : Statement (.ringCfgWrite port ctx sub value) := ⟨.ringCfgWrite .host 1 1 1, rfl, by decide⟩
theorem queueEnableWrite (port : Authority) (ctx : Nat) (value : Nat) : Statement (.queueEnableWrite port ctx value) := ⟨.queueEnableWrite .host 1 1, rfl, by decide⟩
theorem assign (port : Authority) (ctx : Nat) (owner : Nat) : Statement (.assign port ctx owner) := ⟨.assign .host 1 1, rfl, by decide⟩
theorem release (port : Authority) (ctx : Nat) : Statement (.release port ctx) := ⟨.release .host 1, rfl, by decide⟩
theorem releaseDone (ctx : Nat) : Statement (.releaseDone ctx) := ⟨.releaseDone 1, rfl, by decide⟩
theorem ctxCfgWrite (port : Authority) (reg : Nat) (len : Nat) (value : Nat) : Statement (.ctxCfgWrite port reg len value) := ⟨.ctxCfgWrite .host 1 1 1, rfl, by decide⟩
theorem ownCoresWrite (port : Authority) (owner : Nat) (value : Nat) : Statement (.ownCoresWrite port owner value) := ⟨.ownCoresWrite .host 1 1, rfl, by decide⟩
theorem shareWrite (port : Authority) (quad : Nat) (owner : Nat) (len : Nat) (value : Nat) : Statement (.shareWrite port quad owner len value) := ⟨.shareWrite .host 1 1 1 1, rfl, by decide⟩
theorem nlDetect (port : Nat) (lanes : Nat) : Statement (.nlDetect port lanes) := ⟨.nlDetect 1 1, rfl, by decide⟩
theorem nlCapReceive (port : Nat) (flit : Flit) : Statement (.nlCapReceive port flit) := ⟨.nlCapReceive 1 ⟨List.replicate 256 0#8⟩, rfl, by decide +kernel⟩
theorem nlTrainDone (port : Nat) (lanes : Nat) : Statement (.nlTrainDone port lanes) := ⟨.nlTrainDone 1 1, rfl, by decide⟩
theorem nlIdentReceive (port : Nat) (flit : Flit) : Statement (.nlIdentReceive port flit) := ⟨.nlIdentReceive 1 ⟨List.replicate 256 0#8⟩, rfl, by decide +kernel⟩
theorem nlProbesDone (port : Nat) : Statement (.nlProbesDone port) := ⟨.nlProbesDone 1, rfl, by decide⟩
theorem nlCreditInit (port : Nat) (flit : Flit) : Statement (.nlCreditInit port flit) := ⟨.nlCreditInit 1 ⟨List.replicate 256 0#8⟩, rfl, by decide +kernel⟩
theorem nlFailedRetry (port : Nat) (lanes : Nat) : Statement (.nlFailedRetry port lanes) := ⟨.nlFailedRetry 1 1, rfl, by decide⟩
theorem dataFlitReceive (port : Nat) (flit : Flit) : Statement (.dataFlitReceive port flit) := ⟨.dataFlitReceive 1 ⟨List.replicate 256 0#8⟩, rfl, by decide +kernel⟩
theorem flitTransmit (port : Nat) : Statement (.flitTransmit port) := ⟨.flitTransmit 1, rfl, by decide⟩
theorem nakReceive (port : Nat) (flit : Flit) : Statement (.nakReceive port flit) := ⟨.nakReceive 1 ⟨List.replicate 256 0#8⟩, rfl, by decide +kernel⟩
theorem ackTimeout (port : Nat) : Statement (.ackTimeout port) := ⟨.ackTimeout 1, rfl, by decide⟩
theorem widthReceive (port : Nat) (flit : Flit) : Statement (.widthReceive port flit) := ⟨.widthReceive 1 ⟨List.replicate 256 0#8⟩, rfl, by decide +kernel⟩
theorem retrainDone (port : Nat) : Statement (.retrainDone port) := ⟨.retrainDone 1, rfl, by decide⟩
theorem routeStateReceive (port : Nat) (flit : Flit) : Statement (.routeStateReceive port flit) := ⟨.routeStateReceive 1 ⟨List.replicate 256 0#8⟩, rfl, by decide +kernel⟩
theorem probeReceive (port : Nat) (flit : Flit) (t2 : Nat) (t3 : Nat) : Statement (.probeReceive port flit t2 t3) := ⟨.probeReceive 1 ⟨List.replicate 256 0#8⟩ 1 1, rfl, by decide +kernel⟩
theorem probeReplyReceive (port : Nat) (flit : Flit) (t1 : Nat) (t4 : Nat) : Statement (.probeReplyReceive port flit t1 t4) := ⟨.probeReplyReceive 1 ⟨List.replicate 256 0#8⟩ 1 1, rfl, by decide +kernel⟩
theorem nlProbeTimer (port : Nat) : Statement (.nlProbeTimer port) := ⟨.nlProbeTimer 1, rfl, by decide⟩
theorem laneFence (port : Nat) (lane : Nat) (corrected : Nat) : Statement (.laneFence port lane corrected) := ⟨.laneFence 1 1 1, rfl, by decide⟩
theorem pmaLockLoss (port : Nat) : Statement (.pmaLockLoss port) := ⟨.pmaLockLoss 1, rfl, by decide⟩
theorem fecAlignLoss (port : Nat) : Statement (.fecAlignLoss port) := ⟨.fecAlignLoss 1, rfl, by decide⟩
theorem retryTimerExpire (port : Nat) : Statement (.retryTimerExpire port) := ⟨.retryTimerExpire 1, rfl, by decide⟩
theorem nlReneg (port : Authority) (nl : Nat) : Statement (.nlReneg port nl) := ⟨.nlReneg .host 1, rfl, by decide⟩
theorem nlLaneUnfence (port : Authority) (nl : Nat) (lanes : Nat) : Statement (.nlLaneUnfence port nl lanes) := ⟨.nlLaneUnfence .host 1 1, rfl, by decide⟩
theorem routeEntWrite (port : Authority) (value : Nat) : Statement (.routeEntWrite port value) := ⟨.routeEntWrite .host 1, rfl, by decide⟩
theorem fabIdWrite (port : Authority) (value : Nat) : Statement (.fabIdWrite port value) := ⟨.fabIdWrite .host 1, rfl, by decide⟩
theorem routeWaitExpire (n : Nat) : Statement (.routeWaitExpire n) := ⟨.routeWaitExpire 1, rfl, by decide⟩
theorem orderedFlitReceive : Statement (.orderedFlitReceive) := ⟨.orderedFlitReceive, rfl, by decide⟩
theorem ordAckReceive : Statement (.ordAckReceive) := ⟨.ordAckReceive, rfl, by decide⟩
theorem ordRetransmit (dst : Nat) : Statement (.ordRetransmit dst) := ⟨.ordRetransmit 1, rfl, by decide⟩
theorem lostNoticeReceive : Statement (.lostNoticeReceive) := ⟨.lostNoticeReceive, rfl, by decide⟩
theorem getReqReceive : Statement (.getReqReceive) := ⟨.getReqReceive, rfl, by decide⟩
theorem putReceive : Statement (.putReceive) := ⟨.putReceive, rfl, by decide⟩
theorem putOReceive : Statement (.putOReceive) := ⟨.putOReceive, rfl, by decide⟩
theorem getReplyReceive : Statement (.getReplyReceive) := ⟨.getReplyReceive, rfl, by decide⟩
theorem putAckReceive : Statement (.putAckReceive) := ⟨.putAckReceive, rfl, by decide⟩
theorem remoteTimeout (tag : Nat) : Statement (.remoteTimeout tag) := ⟨.remoteTimeout 1, rfl, by decide⟩
theorem collJoinReceive : Statement (.collJoinReceive) := ⟨.collJoinReceive, rfl, by decide⟩
theorem collGoReceive : Statement (.collGoReceive) := ⟨.collGoReceive, rfl, by decide⟩
theorem collDataReceive : Statement (.collDataReceive) := ⟨.collDataReceive, rfl, by decide⟩
theorem collReadyReceive : Statement (.collReadyReceive) := ⟨.collReadyReceive, rfl, by decide⟩
theorem collCommitReceive : Statement (.collCommitReceive) := ⟨.collCommitReceive, rfl, by decide⟩
theorem collDoneReceive : Statement (.collDoneReceive) := ⟨.collDoneReceive, rfl, by decide⟩
theorem collFinishReceive : Statement (.collFinishReceive) := ⟨.collFinishReceive, rfl, by decide⟩
theorem collAbortReceive : Statement (.collAbortReceive) := ⟨.collAbortReceive, rfl, by decide⟩
theorem collTimeout (ctx : Nat) (cgen : Nat) : Statement (.collTimeout ctx cgen) := ⟨.collTimeout 1 1, rfl, by decide⟩
theorem barArriveReceive (dwell : Nat) : Statement (.barArriveReceive dwell) := ⟨.barArriveReceive 1, rfl, by decide⟩
theorem barReleaseReceive (dwell : Nat) : Statement (.barReleaseReceive dwell) := ⟨.barReleaseReceive 1, rfl, by decide⟩
theorem barrierRelease : Statement (.barrierRelease) := ⟨.barrierRelease, rfl, by decide⟩
theorem barAbortReceive : Statement (.barAbortReceive) := ⟨.barAbortReceive, rfl, by decide⟩
theorem barrierTimeout : Statement (.barrierTimeout) := ⟨.barrierTimeout, rfl, by decide⟩
theorem stepWrite (port : Authority) (value : Nat) : Statement (.stepWrite port value) := ⟨.stepWrite .host 1, rfl, by decide⟩
theorem peerInfoReceive : Statement (.peerInfoReceive) := ⟨.peerInfoReceive, rfl, by decide⟩
theorem fltTokenAccept : Statement (.fltTokenAccept) := ⟨.fltTokenAccept, rfl, by decide⟩
theorem moraineWrite : Statement (.moraineWrite) := ⟨.moraineWrite, rfl, by decide⟩
theorem moraineModTimer : Statement (.moraineModTimer) := ⟨.moraineModTimer, rfl, by decide⟩
theorem morEnWrite (port : Authority) (value : Nat) : Statement (.morEnWrite port value) := ⟨.morEnWrite .host 1, rfl, by decide⟩
theorem rateWindowEnd : Statement (.rateWindowEnd) := ⟨.rateWindowEnd, rfl, by decide⟩
theorem contextResetDrained (ctx : Nat) : Statement (.contextResetDrained ctx) := ⟨.contextResetDrained 1, rfl, by decide⟩
theorem recoveredPost (ctx : Nat) : Statement (.recoveredPost ctx) := ⟨.recoveredPost 1, rfl, by decide⟩
theorem engineResetDone (result : AdmitResult) : Statement (.engineResetDone result) := ⟨.engineResetDone ⟨1, none, none, [], []⟩, rfl, by decide⟩
theorem partitionResetDone (quad : Nat) (trained : Bool) (results : List AdmitResult) : Statement (.partitionResetDone quad trained results) := ⟨.partitionResetDone 1 true [], rfl, by decide⟩
theorem chipResetAssert : Statement (.chipResetAssert) := ⟨.chipResetAssert, rfl, by decide⟩
theorem powerCycleHold : Statement (.powerCycleHold) := ⟨.powerCycleHold, rfl, by decide⟩
theorem resetStepOverrun (level : Nat) (domain : Nat) (core : Option Nat) : Statement (.resetStepOverrun level domain core) := ⟨.resetStepOverrun 1 1 none, rfl, by decide⟩
theorem progressWindowExpire (page : Nat) : Statement (.progressWindowExpire page) := ⟨.progressWindowExpire 1, rfl, by decide⟩
theorem rstCmdEngine (port : Authority) (key : Nat) (core : Nat) : Statement (.rstCmdEngine port key core) := ⟨.rstCmdEngine .host 1 1, rfl, by decide⟩
theorem rstCmdPartition (port : Authority) (key : Nat) (quad : Nat) : Statement (.rstCmdPartition port key quad) := ⟨.rstCmdPartition .host 1 1, rfl, by decide⟩
theorem rstCmdPowerCycle (port : Authority) (key : Nat) : Statement (.rstCmdPowerCycle port key) := ⟨.rstCmdPowerCycle .host 1, rfl, by decide⟩
theorem capDmaGo (port : Authority) : Statement (.capDmaGo port) := ⟨.capDmaGo .host, rfl, by decide⟩
theorem capDmaDone (ok : Bool) : Statement (.capDmaDone ok) := ⟨.capDmaDone true, rfl, by decide⟩
theorem soloWrite (port : Authority) (value : Nat) : Statement (.soloWrite port value) := ⟨.soloWrite .host 1, rfl, by decide⟩
theorem shadowPassStart (core : Nat) (exact : Bool) : Statement (.shadowPassStart core exact) := ⟨.shadowPassStart 1 true, rfl, by decide⟩
theorem shadowCompare (core : Nat) (exact : Bool) (faults : List (Nat × Int)) (parity : Bool) (missed : Bool) : Statement (.shadowCompare core exact faults parity missed) := ⟨.shadowCompare 1 true [] true true, rfl, by decide⟩
theorem thirdPassVerdict (core : Nat) (exact : Bool) (faults : List (Nat × Int)) : Statement (.thirdPassVerdict core exact faults) := ⟨.thirdPassVerdict 1 true [], rfl, by decide⟩
theorem shadowHoldExpire (entry : Nat) : Statement (.shadowHoldExpire entry) := ⟨.shadowHoldExpire 1, rfl, by decide⟩
theorem sampleDeadline (entry : Nat) : Statement (.sampleDeadline entry) := ⟨.sampleDeadline 1, rfl, by decide⟩
theorem scoreDecay : Statement (.scoreDecay) := ⟨.scoreDecay, rfl, by decide⟩
theorem spareMap (core : Nat) : Statement (.spareMap core) := ⟨.spareMap 1, rfl, by decide⟩
theorem coreFence (core : Nat) : Statement (.coreFence core) := ⟨.coreFence 1, rfl, by decide⟩
theorem packLoad (port : Authority) : Statement (.packLoad port) := ⟨.packLoad .host, rfl, by decide⟩
theorem packAdmit (readOk : Bool) : Statement (.packAdmit readOk) := ⟨.packAdmit true, rfl, by decide⟩
theorem sliceStart (core : Nat) : Statement (.sliceStart core) := ⟨.sliceStart 1, rfl, by decide⟩
theorem odClockSwitch (core : Nat) : Statement (.odClockSwitch core) := ⟨.odClockSwitch 1, rfl, by decide⟩
theorem sliceEnd (core : Nat) (faults : List PatFault) : Statement (.sliceEnd core faults) := ⟨.sliceEnd 1 [], rfl, by decide⟩
theorem refWindowDue (core : Nat) : Statement (.refWindowDue core) := ⟨.refWindowDue 1, rfl, by decide⟩
theorem qtestCore (port : Authority) (quad : Nat) (target : Nat) (drain : Bool) (od : Bool) : Statement (.qtestCore port quad target drain od) := ⟨.qtestCore .host 1 1 true true, rfl, by decide⟩
theorem qtestVolt (port : Authority) (quad : Nat) (drain : Bool) : Statement (.qtestVolt port quad drain) := ⟨.qtestVolt .host 1 true, rfl, by decide⟩
theorem qtestPump (port : Authority) (quad : Nat) (target : Nat) (drain : Bool) : Statement (.qtestPump port quad target drain) := ⟨.qtestPump .host 1 1 true, rfl, by decide⟩
theorem qtestCancel (port : Authority) (quad : Nat) : Statement (.qtestCancel port quad) := ⟨.qtestCancel .host 1, rfl, by decide⟩
theorem testDrainDone (quad : Nat) : Statement (.testDrainDone quad) := ⟨.testDrainDone 1, rfl, by decide⟩
theorem testDrainTimeout (quad : Nat) : Statement (.testDrainTimeout quad) := ⟨.testDrainTimeout 1, rfl, by decide⟩
theorem testWaitTimeout (quad : Nat) : Statement (.testWaitTimeout quad) := ⟨.testWaitTimeout 1, rfl, by decide⟩
theorem voltLevelSettled (quad : Nat) : Statement (.voltLevelSettled quad) := ⟨.voltLevelSettled 1, rfl, by decide⟩
theorem avsSettleTimeout (quad : Nat) : Statement (.avsSettleTimeout quad) := ⟨.avsSettleTimeout 1, rfl, by decide⟩
theorem pumpGoalReached (quad : Nat) : Statement (.pumpGoalReached quad) := ⟨.pumpGoalReached 1, rfl, by decide⟩
theorem pumpGoalTimeout (quad : Nat) : Statement (.pumpGoalTimeout quad) := ⟨.pumpGoalTimeout 1, rfl, by decide⟩
theorem pumpHoldExpire (quad : Nat) : Statement (.pumpHoldExpire quad) := ⟨.pumpHoldExpire 1, rfl, by decide⟩
theorem pumpCooled (quad : Nat) : Statement (.pumpCooled quad) := ⟨.pumpCooled 1, rfl, by decide⟩
theorem marginTick (margins : List Int) : Statement (.marginTick margins) := ⟨.marginTick (List.replicate 16 0), rfl, by decide +kernel⟩
theorem estimateStale (core : Nat) : Statement (.estimateStale core) := ⟨.estimateStale 1, rfl, by decide⟩
theorem freezeComplete (ctx : Nat) : Statement (.freezeComplete ctx) := ⟨.freezeComplete 1, rfl, by decide⟩
theorem thawComplete (ctx : Nat) : Statement (.thawComplete ctx) := ⟨.thawComplete 1, rfl, by decide⟩
theorem ckptShardDone (copy : Nat) (misses : Nat) : Statement (.ckptShardDone copy misses) := ⟨.ckptShardDone 1 1, rfl, by decide⟩
theorem ckptSeal (holder : Nat) : Statement (.ckptSeal holder) := ⟨.ckptSeal 1, rfl, by decide⟩
theorem buddyOfferReceive (src : Nat) (step : Nat) (seq : Nat) (size : Nat) : Statement (.buddyOfferReceive src step seq size) := ⟨.buddyOfferReceive 1 1 1 1, rfl, by decide⟩
theorem buddyShardReceive (src : Nat) (entry : Nat) (off : Nat) (data : List Byte) : Statement (.buddyShardReceive src entry off data) := ⟨.buddyShardReceive 1 1 1 [], rfl, by decide⟩
theorem buddyManifestReceive (src : Nat) (data : List Byte) : Statement (.buddyManifestReceive src data) := ⟨.buddyManifestReceive 1 [], rfl, by decide⟩
theorem restoreDone (manifest : List Byte) (fetched : List (Nat × List Byte × List Byte)) (glitch : List Nat) : Statement (.restoreDone manifest fetched glitch) := ⟨.restoreDone [] [] [], rfl, by decide⟩
theorem firnAreaWrite (port : Authority) (reg : Nat) (value : Nat) : Statement (.firnAreaWrite port reg value) := ⟨.firnAreaWrite .host 1 1, rfl, by decide⟩
theorem ctxImgWrite (port : Authority) (value : Nat) : Statement (.ctxImgWrite port value) := ⟨.ctxImgWrite .host 1, rfl, by decide⟩
theorem vmarkClr (port : Authority) (ctx : Nat) (value : Nat) : Statement (.vmarkClr port ctx value) := ⟨.vmarkClr .host 1 1, rfl, by decide⟩
theorem sensorConversion (raw : List Int) : Statement (.sensorConversion raw) := ⟨.sensorConversion (List.replicate 72 0), rfl, by decide +kernel⟩
theorem sfenceClear (port : Authority) (sensor : Nat) : Statement (.sfenceClear port sensor) := ⟨.sfenceClear .host 1, rfl, by decide⟩
theorem grpCfgWrite (port : Authority) (group : Nat) (value : Nat) : Statement (.grpCfgWrite port group value) := ⟨.grpCfgWrite .host 1 1, rfl, by decide⟩
theorem thermtrip (idx : Nat) : Statement (.thermtrip idx) := ⟨.thermtrip 1, rfl, by decide⟩
theorem rcTrim (dt : Int) : Statement (.rcTrim dt) := ⟨.rcTrim 0, rfl, by decide⟩
theorem vmonSample (monitor : Nat) (raw : Nat) : Statement (.vmonSample monitor raw) := ⟨.vmonSample 1 1, rfl, by decide⟩
theorem vmonRangeValid (monitor : Nat) (raw : Nat) : Statement (.vmonRangeValid monitor raw) := ⟨.vmonRangeValid 1 1, rfl, by decide⟩
theorem pwrTargetRun (port : Authority) : Statement (.pwrTargetRun port) := ⟨.pwrTargetRun .host, rfl, by decide⟩
theorem pwrTargetTrim (port : Authority) : Statement (.pwrTargetTrim port) := ⟨.pwrTargetTrim .host, rfl, by decide⟩
theorem pwrTargetDoze (port : Authority) : Statement (.pwrTargetDoze port) := ⟨.pwrTargetDoze .host, rfl, by decide⟩
theorem pwrTargetDrone (port : Authority) : Statement (.pwrTargetDrone port) := ⟨.pwrTargetDrone .host, rfl, by decide⟩
theorem dozeEntered : Statement (.dozeEntered) := ⟨.dozeEntered, rfl, by decide⟩
theorem droneEntered : Statement (.droneEntered) := ⟨.droneEntered, rfl, by decide⟩
theorem wakeEvent (code : Nat) (port : Nat) : Statement (.wakeEvent code port) := ⟨.wakeEvent 1 1, rfl, by decide⟩
theorem alarmExpire : Statement (.alarmExpire) := ⟨.alarmExpire, rfl, by decide⟩
theorem calCommit (port : Authority) (type : Nat) : Statement (.calCommit port type) := ⟨.calCommit .host 1, rfl, by decide⟩
theorem calWriteDone : Statement (.calWriteDone) := ⟨.calWriteDone, rfl, by decide⟩
theorem lcReqField (port : Authority) (key : Nat) : Statement (.lcReqField port key) := ⟨.lcReqField .host 1, rfl, by decide⟩
theorem lcReqReturn (port : Authority) (key : Nat) : Statement (.lcReqReturn port key) := ⟨.lcReqReturn .host 1, rfl, by decide⟩
theorem lcReqScrap (port : Authority) (key : Nat) : Statement (.lcReqScrap port key) := ⟨.lcReqScrap .host 1, rfl, by decide⟩
theorem tokenLoad (port : Authority) (value : Nat) : Statement (.tokenLoad port value) := ⟨.tokenLoad .host 1, rfl, by decide⟩
theorem dbgReqSealed (port : Authority) : Statement (.dbgReqSealed port) := ⟨.dbgReqSealed .host, rfl, by decide⟩
theorem dbgReqObserve (port : Authority) : Statement (.dbgReqObserve port) := ⟨.dbgReqObserve .host, rfl, by decide⟩
theorem dbgReqInvasive (port : Authority) : Statement (.dbgReqInvasive port) := ⟨.dbgReqInvasive .host, rfl, by decide⟩
theorem svnCommit (port : Authority) (key : Nat) : Statement (.svnCommit port key) := ⟨.svnCommit .host 1, rfl, by decide⟩
theorem fwUpdate (port : Authority) : Statement (.fwUpdate port) := ⟨.fwUpdate .host, rfl, by decide⟩
theorem fwUpdateDone (readOk : Bool) (flashOk : Bool) : Statement (.fwUpdateDone readOk flashOk) := ⟨.fwUpdateDone true true, rfl, by decide⟩
theorem tapBypass : Statement (.tapBypass) := ⟨.tapBypass, rfl, by decide⟩
theorem tapIdcode : Statement (.tapIdcode) := ⟨.tapIdcode, rfl, by decide⟩
theorem tapSamplePreload (pins : Nat) (data : Nat) : Statement (.tapSamplePreload pins data) := ⟨.tapSamplePreload 1 1, rfl, by decide⟩
theorem tapExtest (pins : Nat) (data : Nat) : Statement (.tapExtest pins data) := ⟨.tapExtest 1 1, rfl, by decide⟩
theorem tapSecstat : Statement (.tapSecstat) := ⟨.tapSecstat, rfl, by decide⟩
theorem tapToken (data : List Byte) : Statement (.tapToken data) := ⟨.tapToken (List.replicate 128 0#8), rfl, by decide +kernel⟩
theorem tapDbgreq (level : Nat) : Statement (.tapDbgreq level) := ⟨.tapDbgreq 1, rfl, by decide⟩
theorem tapRegap (data : Nat) : Statement (.tapRegap data) := ⟨.tapRegap 1, rfl, by decide⟩
theorem tapMemap (data : Nat) : Statement (.tapMemap data) := ⟨.tapMemap 1, rfl, by decide⟩
theorem i3cAddressAssign (entdaa : Bool) (static : Nat) (addr : Nat) : Statement (.i3cAddressAssign entdaa static addr) := ⟨.i3cAddressAssign true 1 1, rfl, by decide⟩
theorem i3cTransfer (addr : Nat) (write : Bool) (value : Nat) : Statement (.i3cTransfer addr write value) := ⟨.i3cTransfer 1 true 1, rfl, by decide⟩
theorem chanterWatchdogExpire : Statement (.chanterWatchdogExpire) := ⟨.chanterWatchdogExpire, rfl, by decide⟩
theorem chanterSramParity (off : Nat) : Statement (.chanterSramParity off) := ⟨.chanterSramParity 1, rfl, by decide⟩
theorem undefinedOpcode (core : Nat) (place : Nat) : Statement (.undefinedOpcode core place) := ⟨.undefinedOpcode 1 1, rfl, by decide⟩
theorem fetchOutOfRange (core : Nat) (place : Nat) : Statement (.fetchOutOfRange core place) := ⟨.fetchOutOfRange 1 1, rfl, by decide⟩
theorem vfEnableSet : Statement (.vfEnableSet) := ⟨.vfEnableSet, rfl, by decide⟩
theorem msixVectorUnmask (func : Nat) (vec : Nat) : Statement (.msixVectorUnmask func vec) := ⟨.msixVectorUnmask 1 1, rfl, by decide⟩
theorem pcieLinkL0 (width : Nat) (rate : Nat) (hostFlit : Bool) : Statement (.pcieLinkL0 width rate hostFlit) := ⟨.pcieLinkL0 1 1 true, rfl, by decide⟩
theorem dozeExitComplete : Statement (.dozeExitComplete) := ⟨.dozeExitComplete, rfl, by decide⟩
theorem nlForeignRetry (port : Nat) (lanes : Nat) : Statement (.nlForeignRetry port lanes) := ⟨.nlForeignRetry 1 1, rfl, by decide⟩
theorem barTreeWrite (port : Authority) (value : Nat) : Statement (.barTreeWrite port value) := ⟨.barTreeWrite .host 1, rfl, by decide⟩
theorem shadowEnWrite (port : Authority) (on : Bool) : Statement (.shadowEnWrite port on) := ⟨.shadowEnWrite .host true, rfl, by decide⟩
theorem sliceEnClear (port : Authority) (core : Nat) : Statement (.sliceEnClear port core) := ⟨.sliceEnClear .host 1, rfl, by decide⟩
theorem sliceCoreChosen (quad : Nat) : Statement (.sliceCoreChosen quad) := ⟨.sliceCoreChosen 1, rfl, by decide⟩
theorem naturalRefWindow (core : Nat) : Statement (.naturalRefWindow core) := ⟨.naturalRefWindow 1, rfl, by decide⟩
theorem explicitPatternsDone (quad : Nat) (faults : List PatFault) : Statement (.explicitPatternsDone quad faults) := ⟨.explicitPatternsDone 1 [], rfl, by decide⟩
theorem lcFuseBurnDone : Statement (.lcFuseBurnDone) := ⟨.lcFuseBurnDone, rfl, by decide⟩
theorem buddyRefusalReceive (src : Nat) : Statement (.buddyRefusalReceive src) := ⟨.buddyRefusalReceive 1, rfl, by decide⟩
theorem buddyResendRequestReceive (src : Nat) (entry : Nat) : Statement (.buddyResendRequestReceive src entry) := ⟨.buddyResendRequestReceive 1 1, rfl, by decide⟩
theorem shardFetchRequestReceive (src : Nat) (member : Nat) (step : Nat) (region : Nat) (shard : Nat) : Statement (.shardFetchRequestReceive src member step region shard) := ⟨.shardFetchRequestReceive 1 1 1 1 1, rfl, by decide⟩

end Sys2Proof.Laws.Admits
end

