-- ==== Sys2Proof/Laws/SMap.lean ====
section
/-! SUPPORT. The laws of sparse maps and of memory: what a read finds after a write, and that every operation keeps the
canonical form. -/
namespace Sys2Proof.Machine

variable {α : Type}

/-! ### Reading after writing -/

@[simp] theorem SMap.find_nil (k : Nat) : SMap.find ([] : List (Nat × α)) k = none := rfl

theorem SMap.find_put (m : List (Nat × α)) (k j : Nat) (v : α) :
    SMap.find (SMap.put m k v) j = if k = j then some v else SMap.find m j := by
  induction m with
  | nil => simp [SMap.put, SMap.find]
  | cons e r ih =>
    obtain ⟨a, w⟩ := e
    simp only [SMap.put]
    split
    · simp [SMap.find]
    · split
      · subst_vars; simp only [SMap.find]; split <;> simp_all
      · simp only [SMap.find, ih]; split <;> split <;> simp_all

@[simp] theorem SMap.find_put_self (m : List (Nat × α)) (k : Nat) (v : α) : SMap.find (SMap.put m k v) k = some v := by
  simp [SMap.find_put]

theorem SMap.find_put_ne (m : List (Nat × α)) {k j : Nat} (v : α) (h : k ≠ j) :
    SMap.find (SMap.put m k v) j = SMap.find m j := by
  simp [SMap.find_put, h]

theorem SMap.get_put (m : List (Nat × α)) (k j : Nat) (v d : α) :
    SMap.get (SMap.put m k v) j d = if k = j then v else SMap.get m j d := by
  simp only [SMap.get, SMap.find_put]; split <;> simp

@[simp] theorem SMap.get_put_self (m : List (Nat × α)) (k : Nat) (v d : α) : SMap.get (SMap.put m k v) k d = v := by
  simp [SMap.get_put]

theorem SMap.find_drop (m : List (Nat × α)) (k j : Nat) :
    SMap.find (SMap.drop m k) j = if k = j then none else SMap.find m j := by
  induction m with
  | nil => simp [SMap.drop]
  | cons e r ih =>
    obtain ⟨a, w⟩ := e
    simp only [SMap.drop]
    split
    · simp only [SMap.find, ih]; split <;> simp_all
    · simp only [SMap.find, ih]; split
      · subst_vars; rw [if_neg (fun h => by simp_all)]
      · rfl

theorem SMap.get_drop (m : List (Nat × α)) (k j : Nat) (d : α) :
    SMap.get (SMap.drop m k) j d = if k = j then d else SMap.get m j d := by
  simp only [SMap.get, SMap.find_drop]; split <;> simp

/-! ### The canonical form -/

theorem SMap.above_mono {b c : Nat} {m : List (Nat × α)} (h : SMap.above c m = true) (hb : b ≤ c) :
    SMap.above b m = true := by
  cases m with
  | nil => rfl
  | cons e r => simp only [SMap.above, Bool.and_eq_true, decide_eq_true_eq] at *; exact ⟨by omega, h.2⟩

theorem SMap.above_put {b k : Nat} (v : α) (hb : b < k) : ∀ {m : List (Nat × α)}, SMap.above b m = true →
    SMap.above b (SMap.put m k v) = true
  | [], _ => by simp [SMap.put, SMap.above, hb]
  | (j, w) :: r, h => by
    simp only [SMap.above, Bool.and_eq_true, decide_eq_true_eq] at h
    simp only [SMap.put]
    split
    · simp only [SMap.above, Bool.and_eq_true, decide_eq_true_eq]; exact ⟨hb, by omega, h.2⟩
    · split
      · simp only [SMap.above, Bool.and_eq_true, decide_eq_true_eq]; subst_vars; exact ⟨hb, h.2⟩
      · simp only [SMap.above, Bool.and_eq_true, decide_eq_true_eq]
        exact ⟨h.1, SMap.above_put v (by omega) h.2⟩

/-- `put` keeps the canonical form. -/
theorem SMap.wf_put {m : List (Nat × α)} (k : Nat) (v : α) (h : SMap.wf m = true) : SMap.wf (SMap.put m k v) = true := by
  cases m with
  | nil => rfl
  | cons e r =>
    obtain ⟨j, w⟩ := e
    simp only [SMap.wf] at h
    simp only [SMap.put]
    split
    · simp [SMap.wf, SMap.above, h]; assumption
    · split
      · subst_vars; exact h
      · simp only [SMap.wf]; exact SMap.above_put v (by omega) h

theorem SMap.above_drop {b : Nat} (k : Nat) : ∀ {m : List (Nat × α)}, SMap.above b m = true →
    SMap.above b (SMap.drop m k) = true
  | [], _ => rfl
  | (j, w) :: r, h => by
    simp only [SMap.above, Bool.and_eq_true, decide_eq_true_eq] at h
    simp only [SMap.drop]
    split
    · exact SMap.above_drop k (SMap.above_mono h.2 (by omega))
    · simp only [SMap.above, Bool.and_eq_true, decide_eq_true_eq]; exact ⟨h.1, SMap.above_drop k h.2⟩

theorem SMap.wf_of_above {b : Nat} {m : List (Nat × α)} (h : SMap.above b m = true) : SMap.wf m = true := by
  cases m with
  | nil => rfl
  | cons e r => simp only [SMap.above, Bool.and_eq_true] at h; exact h.2

/-- `drop` keeps the canonical form. -/
theorem SMap.wf_drop {m : List (Nat × α)} (k : Nat) (h : SMap.wf m = true) : SMap.wf (SMap.drop m k) = true := by
  cases m with
  | nil => rfl
  | cons e r =>
    obtain ⟨j, w⟩ := e
    simp only [SMap.wf] at h
    simp only [SMap.drop]
    split
    · exact SMap.wf_of_above (SMap.above_drop k h)
    · exact SMap.above_drop k h

theorem SMap.above_filter {b : Nat} (p : Nat × α → Bool) : ∀ {m : List (Nat × α)}, SMap.above b m = true →
    SMap.above b (m.filter p) = true
  | [], _ => rfl
  | (j, w) :: r, h => by
    simp only [SMap.above, Bool.and_eq_true, decide_eq_true_eq] at h
    simp only [List.filter_cons]
    split
    · simp only [SMap.above, Bool.and_eq_true, decide_eq_true_eq]; exact ⟨h.1, SMap.above_filter p h.2⟩
    · exact SMap.above_filter p (SMap.above_mono h.2 (by omega))

/-- `filter` keeps the canonical form. -/
theorem SMap.wf_filter {m : List (Nat × α)} (p : Nat × α → Bool) (h : SMap.wf m = true) : SMap.wf (m.filter p) = true := by
  cases m with
  | nil => rfl
  | cons e r =>
    obtain ⟨j, w⟩ := e
    simp only [SMap.wf] at h
    simp only [List.filter_cons]
    split
    · exact SMap.above_filter p h
    · exact SMap.wf_of_above (SMap.above_filter p h)

theorem SMap.above_map {β : Type} {b : Nat} (f : Nat × α → β) : ∀ {m : List (Nat × α)}, SMap.above b m = true →
    SMap.above b (m.map (fun e => (e.1, f e))) = true
  | [], _ => rfl
  | (j, w) :: r, h => by
    simp only [SMap.above, Bool.and_eq_true, decide_eq_true_eq] at h
    simp only [List.map_cons, SMap.above, Bool.and_eq_true, decide_eq_true_eq]
    exact ⟨h.1, SMap.above_map f h.2⟩

/-- Changing the values of a map keeps the canonical form. -/
theorem SMap.wf_map {β : Type} {m : List (Nat × α)} (f : Nat × α → β) (h : SMap.wf m = true) :
    SMap.wf (m.map (fun e => (e.1, f e))) = true := by
  cases m with
  | nil => rfl
  | cons e r => exact SMap.above_map f h

/-- A key that is not above the rest is not listed there. -/
theorem SMap.find_above {b : Nat} {m : List (Nat × α)} (h : SMap.above b m = true) {k : Nat} (hk : k ≤ b) :
    SMap.find m k = none := by
  induction m generalizing b with
  | nil => rfl
  | cons e r ih =>
    obtain ⟨j, w⟩ := e
    simp only [SMap.above, Bool.and_eq_true, decide_eq_true_eq] at h
    simp only [SMap.find]
    rw [if_neg (by omega)]
    exact ih h.2 (by omega)

/-! ### Memory -/

@[simp] theorem Memory.read_write (m : List Host.Cell) (a j : Nat) (b : Byte) :
    Memory.read (Memory.write m a b) j = if a = j then b else Memory.read m j := by
  unfold Memory.read Memory.write
  split
  · next hb => subst hb; rw [SMap.get_drop]
  · rw [SMap.get_put]

theorem Memory.read_writeBytes (m : List Host.Cell) (a j : Nat) (bs : List Byte) :
    Memory.read (Memory.writeBytes m a bs) j = if h : a ≤ j ∧ j < a + bs.length then bs[j - a]'(by omega) else Memory.read m j := by
  induction bs generalizing m a with
  | nil => simp only [Memory.writeBytes, List.length_nil]; rw [dif_neg (by omega)]
  | cons b r ih =>
    simp only [Memory.writeBytes, ih, List.length_cons, Memory.read_write]
    by_cases h1 : a + 1 ≤ j ∧ j < a + 1 + r.length
    · have h2 : a ≤ j ∧ j < a + (r.length + 1) := by omega
      rw [dif_pos h1, dif_pos h2]
      have : j - a = (j - (a + 1)) + 1 := by omega
      simp [this]
    · rw [dif_neg h1]
      by_cases h3 : a = j
      · subst h3; simp
      · have h2 : ¬ (a ≤ j ∧ j < a + (r.length + 1)) := by omega
        rw [dif_neg h2, if_neg h3]

/-- Bytes outside a write read as before. -/
theorem Memory.read_writeBytes_out (m : List Host.Cell) (a j : Nat) (bs : List Byte) (h : j < a ∨ a + bs.length ≤ j) :
    Memory.read (Memory.writeBytes m a bs) j = Memory.read m j := by
  rw [Memory.read_writeBytes, dif_neg (by omega)]

theorem Memory.readBytes_congr {m m' : List Host.Cell} (a n : Nat)
    (h : ∀ j, a ≤ j → j < a + n → Memory.read m j = Memory.read m' j) : Memory.readBytes m a n = Memory.readBytes m' a n := by
  induction n generalizing a with
  | zero => rfl
  | succ n ih =>
    simp only [Memory.readBytes]
    rw [h a (by omega) (by omega), ih (a + 1) (fun j h1 h2 => h j (by omega) (by omega))]

/-- The bytes just written read back. -/
theorem Memory.readBytes_writeBytes (m : List Host.Cell) (a : Nat) (bs : List Byte) :
    Memory.readBytes (Memory.writeBytes m a bs) a bs.length = bs := by
  induction bs generalizing m a with
  | nil => rfl
  | cons b r ih =>
    simp only [Memory.writeBytes, List.length_cons, Memory.readBytes]
    rw [ih, Memory.read_writeBytes_out _ _ _ _ (by omega)]
    simp

@[simp] theorem Memory.length_readBytes (m : List Host.Cell) (a n : Nat) : (Memory.readBytes m a n).length = n := by
  induction n generalizing a with
  | zero => rfl
  | succ n ih => simp [Memory.readBytes, ih]

theorem SMap.all_put (p : Nat × α → Bool) {m : List (Nat × α)} {k : Nat} {v : α} (h : m.all p = true)
    (hv : p (k, v) = true) : (SMap.put m k v).all p = true := by
  induction m with
  | nil => simp [SMap.put, hv]
  | cons e r ih =>
    obtain ⟨j, w⟩ := e
    simp only [List.all_cons, Bool.and_eq_true] at h
    simp only [SMap.put]
    split
    · simp_all
    · split <;> simp_all

theorem SMap.all_drop (p : Nat × α → Bool) {m : List (Nat × α)} {k : Nat} (h : m.all p = true) :
    (SMap.drop m k).all p = true := by
  induction m with
  | nil => rfl
  | cons e r ih =>
    obtain ⟨j, w⟩ := e
    simp only [List.all_cons, Bool.and_eq_true] at h
    simp only [SMap.drop]
    split <;> simp_all

/-- A write of one byte keeps the canonical form of memory. -/
theorem Memory.wf_write {m : List Host.Cell} (a : Nat) (b : Byte) (h : Memory.wf m = true) :
    Memory.wf (Memory.write m a b) = true := by
  simp only [Memory.wf, Bool.and_eq_true] at *
  unfold Memory.write
  split
  · exact ⟨SMap.wf_drop a h.1, SMap.all_drop _ h.2⟩
  · exact ⟨SMap.wf_put a b h.1, SMap.all_put _ h.2 (by simpa using by assumption)⟩

/-- A write of bytes keeps the canonical form of memory. -/
theorem Memory.wf_writeBytes {m : List Host.Cell} (a : Nat) (bs : List Byte) (h : Memory.wf m = true) :
    Memory.wf (Memory.writeBytes m a bs) = true := by
  induction bs generalizing m a with
  | nil => exact h
  | cons b r ih => exact ih _ (Memory.wf_write a b h)

/-- A write of computed bytes keeps the canonical form of memory. -/
theorem Memory.wf_writeFn {m : List Host.Cell} (a : Nat) (f : Nat → Byte) (n : Nat) (h : Memory.wf m = true) :
    Memory.wf (Memory.writeFn m a f n) = true := by
  induction n with
  | zero => exact h
  | succ n ih => exact Memory.wf_write _ _ ih

/-- Zeroing a range keeps the canonical form of memory. -/
theorem Memory.wf_clear {m : List Host.Cell} (lo hi : Nat) (h : Memory.wf m = true) : Memory.wf (Memory.clear m lo hi) = true := by
  simp only [Memory.wf, Bool.and_eq_true] at *
  refine ⟨SMap.wf_filter _ h.1, ?_⟩
  simp only [Memory.clear, List.all_eq_true, List.mem_filter] at *
  exact fun x hx => h.2 x hx.1

/-- What a read finds after zeroing a range. -/
theorem Memory.read_clear (m : List Host.Cell) (lo hi a : Nat) :
    Memory.read (Memory.clear m lo hi) a = if lo ≤ a ∧ a < hi then Memory.blank else Memory.read m a := by
  have key : SMap.find (Memory.clear m lo hi) a = if lo ≤ a ∧ a < hi then none else SMap.find m a := by
    induction m with
    | nil => simp [Memory.clear]
    | cons e r ih =>
      obtain ⟨j, w⟩ := e
      simp only [Memory.clear, List.filter_cons, Bool.or_eq_true, decide_eq_true_eq, SMap.find] at *
      by_cases h : j < lo ∨ hi ≤ j <;> by_cases hj : j = a
      · subst hj; rw [if_pos h, if_neg (by omega)]; simp [SMap.find]
      · rw [if_pos h]; simp only [SMap.find, hj, if_false]; exact ih
      · subst hj; rw [if_neg h, ih, if_pos (by omega)]; simp; omega
      · rw [if_neg h, ih]; simp only [hj, if_false]
  simp only [Memory.read, SMap.get, key]
  split <;> rfl

end Sys2Proof.Machine
end

