-- ==== Sys2Proof/Laws/State.lean ====
section
/-! SUPPORT. The laws of the named updates of State: for each, one lemma per field, and what its reads find afterwards. -/
namespace Sys2Proof.Machine

variable (s : State)

/-! ### wr -/

@[simp] theorem State.wr_pending (r : Row) (v k i : Nat) : (s.wr r v k i).pending = s.pending := rfl
@[simp] theorem State.wr_mem (r : Row) (v k i : Nat) : (s.wr r v k i).mem = s.mem := rfl
@[simp] theorem State.wr_host (r : Row) (v k i : Nat) : (s.wr r v k i).host = s.host := rfl
@[simp] theorem State.wr_ftime (r : Row) (v k i : Nat) : (s.wr r v k i).ftime = s.ftime := rfl
@[simp] theorem State.wr_draws (r : Row) (v k i : Nat) : (s.wr r v k i).draws = s.draws := rfl
@[simp] theorem State.wr_latchHi (r : Row) (v k i : Nat) : (s.wr r v k i).latchHi = s.latchHi := rfl
@[simp] theorem State.wr_boot (r : Row) (v k i : Nat) : (s.wr r v k i).boot = s.boot := rfl
@[simp] theorem State.wr_pins (r : Row) (v k i : Nat) : (s.wr r v k i).pins = s.pins := rfl
@[simp] theorem State.wr_pci (r : Row) (v k i : Nat) : (s.wr r v k i).pci = s.pci := rfl
@[simp] theorem State.wr_fltIn (r : Row) (v k i : Nat) : (s.wr r v k i).fltIn = s.fltIn := rfl
@[simp] theorem State.wr_droneToks (r : Row) (v k i : Nat) : (s.wr r v k i).droneToks = s.droneToks := rfl
@[simp] theorem State.wr_mor (r : Row) (v k i : Nat) : (s.wr r v k i).mor = s.mor := rfl
@[simp] theorem State.wr_rate (r : Row) (v k i : Nat) : (s.wr r v k i).rate = s.rate := rfl
@[simp] theorem State.wr_ladder (r : Row) (v k i : Nat) : (s.wr r v k i).ladder = s.ladder := rfl
@[simp] theorem State.wr_ctxs (r : Row) (v k i : Nat) : (s.wr r v k i).ctxs = s.ctxs := rfl
@[simp] theorem State.wr_urgent (r : Row) (v k i : Nat) : (s.wr r v k i).urgent = s.urgent := rfl
@[simp] theorem State.wr_waiting (r : Row) (v k i : Nat) : (s.wr r v k i).waiting = s.waiting := rfl
@[simp] theorem State.wr_nextDisp (r : Row) (v k i : Nat) : (s.wr r v k i).nextDisp = s.nextDisp := rfl
@[simp] theorem State.wr_cores (r : Row) (v k i : Nat) : (s.wr r v k i).cores = s.cores := rfl
@[simp] theorem State.wr_out (r : Row) (v k i : Nat) : (s.wr r v k i).out = s.out := rfl
@[simp] theorem State.wr_marksC (r : Row) (v k i : Nat) : (s.wr r v k i).marksC = s.marksC := rfl
@[simp] theorem State.wr_marksU (r : Row) (v k i : Nat) : (s.wr r v k i).marksU = s.marksU := rfl
@[simp] theorem State.wr_lostPaths (r : Row) (v k i : Nat) : (s.wr r v k i).lostPaths = s.lostPaths := rfl
@[simp] theorem State.wr_pw (r : Row) (v k i : Nat) : (s.wr r v k i).pw = s.pw := rfl
@[simp] theorem State.wr_sensors (r : Row) (v k i : Nat) : (s.wr r v k i).sensors = s.sensors := rfl
@[simp] theorem State.wr_tgroups (r : Row) (v k i : Nat) : (s.wr r v k i).tgroups = s.tgroups := rfl
@[simp] theorem State.wr_limits (r : Row) (v k i : Nat) : (s.wr r v k i).limits = s.limits := rfl
@[simp] theorem State.wr_hbms (r : Row) (v k i : Nat) : (s.wr r v k i).hbms = s.hbms := rfl
@[simp] theorem State.wr_monitors (r : Row) (v k i : Nat) : (s.wr r v k i).monitors = s.monitors := rfl
@[simp] theorem State.wr_cal (r : Row) (v k i : Nat) : (s.wr r v k i).cal = s.cal := rfl
@[simp] theorem State.wr_sec (r : Row) (v k i : Nat) : (s.wr r v k i).sec = s.sec := rfl
@[simp] theorem State.wr_serac (r : Row) (v k i : Nat) : (s.wr r v k i).serac = s.serac := rfl
@[simp] theorem State.wr_test (r : Row) (v k i : Nat) : (s.wr r v k i).test = s.test := rfl
@[simp] theorem State.wr_nl (r : Row) (v k i : Nat) : (s.wr r v k i).nl = s.nl := rfl
@[simp] theorem State.wr_fabric (r : Row) (v k i : Nat) : (s.wr r v k i).fabric = s.fabric := rfl
@[simp] theorem State.wr_barrier (r : Row) (v k i : Nat) : (s.wr r v k i).barrier = s.barrier := rfl
@[simp] theorem State.wr_firn (r : Row) (v k i : Nat) : (s.wr r v k i).firn = s.firn := rfl
@[simp] theorem State.wr_ctx (r : Row) (v k i : Nat) (y : Nat) : (s.wr r v k i).ctx y = s.ctx y := rfl
@[simp] theorem State.wr_core (r : Row) (v k i : Nat) (y : Nat) : (s.wr r v k i).core y = s.core y := rfl
@[simp] theorem State.wr_byte (r : Row) (v k i : Nat) (y : Nat) : (s.wr r v k i).byte y = s.byte y := rfl

/-! ### emit -/

@[simp] theorem State.emit_pending (e : Emit) : (s.emit e).pending = s.pending := rfl
@[simp] theorem State.emit_regs (e : Emit) : (s.emit e).regs = s.regs := rfl
@[simp] theorem State.emit_mem (e : Emit) : (s.emit e).mem = s.mem := rfl
@[simp] theorem State.emit_host (e : Emit) : (s.emit e).host = s.host := rfl
@[simp] theorem State.emit_ftime (e : Emit) : (s.emit e).ftime = s.ftime := rfl
@[simp] theorem State.emit_draws (e : Emit) : (s.emit e).draws = s.draws := rfl
@[simp] theorem State.emit_latchHi (e : Emit) : (s.emit e).latchHi = s.latchHi := rfl
@[simp] theorem State.emit_boot (e : Emit) : (s.emit e).boot = s.boot := rfl
@[simp] theorem State.emit_pins (e : Emit) : (s.emit e).pins = s.pins := rfl
@[simp] theorem State.emit_pci (e : Emit) : (s.emit e).pci = s.pci := rfl
@[simp] theorem State.emit_fltIn (e : Emit) : (s.emit e).fltIn = s.fltIn := rfl
@[simp] theorem State.emit_droneToks (e : Emit) : (s.emit e).droneToks = s.droneToks := rfl
@[simp] theorem State.emit_mor (e : Emit) : (s.emit e).mor = s.mor := rfl
@[simp] theorem State.emit_rate (e : Emit) : (s.emit e).rate = s.rate := rfl
@[simp] theorem State.emit_ladder (e : Emit) : (s.emit e).ladder = s.ladder := rfl
@[simp] theorem State.emit_ctxs (e : Emit) : (s.emit e).ctxs = s.ctxs := rfl
@[simp] theorem State.emit_urgent (e : Emit) : (s.emit e).urgent = s.urgent := rfl
@[simp] theorem State.emit_waiting (e : Emit) : (s.emit e).waiting = s.waiting := rfl
@[simp] theorem State.emit_nextDisp (e : Emit) : (s.emit e).nextDisp = s.nextDisp := rfl
@[simp] theorem State.emit_cores (e : Emit) : (s.emit e).cores = s.cores := rfl
@[simp] theorem State.emit_marksC (e : Emit) : (s.emit e).marksC = s.marksC := rfl
@[simp] theorem State.emit_marksU (e : Emit) : (s.emit e).marksU = s.marksU := rfl
@[simp] theorem State.emit_lostPaths (e : Emit) : (s.emit e).lostPaths = s.lostPaths := rfl
@[simp] theorem State.emit_pw (e : Emit) : (s.emit e).pw = s.pw := rfl
@[simp] theorem State.emit_sensors (e : Emit) : (s.emit e).sensors = s.sensors := rfl
@[simp] theorem State.emit_tgroups (e : Emit) : (s.emit e).tgroups = s.tgroups := rfl
@[simp] theorem State.emit_limits (e : Emit) : (s.emit e).limits = s.limits := rfl
@[simp] theorem State.emit_hbms (e : Emit) : (s.emit e).hbms = s.hbms := rfl
@[simp] theorem State.emit_monitors (e : Emit) : (s.emit e).monitors = s.monitors := rfl
@[simp] theorem State.emit_cal (e : Emit) : (s.emit e).cal = s.cal := rfl
@[simp] theorem State.emit_sec (e : Emit) : (s.emit e).sec = s.sec := rfl
@[simp] theorem State.emit_serac (e : Emit) : (s.emit e).serac = s.serac := rfl
@[simp] theorem State.emit_test (e : Emit) : (s.emit e).test = s.test := rfl
@[simp] theorem State.emit_nl (e : Emit) : (s.emit e).nl = s.nl := rfl
@[simp] theorem State.emit_fabric (e : Emit) : (s.emit e).fabric = s.fabric := rfl
@[simp] theorem State.emit_barrier (e : Emit) : (s.emit e).barrier = s.barrier := rfl
@[simp] theorem State.emit_firn (e : Emit) : (s.emit e).firn = s.firn := rfl
@[simp] theorem State.emit_rd (e : Emit) (r' : Row) (k' i' : Nat) : (s.emit e).rd r' k' i' = s.rd r' k' i' := rfl
@[simp] theorem State.emit_ctx (e : Emit) (y : Nat) : (s.emit e).ctx y = s.ctx y := rfl
@[simp] theorem State.emit_core (e : Emit) (y : Nat) : (s.emit e).core y = s.core y := rfl
@[simp] theorem State.emit_byte (e : Emit) (y : Nat) : (s.emit e).byte y = s.byte y := rfl

/-! ### setCtx -/

@[simp] theorem State.setCtx_pending (x : Nat) (c : Ctx) : (s.setCtx x c).pending = s.pending := rfl
@[simp] theorem State.setCtx_regs (x : Nat) (c : Ctx) : (s.setCtx x c).regs = s.regs := rfl
@[simp] theorem State.setCtx_mem (x : Nat) (c : Ctx) : (s.setCtx x c).mem = s.mem := rfl
@[simp] theorem State.setCtx_host (x : Nat) (c : Ctx) : (s.setCtx x c).host = s.host := rfl
@[simp] theorem State.setCtx_ftime (x : Nat) (c : Ctx) : (s.setCtx x c).ftime = s.ftime := rfl
@[simp] theorem State.setCtx_draws (x : Nat) (c : Ctx) : (s.setCtx x c).draws = s.draws := rfl
@[simp] theorem State.setCtx_latchHi (x : Nat) (c : Ctx) : (s.setCtx x c).latchHi = s.latchHi := rfl
@[simp] theorem State.setCtx_boot (x : Nat) (c : Ctx) : (s.setCtx x c).boot = s.boot := rfl
@[simp] theorem State.setCtx_pins (x : Nat) (c : Ctx) : (s.setCtx x c).pins = s.pins := rfl
@[simp] theorem State.setCtx_pci (x : Nat) (c : Ctx) : (s.setCtx x c).pci = s.pci := rfl
@[simp] theorem State.setCtx_fltIn (x : Nat) (c : Ctx) : (s.setCtx x c).fltIn = s.fltIn := rfl
@[simp] theorem State.setCtx_droneToks (x : Nat) (c : Ctx) : (s.setCtx x c).droneToks = s.droneToks := rfl
@[simp] theorem State.setCtx_mor (x : Nat) (c : Ctx) : (s.setCtx x c).mor = s.mor := rfl
@[simp] theorem State.setCtx_rate (x : Nat) (c : Ctx) : (s.setCtx x c).rate = s.rate := rfl
@[simp] theorem State.setCtx_ladder (x : Nat) (c : Ctx) : (s.setCtx x c).ladder = s.ladder := rfl
@[simp] theorem State.setCtx_urgent (x : Nat) (c : Ctx) : (s.setCtx x c).urgent = s.urgent := rfl
@[simp] theorem State.setCtx_waiting (x : Nat) (c : Ctx) : (s.setCtx x c).waiting = s.waiting := rfl
@[simp] theorem State.setCtx_nextDisp (x : Nat) (c : Ctx) : (s.setCtx x c).nextDisp = s.nextDisp := rfl
@[simp] theorem State.setCtx_cores (x : Nat) (c : Ctx) : (s.setCtx x c).cores = s.cores := rfl
@[simp] theorem State.setCtx_out (x : Nat) (c : Ctx) : (s.setCtx x c).out = s.out := rfl
@[simp] theorem State.setCtx_marksC (x : Nat) (c : Ctx) : (s.setCtx x c).marksC = s.marksC := rfl
@[simp] theorem State.setCtx_marksU (x : Nat) (c : Ctx) : (s.setCtx x c).marksU = s.marksU := rfl
@[simp] theorem State.setCtx_lostPaths (x : Nat) (c : Ctx) : (s.setCtx x c).lostPaths = s.lostPaths := rfl
@[simp] theorem State.setCtx_pw (x : Nat) (c : Ctx) : (s.setCtx x c).pw = s.pw := rfl
@[simp] theorem State.setCtx_sensors (x : Nat) (c : Ctx) : (s.setCtx x c).sensors = s.sensors := rfl
@[simp] theorem State.setCtx_tgroups (x : Nat) (c : Ctx) : (s.setCtx x c).tgroups = s.tgroups := rfl
@[simp] theorem State.setCtx_limits (x : Nat) (c : Ctx) : (s.setCtx x c).limits = s.limits := rfl
@[simp] theorem State.setCtx_hbms (x : Nat) (c : Ctx) : (s.setCtx x c).hbms = s.hbms := rfl
@[simp] theorem State.setCtx_monitors (x : Nat) (c : Ctx) : (s.setCtx x c).monitors = s.monitors := rfl
@[simp] theorem State.setCtx_cal (x : Nat) (c : Ctx) : (s.setCtx x c).cal = s.cal := rfl
@[simp] theorem State.setCtx_sec (x : Nat) (c : Ctx) : (s.setCtx x c).sec = s.sec := rfl
@[simp] theorem State.setCtx_serac (x : Nat) (c : Ctx) : (s.setCtx x c).serac = s.serac := rfl
@[simp] theorem State.setCtx_test (x : Nat) (c : Ctx) : (s.setCtx x c).test = s.test := rfl
@[simp] theorem State.setCtx_nl (x : Nat) (c : Ctx) : (s.setCtx x c).nl = s.nl := rfl
@[simp] theorem State.setCtx_fabric (x : Nat) (c : Ctx) : (s.setCtx x c).fabric = s.fabric := rfl
@[simp] theorem State.setCtx_barrier (x : Nat) (c : Ctx) : (s.setCtx x c).barrier = s.barrier := rfl
@[simp] theorem State.setCtx_firn (x : Nat) (c : Ctx) : (s.setCtx x c).firn = s.firn := rfl
@[simp] theorem State.setCtx_rd (x : Nat) (c : Ctx) (r' : Row) (k' i' : Nat) : (s.setCtx x c).rd r' k' i' = s.rd r' k' i' := rfl
@[simp] theorem State.setCtx_core (x : Nat) (c : Ctx) (y : Nat) : (s.setCtx x c).core y = s.core y := rfl
@[simp] theorem State.setCtx_byte (x : Nat) (c : Ctx) (y : Nat) : (s.setCtx x c).byte y = s.byte y := rfl

/-! ### setCore -/

@[simp] theorem State.setCore_pending (x : Nat) (c : Core) : (s.setCore x c).pending = s.pending := rfl
@[simp] theorem State.setCore_regs (x : Nat) (c : Core) : (s.setCore x c).regs = s.regs := rfl
@[simp] theorem State.setCore_mem (x : Nat) (c : Core) : (s.setCore x c).mem = s.mem := rfl
@[simp] theorem State.setCore_host (x : Nat) (c : Core) : (s.setCore x c).host = s.host := rfl
@[simp] theorem State.setCore_ftime (x : Nat) (c : Core) : (s.setCore x c).ftime = s.ftime := rfl
@[simp] theorem State.setCore_draws (x : Nat) (c : Core) : (s.setCore x c).draws = s.draws := rfl
@[simp] theorem State.setCore_latchHi (x : Nat) (c : Core) : (s.setCore x c).latchHi = s.latchHi := rfl
@[simp] theorem State.setCore_boot (x : Nat) (c : Core) : (s.setCore x c).boot = s.boot := rfl
@[simp] theorem State.setCore_pins (x : Nat) (c : Core) : (s.setCore x c).pins = s.pins := rfl
@[simp] theorem State.setCore_pci (x : Nat) (c : Core) : (s.setCore x c).pci = s.pci := rfl
@[simp] theorem State.setCore_fltIn (x : Nat) (c : Core) : (s.setCore x c).fltIn = s.fltIn := rfl
@[simp] theorem State.setCore_droneToks (x : Nat) (c : Core) : (s.setCore x c).droneToks = s.droneToks := rfl
@[simp] theorem State.setCore_mor (x : Nat) (c : Core) : (s.setCore x c).mor = s.mor := rfl
@[simp] theorem State.setCore_rate (x : Nat) (c : Core) : (s.setCore x c).rate = s.rate := rfl
@[simp] theorem State.setCore_ladder (x : Nat) (c : Core) : (s.setCore x c).ladder = s.ladder := rfl
@[simp] theorem State.setCore_ctxs (x : Nat) (c : Core) : (s.setCore x c).ctxs = s.ctxs := rfl
@[simp] theorem State.setCore_urgent (x : Nat) (c : Core) : (s.setCore x c).urgent = s.urgent := rfl
@[simp] theorem State.setCore_waiting (x : Nat) (c : Core) : (s.setCore x c).waiting = s.waiting := rfl
@[simp] theorem State.setCore_nextDisp (x : Nat) (c : Core) : (s.setCore x c).nextDisp = s.nextDisp := rfl
@[simp] theorem State.setCore_out (x : Nat) (c : Core) : (s.setCore x c).out = s.out := rfl
@[simp] theorem State.setCore_marksC (x : Nat) (c : Core) : (s.setCore x c).marksC = s.marksC := rfl
@[simp] theorem State.setCore_marksU (x : Nat) (c : Core) : (s.setCore x c).marksU = s.marksU := rfl
@[simp] theorem State.setCore_lostPaths (x : Nat) (c : Core) : (s.setCore x c).lostPaths = s.lostPaths := rfl
@[simp] theorem State.setCore_pw (x : Nat) (c : Core) : (s.setCore x c).pw = s.pw := rfl
@[simp] theorem State.setCore_sensors (x : Nat) (c : Core) : (s.setCore x c).sensors = s.sensors := rfl
@[simp] theorem State.setCore_tgroups (x : Nat) (c : Core) : (s.setCore x c).tgroups = s.tgroups := rfl
@[simp] theorem State.setCore_limits (x : Nat) (c : Core) : (s.setCore x c).limits = s.limits := rfl
@[simp] theorem State.setCore_hbms (x : Nat) (c : Core) : (s.setCore x c).hbms = s.hbms := rfl
@[simp] theorem State.setCore_monitors (x : Nat) (c : Core) : (s.setCore x c).monitors = s.monitors := rfl
@[simp] theorem State.setCore_cal (x : Nat) (c : Core) : (s.setCore x c).cal = s.cal := rfl
@[simp] theorem State.setCore_sec (x : Nat) (c : Core) : (s.setCore x c).sec = s.sec := rfl
@[simp] theorem State.setCore_serac (x : Nat) (c : Core) : (s.setCore x c).serac = s.serac := rfl
@[simp] theorem State.setCore_test (x : Nat) (c : Core) : (s.setCore x c).test = s.test := rfl
@[simp] theorem State.setCore_nl (x : Nat) (c : Core) : (s.setCore x c).nl = s.nl := rfl
@[simp] theorem State.setCore_fabric (x : Nat) (c : Core) : (s.setCore x c).fabric = s.fabric := rfl
@[simp] theorem State.setCore_barrier (x : Nat) (c : Core) : (s.setCore x c).barrier = s.barrier := rfl
@[simp] theorem State.setCore_firn (x : Nat) (c : Core) : (s.setCore x c).firn = s.firn := rfl
@[simp] theorem State.setCore_rd (x : Nat) (c : Core) (r' : Row) (k' i' : Nat) : (s.setCore x c).rd r' k' i' = s.rd r' k' i' := rfl
@[simp] theorem State.setCore_ctx (x : Nat) (c : Core) (y : Nat) : (s.setCore x c).ctx y = s.ctx y := rfl
@[simp] theorem State.setCore_byte (x : Nat) (c : Core) (y : Nat) : (s.setCore x c).byte y = s.byte y := rfl

/-! ### modHbm -/

@[simp] theorem State.modHbm_pending (x : Nat) (f : HbmStack → HbmStack) : (s.modHbm x f).pending = s.pending := rfl
@[simp] theorem State.modHbm_regs (x : Nat) (f : HbmStack → HbmStack) : (s.modHbm x f).regs = s.regs := rfl
@[simp] theorem State.modHbm_mem (x : Nat) (f : HbmStack → HbmStack) : (s.modHbm x f).mem = s.mem := rfl
@[simp] theorem State.modHbm_host (x : Nat) (f : HbmStack → HbmStack) : (s.modHbm x f).host = s.host := rfl
@[simp] theorem State.modHbm_ftime (x : Nat) (f : HbmStack → HbmStack) : (s.modHbm x f).ftime = s.ftime := rfl
@[simp] theorem State.modHbm_draws (x : Nat) (f : HbmStack → HbmStack) : (s.modHbm x f).draws = s.draws := rfl
@[simp] theorem State.modHbm_latchHi (x : Nat) (f : HbmStack → HbmStack) : (s.modHbm x f).latchHi = s.latchHi := rfl
@[simp] theorem State.modHbm_boot (x : Nat) (f : HbmStack → HbmStack) : (s.modHbm x f).boot = s.boot := rfl
@[simp] theorem State.modHbm_pins (x : Nat) (f : HbmStack → HbmStack) : (s.modHbm x f).pins = s.pins := rfl
@[simp] theorem State.modHbm_pci (x : Nat) (f : HbmStack → HbmStack) : (s.modHbm x f).pci = s.pci := rfl
@[simp] theorem State.modHbm_fltIn (x : Nat) (f : HbmStack → HbmStack) : (s.modHbm x f).fltIn = s.fltIn := rfl
@[simp] theorem State.modHbm_droneToks (x : Nat) (f : HbmStack → HbmStack) : (s.modHbm x f).droneToks = s.droneToks := rfl
@[simp] theorem State.modHbm_mor (x : Nat) (f : HbmStack → HbmStack) : (s.modHbm x f).mor = s.mor := rfl
@[simp] theorem State.modHbm_rate (x : Nat) (f : HbmStack → HbmStack) : (s.modHbm x f).rate = s.rate := rfl
@[simp] theorem State.modHbm_ladder (x : Nat) (f : HbmStack → HbmStack) : (s.modHbm x f).ladder = s.ladder := rfl
@[simp] theorem State.modHbm_ctxs (x : Nat) (f : HbmStack → HbmStack) : (s.modHbm x f).ctxs = s.ctxs := rfl
@[simp] theorem State.modHbm_urgent (x : Nat) (f : HbmStack → HbmStack) : (s.modHbm x f).urgent = s.urgent := rfl
@[simp] theorem State.modHbm_waiting (x : Nat) (f : HbmStack → HbmStack) : (s.modHbm x f).waiting = s.waiting := rfl
@[simp] theorem State.modHbm_nextDisp (x : Nat) (f : HbmStack → HbmStack) : (s.modHbm x f).nextDisp = s.nextDisp := rfl
@[simp] theorem State.modHbm_cores (x : Nat) (f : HbmStack → HbmStack) : (s.modHbm x f).cores = s.cores := rfl
@[simp] theorem State.modHbm_out (x : Nat) (f : HbmStack → HbmStack) : (s.modHbm x f).out = s.out := rfl
@[simp] theorem State.modHbm_marksC (x : Nat) (f : HbmStack → HbmStack) : (s.modHbm x f).marksC = s.marksC := rfl
@[simp] theorem State.modHbm_marksU (x : Nat) (f : HbmStack → HbmStack) : (s.modHbm x f).marksU = s.marksU := rfl
@[simp] theorem State.modHbm_lostPaths (x : Nat) (f : HbmStack → HbmStack) : (s.modHbm x f).lostPaths = s.lostPaths := rfl
@[simp] theorem State.modHbm_pw (x : Nat) (f : HbmStack → HbmStack) : (s.modHbm x f).pw = s.pw := rfl
@[simp] theorem State.modHbm_sensors (x : Nat) (f : HbmStack → HbmStack) : (s.modHbm x f).sensors = s.sensors := rfl
@[simp] theorem State.modHbm_tgroups (x : Nat) (f : HbmStack → HbmStack) : (s.modHbm x f).tgroups = s.tgroups := rfl
@[simp] theorem State.modHbm_limits (x : Nat) (f : HbmStack → HbmStack) : (s.modHbm x f).limits = s.limits := rfl
@[simp] theorem State.modHbm_monitors (x : Nat) (f : HbmStack → HbmStack) : (s.modHbm x f).monitors = s.monitors := rfl
@[simp] theorem State.modHbm_cal (x : Nat) (f : HbmStack → HbmStack) : (s.modHbm x f).cal = s.cal := rfl
@[simp] theorem State.modHbm_sec (x : Nat) (f : HbmStack → HbmStack) : (s.modHbm x f).sec = s.sec := rfl
@[simp] theorem State.modHbm_serac (x : Nat) (f : HbmStack → HbmStack) : (s.modHbm x f).serac = s.serac := rfl
@[simp] theorem State.modHbm_test (x : Nat) (f : HbmStack → HbmStack) : (s.modHbm x f).test = s.test := rfl
@[simp] theorem State.modHbm_nl (x : Nat) (f : HbmStack → HbmStack) : (s.modHbm x f).nl = s.nl := rfl
@[simp] theorem State.modHbm_fabric (x : Nat) (f : HbmStack → HbmStack) : (s.modHbm x f).fabric = s.fabric := rfl
@[simp] theorem State.modHbm_barrier (x : Nat) (f : HbmStack → HbmStack) : (s.modHbm x f).barrier = s.barrier := rfl
@[simp] theorem State.modHbm_firn (x : Nat) (f : HbmStack → HbmStack) : (s.modHbm x f).firn = s.firn := rfl
@[simp] theorem State.modHbm_rd (x : Nat) (f : HbmStack → HbmStack) (r' : Row) (k' i' : Nat) : (s.modHbm x f).rd r' k' i' = s.rd r' k' i' := rfl
@[simp] theorem State.modHbm_ctx (x : Nat) (f : HbmStack → HbmStack) (y : Nat) : (s.modHbm x f).ctx y = s.ctx y := rfl
@[simp] theorem State.modHbm_core (x : Nat) (f : HbmStack → HbmStack) (y : Nat) : (s.modHbm x f).core y = s.core y := rfl
@[simp] theorem State.modHbm_byte (x : Nat) (f : HbmStack → HbmStack) (y : Nat) : (s.modHbm x f).byte y = s.byte y := rfl

/-! ### modTcore -/

@[simp] theorem State.modTcore_pending (x : Nat) (f : TestCore → TestCore) : (s.modTcore x f).pending = s.pending := rfl
@[simp] theorem State.modTcore_regs (x : Nat) (f : TestCore → TestCore) : (s.modTcore x f).regs = s.regs := rfl
@[simp] theorem State.modTcore_mem (x : Nat) (f : TestCore → TestCore) : (s.modTcore x f).mem = s.mem := rfl
@[simp] theorem State.modTcore_host (x : Nat) (f : TestCore → TestCore) : (s.modTcore x f).host = s.host := rfl
@[simp] theorem State.modTcore_ftime (x : Nat) (f : TestCore → TestCore) : (s.modTcore x f).ftime = s.ftime := rfl
@[simp] theorem State.modTcore_draws (x : Nat) (f : TestCore → TestCore) : (s.modTcore x f).draws = s.draws := rfl
@[simp] theorem State.modTcore_latchHi (x : Nat) (f : TestCore → TestCore) : (s.modTcore x f).latchHi = s.latchHi := rfl
@[simp] theorem State.modTcore_boot (x : Nat) (f : TestCore → TestCore) : (s.modTcore x f).boot = s.boot := rfl
@[simp] theorem State.modTcore_pins (x : Nat) (f : TestCore → TestCore) : (s.modTcore x f).pins = s.pins := rfl
@[simp] theorem State.modTcore_pci (x : Nat) (f : TestCore → TestCore) : (s.modTcore x f).pci = s.pci := rfl
@[simp] theorem State.modTcore_fltIn (x : Nat) (f : TestCore → TestCore) : (s.modTcore x f).fltIn = s.fltIn := rfl
@[simp] theorem State.modTcore_droneToks (x : Nat) (f : TestCore → TestCore) : (s.modTcore x f).droneToks = s.droneToks := rfl
@[simp] theorem State.modTcore_mor (x : Nat) (f : TestCore → TestCore) : (s.modTcore x f).mor = s.mor := rfl
@[simp] theorem State.modTcore_rate (x : Nat) (f : TestCore → TestCore) : (s.modTcore x f).rate = s.rate := rfl
@[simp] theorem State.modTcore_ladder (x : Nat) (f : TestCore → TestCore) : (s.modTcore x f).ladder = s.ladder := rfl
@[simp] theorem State.modTcore_ctxs (x : Nat) (f : TestCore → TestCore) : (s.modTcore x f).ctxs = s.ctxs := rfl
@[simp] theorem State.modTcore_urgent (x : Nat) (f : TestCore → TestCore) : (s.modTcore x f).urgent = s.urgent := rfl
@[simp] theorem State.modTcore_waiting (x : Nat) (f : TestCore → TestCore) : (s.modTcore x f).waiting = s.waiting := rfl
@[simp] theorem State.modTcore_nextDisp (x : Nat) (f : TestCore → TestCore) : (s.modTcore x f).nextDisp = s.nextDisp := rfl
@[simp] theorem State.modTcore_cores (x : Nat) (f : TestCore → TestCore) : (s.modTcore x f).cores = s.cores := rfl
@[simp] theorem State.modTcore_out (x : Nat) (f : TestCore → TestCore) : (s.modTcore x f).out = s.out := rfl
@[simp] theorem State.modTcore_marksC (x : Nat) (f : TestCore → TestCore) : (s.modTcore x f).marksC = s.marksC := rfl
@[simp] theorem State.modTcore_marksU (x : Nat) (f : TestCore → TestCore) : (s.modTcore x f).marksU = s.marksU := rfl
@[simp] theorem State.modTcore_lostPaths (x : Nat) (f : TestCore → TestCore) : (s.modTcore x f).lostPaths = s.lostPaths := rfl
@[simp] theorem State.modTcore_pw (x : Nat) (f : TestCore → TestCore) : (s.modTcore x f).pw = s.pw := rfl
@[simp] theorem State.modTcore_sensors (x : Nat) (f : TestCore → TestCore) : (s.modTcore x f).sensors = s.sensors := rfl
@[simp] theorem State.modTcore_tgroups (x : Nat) (f : TestCore → TestCore) : (s.modTcore x f).tgroups = s.tgroups := rfl
@[simp] theorem State.modTcore_limits (x : Nat) (f : TestCore → TestCore) : (s.modTcore x f).limits = s.limits := rfl
@[simp] theorem State.modTcore_hbms (x : Nat) (f : TestCore → TestCore) : (s.modTcore x f).hbms = s.hbms := rfl
@[simp] theorem State.modTcore_monitors (x : Nat) (f : TestCore → TestCore) : (s.modTcore x f).monitors = s.monitors := rfl
@[simp] theorem State.modTcore_cal (x : Nat) (f : TestCore → TestCore) : (s.modTcore x f).cal = s.cal := rfl
@[simp] theorem State.modTcore_sec (x : Nat) (f : TestCore → TestCore) : (s.modTcore x f).sec = s.sec := rfl
@[simp] theorem State.modTcore_serac (x : Nat) (f : TestCore → TestCore) : (s.modTcore x f).serac = s.serac := rfl
@[simp] theorem State.modTcore_nl (x : Nat) (f : TestCore → TestCore) : (s.modTcore x f).nl = s.nl := rfl
@[simp] theorem State.modTcore_fabric (x : Nat) (f : TestCore → TestCore) : (s.modTcore x f).fabric = s.fabric := rfl
@[simp] theorem State.modTcore_barrier (x : Nat) (f : TestCore → TestCore) : (s.modTcore x f).barrier = s.barrier := rfl
@[simp] theorem State.modTcore_firn (x : Nat) (f : TestCore → TestCore) : (s.modTcore x f).firn = s.firn := rfl
@[simp] theorem State.modTcore_rd (x : Nat) (f : TestCore → TestCore) (r' : Row) (k' i' : Nat) : (s.modTcore x f).rd r' k' i' = s.rd r' k' i' := rfl
@[simp] theorem State.modTcore_ctx (x : Nat) (f : TestCore → TestCore) (y : Nat) : (s.modTcore x f).ctx y = s.ctx y := rfl
@[simp] theorem State.modTcore_core (x : Nat) (f : TestCore → TestCore) (y : Nat) : (s.modTcore x f).core y = s.core y := rfl
@[simp] theorem State.modTcore_byte (x : Nat) (f : TestCore → TestCore) (y : Nat) : (s.modTcore x f).byte y = s.byte y := rfl

/-! ### modQtest -/

@[simp] theorem State.modQtest_pending (x : Nat) (f : QTest → QTest) : (s.modQtest x f).pending = s.pending := rfl
@[simp] theorem State.modQtest_regs (x : Nat) (f : QTest → QTest) : (s.modQtest x f).regs = s.regs := rfl
@[simp] theorem State.modQtest_mem (x : Nat) (f : QTest → QTest) : (s.modQtest x f).mem = s.mem := rfl
@[simp] theorem State.modQtest_host (x : Nat) (f : QTest → QTest) : (s.modQtest x f).host = s.host := rfl
@[simp] theorem State.modQtest_ftime (x : Nat) (f : QTest → QTest) : (s.modQtest x f).ftime = s.ftime := rfl
@[simp] theorem State.modQtest_draws (x : Nat) (f : QTest → QTest) : (s.modQtest x f).draws = s.draws := rfl
@[simp] theorem State.modQtest_latchHi (x : Nat) (f : QTest → QTest) : (s.modQtest x f).latchHi = s.latchHi := rfl
@[simp] theorem State.modQtest_boot (x : Nat) (f : QTest → QTest) : (s.modQtest x f).boot = s.boot := rfl
@[simp] theorem State.modQtest_pins (x : Nat) (f : QTest → QTest) : (s.modQtest x f).pins = s.pins := rfl
@[simp] theorem State.modQtest_pci (x : Nat) (f : QTest → QTest) : (s.modQtest x f).pci = s.pci := rfl
@[simp] theorem State.modQtest_fltIn (x : Nat) (f : QTest → QTest) : (s.modQtest x f).fltIn = s.fltIn := rfl
@[simp] theorem State.modQtest_droneToks (x : Nat) (f : QTest → QTest) : (s.modQtest x f).droneToks = s.droneToks := rfl
@[simp] theorem State.modQtest_mor (x : Nat) (f : QTest → QTest) : (s.modQtest x f).mor = s.mor := rfl
@[simp] theorem State.modQtest_rate (x : Nat) (f : QTest → QTest) : (s.modQtest x f).rate = s.rate := rfl
@[simp] theorem State.modQtest_ladder (x : Nat) (f : QTest → QTest) : (s.modQtest x f).ladder = s.ladder := rfl
@[simp] theorem State.modQtest_ctxs (x : Nat) (f : QTest → QTest) : (s.modQtest x f).ctxs = s.ctxs := rfl
@[simp] theorem State.modQtest_urgent (x : Nat) (f : QTest → QTest) : (s.modQtest x f).urgent = s.urgent := rfl
@[simp] theorem State.modQtest_waiting (x : Nat) (f : QTest → QTest) : (s.modQtest x f).waiting = s.waiting := rfl
@[simp] theorem State.modQtest_nextDisp (x : Nat) (f : QTest → QTest) : (s.modQtest x f).nextDisp = s.nextDisp := rfl
@[simp] theorem State.modQtest_cores (x : Nat) (f : QTest → QTest) : (s.modQtest x f).cores = s.cores := rfl
@[simp] theorem State.modQtest_out (x : Nat) (f : QTest → QTest) : (s.modQtest x f).out = s.out := rfl
@[simp] theorem State.modQtest_marksC (x : Nat) (f : QTest → QTest) : (s.modQtest x f).marksC = s.marksC := rfl
@[simp] theorem State.modQtest_marksU (x : Nat) (f : QTest → QTest) : (s.modQtest x f).marksU = s.marksU := rfl
@[simp] theorem State.modQtest_lostPaths (x : Nat) (f : QTest → QTest) : (s.modQtest x f).lostPaths = s.lostPaths := rfl
@[simp] theorem State.modQtest_pw (x : Nat) (f : QTest → QTest) : (s.modQtest x f).pw = s.pw := rfl
@[simp] theorem State.modQtest_sensors (x : Nat) (f : QTest → QTest) : (s.modQtest x f).sensors = s.sensors := rfl
@[simp] theorem State.modQtest_tgroups (x : Nat) (f : QTest → QTest) : (s.modQtest x f).tgroups = s.tgroups := rfl
@[simp] theorem State.modQtest_limits (x : Nat) (f : QTest → QTest) : (s.modQtest x f).limits = s.limits := rfl
@[simp] theorem State.modQtest_hbms (x : Nat) (f : QTest → QTest) : (s.modQtest x f).hbms = s.hbms := rfl
@[simp] theorem State.modQtest_monitors (x : Nat) (f : QTest → QTest) : (s.modQtest x f).monitors = s.monitors := rfl
@[simp] theorem State.modQtest_cal (x : Nat) (f : QTest → QTest) : (s.modQtest x f).cal = s.cal := rfl
@[simp] theorem State.modQtest_sec (x : Nat) (f : QTest → QTest) : (s.modQtest x f).sec = s.sec := rfl
@[simp] theorem State.modQtest_serac (x : Nat) (f : QTest → QTest) : (s.modQtest x f).serac = s.serac := rfl
@[simp] theorem State.modQtest_nl (x : Nat) (f : QTest → QTest) : (s.modQtest x f).nl = s.nl := rfl
@[simp] theorem State.modQtest_fabric (x : Nat) (f : QTest → QTest) : (s.modQtest x f).fabric = s.fabric := rfl
@[simp] theorem State.modQtest_barrier (x : Nat) (f : QTest → QTest) : (s.modQtest x f).barrier = s.barrier := rfl
@[simp] theorem State.modQtest_firn (x : Nat) (f : QTest → QTest) : (s.modQtest x f).firn = s.firn := rfl
@[simp] theorem State.modQtest_rd (x : Nat) (f : QTest → QTest) (r' : Row) (k' i' : Nat) : (s.modQtest x f).rd r' k' i' = s.rd r' k' i' := rfl
@[simp] theorem State.modQtest_ctx (x : Nat) (f : QTest → QTest) (y : Nat) : (s.modQtest x f).ctx y = s.ctx y := rfl
@[simp] theorem State.modQtest_core (x : Nat) (f : QTest → QTest) (y : Nat) : (s.modQtest x f).core y = s.core y := rfl
@[simp] theorem State.modQtest_byte (x : Nat) (f : QTest → QTest) (y : Nat) : (s.modQtest x f).byte y = s.byte y := rfl

/-! ### modSerac -/

@[simp] theorem State.modSerac_pending (f : Serac → Serac) : (s.modSerac f).pending = s.pending := rfl
@[simp] theorem State.modSerac_regs (f : Serac → Serac) : (s.modSerac f).regs = s.regs := rfl
@[simp] theorem State.modSerac_mem (f : Serac → Serac) : (s.modSerac f).mem = s.mem := rfl
@[simp] theorem State.modSerac_host (f : Serac → Serac) : (s.modSerac f).host = s.host := rfl
@[simp] theorem State.modSerac_ftime (f : Serac → Serac) : (s.modSerac f).ftime = s.ftime := rfl
@[simp] theorem State.modSerac_draws (f : Serac → Serac) : (s.modSerac f).draws = s.draws := rfl
@[simp] theorem State.modSerac_latchHi (f : Serac → Serac) : (s.modSerac f).latchHi = s.latchHi := rfl
@[simp] theorem State.modSerac_boot (f : Serac → Serac) : (s.modSerac f).boot = s.boot := rfl
@[simp] theorem State.modSerac_pins (f : Serac → Serac) : (s.modSerac f).pins = s.pins := rfl
@[simp] theorem State.modSerac_pci (f : Serac → Serac) : (s.modSerac f).pci = s.pci := rfl
@[simp] theorem State.modSerac_fltIn (f : Serac → Serac) : (s.modSerac f).fltIn = s.fltIn := rfl
@[simp] theorem State.modSerac_droneToks (f : Serac → Serac) : (s.modSerac f).droneToks = s.droneToks := rfl
@[simp] theorem State.modSerac_mor (f : Serac → Serac) : (s.modSerac f).mor = s.mor := rfl
@[simp] theorem State.modSerac_rate (f : Serac → Serac) : (s.modSerac f).rate = s.rate := rfl
@[simp] theorem State.modSerac_ladder (f : Serac → Serac) : (s.modSerac f).ladder = s.ladder := rfl
@[simp] theorem State.modSerac_ctxs (f : Serac → Serac) : (s.modSerac f).ctxs = s.ctxs := rfl
@[simp] theorem State.modSerac_urgent (f : Serac → Serac) : (s.modSerac f).urgent = s.urgent := rfl
@[simp] theorem State.modSerac_waiting (f : Serac → Serac) : (s.modSerac f).waiting = s.waiting := rfl
@[simp] theorem State.modSerac_nextDisp (f : Serac → Serac) : (s.modSerac f).nextDisp = s.nextDisp := rfl
@[simp] theorem State.modSerac_cores (f : Serac → Serac) : (s.modSerac f).cores = s.cores := rfl
@[simp] theorem State.modSerac_out (f : Serac → Serac) : (s.modSerac f).out = s.out := rfl
@[simp] theorem State.modSerac_marksC (f : Serac → Serac) : (s.modSerac f).marksC = s.marksC := rfl
@[simp] theorem State.modSerac_marksU (f : Serac → Serac) : (s.modSerac f).marksU = s.marksU := rfl
@[simp] theorem State.modSerac_lostPaths (f : Serac → Serac) : (s.modSerac f).lostPaths = s.lostPaths := rfl
@[simp] theorem State.modSerac_pw (f : Serac → Serac) : (s.modSerac f).pw = s.pw := rfl
@[simp] theorem State.modSerac_sensors (f : Serac → Serac) : (s.modSerac f).sensors = s.sensors := rfl
@[simp] theorem State.modSerac_tgroups (f : Serac → Serac) : (s.modSerac f).tgroups = s.tgroups := rfl
@[simp] theorem State.modSerac_limits (f : Serac → Serac) : (s.modSerac f).limits = s.limits := rfl
@[simp] theorem State.modSerac_hbms (f : Serac → Serac) : (s.modSerac f).hbms = s.hbms := rfl
@[simp] theorem State.modSerac_monitors (f : Serac → Serac) : (s.modSerac f).monitors = s.monitors := rfl
@[simp] theorem State.modSerac_cal (f : Serac → Serac) : (s.modSerac f).cal = s.cal := rfl
@[simp] theorem State.modSerac_sec (f : Serac → Serac) : (s.modSerac f).sec = s.sec := rfl
@[simp] theorem State.modSerac_test (f : Serac → Serac) : (s.modSerac f).test = s.test := rfl
@[simp] theorem State.modSerac_nl (f : Serac → Serac) : (s.modSerac f).nl = s.nl := rfl
@[simp] theorem State.modSerac_fabric (f : Serac → Serac) : (s.modSerac f).fabric = s.fabric := rfl
@[simp] theorem State.modSerac_barrier (f : Serac → Serac) : (s.modSerac f).barrier = s.barrier := rfl
@[simp] theorem State.modSerac_firn (f : Serac → Serac) : (s.modSerac f).firn = s.firn := rfl
@[simp] theorem State.modSerac_rd (f : Serac → Serac) (r' : Row) (k' i' : Nat) : (s.modSerac f).rd r' k' i' = s.rd r' k' i' := rfl
@[simp] theorem State.modSerac_ctx (f : Serac → Serac) (y : Nat) : (s.modSerac f).ctx y = s.ctx y := rfl
@[simp] theorem State.modSerac_core (f : Serac → Serac) (y : Nat) : (s.modSerac f).core y = s.core y := rfl
@[simp] theorem State.modSerac_byte (f : Serac → Serac) (y : Nat) : (s.modSerac f).byte y = s.byte y := rfl

/-! ### modBoot -/

@[simp] theorem State.modBoot_pending (f : Boot → Boot) : (s.modBoot f).pending = s.pending := rfl
@[simp] theorem State.modBoot_regs (f : Boot → Boot) : (s.modBoot f).regs = s.regs := rfl
@[simp] theorem State.modBoot_mem (f : Boot → Boot) : (s.modBoot f).mem = s.mem := rfl
@[simp] theorem State.modBoot_host (f : Boot → Boot) : (s.modBoot f).host = s.host := rfl
@[simp] theorem State.modBoot_ftime (f : Boot → Boot) : (s.modBoot f).ftime = s.ftime := rfl
@[simp] theorem State.modBoot_draws (f : Boot → Boot) : (s.modBoot f).draws = s.draws := rfl
@[simp] theorem State.modBoot_latchHi (f : Boot → Boot) : (s.modBoot f).latchHi = s.latchHi := rfl
@[simp] theorem State.modBoot_pins (f : Boot → Boot) : (s.modBoot f).pins = s.pins := rfl
@[simp] theorem State.modBoot_pci (f : Boot → Boot) : (s.modBoot f).pci = s.pci := rfl
@[simp] theorem State.modBoot_fltIn (f : Boot → Boot) : (s.modBoot f).fltIn = s.fltIn := rfl
@[simp] theorem State.modBoot_droneToks (f : Boot → Boot) : (s.modBoot f).droneToks = s.droneToks := rfl
@[simp] theorem State.modBoot_mor (f : Boot → Boot) : (s.modBoot f).mor = s.mor := rfl
@[simp] theorem State.modBoot_rate (f : Boot → Boot) : (s.modBoot f).rate = s.rate := rfl
@[simp] theorem State.modBoot_ladder (f : Boot → Boot) : (s.modBoot f).ladder = s.ladder := rfl
@[simp] theorem State.modBoot_ctxs (f : Boot → Boot) : (s.modBoot f).ctxs = s.ctxs := rfl
@[simp] theorem State.modBoot_urgent (f : Boot → Boot) : (s.modBoot f).urgent = s.urgent := rfl
@[simp] theorem State.modBoot_waiting (f : Boot → Boot) : (s.modBoot f).waiting = s.waiting := rfl
@[simp] theorem State.modBoot_nextDisp (f : Boot → Boot) : (s.modBoot f).nextDisp = s.nextDisp := rfl
@[simp] theorem State.modBoot_cores (f : Boot → Boot) : (s.modBoot f).cores = s.cores := rfl
@[simp] theorem State.modBoot_out (f : Boot → Boot) : (s.modBoot f).out = s.out := rfl
@[simp] theorem State.modBoot_marksC (f : Boot → Boot) : (s.modBoot f).marksC = s.marksC := rfl
@[simp] theorem State.modBoot_marksU (f : Boot → Boot) : (s.modBoot f).marksU = s.marksU := rfl
@[simp] theorem State.modBoot_lostPaths (f : Boot → Boot) : (s.modBoot f).lostPaths = s.lostPaths := rfl
@[simp] theorem State.modBoot_pw (f : Boot → Boot) : (s.modBoot f).pw = s.pw := rfl
@[simp] theorem State.modBoot_sensors (f : Boot → Boot) : (s.modBoot f).sensors = s.sensors := rfl
@[simp] theorem State.modBoot_tgroups (f : Boot → Boot) : (s.modBoot f).tgroups = s.tgroups := rfl
@[simp] theorem State.modBoot_limits (f : Boot → Boot) : (s.modBoot f).limits = s.limits := rfl
@[simp] theorem State.modBoot_hbms (f : Boot → Boot) : (s.modBoot f).hbms = s.hbms := rfl
@[simp] theorem State.modBoot_monitors (f : Boot → Boot) : (s.modBoot f).monitors = s.monitors := rfl
@[simp] theorem State.modBoot_cal (f : Boot → Boot) : (s.modBoot f).cal = s.cal := rfl
@[simp] theorem State.modBoot_sec (f : Boot → Boot) : (s.modBoot f).sec = s.sec := rfl
@[simp] theorem State.modBoot_serac (f : Boot → Boot) : (s.modBoot f).serac = s.serac := rfl
@[simp] theorem State.modBoot_test (f : Boot → Boot) : (s.modBoot f).test = s.test := rfl
@[simp] theorem State.modBoot_nl (f : Boot → Boot) : (s.modBoot f).nl = s.nl := rfl
@[simp] theorem State.modBoot_fabric (f : Boot → Boot) : (s.modBoot f).fabric = s.fabric := rfl
@[simp] theorem State.modBoot_barrier (f : Boot → Boot) : (s.modBoot f).barrier = s.barrier := rfl
@[simp] theorem State.modBoot_firn (f : Boot → Boot) : (s.modBoot f).firn = s.firn := rfl
@[simp] theorem State.modBoot_rd (f : Boot → Boot) (r' : Row) (k' i' : Nat) : (s.modBoot f).rd r' k' i' = s.rd r' k' i' := rfl
@[simp] theorem State.modBoot_ctx (f : Boot → Boot) (y : Nat) : (s.modBoot f).ctx y = s.ctx y := rfl
@[simp] theorem State.modBoot_core (f : Boot → Boot) (y : Nat) : (s.modBoot f).core y = s.core y := rfl
@[simp] theorem State.modBoot_byte (f : Boot → Boot) (y : Nat) : (s.modBoot f).byte y = s.byte y := rfl

/-! ### modLadder -/

@[simp] theorem State.modLadder_pending (f : Ladder → Ladder) : (s.modLadder f).pending = s.pending := rfl
@[simp] theorem State.modLadder_regs (f : Ladder → Ladder) : (s.modLadder f).regs = s.regs := rfl
@[simp] theorem State.modLadder_mem (f : Ladder → Ladder) : (s.modLadder f).mem = s.mem := rfl
@[simp] theorem State.modLadder_host (f : Ladder → Ladder) : (s.modLadder f).host = s.host := rfl
@[simp] theorem State.modLadder_ftime (f : Ladder → Ladder) : (s.modLadder f).ftime = s.ftime := rfl
@[simp] theorem State.modLadder_draws (f : Ladder → Ladder) : (s.modLadder f).draws = s.draws := rfl
@[simp] theorem State.modLadder_latchHi (f : Ladder → Ladder) : (s.modLadder f).latchHi = s.latchHi := rfl
@[simp] theorem State.modLadder_boot (f : Ladder → Ladder) : (s.modLadder f).boot = s.boot := rfl
@[simp] theorem State.modLadder_pins (f : Ladder → Ladder) : (s.modLadder f).pins = s.pins := rfl
@[simp] theorem State.modLadder_pci (f : Ladder → Ladder) : (s.modLadder f).pci = s.pci := rfl
@[simp] theorem State.modLadder_fltIn (f : Ladder → Ladder) : (s.modLadder f).fltIn = s.fltIn := rfl
@[simp] theorem State.modLadder_droneToks (f : Ladder → Ladder) : (s.modLadder f).droneToks = s.droneToks := rfl
@[simp] theorem State.modLadder_mor (f : Ladder → Ladder) : (s.modLadder f).mor = s.mor := rfl
@[simp] theorem State.modLadder_rate (f : Ladder → Ladder) : (s.modLadder f).rate = s.rate := rfl
@[simp] theorem State.modLadder_ctxs (f : Ladder → Ladder) : (s.modLadder f).ctxs = s.ctxs := rfl
@[simp] theorem State.modLadder_urgent (f : Ladder → Ladder) : (s.modLadder f).urgent = s.urgent := rfl
@[simp] theorem State.modLadder_waiting (f : Ladder → Ladder) : (s.modLadder f).waiting = s.waiting := rfl
@[simp] theorem State.modLadder_nextDisp (f : Ladder → Ladder) : (s.modLadder f).nextDisp = s.nextDisp := rfl
@[simp] theorem State.modLadder_cores (f : Ladder → Ladder) : (s.modLadder f).cores = s.cores := rfl
@[simp] theorem State.modLadder_out (f : Ladder → Ladder) : (s.modLadder f).out = s.out := rfl
@[simp] theorem State.modLadder_marksC (f : Ladder → Ladder) : (s.modLadder f).marksC = s.marksC := rfl
@[simp] theorem State.modLadder_marksU (f : Ladder → Ladder) : (s.modLadder f).marksU = s.marksU := rfl
@[simp] theorem State.modLadder_lostPaths (f : Ladder → Ladder) : (s.modLadder f).lostPaths = s.lostPaths := rfl
@[simp] theorem State.modLadder_pw (f : Ladder → Ladder) : (s.modLadder f).pw = s.pw := rfl
@[simp] theorem State.modLadder_sensors (f : Ladder → Ladder) : (s.modLadder f).sensors = s.sensors := rfl
@[simp] theorem State.modLadder_tgroups (f : Ladder → Ladder) : (s.modLadder f).tgroups = s.tgroups := rfl
@[simp] theorem State.modLadder_limits (f : Ladder → Ladder) : (s.modLadder f).limits = s.limits := rfl
@[simp] theorem State.modLadder_hbms (f : Ladder → Ladder) : (s.modLadder f).hbms = s.hbms := rfl
@[simp] theorem State.modLadder_monitors (f : Ladder → Ladder) : (s.modLadder f).monitors = s.monitors := rfl
@[simp] theorem State.modLadder_cal (f : Ladder → Ladder) : (s.modLadder f).cal = s.cal := rfl
@[simp] theorem State.modLadder_sec (f : Ladder → Ladder) : (s.modLadder f).sec = s.sec := rfl
@[simp] theorem State.modLadder_serac (f : Ladder → Ladder) : (s.modLadder f).serac = s.serac := rfl
@[simp] theorem State.modLadder_test (f : Ladder → Ladder) : (s.modLadder f).test = s.test := rfl
@[simp] theorem State.modLadder_nl (f : Ladder → Ladder) : (s.modLadder f).nl = s.nl := rfl
@[simp] theorem State.modLadder_fabric (f : Ladder → Ladder) : (s.modLadder f).fabric = s.fabric := rfl
@[simp] theorem State.modLadder_barrier (f : Ladder → Ladder) : (s.modLadder f).barrier = s.barrier := rfl
@[simp] theorem State.modLadder_firn (f : Ladder → Ladder) : (s.modLadder f).firn = s.firn := rfl
@[simp] theorem State.modLadder_rd (f : Ladder → Ladder) (r' : Row) (k' i' : Nat) : (s.modLadder f).rd r' k' i' = s.rd r' k' i' := rfl
@[simp] theorem State.modLadder_ctx (f : Ladder → Ladder) (y : Nat) : (s.modLadder f).ctx y = s.ctx y := rfl
@[simp] theorem State.modLadder_core (f : Ladder → Ladder) (y : Nat) : (s.modLadder f).core y = s.core y := rfl
@[simp] theorem State.modLadder_byte (f : Ladder → Ladder) (y : Nat) : (s.modLadder f).byte y = s.byte y := rfl

/-! ### modFirn -/

@[simp] theorem State.modFirn_pending (f : Firn → Firn) : (s.modFirn f).pending = s.pending := rfl
@[simp] theorem State.modFirn_regs (f : Firn → Firn) : (s.modFirn f).regs = s.regs := rfl
@[simp] theorem State.modFirn_mem (f : Firn → Firn) : (s.modFirn f).mem = s.mem := rfl
@[simp] theorem State.modFirn_host (f : Firn → Firn) : (s.modFirn f).host = s.host := rfl
@[simp] theorem State.modFirn_ftime (f : Firn → Firn) : (s.modFirn f).ftime = s.ftime := rfl
@[simp] theorem State.modFirn_draws (f : Firn → Firn) : (s.modFirn f).draws = s.draws := rfl
@[simp] theorem State.modFirn_latchHi (f : Firn → Firn) : (s.modFirn f).latchHi = s.latchHi := rfl
@[simp] theorem State.modFirn_boot (f : Firn → Firn) : (s.modFirn f).boot = s.boot := rfl
@[simp] theorem State.modFirn_pins (f : Firn → Firn) : (s.modFirn f).pins = s.pins := rfl
@[simp] theorem State.modFirn_pci (f : Firn → Firn) : (s.modFirn f).pci = s.pci := rfl
@[simp] theorem State.modFirn_fltIn (f : Firn → Firn) : (s.modFirn f).fltIn = s.fltIn := rfl
@[simp] theorem State.modFirn_droneToks (f : Firn → Firn) : (s.modFirn f).droneToks = s.droneToks := rfl
@[simp] theorem State.modFirn_mor (f : Firn → Firn) : (s.modFirn f).mor = s.mor := rfl
@[simp] theorem State.modFirn_rate (f : Firn → Firn) : (s.modFirn f).rate = s.rate := rfl
@[simp] theorem State.modFirn_ladder (f : Firn → Firn) : (s.modFirn f).ladder = s.ladder := rfl
@[simp] theorem State.modFirn_ctxs (f : Firn → Firn) : (s.modFirn f).ctxs = s.ctxs := rfl
@[simp] theorem State.modFirn_urgent (f : Firn → Firn) : (s.modFirn f).urgent = s.urgent := rfl
@[simp] theorem State.modFirn_waiting (f : Firn → Firn) : (s.modFirn f).waiting = s.waiting := rfl
@[simp] theorem State.modFirn_nextDisp (f : Firn → Firn) : (s.modFirn f).nextDisp = s.nextDisp := rfl
@[simp] theorem State.modFirn_cores (f : Firn → Firn) : (s.modFirn f).cores = s.cores := rfl
@[simp] theorem State.modFirn_out (f : Firn → Firn) : (s.modFirn f).out = s.out := rfl
@[simp] theorem State.modFirn_marksC (f : Firn → Firn) : (s.modFirn f).marksC = s.marksC := rfl
@[simp] theorem State.modFirn_marksU (f : Firn → Firn) : (s.modFirn f).marksU = s.marksU := rfl
@[simp] theorem State.modFirn_lostPaths (f : Firn → Firn) : (s.modFirn f).lostPaths = s.lostPaths := rfl
@[simp] theorem State.modFirn_pw (f : Firn → Firn) : (s.modFirn f).pw = s.pw := rfl
@[simp] theorem State.modFirn_sensors (f : Firn → Firn) : (s.modFirn f).sensors = s.sensors := rfl
@[simp] theorem State.modFirn_tgroups (f : Firn → Firn) : (s.modFirn f).tgroups = s.tgroups := rfl
@[simp] theorem State.modFirn_limits (f : Firn → Firn) : (s.modFirn f).limits = s.limits := rfl
@[simp] theorem State.modFirn_hbms (f : Firn → Firn) : (s.modFirn f).hbms = s.hbms := rfl
@[simp] theorem State.modFirn_monitors (f : Firn → Firn) : (s.modFirn f).monitors = s.monitors := rfl
@[simp] theorem State.modFirn_cal (f : Firn → Firn) : (s.modFirn f).cal = s.cal := rfl
@[simp] theorem State.modFirn_sec (f : Firn → Firn) : (s.modFirn f).sec = s.sec := rfl
@[simp] theorem State.modFirn_serac (f : Firn → Firn) : (s.modFirn f).serac = s.serac := rfl
@[simp] theorem State.modFirn_test (f : Firn → Firn) : (s.modFirn f).test = s.test := rfl
@[simp] theorem State.modFirn_nl (f : Firn → Firn) : (s.modFirn f).nl = s.nl := rfl
@[simp] theorem State.modFirn_fabric (f : Firn → Firn) : (s.modFirn f).fabric = s.fabric := rfl
@[simp] theorem State.modFirn_barrier (f : Firn → Firn) : (s.modFirn f).barrier = s.barrier := rfl
@[simp] theorem State.modFirn_rd (f : Firn → Firn) (r' : Row) (k' i' : Nat) : (s.modFirn f).rd r' k' i' = s.rd r' k' i' := rfl
@[simp] theorem State.modFirn_ctx (f : Firn → Firn) (y : Nat) : (s.modFirn f).ctx y = s.ctx y := rfl
@[simp] theorem State.modFirn_core (f : Firn → Firn) (y : Nat) : (s.modFirn f).core y = s.core y := rfl
@[simp] theorem State.modFirn_byte (f : Firn → Firn) (y : Nat) : (s.modFirn f).byte y = s.byte y := rfl

/-! ### modBarrier -/

@[simp] theorem State.modBarrier_pending (f : Barrier → Barrier) : (s.modBarrier f).pending = s.pending := rfl
@[simp] theorem State.modBarrier_regs (f : Barrier → Barrier) : (s.modBarrier f).regs = s.regs := rfl
@[simp] theorem State.modBarrier_mem (f : Barrier → Barrier) : (s.modBarrier f).mem = s.mem := rfl
@[simp] theorem State.modBarrier_host (f : Barrier → Barrier) : (s.modBarrier f).host = s.host := rfl
@[simp] theorem State.modBarrier_ftime (f : Barrier → Barrier) : (s.modBarrier f).ftime = s.ftime := rfl
@[simp] theorem State.modBarrier_draws (f : Barrier → Barrier) : (s.modBarrier f).draws = s.draws := rfl
@[simp] theorem State.modBarrier_latchHi (f : Barrier → Barrier) : (s.modBarrier f).latchHi = s.latchHi := rfl
@[simp] theorem State.modBarrier_boot (f : Barrier → Barrier) : (s.modBarrier f).boot = s.boot := rfl
@[simp] theorem State.modBarrier_pins (f : Barrier → Barrier) : (s.modBarrier f).pins = s.pins := rfl
@[simp] theorem State.modBarrier_pci (f : Barrier → Barrier) : (s.modBarrier f).pci = s.pci := rfl
@[simp] theorem State.modBarrier_fltIn (f : Barrier → Barrier) : (s.modBarrier f).fltIn = s.fltIn := rfl
@[simp] theorem State.modBarrier_droneToks (f : Barrier → Barrier) : (s.modBarrier f).droneToks = s.droneToks := rfl
@[simp] theorem State.modBarrier_mor (f : Barrier → Barrier) : (s.modBarrier f).mor = s.mor := rfl
@[simp] theorem State.modBarrier_rate (f : Barrier → Barrier) : (s.modBarrier f).rate = s.rate := rfl
@[simp] theorem State.modBarrier_ladder (f : Barrier → Barrier) : (s.modBarrier f).ladder = s.ladder := rfl
@[simp] theorem State.modBarrier_ctxs (f : Barrier → Barrier) : (s.modBarrier f).ctxs = s.ctxs := rfl
@[simp] theorem State.modBarrier_urgent (f : Barrier → Barrier) : (s.modBarrier f).urgent = s.urgent := rfl
@[simp] theorem State.modBarrier_waiting (f : Barrier → Barrier) : (s.modBarrier f).waiting = s.waiting := rfl
@[simp] theorem State.modBarrier_nextDisp (f : Barrier → Barrier) : (s.modBarrier f).nextDisp = s.nextDisp := rfl
@[simp] theorem State.modBarrier_cores (f : Barrier → Barrier) : (s.modBarrier f).cores = s.cores := rfl
@[simp] theorem State.modBarrier_out (f : Barrier → Barrier) : (s.modBarrier f).out = s.out := rfl
@[simp] theorem State.modBarrier_marksC (f : Barrier → Barrier) : (s.modBarrier f).marksC = s.marksC := rfl
@[simp] theorem State.modBarrier_marksU (f : Barrier → Barrier) : (s.modBarrier f).marksU = s.marksU := rfl
@[simp] theorem State.modBarrier_lostPaths (f : Barrier → Barrier) : (s.modBarrier f).lostPaths = s.lostPaths := rfl
@[simp] theorem State.modBarrier_pw (f : Barrier → Barrier) : (s.modBarrier f).pw = s.pw := rfl
@[simp] theorem State.modBarrier_sensors (f : Barrier → Barrier) : (s.modBarrier f).sensors = s.sensors := rfl
@[simp] theorem State.modBarrier_tgroups (f : Barrier → Barrier) : (s.modBarrier f).tgroups = s.tgroups := rfl
@[simp] theorem State.modBarrier_limits (f : Barrier → Barrier) : (s.modBarrier f).limits = s.limits := rfl
@[simp] theorem State.modBarrier_hbms (f : Barrier → Barrier) : (s.modBarrier f).hbms = s.hbms := rfl
@[simp] theorem State.modBarrier_monitors (f : Barrier → Barrier) : (s.modBarrier f).monitors = s.monitors := rfl
@[simp] theorem State.modBarrier_cal (f : Barrier → Barrier) : (s.modBarrier f).cal = s.cal := rfl
@[simp] theorem State.modBarrier_sec (f : Barrier → Barrier) : (s.modBarrier f).sec = s.sec := rfl
@[simp] theorem State.modBarrier_serac (f : Barrier → Barrier) : (s.modBarrier f).serac = s.serac := rfl
@[simp] theorem State.modBarrier_test (f : Barrier → Barrier) : (s.modBarrier f).test = s.test := rfl
@[simp] theorem State.modBarrier_nl (f : Barrier → Barrier) : (s.modBarrier f).nl = s.nl := rfl
@[simp] theorem State.modBarrier_fabric (f : Barrier → Barrier) : (s.modBarrier f).fabric = s.fabric := rfl
@[simp] theorem State.modBarrier_firn (f : Barrier → Barrier) : (s.modBarrier f).firn = s.firn := rfl
@[simp] theorem State.modBarrier_rd (f : Barrier → Barrier) (r' : Row) (k' i' : Nat) : (s.modBarrier f).rd r' k' i' = s.rd r' k' i' := rfl
@[simp] theorem State.modBarrier_ctx (f : Barrier → Barrier) (y : Nat) : (s.modBarrier f).ctx y = s.ctx y := rfl
@[simp] theorem State.modBarrier_core (f : Barrier → Barrier) (y : Nat) : (s.modBarrier f).core y = s.core y := rfl
@[simp] theorem State.modBarrier_byte (f : Barrier → Barrier) (y : Nat) : (s.modBarrier f).byte y = s.byte y := rfl

/-! ### modPort -/

@[simp] theorem State.modPort_pending (x : Nat) (f : NlPort → NlPort) : (s.modPort x f).pending = s.pending := rfl
@[simp] theorem State.modPort_regs (x : Nat) (f : NlPort → NlPort) : (s.modPort x f).regs = s.regs := rfl
@[simp] theorem State.modPort_mem (x : Nat) (f : NlPort → NlPort) : (s.modPort x f).mem = s.mem := rfl
@[simp] theorem State.modPort_host (x : Nat) (f : NlPort → NlPort) : (s.modPort x f).host = s.host := rfl
@[simp] theorem State.modPort_ftime (x : Nat) (f : NlPort → NlPort) : (s.modPort x f).ftime = s.ftime := rfl
@[simp] theorem State.modPort_draws (x : Nat) (f : NlPort → NlPort) : (s.modPort x f).draws = s.draws := rfl
@[simp] theorem State.modPort_latchHi (x : Nat) (f : NlPort → NlPort) : (s.modPort x f).latchHi = s.latchHi := rfl
@[simp] theorem State.modPort_boot (x : Nat) (f : NlPort → NlPort) : (s.modPort x f).boot = s.boot := rfl
@[simp] theorem State.modPort_pins (x : Nat) (f : NlPort → NlPort) : (s.modPort x f).pins = s.pins := rfl
@[simp] theorem State.modPort_pci (x : Nat) (f : NlPort → NlPort) : (s.modPort x f).pci = s.pci := rfl
@[simp] theorem State.modPort_fltIn (x : Nat) (f : NlPort → NlPort) : (s.modPort x f).fltIn = s.fltIn := rfl
@[simp] theorem State.modPort_droneToks (x : Nat) (f : NlPort → NlPort) : (s.modPort x f).droneToks = s.droneToks := rfl
@[simp] theorem State.modPort_mor (x : Nat) (f : NlPort → NlPort) : (s.modPort x f).mor = s.mor := rfl
@[simp] theorem State.modPort_rate (x : Nat) (f : NlPort → NlPort) : (s.modPort x f).rate = s.rate := rfl
@[simp] theorem State.modPort_ladder (x : Nat) (f : NlPort → NlPort) : (s.modPort x f).ladder = s.ladder := rfl
@[simp] theorem State.modPort_ctxs (x : Nat) (f : NlPort → NlPort) : (s.modPort x f).ctxs = s.ctxs := rfl
@[simp] theorem State.modPort_urgent (x : Nat) (f : NlPort → NlPort) : (s.modPort x f).urgent = s.urgent := rfl
@[simp] theorem State.modPort_waiting (x : Nat) (f : NlPort → NlPort) : (s.modPort x f).waiting = s.waiting := rfl
@[simp] theorem State.modPort_nextDisp (x : Nat) (f : NlPort → NlPort) : (s.modPort x f).nextDisp = s.nextDisp := rfl
@[simp] theorem State.modPort_cores (x : Nat) (f : NlPort → NlPort) : (s.modPort x f).cores = s.cores := rfl
@[simp] theorem State.modPort_out (x : Nat) (f : NlPort → NlPort) : (s.modPort x f).out = s.out := rfl
@[simp] theorem State.modPort_marksC (x : Nat) (f : NlPort → NlPort) : (s.modPort x f).marksC = s.marksC := rfl
@[simp] theorem State.modPort_marksU (x : Nat) (f : NlPort → NlPort) : (s.modPort x f).marksU = s.marksU := rfl
@[simp] theorem State.modPort_lostPaths (x : Nat) (f : NlPort → NlPort) : (s.modPort x f).lostPaths = s.lostPaths := rfl
@[simp] theorem State.modPort_pw (x : Nat) (f : NlPort → NlPort) : (s.modPort x f).pw = s.pw := rfl
@[simp] theorem State.modPort_sensors (x : Nat) (f : NlPort → NlPort) : (s.modPort x f).sensors = s.sensors := rfl
@[simp] theorem State.modPort_tgroups (x : Nat) (f : NlPort → NlPort) : (s.modPort x f).tgroups = s.tgroups := rfl
@[simp] theorem State.modPort_limits (x : Nat) (f : NlPort → NlPort) : (s.modPort x f).limits = s.limits := rfl
@[simp] theorem State.modPort_hbms (x : Nat) (f : NlPort → NlPort) : (s.modPort x f).hbms = s.hbms := rfl
@[simp] theorem State.modPort_monitors (x : Nat) (f : NlPort → NlPort) : (s.modPort x f).monitors = s.monitors := rfl
@[simp] theorem State.modPort_cal (x : Nat) (f : NlPort → NlPort) : (s.modPort x f).cal = s.cal := rfl
@[simp] theorem State.modPort_sec (x : Nat) (f : NlPort → NlPort) : (s.modPort x f).sec = s.sec := rfl
@[simp] theorem State.modPort_serac (x : Nat) (f : NlPort → NlPort) : (s.modPort x f).serac = s.serac := rfl
@[simp] theorem State.modPort_test (x : Nat) (f : NlPort → NlPort) : (s.modPort x f).test = s.test := rfl
@[simp] theorem State.modPort_fabric (x : Nat) (f : NlPort → NlPort) : (s.modPort x f).fabric = s.fabric := rfl
@[simp] theorem State.modPort_barrier (x : Nat) (f : NlPort → NlPort) : (s.modPort x f).barrier = s.barrier := rfl
@[simp] theorem State.modPort_firn (x : Nat) (f : NlPort → NlPort) : (s.modPort x f).firn = s.firn := rfl
@[simp] theorem State.modPort_rd (x : Nat) (f : NlPort → NlPort) (r' : Row) (k' i' : Nat) : (s.modPort x f).rd r' k' i' = s.rd r' k' i' := rfl
@[simp] theorem State.modPort_ctx (x : Nat) (f : NlPort → NlPort) (y : Nat) : (s.modPort x f).ctx y = s.ctx y := rfl
@[simp] theorem State.modPort_core (x : Nat) (f : NlPort → NlPort) (y : Nat) : (s.modPort x f).core y = s.core y := rfl
@[simp] theorem State.modPort_byte (x : Nat) (f : NlPort → NlPort) (y : Nat) : (s.modPort x f).byte y = s.byte y := rfl

/-! ### modLimit -/

@[simp] theorem State.modLimit_pending (x : Nat) (f : Limits → Limits) : (s.modLimit x f).pending = s.pending := rfl
@[simp] theorem State.modLimit_regs (x : Nat) (f : Limits → Limits) : (s.modLimit x f).regs = s.regs := rfl
@[simp] theorem State.modLimit_mem (x : Nat) (f : Limits → Limits) : (s.modLimit x f).mem = s.mem := rfl
@[simp] theorem State.modLimit_host (x : Nat) (f : Limits → Limits) : (s.modLimit x f).host = s.host := rfl
@[simp] theorem State.modLimit_ftime (x : Nat) (f : Limits → Limits) : (s.modLimit x f).ftime = s.ftime := rfl
@[simp] theorem State.modLimit_draws (x : Nat) (f : Limits → Limits) : (s.modLimit x f).draws = s.draws := rfl
@[simp] theorem State.modLimit_latchHi (x : Nat) (f : Limits → Limits) : (s.modLimit x f).latchHi = s.latchHi := rfl
@[simp] theorem State.modLimit_boot (x : Nat) (f : Limits → Limits) : (s.modLimit x f).boot = s.boot := rfl
@[simp] theorem State.modLimit_pins (x : Nat) (f : Limits → Limits) : (s.modLimit x f).pins = s.pins := rfl
@[simp] theorem State.modLimit_pci (x : Nat) (f : Limits → Limits) : (s.modLimit x f).pci = s.pci := rfl
@[simp] theorem State.modLimit_fltIn (x : Nat) (f : Limits → Limits) : (s.modLimit x f).fltIn = s.fltIn := rfl
@[simp] theorem State.modLimit_droneToks (x : Nat) (f : Limits → Limits) : (s.modLimit x f).droneToks = s.droneToks := rfl
@[simp] theorem State.modLimit_mor (x : Nat) (f : Limits → Limits) : (s.modLimit x f).mor = s.mor := rfl
@[simp] theorem State.modLimit_rate (x : Nat) (f : Limits → Limits) : (s.modLimit x f).rate = s.rate := rfl
@[simp] theorem State.modLimit_ladder (x : Nat) (f : Limits → Limits) : (s.modLimit x f).ladder = s.ladder := rfl
@[simp] theorem State.modLimit_ctxs (x : Nat) (f : Limits → Limits) : (s.modLimit x f).ctxs = s.ctxs := rfl
@[simp] theorem State.modLimit_urgent (x : Nat) (f : Limits → Limits) : (s.modLimit x f).urgent = s.urgent := rfl
@[simp] theorem State.modLimit_waiting (x : Nat) (f : Limits → Limits) : (s.modLimit x f).waiting = s.waiting := rfl
@[simp] theorem State.modLimit_nextDisp (x : Nat) (f : Limits → Limits) : (s.modLimit x f).nextDisp = s.nextDisp := rfl
@[simp] theorem State.modLimit_cores (x : Nat) (f : Limits → Limits) : (s.modLimit x f).cores = s.cores := rfl
@[simp] theorem State.modLimit_out (x : Nat) (f : Limits → Limits) : (s.modLimit x f).out = s.out := rfl
@[simp] theorem State.modLimit_marksC (x : Nat) (f : Limits → Limits) : (s.modLimit x f).marksC = s.marksC := rfl
@[simp] theorem State.modLimit_marksU (x : Nat) (f : Limits → Limits) : (s.modLimit x f).marksU = s.marksU := rfl
@[simp] theorem State.modLimit_lostPaths (x : Nat) (f : Limits → Limits) : (s.modLimit x f).lostPaths = s.lostPaths := rfl
@[simp] theorem State.modLimit_pw (x : Nat) (f : Limits → Limits) : (s.modLimit x f).pw = s.pw := rfl
@[simp] theorem State.modLimit_sensors (x : Nat) (f : Limits → Limits) : (s.modLimit x f).sensors = s.sensors := rfl
@[simp] theorem State.modLimit_tgroups (x : Nat) (f : Limits → Limits) : (s.modLimit x f).tgroups = s.tgroups := rfl
@[simp] theorem State.modLimit_hbms (x : Nat) (f : Limits → Limits) : (s.modLimit x f).hbms = s.hbms := rfl
@[simp] theorem State.modLimit_monitors (x : Nat) (f : Limits → Limits) : (s.modLimit x f).monitors = s.monitors := rfl
@[simp] theorem State.modLimit_cal (x : Nat) (f : Limits → Limits) : (s.modLimit x f).cal = s.cal := rfl
@[simp] theorem State.modLimit_sec (x : Nat) (f : Limits → Limits) : (s.modLimit x f).sec = s.sec := rfl
@[simp] theorem State.modLimit_serac (x : Nat) (f : Limits → Limits) : (s.modLimit x f).serac = s.serac := rfl
@[simp] theorem State.modLimit_test (x : Nat) (f : Limits → Limits) : (s.modLimit x f).test = s.test := rfl
@[simp] theorem State.modLimit_nl (x : Nat) (f : Limits → Limits) : (s.modLimit x f).nl = s.nl := rfl
@[simp] theorem State.modLimit_fabric (x : Nat) (f : Limits → Limits) : (s.modLimit x f).fabric = s.fabric := rfl
@[simp] theorem State.modLimit_barrier (x : Nat) (f : Limits → Limits) : (s.modLimit x f).barrier = s.barrier := rfl
@[simp] theorem State.modLimit_firn (x : Nat) (f : Limits → Limits) : (s.modLimit x f).firn = s.firn := rfl
@[simp] theorem State.modLimit_rd (x : Nat) (f : Limits → Limits) (r' : Row) (k' i' : Nat) : (s.modLimit x f).rd r' k' i' = s.rd r' k' i' := rfl
@[simp] theorem State.modLimit_ctx (x : Nat) (f : Limits → Limits) (y : Nat) : (s.modLimit x f).ctx y = s.ctx y := rfl
@[simp] theorem State.modLimit_core (x : Nat) (f : Limits → Limits) (y : Nat) : (s.modLimit x f).core y = s.core y := rfl
@[simp] theorem State.modLimit_byte (x : Nat) (f : Limits → Limits) (y : Nat) : (s.modLimit x f).byte y = s.byte y := rfl

/-! ### modMonitor -/

@[simp] theorem State.modMonitor_pending (x : Nat) (f : Monitor → Monitor) : (s.modMonitor x f).pending = s.pending := rfl
@[simp] theorem State.modMonitor_regs (x : Nat) (f : Monitor → Monitor) : (s.modMonitor x f).regs = s.regs := rfl
@[simp] theorem State.modMonitor_mem (x : Nat) (f : Monitor → Monitor) : (s.modMonitor x f).mem = s.mem := rfl
@[simp] theorem State.modMonitor_host (x : Nat) (f : Monitor → Monitor) : (s.modMonitor x f).host = s.host := rfl
@[simp] theorem State.modMonitor_ftime (x : Nat) (f : Monitor → Monitor) : (s.modMonitor x f).ftime = s.ftime := rfl
@[simp] theorem State.modMonitor_draws (x : Nat) (f : Monitor → Monitor) : (s.modMonitor x f).draws = s.draws := rfl
@[simp] theorem State.modMonitor_latchHi (x : Nat) (f : Monitor → Monitor) : (s.modMonitor x f).latchHi = s.latchHi := rfl
@[simp] theorem State.modMonitor_boot (x : Nat) (f : Monitor → Monitor) : (s.modMonitor x f).boot = s.boot := rfl
@[simp] theorem State.modMonitor_pins (x : Nat) (f : Monitor → Monitor) : (s.modMonitor x f).pins = s.pins := rfl
@[simp] theorem State.modMonitor_pci (x : Nat) (f : Monitor → Monitor) : (s.modMonitor x f).pci = s.pci := rfl
@[simp] theorem State.modMonitor_fltIn (x : Nat) (f : Monitor → Monitor) : (s.modMonitor x f).fltIn = s.fltIn := rfl
@[simp] theorem State.modMonitor_droneToks (x : Nat) (f : Monitor → Monitor) : (s.modMonitor x f).droneToks = s.droneToks := rfl
@[simp] theorem State.modMonitor_mor (x : Nat) (f : Monitor → Monitor) : (s.modMonitor x f).mor = s.mor := rfl
@[simp] theorem State.modMonitor_rate (x : Nat) (f : Monitor → Monitor) : (s.modMonitor x f).rate = s.rate := rfl
@[simp] theorem State.modMonitor_ladder (x : Nat) (f : Monitor → Monitor) : (s.modMonitor x f).ladder = s.ladder := rfl
@[simp] theorem State.modMonitor_ctxs (x : Nat) (f : Monitor → Monitor) : (s.modMonitor x f).ctxs = s.ctxs := rfl
@[simp] theorem State.modMonitor_urgent (x : Nat) (f : Monitor → Monitor) : (s.modMonitor x f).urgent = s.urgent := rfl
@[simp] theorem State.modMonitor_waiting (x : Nat) (f : Monitor → Monitor) : (s.modMonitor x f).waiting = s.waiting := rfl
@[simp] theorem State.modMonitor_nextDisp (x : Nat) (f : Monitor → Monitor) : (s.modMonitor x f).nextDisp = s.nextDisp := rfl
@[simp] theorem State.modMonitor_cores (x : Nat) (f : Monitor → Monitor) : (s.modMonitor x f).cores = s.cores := rfl
@[simp] theorem State.modMonitor_out (x : Nat) (f : Monitor → Monitor) : (s.modMonitor x f).out = s.out := rfl
@[simp] theorem State.modMonitor_marksC (x : Nat) (f : Monitor → Monitor) : (s.modMonitor x f).marksC = s.marksC := rfl
@[simp] theorem State.modMonitor_marksU (x : Nat) (f : Monitor → Monitor) : (s.modMonitor x f).marksU = s.marksU := rfl
@[simp] theorem State.modMonitor_lostPaths (x : Nat) (f : Monitor → Monitor) : (s.modMonitor x f).lostPaths = s.lostPaths := rfl
@[simp] theorem State.modMonitor_pw (x : Nat) (f : Monitor → Monitor) : (s.modMonitor x f).pw = s.pw := rfl
@[simp] theorem State.modMonitor_sensors (x : Nat) (f : Monitor → Monitor) : (s.modMonitor x f).sensors = s.sensors := rfl
@[simp] theorem State.modMonitor_tgroups (x : Nat) (f : Monitor → Monitor) : (s.modMonitor x f).tgroups = s.tgroups := rfl
@[simp] theorem State.modMonitor_limits (x : Nat) (f : Monitor → Monitor) : (s.modMonitor x f).limits = s.limits := rfl
@[simp] theorem State.modMonitor_hbms (x : Nat) (f : Monitor → Monitor) : (s.modMonitor x f).hbms = s.hbms := rfl
@[simp] theorem State.modMonitor_cal (x : Nat) (f : Monitor → Monitor) : (s.modMonitor x f).cal = s.cal := rfl
@[simp] theorem State.modMonitor_sec (x : Nat) (f : Monitor → Monitor) : (s.modMonitor x f).sec = s.sec := rfl
@[simp] theorem State.modMonitor_serac (x : Nat) (f : Monitor → Monitor) : (s.modMonitor x f).serac = s.serac := rfl
@[simp] theorem State.modMonitor_test (x : Nat) (f : Monitor → Monitor) : (s.modMonitor x f).test = s.test := rfl
@[simp] theorem State.modMonitor_nl (x : Nat) (f : Monitor → Monitor) : (s.modMonitor x f).nl = s.nl := rfl
@[simp] theorem State.modMonitor_fabric (x : Nat) (f : Monitor → Monitor) : (s.modMonitor x f).fabric = s.fabric := rfl
@[simp] theorem State.modMonitor_barrier (x : Nat) (f : Monitor → Monitor) : (s.modMonitor x f).barrier = s.barrier := rfl
@[simp] theorem State.modMonitor_firn (x : Nat) (f : Monitor → Monitor) : (s.modMonitor x f).firn = s.firn := rfl
@[simp] theorem State.modMonitor_rd (x : Nat) (f : Monitor → Monitor) (r' : Row) (k' i' : Nat) : (s.modMonitor x f).rd r' k' i' = s.rd r' k' i' := rfl
@[simp] theorem State.modMonitor_ctx (x : Nat) (f : Monitor → Monitor) (y : Nat) : (s.modMonitor x f).ctx y = s.ctx y := rfl
@[simp] theorem State.modMonitor_core (x : Nat) (f : Monitor → Monitor) (y : Nat) : (s.modMonitor x f).core y = s.core y := rfl
@[simp] theorem State.modMonitor_byte (x : Nat) (f : Monitor → Monitor) (y : Nat) : (s.modMonitor x f).byte y = s.byte y := rfl

/-! ### modSensor -/

@[simp] theorem State.modSensor_pending (x : Nat) (f : Sensor → Sensor) : (s.modSensor x f).pending = s.pending := rfl
@[simp] theorem State.modSensor_regs (x : Nat) (f : Sensor → Sensor) : (s.modSensor x f).regs = s.regs := rfl
@[simp] theorem State.modSensor_mem (x : Nat) (f : Sensor → Sensor) : (s.modSensor x f).mem = s.mem := rfl
@[simp] theorem State.modSensor_host (x : Nat) (f : Sensor → Sensor) : (s.modSensor x f).host = s.host := rfl
@[simp] theorem State.modSensor_ftime (x : Nat) (f : Sensor → Sensor) : (s.modSensor x f).ftime = s.ftime := rfl
@[simp] theorem State.modSensor_draws (x : Nat) (f : Sensor → Sensor) : (s.modSensor x f).draws = s.draws := rfl
@[simp] theorem State.modSensor_latchHi (x : Nat) (f : Sensor → Sensor) : (s.modSensor x f).latchHi = s.latchHi := rfl
@[simp] theorem State.modSensor_boot (x : Nat) (f : Sensor → Sensor) : (s.modSensor x f).boot = s.boot := rfl
@[simp] theorem State.modSensor_pins (x : Nat) (f : Sensor → Sensor) : (s.modSensor x f).pins = s.pins := rfl
@[simp] theorem State.modSensor_pci (x : Nat) (f : Sensor → Sensor) : (s.modSensor x f).pci = s.pci := rfl
@[simp] theorem State.modSensor_fltIn (x : Nat) (f : Sensor → Sensor) : (s.modSensor x f).fltIn = s.fltIn := rfl
@[simp] theorem State.modSensor_droneToks (x : Nat) (f : Sensor → Sensor) : (s.modSensor x f).droneToks = s.droneToks := rfl
@[simp] theorem State.modSensor_mor (x : Nat) (f : Sensor → Sensor) : (s.modSensor x f).mor = s.mor := rfl
@[simp] theorem State.modSensor_rate (x : Nat) (f : Sensor → Sensor) : (s.modSensor x f).rate = s.rate := rfl
@[simp] theorem State.modSensor_ladder (x : Nat) (f : Sensor → Sensor) : (s.modSensor x f).ladder = s.ladder := rfl
@[simp] theorem State.modSensor_ctxs (x : Nat) (f : Sensor → Sensor) : (s.modSensor x f).ctxs = s.ctxs := rfl
@[simp] theorem State.modSensor_urgent (x : Nat) (f : Sensor → Sensor) : (s.modSensor x f).urgent = s.urgent := rfl
@[simp] theorem State.modSensor_waiting (x : Nat) (f : Sensor → Sensor) : (s.modSensor x f).waiting = s.waiting := rfl
@[simp] theorem State.modSensor_nextDisp (x : Nat) (f : Sensor → Sensor) : (s.modSensor x f).nextDisp = s.nextDisp := rfl
@[simp] theorem State.modSensor_cores (x : Nat) (f : Sensor → Sensor) : (s.modSensor x f).cores = s.cores := rfl
@[simp] theorem State.modSensor_out (x : Nat) (f : Sensor → Sensor) : (s.modSensor x f).out = s.out := rfl
@[simp] theorem State.modSensor_marksC (x : Nat) (f : Sensor → Sensor) : (s.modSensor x f).marksC = s.marksC := rfl
@[simp] theorem State.modSensor_marksU (x : Nat) (f : Sensor → Sensor) : (s.modSensor x f).marksU = s.marksU := rfl
@[simp] theorem State.modSensor_lostPaths (x : Nat) (f : Sensor → Sensor) : (s.modSensor x f).lostPaths = s.lostPaths := rfl
@[simp] theorem State.modSensor_pw (x : Nat) (f : Sensor → Sensor) : (s.modSensor x f).pw = s.pw := rfl
@[simp] theorem State.modSensor_tgroups (x : Nat) (f : Sensor → Sensor) : (s.modSensor x f).tgroups = s.tgroups := rfl
@[simp] theorem State.modSensor_limits (x : Nat) (f : Sensor → Sensor) : (s.modSensor x f).limits = s.limits := rfl
@[simp] theorem State.modSensor_hbms (x : Nat) (f : Sensor → Sensor) : (s.modSensor x f).hbms = s.hbms := rfl
@[simp] theorem State.modSensor_monitors (x : Nat) (f : Sensor → Sensor) : (s.modSensor x f).monitors = s.monitors := rfl
@[simp] theorem State.modSensor_cal (x : Nat) (f : Sensor → Sensor) : (s.modSensor x f).cal = s.cal := rfl
@[simp] theorem State.modSensor_sec (x : Nat) (f : Sensor → Sensor) : (s.modSensor x f).sec = s.sec := rfl
@[simp] theorem State.modSensor_serac (x : Nat) (f : Sensor → Sensor) : (s.modSensor x f).serac = s.serac := rfl
@[simp] theorem State.modSensor_test (x : Nat) (f : Sensor → Sensor) : (s.modSensor x f).test = s.test := rfl
@[simp] theorem State.modSensor_nl (x : Nat) (f : Sensor → Sensor) : (s.modSensor x f).nl = s.nl := rfl
@[simp] theorem State.modSensor_fabric (x : Nat) (f : Sensor → Sensor) : (s.modSensor x f).fabric = s.fabric := rfl
@[simp] theorem State.modSensor_barrier (x : Nat) (f : Sensor → Sensor) : (s.modSensor x f).barrier = s.barrier := rfl
@[simp] theorem State.modSensor_firn (x : Nat) (f : Sensor → Sensor) : (s.modSensor x f).firn = s.firn := rfl
@[simp] theorem State.modSensor_rd (x : Nat) (f : Sensor → Sensor) (r' : Row) (k' i' : Nat) : (s.modSensor x f).rd r' k' i' = s.rd r' k' i' := rfl
@[simp] theorem State.modSensor_ctx (x : Nat) (f : Sensor → Sensor) (y : Nat) : (s.modSensor x f).ctx y = s.ctx y := rfl
@[simp] theorem State.modSensor_core (x : Nat) (f : Sensor → Sensor) (y : Nat) : (s.modSensor x f).core y = s.core y := rfl
@[simp] theorem State.modSensor_byte (x : Nat) (f : Sensor → Sensor) (y : Nat) : (s.modSensor x f).byte y = s.byte y := rfl

/-! ### modTgroup -/

@[simp] theorem State.modTgroup_pending (x : Nat) (f : TGroup → TGroup) : (s.modTgroup x f).pending = s.pending := rfl
@[simp] theorem State.modTgroup_regs (x : Nat) (f : TGroup → TGroup) : (s.modTgroup x f).regs = s.regs := rfl
@[simp] theorem State.modTgroup_mem (x : Nat) (f : TGroup → TGroup) : (s.modTgroup x f).mem = s.mem := rfl
@[simp] theorem State.modTgroup_host (x : Nat) (f : TGroup → TGroup) : (s.modTgroup x f).host = s.host := rfl
@[simp] theorem State.modTgroup_ftime (x : Nat) (f : TGroup → TGroup) : (s.modTgroup x f).ftime = s.ftime := rfl
@[simp] theorem State.modTgroup_draws (x : Nat) (f : TGroup → TGroup) : (s.modTgroup x f).draws = s.draws := rfl
@[simp] theorem State.modTgroup_latchHi (x : Nat) (f : TGroup → TGroup) : (s.modTgroup x f).latchHi = s.latchHi := rfl
@[simp] theorem State.modTgroup_boot (x : Nat) (f : TGroup → TGroup) : (s.modTgroup x f).boot = s.boot := rfl
@[simp] theorem State.modTgroup_pins (x : Nat) (f : TGroup → TGroup) : (s.modTgroup x f).pins = s.pins := rfl
@[simp] theorem State.modTgroup_pci (x : Nat) (f : TGroup → TGroup) : (s.modTgroup x f).pci = s.pci := rfl
@[simp] theorem State.modTgroup_fltIn (x : Nat) (f : TGroup → TGroup) : (s.modTgroup x f).fltIn = s.fltIn := rfl
@[simp] theorem State.modTgroup_droneToks (x : Nat) (f : TGroup → TGroup) : (s.modTgroup x f).droneToks = s.droneToks := rfl
@[simp] theorem State.modTgroup_mor (x : Nat) (f : TGroup → TGroup) : (s.modTgroup x f).mor = s.mor := rfl
@[simp] theorem State.modTgroup_rate (x : Nat) (f : TGroup → TGroup) : (s.modTgroup x f).rate = s.rate := rfl
@[simp] theorem State.modTgroup_ladder (x : Nat) (f : TGroup → TGroup) : (s.modTgroup x f).ladder = s.ladder := rfl
@[simp] theorem State.modTgroup_ctxs (x : Nat) (f : TGroup → TGroup) : (s.modTgroup x f).ctxs = s.ctxs := rfl
@[simp] theorem State.modTgroup_urgent (x : Nat) (f : TGroup → TGroup) : (s.modTgroup x f).urgent = s.urgent := rfl
@[simp] theorem State.modTgroup_waiting (x : Nat) (f : TGroup → TGroup) : (s.modTgroup x f).waiting = s.waiting := rfl
@[simp] theorem State.modTgroup_nextDisp (x : Nat) (f : TGroup → TGroup) : (s.modTgroup x f).nextDisp = s.nextDisp := rfl
@[simp] theorem State.modTgroup_cores (x : Nat) (f : TGroup → TGroup) : (s.modTgroup x f).cores = s.cores := rfl
@[simp] theorem State.modTgroup_out (x : Nat) (f : TGroup → TGroup) : (s.modTgroup x f).out = s.out := rfl
@[simp] theorem State.modTgroup_marksC (x : Nat) (f : TGroup → TGroup) : (s.modTgroup x f).marksC = s.marksC := rfl
@[simp] theorem State.modTgroup_marksU (x : Nat) (f : TGroup → TGroup) : (s.modTgroup x f).marksU = s.marksU := rfl
@[simp] theorem State.modTgroup_lostPaths (x : Nat) (f : TGroup → TGroup) : (s.modTgroup x f).lostPaths = s.lostPaths := rfl
@[simp] theorem State.modTgroup_pw (x : Nat) (f : TGroup → TGroup) : (s.modTgroup x f).pw = s.pw := rfl
@[simp] theorem State.modTgroup_sensors (x : Nat) (f : TGroup → TGroup) : (s.modTgroup x f).sensors = s.sensors := rfl
@[simp] theorem State.modTgroup_limits (x : Nat) (f : TGroup → TGroup) : (s.modTgroup x f).limits = s.limits := rfl
@[simp] theorem State.modTgroup_hbms (x : Nat) (f : TGroup → TGroup) : (s.modTgroup x f).hbms = s.hbms := rfl
@[simp] theorem State.modTgroup_monitors (x : Nat) (f : TGroup → TGroup) : (s.modTgroup x f).monitors = s.monitors := rfl
@[simp] theorem State.modTgroup_cal (x : Nat) (f : TGroup → TGroup) : (s.modTgroup x f).cal = s.cal := rfl
@[simp] theorem State.modTgroup_sec (x : Nat) (f : TGroup → TGroup) : (s.modTgroup x f).sec = s.sec := rfl
@[simp] theorem State.modTgroup_serac (x : Nat) (f : TGroup → TGroup) : (s.modTgroup x f).serac = s.serac := rfl
@[simp] theorem State.modTgroup_test (x : Nat) (f : TGroup → TGroup) : (s.modTgroup x f).test = s.test := rfl
@[simp] theorem State.modTgroup_nl (x : Nat) (f : TGroup → TGroup) : (s.modTgroup x f).nl = s.nl := rfl
@[simp] theorem State.modTgroup_fabric (x : Nat) (f : TGroup → TGroup) : (s.modTgroup x f).fabric = s.fabric := rfl
@[simp] theorem State.modTgroup_barrier (x : Nat) (f : TGroup → TGroup) : (s.modTgroup x f).barrier = s.barrier := rfl
@[simp] theorem State.modTgroup_firn (x : Nat) (f : TGroup → TGroup) : (s.modTgroup x f).firn = s.firn := rfl
@[simp] theorem State.modTgroup_rd (x : Nat) (f : TGroup → TGroup) (r' : Row) (k' i' : Nat) : (s.modTgroup x f).rd r' k' i' = s.rd r' k' i' := rfl
@[simp] theorem State.modTgroup_ctx (x : Nat) (f : TGroup → TGroup) (y : Nat) : (s.modTgroup x f).ctx y = s.ctx y := rfl
@[simp] theorem State.modTgroup_core (x : Nat) (f : TGroup → TGroup) (y : Nat) : (s.modTgroup x f).core y = s.core y := rfl
@[simp] theorem State.modTgroup_byte (x : Nat) (f : TGroup → TGroup) (y : Nat) : (s.modTgroup x f).byte y = s.byte y := rfl

/-! ### store -/

@[simp] theorem State.store_pending (a : Nat) (bs : List Byte) : (s.store a bs).pending = s.pending := rfl
@[simp] theorem State.store_regs (a : Nat) (bs : List Byte) : (s.store a bs).regs = s.regs := rfl
@[simp] theorem State.store_host (a : Nat) (bs : List Byte) : (s.store a bs).host = s.host := rfl
@[simp] theorem State.store_ftime (a : Nat) (bs : List Byte) : (s.store a bs).ftime = s.ftime := rfl
@[simp] theorem State.store_draws (a : Nat) (bs : List Byte) : (s.store a bs).draws = s.draws := rfl
@[simp] theorem State.store_latchHi (a : Nat) (bs : List Byte) : (s.store a bs).latchHi = s.latchHi := rfl
@[simp] theorem State.store_boot (a : Nat) (bs : List Byte) : (s.store a bs).boot = s.boot := rfl
@[simp] theorem State.store_pins (a : Nat) (bs : List Byte) : (s.store a bs).pins = s.pins := rfl
@[simp] theorem State.store_pci (a : Nat) (bs : List Byte) : (s.store a bs).pci = s.pci := rfl
@[simp] theorem State.store_fltIn (a : Nat) (bs : List Byte) : (s.store a bs).fltIn = s.fltIn := rfl
@[simp] theorem State.store_droneToks (a : Nat) (bs : List Byte) : (s.store a bs).droneToks = s.droneToks := rfl
@[simp] theorem State.store_mor (a : Nat) (bs : List Byte) : (s.store a bs).mor = s.mor := rfl
@[simp] theorem State.store_rate (a : Nat) (bs : List Byte) : (s.store a bs).rate = s.rate := rfl
@[simp] theorem State.store_ladder (a : Nat) (bs : List Byte) : (s.store a bs).ladder = s.ladder := rfl
@[simp] theorem State.store_ctxs (a : Nat) (bs : List Byte) : (s.store a bs).ctxs = s.ctxs := rfl
@[simp] theorem State.store_urgent (a : Nat) (bs : List Byte) : (s.store a bs).urgent = s.urgent := rfl
@[simp] theorem State.store_waiting (a : Nat) (bs : List Byte) : (s.store a bs).waiting = s.waiting := rfl
@[simp] theorem State.store_nextDisp (a : Nat) (bs : List Byte) : (s.store a bs).nextDisp = s.nextDisp := rfl
@[simp] theorem State.store_cores (a : Nat) (bs : List Byte) : (s.store a bs).cores = s.cores := rfl
@[simp] theorem State.store_out (a : Nat) (bs : List Byte) : (s.store a bs).out = s.out := rfl
@[simp] theorem State.store_marksC (a : Nat) (bs : List Byte) : (s.store a bs).marksC = s.marksC := rfl
@[simp] theorem State.store_marksU (a : Nat) (bs : List Byte) : (s.store a bs).marksU = s.marksU := rfl
@[simp] theorem State.store_lostPaths (a : Nat) (bs : List Byte) : (s.store a bs).lostPaths = s.lostPaths := rfl
@[simp] theorem State.store_pw (a : Nat) (bs : List Byte) : (s.store a bs).pw = s.pw := rfl
@[simp] theorem State.store_sensors (a : Nat) (bs : List Byte) : (s.store a bs).sensors = s.sensors := rfl
@[simp] theorem State.store_tgroups (a : Nat) (bs : List Byte) : (s.store a bs).tgroups = s.tgroups := rfl
@[simp] theorem State.store_limits (a : Nat) (bs : List Byte) : (s.store a bs).limits = s.limits := rfl
@[simp] theorem State.store_hbms (a : Nat) (bs : List Byte) : (s.store a bs).hbms = s.hbms := rfl
@[simp] theorem State.store_monitors (a : Nat) (bs : List Byte) : (s.store a bs).monitors = s.monitors := rfl
@[simp] theorem State.store_cal (a : Nat) (bs : List Byte) : (s.store a bs).cal = s.cal := rfl
@[simp] theorem State.store_sec (a : Nat) (bs : List Byte) : (s.store a bs).sec = s.sec := rfl
@[simp] theorem State.store_serac (a : Nat) (bs : List Byte) : (s.store a bs).serac = s.serac := rfl
@[simp] theorem State.store_test (a : Nat) (bs : List Byte) : (s.store a bs).test = s.test := rfl
@[simp] theorem State.store_nl (a : Nat) (bs : List Byte) : (s.store a bs).nl = s.nl := rfl
@[simp] theorem State.store_fabric (a : Nat) (bs : List Byte) : (s.store a bs).fabric = s.fabric := rfl
@[simp] theorem State.store_barrier (a : Nat) (bs : List Byte) : (s.store a bs).barrier = s.barrier := rfl
@[simp] theorem State.store_firn (a : Nat) (bs : List Byte) : (s.store a bs).firn = s.firn := rfl
@[simp] theorem State.store_rd (a : Nat) (bs : List Byte) (r' : Row) (k' i' : Nat) : (s.store a bs).rd r' k' i' = s.rd r' k' i' := rfl
@[simp] theorem State.store_ctx (a : Nat) (bs : List Byte) (y : Nat) : (s.store a bs).ctx y = s.ctx y := rfl
@[simp] theorem State.store_core (a : Nat) (bs : List Byte) (y : Nat) : (s.store a bs).core y = s.core y := rfl

/-! ### drew -/

@[simp] theorem State.drew_pending  : (s.drew).pending = s.pending := rfl
@[simp] theorem State.drew_regs  : (s.drew).regs = s.regs := rfl
@[simp] theorem State.drew_mem  : (s.drew).mem = s.mem := rfl
@[simp] theorem State.drew_host  : (s.drew).host = s.host := rfl
@[simp] theorem State.drew_ftime  : (s.drew).ftime = s.ftime := rfl
@[simp] theorem State.drew_latchHi  : (s.drew).latchHi = s.latchHi := rfl
@[simp] theorem State.drew_boot  : (s.drew).boot = s.boot := rfl
@[simp] theorem State.drew_pins  : (s.drew).pins = s.pins := rfl
@[simp] theorem State.drew_pci  : (s.drew).pci = s.pci := rfl
@[simp] theorem State.drew_fltIn  : (s.drew).fltIn = s.fltIn := rfl
@[simp] theorem State.drew_droneToks  : (s.drew).droneToks = s.droneToks := rfl
@[simp] theorem State.drew_mor  : (s.drew).mor = s.mor := rfl
@[simp] theorem State.drew_rate  : (s.drew).rate = s.rate := rfl
@[simp] theorem State.drew_ladder  : (s.drew).ladder = s.ladder := rfl
@[simp] theorem State.drew_ctxs  : (s.drew).ctxs = s.ctxs := rfl
@[simp] theorem State.drew_urgent  : (s.drew).urgent = s.urgent := rfl
@[simp] theorem State.drew_waiting  : (s.drew).waiting = s.waiting := rfl
@[simp] theorem State.drew_nextDisp  : (s.drew).nextDisp = s.nextDisp := rfl
@[simp] theorem State.drew_cores  : (s.drew).cores = s.cores := rfl
@[simp] theorem State.drew_out  : (s.drew).out = s.out := rfl
@[simp] theorem State.drew_marksC  : (s.drew).marksC = s.marksC := rfl
@[simp] theorem State.drew_marksU  : (s.drew).marksU = s.marksU := rfl
@[simp] theorem State.drew_lostPaths  : (s.drew).lostPaths = s.lostPaths := rfl
@[simp] theorem State.drew_pw  : (s.drew).pw = s.pw := rfl
@[simp] theorem State.drew_sensors  : (s.drew).sensors = s.sensors := rfl
@[simp] theorem State.drew_tgroups  : (s.drew).tgroups = s.tgroups := rfl
@[simp] theorem State.drew_limits  : (s.drew).limits = s.limits := rfl
@[simp] theorem State.drew_hbms  : (s.drew).hbms = s.hbms := rfl
@[simp] theorem State.drew_monitors  : (s.drew).monitors = s.monitors := rfl
@[simp] theorem State.drew_cal  : (s.drew).cal = s.cal := rfl
@[simp] theorem State.drew_sec  : (s.drew).sec = s.sec := rfl
@[simp] theorem State.drew_serac  : (s.drew).serac = s.serac := rfl
@[simp] theorem State.drew_test  : (s.drew).test = s.test := rfl
@[simp] theorem State.drew_nl  : (s.drew).nl = s.nl := rfl
@[simp] theorem State.drew_fabric  : (s.drew).fabric = s.fabric := rfl
@[simp] theorem State.drew_barrier  : (s.drew).barrier = s.barrier := rfl
@[simp] theorem State.drew_firn  : (s.drew).firn = s.firn := rfl
@[simp] theorem State.drew_rd  (r' : Row) (k' i' : Nat) : (s.drew).rd r' k' i' = s.rd r' k' i' := rfl
@[simp] theorem State.drew_ctx  (y : Nat) : (s.drew).ctx y = s.ctx y := rfl
@[simp] theorem State.drew_core  (y : Nat) : (s.drew).core y = s.core y := rfl
@[simp] theorem State.drew_byte  (y : Nat) : (s.drew).byte y = s.byte y := rfl

/-! ### zero -/

@[simp] theorem State.zero_pending (lo hi : Nat) : (s.zero lo hi).pending = s.pending := rfl
@[simp] theorem State.zero_regs (lo hi : Nat) : (s.zero lo hi).regs = s.regs := rfl
@[simp] theorem State.zero_host (lo hi : Nat) : (s.zero lo hi).host = s.host := rfl
@[simp] theorem State.zero_ftime (lo hi : Nat) : (s.zero lo hi).ftime = s.ftime := rfl
@[simp] theorem State.zero_draws (lo hi : Nat) : (s.zero lo hi).draws = s.draws := rfl
@[simp] theorem State.zero_latchHi (lo hi : Nat) : (s.zero lo hi).latchHi = s.latchHi := rfl
@[simp] theorem State.zero_boot (lo hi : Nat) : (s.zero lo hi).boot = s.boot := rfl
@[simp] theorem State.zero_pins (lo hi : Nat) : (s.zero lo hi).pins = s.pins := rfl
@[simp] theorem State.zero_pci (lo hi : Nat) : (s.zero lo hi).pci = s.pci := rfl
@[simp] theorem State.zero_fltIn (lo hi : Nat) : (s.zero lo hi).fltIn = s.fltIn := rfl
@[simp] theorem State.zero_droneToks (lo hi : Nat) : (s.zero lo hi).droneToks = s.droneToks := rfl
@[simp] theorem State.zero_mor (lo hi : Nat) : (s.zero lo hi).mor = s.mor := rfl
@[simp] theorem State.zero_rate (lo hi : Nat) : (s.zero lo hi).rate = s.rate := rfl
@[simp] theorem State.zero_ladder (lo hi : Nat) : (s.zero lo hi).ladder = s.ladder := rfl
@[simp] theorem State.zero_ctxs (lo hi : Nat) : (s.zero lo hi).ctxs = s.ctxs := rfl
@[simp] theorem State.zero_urgent (lo hi : Nat) : (s.zero lo hi).urgent = s.urgent := rfl
@[simp] theorem State.zero_waiting (lo hi : Nat) : (s.zero lo hi).waiting = s.waiting := rfl
@[simp] theorem State.zero_nextDisp (lo hi : Nat) : (s.zero lo hi).nextDisp = s.nextDisp := rfl
@[simp] theorem State.zero_cores (lo hi : Nat) : (s.zero lo hi).cores = s.cores := rfl
@[simp] theorem State.zero_out (lo hi : Nat) : (s.zero lo hi).out = s.out := rfl
@[simp] theorem State.zero_lostPaths (lo hi : Nat) : (s.zero lo hi).lostPaths = s.lostPaths := rfl
@[simp] theorem State.zero_pw (lo hi : Nat) : (s.zero lo hi).pw = s.pw := rfl
@[simp] theorem State.zero_sensors (lo hi : Nat) : (s.zero lo hi).sensors = s.sensors := rfl
@[simp] theorem State.zero_tgroups (lo hi : Nat) : (s.zero lo hi).tgroups = s.tgroups := rfl
@[simp] theorem State.zero_limits (lo hi : Nat) : (s.zero lo hi).limits = s.limits := rfl
@[simp] theorem State.zero_hbms (lo hi : Nat) : (s.zero lo hi).hbms = s.hbms := rfl
@[simp] theorem State.zero_monitors (lo hi : Nat) : (s.zero lo hi).monitors = s.monitors := rfl
@[simp] theorem State.zero_cal (lo hi : Nat) : (s.zero lo hi).cal = s.cal := rfl
@[simp] theorem State.zero_sec (lo hi : Nat) : (s.zero lo hi).sec = s.sec := rfl
@[simp] theorem State.zero_serac (lo hi : Nat) : (s.zero lo hi).serac = s.serac := rfl
@[simp] theorem State.zero_test (lo hi : Nat) : (s.zero lo hi).test = s.test := rfl
@[simp] theorem State.zero_nl (lo hi : Nat) : (s.zero lo hi).nl = s.nl := rfl
@[simp] theorem State.zero_fabric (lo hi : Nat) : (s.zero lo hi).fabric = s.fabric := rfl
@[simp] theorem State.zero_barrier (lo hi : Nat) : (s.zero lo hi).barrier = s.barrier := rfl
@[simp] theorem State.zero_firn (lo hi : Nat) : (s.zero lo hi).firn = s.firn := rfl
@[simp] theorem State.zero_rd (lo hi : Nat) (r' : Row) (k' i' : Nat) : (s.zero lo hi).rd r' k' i' = s.rd r' k' i' := rfl
@[simp] theorem State.zero_ctx (lo hi : Nat) (y : Nat) : (s.zero lo hi).ctx y = s.ctx y := rfl
@[simp] theorem State.zero_core (lo hi : Nat) (y : Nat) : (s.zero lo hi).core y = s.core y := rfl

/-! ### Reading after an update -/

@[simp] theorem State.wr_regs (r : Row) (v k i : Nat) :
    (s.wr r v k i).regs = SMap.put s.regs (r.bit k i) (v % 2 ^ r.width) := rfl

/-- A field reads what was last written to it, cut to its width; every other field reads as before. -/
theorem State.rd_wr (r : Row) (v k i : Nat) (r' : Row) (k' i' : Nat) :
    (s.wr r v k i).rd r' k' i' = if r.bit k i = r'.bit k' i' then v % 2 ^ r.width else s.rd r' k' i' := by
  simp only [State.rd, State.wr, SMap.get_put]

@[simp] theorem State.rd_wr_self (r : Row) (v k i : Nat) : (s.wr r v k i).rd r k i = v % 2 ^ r.width := by
  simp [State.rd_wr]

theorem State.rd_wr_ne (r : Row) (v k i : Nat) (r' : Row) (k' i' : Nat) (h : r.bit k i ≠ r'.bit k' i') :
    (s.wr r v k i).rd r' k' i' = s.rd r' k' i' := by
  simp [State.rd_wr, h]

@[simp] theorem State.setCtx_ctxs (x : Nat) (c : Ctx) : (s.setCtx x c).ctxs = SMap.put s.ctxs x c := rfl

theorem State.ctx_setCtx (x y : Nat) (c : Ctx) : (s.setCtx x c).ctx y = if x = y then c else s.ctx y := by
  simp only [State.ctx, State.setCtx, SMap.get_put]

@[simp] theorem State.ctx_setCtx_self (x : Nat) (c : Ctx) : (s.setCtx x c).ctx x = c := by simp [State.ctx_setCtx]

@[simp] theorem State.setCore_cores (x : Nat) (c : Core) : (s.setCore x c).cores = SMap.put s.cores x c := rfl

theorem State.core_setCore (x y : Nat) (c : Core) : (s.setCore x c).core y = if x = y then c else s.core y := by
  simp only [State.core, State.setCore, SMap.get_put]

@[simp] theorem State.core_setCore_self (x : Nat) (c : Core) : (s.setCore x c).core x = c := by simp [State.core_setCore]

@[simp] theorem State.store_mem (a : Nat) (bs : List Byte) : (s.store a bs).mem = Memory.writeBytes s.mem a bs := rfl

/-- A byte outside a store reads as before. -/
theorem State.byte_store_out (a : Nat) (bs : List Byte) (y : Nat) (h : y < a ∨ a + bs.length ≤ y) :
    (s.store a bs).byte y = s.byte y := Memory.read_writeBytes_out _ _ _ _ h

/-- The bytes just stored read back. -/
theorem State.bytes_store (a : Nat) (bs : List Byte) : (s.store a bs).bytes a bs.length = bs :=
  Memory.readBytes_writeBytes _ _ _

@[simp] theorem State.emit_out (e : Emit) : (s.emit e).out = s.out ++ [e] := rfl
@[simp] theorem State.modSerac_serac (f : Serac → Serac) : (s.modSerac f).serac = f s.serac := rfl
@[simp] theorem State.modBoot_boot (f : Boot → Boot) : (s.modBoot f).boot = f s.boot := rfl
@[simp] theorem State.modLadder_ladder (f : Ladder → Ladder) : (s.modLadder f).ladder = f s.ladder := rfl
@[simp] theorem State.modFirn_firn (f : Firn → Firn) : (s.modFirn f).firn = f s.firn := rfl
@[simp] theorem State.modBarrier_barrier (f : Barrier → Barrier) : (s.modBarrier f).barrier = f s.barrier := rfl

/-! ### Groups of a core, queues of a context -/

theorem Core.group_setGroup (c : Core) (p q : Nat) (g : Group) :
    (c.setGroup p g).group q = if p = q then some g else c.group q := by
  simp only [Core.group, Core.setGroup, SMap.find_put]

@[simp] theorem Core.group_setGroup_self (c : Core) (p : Nat) (g : Group) : (c.setGroup p g).group p = some g := by
  simp [Core.group_setGroup]

theorem Ctx.queue_setQueue (c : Ctx) (p q : Nat) (v : Queue) :
    (c.setQueue p v).queue q = if p = q then v else c.queue q := by
  simp only [Ctx.queue, Ctx.setQueue, SMap.get_put]

@[simp] theorem Ctx.queue_setQueue_self (c : Ctx) (p : Nat) (v : Queue) : (c.setQueue p v).queue p = v := by
  simp [Ctx.queue_setQueue]

theorem Group.reg_setReg (g : Group) (l r l' r' : Nat) (v : Word) :
    (g.setReg l r v).reg l' r' = if l * 64 + r = l' * 64 + r' then v else g.reg l' r' := by
  simp only [Group.reg, Group.setReg, SMap.get_put]

end Sys2Proof.Machine
end

