-- ==== Sys2Proof/Laws/Threads.lean ====
section
/-! SUPPORT. The laws of the issue of an instruction: what retiring it leaves, and what a register-to-register instruction does. -/
namespace Sys2Proof.Machine

theorem Group.thread_mapThreads (g : Group) (f : Nat → Thread → Thread) (l : Nat) (h : l < g.threads.length) :
    (g.mapThreads f).thread l = f l (g.thread l) := by
  simp [Group.thread, Group.mapThreads, h]

@[simp] theorem Group.mapThreads_length (g : Group) (f : Nat → Thread → Thread) :
    (g.mapThreads f).threads.length = g.threads.length := by simp [Group.mapThreads]

@[simp] theorem Group.mapThreads_reg (g : Group) (f : Nat → Thread → Thread) (l r : Nat) :
    (g.mapThreads f).reg l r = g.reg l r := rfl

/-- What the next issue of a group is, where there is one. -/
theorem State.issuePoint_eq {s : State} {c p : Nat} {i : Issue} (h : s.issuePoint c p = some i) :
    i.core = c ∧ i.place = p ∧ (s.core c).group p = some i.g ∧ (s.core c).disp i.g.disp = some i.d ∧
    i.lanes = i.g.candidates.filter (fun l => (i.g.thread l).pc = i.pc) := by
  unfold State.issuePoint at h
  split at h
  · cases h
  · next g hg =>
    split at h
    · next d pc st hd hc =>
      split at h
      · cases h; simp_all
      · cases h
    · cases h

theorem Issue.perLane_fields (i : Issue) (f : Nat → Group → Group)
    (hf : ∀ l g, f l g = { g with regs := (f l g).regs }) (g : Group) :
    i.perLane f g = { g with regs := (i.perLane f g).regs } := by
  unfold Issue.perLane
  generalize i.lanes = ls
  induction ls generalizing g with
  | nil => rfl
  | cons l r ih => simp only [List.foldl_cons]; rw [ih, hf]

theorem Issue.lanes_nodup {s : State} {c p : Nat} {i : Issue} (h : s.issuePoint c p = some i) : i.lanes.Nodup := by
  rw [(State.issuePoint_eq h).2.2.2.2]
  exact (List.nodup_range.filter _).filter _

theorem foldl_setReg (xd : Nat) (v : Nat → Word) (hx : xd < 64) (ls : List Nat) (g : Group) (l r : Nat) (hr : r < 64) :
    (ls.foldl (fun g l => g.setReg l xd (v l)) g).reg l r = if l ∈ ls ∧ r = xd then v l else g.reg l r := by
  induction ls generalizing g with
  | nil => simp
  | cons k ks ih =>
    simp only [List.foldl_cons, ih, Group.reg_setReg, List.mem_cons]
    by_cases h1 : l ∈ ks ∧ r = xd
    · simp [h1]
    · rw [if_neg h1]
      by_cases h2 : k * 64 + xd = l * 64 + r
      · have : k = l ∧ xd = r := by omega
        simp [this]
      · rw [if_neg h2, if_neg]
        rintro ⟨rfl | h3, rfl⟩
        · exact h2 rfl
        · exact h1 ⟨h3, rfl⟩

theorem insXD_lt (w : Nat) : insXD w < 64 := by unfold insXD bits; exact Nat.mod_lt _ (by decide)

/-- The thread of a lane after an issue. -/
theorem Issue.after_thread_eq (i : Issue) (l : Nat) (hl : l < i.g.threads.length) :
    i.after.thread l = (if i.lanes.contains l then { i.g.thread l with wait := 0, pc := ((i.g.thread l).pc + 8) % 2 ^ 64 }
      else if i.g.candidates.contains l then { i.g.thread l with wait := satInc 255 (i.g.thread l).wait } else i.g.thread l) := by
  have e : i.after.threads = (i.g.mapThreads (fun l t =>
      if i.lanes.contains l then { t with wait := 0, pc := (t.pc + 8) % 2 ^ 64 }
      else if i.g.candidates.contains l then { t with wait := satInc 255 t.wait } else t)).threads := rfl
  unfold Group.thread
  rw [e]
  exact Group.thread_mapThreads i.g _ l hl

/-- What the threads of a group are after an issue. -/
theorem Issue.after_thread (i : Issue) (l : Nat) (hl : l < i.g.threads.length) :
    i.after.thread l = { i.g.thread l with
      wait := (i.after.thread l).wait
      pc := if l ∈ i.lanes then ((i.g.thread l).pc + 8) % 2 ^ 64 else (i.g.thread l).pc } := by
  rw [Issue.after_thread_eq i l hl]
  simp only [List.contains_iff_mem]
  split <;> [skip; split] <;> simp_all

@[simp] theorem Issue.after_reg (i : Issue) (l r : Nat) : i.after.reg l r = i.g.reg l r := rfl

theorem Issue.after_length (i : Issue) : i.after.threads.length = i.g.threads.length := by
  simp [Issue.after, Group.mapThreads]

theorem Issue.after_eq (i : Issue) :
    i.after = { i.g with threads := i.after.threads, retired := satInc (2 ^ 32 - 1) i.g.retired } := rfl

/-- Where an issue moves on, and its registers change by lanes only, the group has moved. -/
theorem Issue.moved_after {s : State} {c p : Nat} {i : Issue} (h : s.issuePoint c p = some i) (r : List (Nat × Word)) :
    i.moved { i.after with regs := r } := by
  refine ⟨rfl, fun l hl => ?_⟩
  show i.after.thread l = _
  rw [Issue.after_thread i l hl]
  have := (State.issuePoint_eq h).2.2.2.2
  have key : (if l ∈ i.lanes then ((i.g.thread l).pc + 8) % 2 ^ 64 else (i.g.thread l).pc) =
      (if l ∈ i.lanes then (i.pc + 8) % 2 ^ 64 else (i.g.thread l).pc) := by
    split
    · next hm => rw [this] at hm; simp only [List.mem_filter, decide_eq_true_eq] at hm; rw [hm.2]
    · rfl
  rw [key]
  rfl

/-- What retiring an issue leaves: the counters, the other groups, and the group at its place. -/
theorem State.retire_spec (s : State) (i : Issue) (f : Group → Group) :
    s.retire i f = { s with cores := (s.retire i f).cores, regs := (s.retire i f).regs } ∧
    s.otherGroups (s.retire i f) i ∧ ((s.retire i f).core i.core).group i.place = some (f i.after) := by
  unfold State.retire
  refine ⟨?_, ⟨?_, ?_, ?_, ?_⟩, ?_⟩
  · simp only []; split <;> rfl
  · intro c hc; simp only []; split <;> simp [State.bump, State.count, State.modCore, State.core_setCore, hc.symm]
  · intro p hp
    simp only []; split <;> simp [State.bump, State.count, State.modCore, Core.group_setGroup, hp.symm]
  · simp only []; split <;> simp [State.bump, State.count, State.modCore, Core.setGroup]
  · intro b hb
    simp only [Issue.counters, List.append_nil, List.mem_cons, List.not_mem_nil, or_false, not_or] at hb
    simp only []; split <;> simp [State.bump, State.count, State.modCore, State.wr, SMap.find_put, State.setCore, Ne.symm hb.1, Ne.symm hb.2]
  · simp only []; split <;> simp [State.bump, State.count, State.modCore]

/-- An instruction that goes through reaches its body on the state that has fetched it (with the V mark where it bears one). -/
theorem State.ins_eq {s : State} {c p op : Nat} {v : Bool} {legal : Nat → Bool} {i : Issue} (f : Issue → State → State)
    (h : s.issuePoint c p = some i) (hr : i.inRange = true) (hg : i.got = true) (ho : insOp i.word = op)
    (hv : v = true → i.d.kernel.vAllow = true) (hl : legal i.word = true) :
    s.ins c p op v legal f =
      f i (if v then (s.fetched i).modCtx i.g.ctx (fun x => { x with vmark := true }) else s.fetched i) := by
  cases v <;> simp_all [State.ins]

/-- An instruction whose fetch meets an uncorrectable error has that effect alone. -/
theorem State.ins_unread {s : State} {c p op : Nat} {v : Bool} {legal : Nat → Bool} {i : Issue} (f : Issue → State → State)
    (h : s.issuePoint c p = some i) (hr : i.inRange = true) (hg : i.got = false) : s.ins c p op v legal f = s.fetched i := by
  simp [State.ins, h, hr, hg]

/-- Retiring an issue, in whatever state, with a word written to xd of each participating lane. -/
theorem State.retire_issued {s : State} {c p : Nat} {i : Issue} (u : State) (h : s.issuePoint c p = some i) (v : Nat → Word) :
    u.issued i (.next (u.retire i (i.perLane (fun l g => g.setReg l (insXD i.word) (v l))))) v := by
  obtain ⟨h1, h2, h3⟩ := u.retire_spec i (i.perLane (fun l g => g.setReg l (insXD i.word) (v l)))
  have h4 := Issue.perLane_fields i (fun l g => g.setReg l (insXD i.word) (v l)) (fun _ _ => rfl) i.after
  refine ⟨_, _, rfl, h1, h2, h3, ?_, fun l r hr => ?_⟩
  · rw [h4]; exact Issue.moved_after h _
  · exact foldl_setReg _ _ (insXD_lt _) _ _ _ _ hr

/-- A register-to-register instruction that goes through writes its result to xd of each participating lane. -/
theorem State.alu_issued {s : State} {c p op : Nat} {i : Issue} (legal : Nat → Bool) (f : Group → Nat → Nat → Word)
    (h : s.issuePoint c p = some i) (hr : i.inRange = true) (hg : i.got = true) (ho : insOp i.word = op)
    (hl : legal i.word = true) :
    (s.fetched i).issued i (.next (s.alu c p op legal f)) (fun l => f i.g l i.word) := by
  have e : s.alu c p op legal f =
      (s.fetched i).retire i (i.perLane (fun l g => g.setReg l (insXD i.word) (f i.g l i.word))) := by
    simp [State.alu, State.ins, h, hr, hg, ho, hl]
  rw [e]
  exact State.retire_issued _ h _

/-- The outcome of a register-to-register instruction depends on its result in the participating lanes only. -/
theorem State.issued_congr {s : State} {i : Issue} {out : Out} {v v' : Nat → Word} (h : s.issued i out v)
    (e : ∀ l ∈ i.lanes, v l = v' l) : s.issued i out v' := by
  obtain ⟨t, g, h1, h2, h3, h4, h5, h6⟩ := h
  refine ⟨t, g, h1, h2, h3, h4, h5, fun l r hr => ?_⟩
  rw [h6 l r hr]
  split
  · next hl => exact e l hl.1
  · rfl

end Sys2Proof.Machine
end

