-- ==== Sys2Proof/Tests/Slice0.lean ====
section
/-! SUPPORT. The model's own tests: ill-formed commands that WellFormed refuses, worked examples of the spec, and for each
obligation with hypotheses states and operands that meet them, those of one statement in one list. -/
namespace Sys2Proof.Tests
open Sys2Proof Sys2Proof.Machine

/-! ### States to start from -/

/-- Set fields: row, page instance, index, value. -/
def set (s : State) (l : List (Row × Nat × Nat × Nat)) : State := l.foldl (fun s e => s.wr e.1 e.2.2.2 e.2.1 e.2.2.1) s

/-- A part in SERVICE with every core live, every stack in service and its host link up. -/
def up : State :=
  set { State.reset with
    regs := allPages.map (fun p => (HDR.STAT_STATE.bit p 0, stREADY))
    ftime := 1000000
    boot := { mainUp := true, coldDue := false, clocks := true, aligned := true, fltUp := true, qengUp := true, avsUp := true, thermUp := true,
              calOk := true, admitted := 0xFFFF, nonce := 0x1234 }
    pins := { perst := false, droneOk := true, nlDriven := true }
    pci := { linkUp := true, trained := true, identity := true } }
    ([(CHIP.BOOT_STAGE, 0, 0, 6), (CHIP.CORE_MAP_LIVE, 0, 0, 0xFFFF), (CHIP.SVC_LEVEL_LEVEL, 0, 0, 3), (CHIP.SVC_LEVEL_CQUAD, 0, 0, 15)] ++
     (List.range 4).flatMap (fun k => [(HBM.HBM_STAT_IN_SERVICE, k, 0, 1), (AVS.VMON_VALID, 0, k, 1), (AVS.VMON_CODE, 0, k, 6000)]) ++
     (List.range 16).map (fun c => (CLKRST.CORE_FREQ_F25, 0, c, 48)))

/-- A context of PF0 with rings and extents: 64 MiB of stack 0 and every bank of every slice. -/
def owned : Ctx :=
  { state := .owned, gen := 7, cq := { en := true, base := 0x10_0000 }, eq := { en := true, base := 0x20_0000 }
    cfg := { hbmLen := 1, spadNb := 64, affinity := 0xFFFF, intEn := true } }

/-- The part with context 5 owned. -/
def base : State := up.setCtx 5 owned

/-! ### Thread instructions -/

/-- An instruction word (R207). -/
def ins (op xd xa xb xc imm : Nat) : Nat := op * 2 ^ 56 + xd * 2 ^ 50 + xa * 2 ^ 44 + xb * 2 ^ 38 + xc * 2 ^ 32 + imm

/-- A dispatch of context 5 whose program starts at 0x8000. -/
def disp : Dispatch :=
  { id := 9, ctx := 5, gen := 7, queue := 3, ssn := 17, launched := 2
    kernel := { addr := 0x7000, width := 32, ksyncOk := true, vAllow := true, maxRes := 0, groups := 2, progAddr := 0x8000, progLen := 0x40
                argAddr := 0x9000, step := 4, tileBase := 0xFFFF_FFFF, opsDsa := 0x40_0000, opsExu := 0x4_0000 } }

/-- A group of it with three threads, of which lane 1 has ended. -/
def group (regs : List (Nat × Word)) : Group :=
  { ctx := 5, gen := 7, disp := 9, width := 32, index := 1, slot := 32, regs := regs
    threads := [{ pc := 0x8008 }, { pc := 0x8008, exited := true }, { pc := 0x8008 }] }

/-- Core 15 with that group in its last place, the word w at its pc, and registers that lanes 0 and 2 hold. -/
def thr (w : Nat) (regs : List (Nat × Word)) : State :=
  ((base.setCore 15 { disps := [disp], groups := [(3, { group [] with index := 0, ksync := true }), (127, group regs)] }).store 0x8008 (toLE w 8))

/-- Registers x1 to x4 of lanes 0 and 2. -/
def someRegs : List (Nat × Word) :=
  [(1, 0xFFFF_FFFF#32), (2, 0x7FFF_FFFF#32), (3, 33#32), (4, 2#32), (128 + 1, 0x8000_0000#32), (128 + 2, 1#32), (128 + 3, 0#32), (128 + 4, 1#32)]

/-- Lanes 0 and 2 hold addresses in the pair x62, data in x1 and x2, and a value to compare with in x3. -/
def addrRegs (a0 a2 : Nat) : List (Nat × Word) :=
  [(1, 5#32), (2, 6#32), (3, 0x1122_3344#32), (62, BitVec.ofNat 32 a0), (63, BitVec.ofNat 32 (a0 / 2 ^ 32)),
   (128 + 1, 0x3F80_0000#32), (128 + 2, 9#32), (128 + 3, 77#32), (128 + 62, BitVec.ofNat 32 a2), (128 + 63, BitVec.ofNat 32 (a2 / 2 ^ 32))]

/-- A memory instruction whose lanes access 0x2000 (4 below its address) and the last bank of core 15's slice. -/
def memThr (op size : Nat) : State :=
  (thr (ins op 10 62 1 3 (0xFFFF_FC00 + size)) (addrRegs 0x2004 (sliceBase 15 + sliceSize - 4))).store 0x2000 (toLE 0xF0E1_1122_3344_5566 8)

/-- The state with group 127 of core 15 changed. -/
def onGroup (s : State) (f : Group → Group) : State :=
  s.modCore 15 (fun c => c.setGroup 127 (f ((c.group 127).getD (group []))))

/-- The same group with every thread but lane 0 ended. -/
def lastLane (g : Group) : Group := { g with threads := [{ pc := 0x8008 }, { pc := 0x8008, exited := true }, { pc := 0, exited := true }] }

/-- The same group with lane 2 elsewhere, so that lane 0 issues alone. -/
def laneApart (g : Group) : Group := { g with threads := [{ pc := 0x8008 }, { pc := 0x8008, exited := true }, { pc := 0x8010 }] }

/-- The same group with lane 2 at a GSYNC. -/
def laneAtSync (g : Group) : Group := { g with threads := [{ pc := 0x8008 }, { pc := 0x8008, exited := true }, { pc := 0x8008, gsync := true }] }

/-- The same group outside its program. -/
def pastEnd (g : Group) : Group := { g with threads := [{ pc := 0x8040 }] }

/-- Port 15 is UP to a routable partner, and parts 3 and 4095 are reached by it. -/
def routed (s : State) : State :=
  { set s [(NL.NL_STAT_STATE, 15, 0, nlUP), (NL.NL_STAT_P_ROUTABLE, 15, 0, 1), (NL.NL_STAT_P_PART, 15, 0, 3), (CHIP.SVC_LEVEL_NL_UP, 0, 0, 0x8000),
      (CHIP.SVC_LEVEL_LEVEL, 0, 0, 4)] with
    fabric := { s.fabric with routes := [(3, 0x1_000F), (4095, 0x1_000F)] } }

/-! ### Passes -/

/-- A layer descriptor (Table 4-7) by its words 0 to 3, 5 and 8, with its CRC. -/
def layer (w0 w1 w2 w3 w5 w8 : Nat) : List Byte :=
  let d := [w0, w1, w2, w3, 0, w5, 0, 0, w8, 0, 0, 0, 0, 0, 0].flatMap (fun w => toLE w 4)
  d ++ toLE (crc16 d) 4

/-- An INT pass: 2-bit operands, M = 2, N = 3, K = 4, INT output of 8 bits. -/
def intLayer : List Byte := layer 0x0101_1000 (1 * 2 ^ 23 + 2 * 2 ^ 14 + 4) 4 0x0400_0000 0x8000_0000 0xABCD

/-- An EXACT pass: binary32 operands, M = N = 1, K = 1, V = 1, binary32 output. -/
def exactLayer : List Byte := layer 0x0138_8100 1 1 0x6000_0000 0 0x77

/-- Core 15 at a PASS whose pass record stands in x56 to x63 of lane 0: descriptor at 0x3000, output at 0x4000, tile 1, bank 1. -/
def passThr (op : Nat) (d : List Byte) : State :=
  (thr (ins op 0 56 0 0 0) [(56, 0x3000#32), (58, 0x4000#32), (60, 0x5000#32), (62, 1#32), (63, 0x4001#32)]).store 0x3000 d

/-- A pass of that group of a layer, with its output at 0x4000, its partial tile at 0x5000 and its operands in bank 1 of the store. -/
def pass (d : List Byte) : Pass :=
  { disp := 9, place := 127, ctx := 5, gen := 7, exact := ldMode d = mEXACT, desc := d, descAddr := 0x3000, out := 0x4000, part := 0x5000
    tile := 1, step := 4, pitch := 64, bank := 1, store := sliceBase 15 + (if ldMode d = mEXACT then 0x4_0000 else 0x40_0000), group := 1 }

/-- Core 15 with a unit in this condition, its group and its dispatch having two passes, operands of ones in its stores. -/
def withUnit (exact : Bool) (u : MUnit) : State :=
  ((thr 0 []).modCore 15 (fun c =>
    ({ c with disps := [{ disp with passes := 2 }] }.setGroup 127 { group [] with passes := 2, waitp := true }).setUnit exact u)).store
      (sliceBase 15 + 0x60_0000) [0xE4#8, 0x1B#8]

/-! ### Queues and contexts -/

/-- The words of a queue entry (Table 7-4) of SSN 2^32 - 1 and generation 7. -/
def entry (opc target : Nat) (args : List Nat) : List Nat :=
  [0xFFFF_FFFF * 2 ^ 32 + opc * 2 ^ 24 + 7 * 2 ^ 16, target] ++ (args ++ [0, 0, 0, 0, 0]).take 5 ++ [0xC0_FFEE]

/-- A fetched command with that entry. -/
def cmd (opc target : Nat) (args : List Nat) (ph : CmdPhase) : Cmd :=
  { ssn := 0xFFFF_FFFF, opc := opc, gen := 7, words := entry opc target args, phase := ph }

/-- Queue 63 of context 5 holding these commands, its last accepted SSN being 2^32 - 1. -/
def queued (l : List Cmd) (s : State) : State :=
  s.setCtx 5 ((s.ctx 5).setQueue 63 { en := true, base := 0x30_0000, done := 0xFFFF_FFFF, expect := 0, cmds := l })

/-- A command at the head of that queue, on the part where context 8191 is owned as well. -/
def holds (opc target : Nat) (args : List Nat) (ph : CmdPhase) : State :=
  queued [cmd opc target args ph] (base.setCtx 8191 { owned with cfg := { owned.cfg with hbmBase := 2 } })

/-- A host memory that holds the words of an entry in the last slot of that queue. -/
def hostEntry (ws : List Nat) (s : State) : State :=
  { s with host := Memory.writeBytes s.host (0x30_0000 + 15 * 64) (ws.flatMap (fun w => toLE w 8)) }

/-- A kernel descriptor (Table 5-2) of one group of 8 threads. -/
def kernelDesc : List Byte :=
  let d := [0x0100_0000, 1].flatMap (fun w => toLE w 4) ++ toLE 0x8000 8 ++ toLE 0x40 4 ++ toLE 0x9000 8 ++
    [4, 0, noStore, noStore].flatMap (fun w => toLE w 4) ++ zeros 16
  d ++ toLE (crc16 d) 4

/-- A dispatch of one group of 8 threads. -/
def disp1 : Dispatch :=
  { id := 9, ctx := 5, gen := 7, queue := 63, ssn := 0xFFFF_FFFF, raw := kernelDesc, kernel := parseKernel 0x7000 kernelDesc }

/-- Context 8191 changed. -/
def other (f : Ctx → Ctx) (s : State) : State := s.modCtx 8191 f

/-- An image region of 2,049 MiB or less fits the extent of context 8191: it has one core and no bank. -/
def small (c : Ctx) : Ctx := { c with cfg := { c.cfg with affinity := 0x8000, spadNb := 0, imgMib := 2 } }

/-- The operation of Firn on context 8191 that the command at the head of queue 63 of context 5 asked for. -/
def firnOp : FirnOp := { target := 8191, by_ := some (5, 63, 0xFFFF_FFFF) }

/-- Context 8191 under a reset whose records are posted up to GEN_CHANGE, or not. -/
def resetting (changed : Bool) (c : Ctx) : Ctx :=
  { c with state := .recovering, gen := 255, eq := {}, reset := some { level := 1, drained := changed, changed := changed } }

/-! ### Checkpoints -/

/-- A CKPT descriptor (Table 15-4) of one region for step 3, with these flags, and its region of 64 bytes at 0x1000 (Table 15-5). -/
def ckDesc (flags : Nat) : List Byte :=
  let d := toLE (2 ^ 24 + flags * 2 ^ 20 + 1) 4 ++ toLE 3 4 ++ toLE 0x6040 8 ++ toLE 1 4 ++ toLE 0 4 ++ toLE 0x50_0000 8 ++ toLE 0x10_0000 8 ++ zeros 20
  d ++ toLE (crc16 d) 2 ++ zeros 2
def ckRegion : List Byte := toLE 0x1000 8 ++ toLE 64 8 ++ toLE (26 * 2 ^ 8) 8 ++ zeros 8

/-- The part with a home area in stack 3 and the descriptor and region in memory; held areas for member 4. -/
def withHome (flags : Nat) (s : State) : State :=
  { set ((s.store 0x6000 (ckDesc flags ++ ckRegion)).store 0x1000 [1#8, 2#8, 3#8])
      [(FIRN.HOME_VALID, 0, 0, 1), (FIRN.HOME_STACK, 0, 0, 3), (FIRN.HOME_SIZE, 0, 0, 2), (FIRN.BUDDY_VALID, 0, 0, 1), (FIRN.BUDDY_PART, 0, 0, 4)] with
    firn := { s.firn with hold := [(255, 2 ^ 31 + 2 * 2 ^ 28 + 2 * 2 ^ 12 + 4)] } }

/-- The one entry of that checkpoint, and the checkpoint as it runs. -/
def ckEntry : CkptEntry := { region := 0, shard := 0, fmt := 0, src := 0x1000, len := 64, stored := 64, off := 0x1_0000 }
def ckRun (flags : Nat) (todo done : List CkptEntry) : Ckpt :=
  { ctx := 5, queue := 63, ssn := 0xFFFF_FFFF, desc := ckDesc flags, slot := 1, clean := 1000, todo := todo, entries := done }
def ckDone : CkptEntry := { ckEntry with digest := sha256 ([1#8, 2#8, 3#8] ++ zeros 61) }
def ckpting (k : Ckpt) (flags : Nat) : State :=
  let s := withHome flags (holds 0x18 0 [0x6000] .running)
  { s with firn := { s.firn with ckpt := some k } }

/-- The home area's slot 0 holds that checkpoint, sealed. -/
def sealedHome : State :=
  let s := withHome 0 (holds 0x19 0 [3] .fetched)
  let a := 3 * hbmSize + s.buddyBase 3
  (s.store a (s.manifestBytes (ckRun 0 [] [ckDone]) false)).store (a + 0x1_0000) [1#8, 2#8, 3#8]

/-- A RESTORE of step 3 from this part that runs. -/
def restoreRun : Restore :=
  { ctx := 5, queue := 63, ssn := 0xFFFF_FFFF, step := 3, source := 0, hostFb := false, member := 0, holder := 0, hostAddr := 0 }
def restoring : State :=
  let s := queued [cmd 0x19 0 [3] .running] sealedHome
  { s with firn := { s.firn with restore := some restoreRun } }

/-! ### The fabric -/

/-- A DATA flit with these fields has arrived by port p. -/
def arrived (p : Nat) (h : FlitFields) (s : State) : State :=
  { s with fabric := { s.fabric with inbox := s.fabric.inbox ++ [(p, s.mkFlit h)] } }

/-- The start barrier's parent is port 15 and its children the ports 0 and 3; contexts 4 to 5 may reach other parts. -/
def tree (s : State) : State :=
  set s [(BARRIER.BAR_TREE_PARENT, 0, 0, 15), (BARRIER.BAR_TREE_CHILD, 0, 0, 9), (BARRIER.BAR_TREE_LOCAL, 0, 0, 2),
    (FABRIC.PEER_CTX_BASE, 0, 0, 4), (FABRIC.PEER_CTX_COUNT, 0, 0, 2)]

/-- Outstanding request 1 of the group in the last place of core 15, for a word at 8 of a sector of part 3. -/
def remote (op : Nat) : Remote :=
  { tag := 1, op := op, dst := 3, ctx := 5, gen := 7, core := 15, place := 127, disp := 9, group := 1, lanes := [(0, 0), (2, 8)]
    xd := 10, size := 8, sector := 3 * 2 ^ 52 + 0x40, off := 0x40, since := 0 }

/-- Part 0 with that request, reached by parts 3 and 4095, context 5 open to peers. -/
def asking (op : Nat) : State :=
  let s := tree (routed (thr 0 []))
  { s with fabric := { s.fabric with remotes := [remote op, { remote op with tag := 2 }] } }

/-- A flit that part 3 formed has arrived by port 15. -/
def sent (h : FlitFields) (s : State) : State :=
  { s with fabric := { s.fabric with inbox := s.fabric.inbox ++ [(15, (s.wr FABRIC.FAB_ID_PART 3).mkFlit h)] } }

/-- An ORDERED flit of session 5 of part 3 with sequence number q, which opens the session or not. -/
def ordered (q opens : Nat) : DataFlit :=
  let f := (up.wr FABRIC.FAB_ID_PART 3).mkFlit { cls := clORDERED, op := 0x20, dst := 0, be := 1 }
  ((f.set 0 (leAt f.data 0 8 + opens * 2 ^ 6)).set 0x10 q).set 0x20 (5 * 2 ^ 48)
def ordIn (q opens : Nat) (rx : List (Nat × RxSession)) : State :=
  let s := routed base
  { s with fabric := { s.fabric with inOrdered := [(15, ordered q opens)], rx := rx } }
def rxSession (expect : Nat) : RxSession := { snonce := 0x1234, session := 5, expect := expect, held := [(8, 15, ordered 8 0)] }

/-- A flit of the link (Table 9-2) with sequence number 3 and an ACK of 2. -/
def flit (type cls : Nat) (payload : List Byte) : Flit := ⟨flitOf (linkWord 3 2 type cls 0 0) payload⟩

/-- Port p in a state, enabled at every rate on every lane, of field 9 and with signal everywhere. -/
def port (p v : Nat) (f : NlPort → NlPort) (s : State) : State :=
  (set s [(NL.NL_STAT_STATE, p, 0, v), (NL.NL_CFG_ENABLE, p, 0, 1), (NL.NL_CFG_RATES, p, 0, 7), (NL.NL_CFG_LANE_EN, p, 0, 15),
    (NL.NL_CFG_REPLAY_MAX, p, 0, 3), (NL.NL_FIELD_FIELD_TAG, p, 0, 9), (NL.NL_STAT_LANES_USED, p, 0, 15), (NL.NL_STAT_RATE, p, 0, 2),
    (FABRIC.FAB_ID_VALID, 0, 0, 1)]).modPort p (fun n => f { n with signal := 15, partnerLanes := 15 })

/-- An IDENT record (Table 9-3) of a serial, a nonce, a tag, part 4095 at port 3, these bits, and a next sequence number of 2. -/
def ident (serial nonce tag flags : Nat) : Flit :=
  flit tCTRL 0 (0x02#8 :: (toLE serial 8 ++ toLE nonce 8 ++ toLE tag 4 ++ toLE 0x3FFF 2 ++ toLE flags 1 ++ toLE 2 2))

/-- A collective descriptor (Table 10-4) over three members whose list stands at 0x2F00, for generation 2^32 - 1, of part p,
with its CRC. -/
def collDesc (p op dtype : Nat) : List Byte :=
  let d := toLE (2 ^ 24 + op * 2 ^ 20 + dtype * 2 ^ 16) 4 ++ toLE 0xFFFF_FFFF 4 ++ toLE (p * 2 ^ 52 + 0x2F00) 8 ++ toLE 3 2 ++ zeros 2 ++
    toLE (p * 2 ^ 52 + 0x2000) 8 ++ toLE (p * 2 ^ 52 + 0x2100) 8 ++ toLE (p * 2 ^ 52 + sliceBase 15) 8 ++ toLE 64 4 ++ zeros 12
  d ++ toLE (crc16 d) 2 ++ zeros 2

/-- The part is member i of the parts 4095, 0 and 3, and the command at the head of queue 63 of context 5 is that COLL. -/
def member (i op dtype : Nat) (ph : CmdPhase) : State :=
  set (((tree (holds 0x20 0 [[4095, 0, 3].getD i 0 * 2 ^ 52 + 0x6000] ph)).store 0x6000 (collDesc ([4095, 0, 3].getD i 0) op dtype)).store 0x2F00 (toLE 4095 2 ++ toLE 0 2 ++ toLE 3 2))
    [(FABRIC.FAB_ID_PART, 0, 0, [4095, 0, 3].getD i 0)]

/-- That collective as it runs. -/
def runningColl (i op : Nat) : Coll :=
  { ctx := 5, queue := 63, ssn := 0xFFFF_FFFF, cgen := 0xFFFF_FFFF, op := op, dtype := 0, red := false, members := [4095, 0, 3],
    index := i, src := 0x2000, dst := 0x2100, stage := sliceBase 15, len := 64, started := 1000000 }
def inColl (i op : Nat) (f : Coll → Coll) : State :=
  let s := routed (member i op 0 .running)
  { s with fabric := { s.fabric with colls := [f (runningColl i op)], lastCgen := [(5, 0xFFFF_FFFF)] } }

/-- A collective flit from member j. -/
def collIn (op aux j : Nat) (s : State) : State :=
  arrived 15 { cls := clORDERED, op := op, dst := 0, ctx := 5, gen := 7, be := j * 2 ^ 32 + 0xFFFF_FFFF, aux := aux } s

/-- Two BARRIER commands of context 5 wait in the tree, and the root's release has been received. -/
def atBarrier (s : State) : State :=
  let s := queued [cmd 0x21 0 [1] .running, { cmd 0x21 0 [1] .running with ssn := 0 }] (tree (routed s))
  { s with barrier := { cmds := [⟨5, 63, 0xFFFF_FFFF, true⟩, ⟨5, 63, 0, false⟩], children := [3, 0], arrived := true, hops := 15 } }

/-! ### Tokens and the ladder -/

/-- A token of page src that bears context 5. -/
def tok (src kind cls : Nat) : Tok := { src := src, kind := kind, cls := cls, ctx := 5, gen := 7, addr := 0x40, detail := 3 }

/-- FLT has these tokens to take in. -/
def told (l : List Tok) (s : State) : State := { s with fltIn := l }

/-- Moraine's ring is open at 0x70_0000 with 1,024 places and these indices; its queue holds an entry. -/
def ring (p c : Nat) (k : Tok) (s : State) : State :=
  { set s [(MORAINE.MOR_CTL_EN, 0, 0, 1), (MORAINE.MOR_CTL_LOG2, 0, 0, 10), (MORAINE.MOR_BASE_BASE, 0, 0, 0x700),
      (MORAINE.MOR_PIDX_PIDX, 0, 0, p), (MORAINE.MOR_CIDX_CIDX, 0, 0, c), (MORAINE.MOR_RSEQ_NEXT, 0, 0, p), (MORAINE.MOR_MOD_MOD_CNT, 0, 0, 2),
      (MORAINE.MOR_MOD_MOD_US, 0, 0, 5)] with
    mor := { queue := [s.stamped k] } }

/-- The ladder runs a reset of a level and a domain with no suspect. -/
def laddered (level domain : Nat) (s : State) : State :=
  { s with ladder := { s.ladder with running := [{ level := level, domain := domain }] } }

/-- The steps before a chip reset or a power cycle are done. -/
def ending (level : Nat) (s : State) : State :=
  { s with ladder := { s.ladder with chip := some { level := level, domain := 0, cause := some (tok 0x111 0x3A cCHIP) } } }

/-- The capture record 4,095 stands at the start of the ring and is asked for. -/
def captured (s : State) : State :=
  { (set s [(CLKRST.CAP_DMA_SEQ_SEQ, 0, 0, 4095), (CLKRST.CAP_DMA_CTL_BUSY, 0, 0, 1), (CLKRST.CAP_DMA_ADDR_ADDR, 0, 0, 0x80_0000)]).store
      (captureBase + ringLo) [0x4B#8, 0x43#8] with
    ladder := { s.ladder with caps := [(4095, ringLo, 64)] } }

/-! ### Serac -/

/-- A sample of core 15's INT pass in delay-line entry 255, for core 3 to repeat, with the signatures its operands give. -/
def sample (ph : SamplePhase) (len : Nat) : Machine.Sample :=
  let p := pass intLayer
  let s := withUnit false {}
  let g := match (s.readOperands p).2 with
    | some d => s.signatures (s.core 15).table p (accumulateOf d.ops (s.core 15).table p.desc [])
    | none => (0, 0)
  { entry := 255, primary := 15, shadow := 3, third := some 4, pass := p, len := len, accSig := g.1, outSig := g.2, phase := ph, ended := 999990, compared := 999990 }

/-- That sample waits, or its Serac pass runs on core c. -/
def screening (c : Nat) (x : Machine.Sample) (running : Bool) (since : Nat) : State :=
  let s := withUnit false {}
  let s := if running then s.modUnit c false (fun u => { u with serac := some 255 }) else s
  { set s [(SERAC.SRC_CTL_SHADOW_EN, 0, 0, 1), (SERAC.SHARE_Q, 0, c / 4, 1), (SHADOW.SHD_CTL_HOST_EN, c, 0, 1), (HDR.CTL_ENABLE, pgDSA c, 0, 1)] with
    serac := { samples := [x], shadowCredit := [(c / 4, 2 ^ 40)], sinceCanary := since } }

/-! ### Field test -/

/-- A pack (Table 13-1) of PACK_SEQ 9 whose one entry is a ROM pattern, signed by the bytes of `sig`. -/
def pack (sig : List Byte) : List Byte :=
  toLE 0x4B50_4B31 4 ++ zeros 2 ++ [0xB0#8, 1#8] ++ toLE 3 4 ++ toLE 9 4 ++ toLE 256 4 ++ toLE 1 2 ++ [5#8, 0#8] ++ zeros 8 ++
    sha256 romEntry ++ zeros 64 ++ romEntry ++ sig

/-- A load of that pack from host memory is in progress. -/
def loadingPack (sig : List Byte) : State :=
  { base with host := Memory.writeBytes [] 0x90_0000 (pack sig), test := { loading := some (0x90_0000, 256, false), highest := some 4 } }

/-- Core 15 in this test state, its quadrant with a share of screening and parameters of Table 13-9 at their bounds. -/
def testing (f : TestCore → TestCore) : State :=
  (set base [(SERAC.SHARE_Q, 0, 3, 64), (TEST.TST_CTL_SLICE_EN, 15, 0, 1), (QUAD.QTEST_PAR_HOLD_MS, 3, 0, 100), (QUAD.QTEST_PAR_RISE, 3, 0, 15),
    (QUAD.QTEST_PAR_STEPS, 3, 0, 8), (QUAD.QTEST_PAR_DEPTH, 3, 0, 1), (QUAD.QTEST_WAIT_DRAIN_MS, 3, 0, 4000),
    (QUAD.QTEST_WAIT_WAIT_MS, 3, 0, 1)]).modTcore 15 f

/-- Quadrant 3 under this explicit test. -/
def explicit (t : QTest) : State := (testing id).modQtest 3 (fun _ => t)

/-! ### Bring-up -/

/-- The part on its way up, at this stage, FLT in service or not. -/
def atStage (n : Nat) (flt : Bool) : State :=
  let s := set up [(CHIP.BOOT_STAGE, 0, 0, n)]
  { s with boot := { s.boot with fltUp := flt, clocks := false, aligned := decide (0 < n), restoreOk := true }
           sec := { s.sec with lcLast := some s.lc } }

/-- A firmware image (R583) of an empty body, of security version 63 and WSEQ 7, signed by the bytes of `sig`. -/
def image (sig : List Byte) : List Byte :=
  toLE 0x4B46_5731 4 ++ [63#8, 0#8, 0#8, 1#8] ++ zeros 8 ++ sha256 [] ++ (sig ++ zeros 96).take 96 ++ zeros (0xFF0 - 0x90) ++ toLE 7 4 ++ zeros 12

/-- FIRMWARE with that image in slot A. -/
def withImage (sig : List Byte) : State :=
  let s := atStage 1 false
  { s with sec := { s.sec with flash := ((image sig).zipIdx.filter (fun e => e.1 != Memory.blank)).map (fun e => (e.2, e.1)), flashOk := true } }

/-! ### Ill-formed commands: one operand out of its range, for each check of WellFormed -/

theorem test_refused_1 :
  ([.dronePor [0], .memoryStage [⟨4, true, 0, 0⟩] [], .memoryStage [] [(15, 64)], .admitStage [⟨16, none, none, [], []⟩],
    .stageOverrun [⟨4, true, 0, 0⟩] [] [] true [], .stageOverrun [] [(15, 64)] [] true [], .stageOverrun [] [] [] true [16],
    .profileReq (.tenant 64) 0, .profileReq .host (2 ^ 64), .coreRelock 16, .regWrite .host (2 ^ 28 + 4096) 0 true 0,
    .regWrite .host 0 4097 true 0, .blkLockSet .host 1024, .doorbellWrite .host (2 ^ 28) 0, .flrStart 0, .poisonedWrite 64 0,
    .iadd 0 128, .hbmOdeccReport 4, .scrubStep true 16, .pathRetryResult 1024 0 0 true true] : List Instr).all (fun i => !i.wellFormed) = true := by
  decide +kernel

theorem test_refused_2 :
  ([.pathRetryResult 0 1024 0 true true, .entryFetch 8192 0, .entryFetch 0 64, .commandComplete 0 0 (2 ^ 32),
    .ringCfgWrite .host 0 256 0, .assign .host 0 64, .ctxCfgWrite .host 4096 0 0, .shareWrite .host 4 0 0 0, .nlDetect 16 0,
    .nlDetect 0 16, .nlCapReceive 0 ⟨zeros 255⟩, .laneFence 0 4 0, .nlReneg .host 16, .ordRetransmit 4096,
    .engineResetDone ⟨0, none, none, [512], []⟩, .partitionResetDone 0 true [⟨16, none, none, [], []⟩], .resetStepOverrun 16 0 none,
    .resetStepOverrun 0 8192 none, .resetStepOverrun 0 0 (some 16), .rstCmdEngine .host (2 ^ 16) 0, .shadowHoldExpire 256] : List Instr).all (fun i => !i.wellFormed) = true := by
  decide +kernel

theorem test_refused_3 :
  ([.sliceEnd 0 [⟨16, 0, 0, [], false⟩], .qtestCore .host 0 16 true true, .marginTick [0], .ckptSeal 4096,
    .buddyOfferReceive 4096 0 0 0, .sensorConversion [0], .sfenceClear .host 72, .grpCfgWrite .host 6 0, .thermtrip 76,
    .vmonSample 5 0, .wakeEvent 16 0, .calCommit .host 256, .tapToken [0], .tapRegap (2 ^ 66), .tapMemap (2 ^ 130),
    .i3cAddressAssign true 128 0, .i3cAddressAssign true 0 128, .i3cTransfer (2 ^ 32) true 0, .i3cTransfer 0 true (2 ^ 32),
    .msixVectorUnmask 0 2048, .shardFetchRequestReceive 0 4096 0 0 0] : List Instr).all (fun i => !i.wellFormed) = true := by
  decide +kernel

/-- The same operands in range are taken. -/
theorem test_well_formed :
    ([.dronePor (List.replicate 4 0), .profileReq (.tenant 63) (2 ^ 64 - 1), .iadd 15 127, .entryFetch 8191 63, .flrStart 63,
      .nlCapReceive 15 ⟨zeros 256⟩, .memoryStage [⟨3, true, 0, 0⟩] [(15, 63)]] : List Instr).all (fun i => i.wellFormed) = true := by
  decide +kernel

/-! ### The worked examples of the spec -/

/-- `00_scope.md`: page offset 0x0015_1000 is the DSA of CORE5, source 0x151. -/
theorem test_source_of_page : pgDSA 5 = 0x151 ∧ pgDSA 5 * 0x1000 = 0x0015_1000 := by decide

/-- `03_register_pages_host.md`: the header of that page reads BLK_ID 0x0210_0501. -/
theorem test_block_id : base.regWord (pgDSA 5 * 4096) = 0x0210_0501 := by decide +kernel

/-- The same: VF 7 has BASE 0x400 and COUNT 256, so its context 5 is 0x405 and it has no context 300; its window stands at 0x0144_0500. -/
theorem test_local_context :
    let s := set base [(HOSTIF.VF_CTX_BASE, 0, 7, 0x400), (HOSTIF.VF_CTX_COUNT, 0, 7, 256)]
    s.regWord (pgHOSTIF * 4096 + HOSTIF.VF_CTX_BASE.off + 4 * 7) = 0x0400_0100 ∧
    s.globalCtx (.tenant 7) 5 = some 0x405 ∧ s.globalCtx (.tenant 7) 300 = none := by decide +kernel

/-- `04_digit_serial_arithmetic.md`: the first eight words of D2, whose pass takes 4,008 core cycles. -/
def layerD2 : List Byte :=
  [0x0104_2C80, 0xFFDF_C1F4, 0x3E8, 0x0494_8000, 0x5EED_0042, 0xD410_0000, 0xFFFF_FF88, 0x78, 0xABCD].flatMap (fun w => toLE w 4) ++ zeros 28

theorem test_layer_fields :
    ldMode layerD2 = mINT ∧ ldM layerD2 = 512 ∧ ldN layerD2 = 384 ∧ ldKPass layerD2 = 500 ∧ ldKTotal layerD2 = 1000 ∧
    ldSignA layerD2 = true ∧ ldSignB layerD2 = true ∧ ldAccIn layerD2 = true ∧ ldShift layerD2 = 10 ∧ ldSatLimit layerD2 = 16 ∧
    ldRangeClass layerD2 = cDEFERRED ∧ ldLength layerD2 = 4008 := by decide +kernel

/-- `11_fault_tokens.md`: the words of the CHECKSUM_COLSUM of CORE9's DSA, and of the OVF record for 300 dropped tokens. -/
theorem test_token_words :
    let k : Tok := { src := pgDSA 9, kind := kCHECKSUM_COLSUM, cls := 2, ctx := 0x405, gen := 0x12, addr := 0x0B17 * 2 ^ 16 + 200, detail := 1 }
    k.word0 = 0x1914_4408_0A24_0000 ∧ k.word1 = 0x0000_0B17_00C8_0001 := by decide

theorem test_ovf_words : (ovfEntry ⟨300, 2, 0, 0, 0⟩).tok.word0 = 0x006E_4000_0000_0000 ∧ (ovfEntry ⟨300, 2, 0, 0, 0⟩).tok.word1 = 0x012C_0002 := by
  decide

/-- `10_field_operations.md`: the target and the local address of 0x3C10_0040_3180_0000. -/
theorem test_global_address :
    0x3C10_0040_3180_0000 / 2 ^ 52 = 0x3C1 ∧ sliceBase 6 ≤ 0x3C10_0040_3180_0000 % 2 ^ 52 ∧
    0x3C10_0040_3180_0000 % 2 ^ 52 < sliceBase 6 + sliceSize := by decide

/-- `04_digit_serial_arithmetic.md`: 94,371 / 1,024 is 92 under RNE, and 93 under stochastic rounding exactly when x >> 22 < 163. -/
theorem test_rounding :
    divRound 0 0 94371 10 = 92 ∧ divRound 1 (162 * 2 ^ 22 + 5) 94371 10 = 93 ∧ divRound 1 (163 * 2 ^ 22) 94371 10 = 92 := by decide +kernel

/-! ### States and operands that meet each statement's hypotheses -/

set_option Elab.async false

/-- State.lets, decided. -/
def lets (s : State) (a : Authority) (off len : Nat) (r : Row) : Bool :=
  decide (s.gate a off len true = .ok ∧ s.mayWrite a r = true ∧ s.pageWake a (off / 4096) = s)

theorem lets_iff {s : State} {a : Authority} {off len : Nat} {r : Row} : lets s a off len r = true ↔ s.lets a off len r := by
  simp [lets, State.lets]

/-- State.memoryClear, decided. -/
def memoryClear (s : State) : Bool :=
  s.marksC.isEmpty && s.marksU.isEmpty && s.lostPaths.isEmpty && (List.range 4).all (fun k => !s.asleep k)

theorem memoryClear_iff {s : State} : memoryClear s = true ↔ s.memoryClear := by
  simp [memoryClear, State.memoryClear, List.isEmpty_iff, and_assoc]

/-- State.canon, decided. -/
def canon (s : State) : Bool :=
  Memory.wf s.mem && Memory.wf s.host && SMap.wf s.regs && SMap.wf s.ctxs && SMap.wf s.cores

theorem canon_iff {s : State} : canon s = true ↔ s.canon := by
  simp [canon, State.canon, and_assoc]

/-- State.accessible, decided. -/
def accessible (s : State) (i : Issue) : Bool := 
  decide (insXA i.word < 63) && memoryClear s &&
  i.lanes.all fun l => match s.checkAddr i.g.ctx (i.g.addr l i.word) (insSize i.word) with | .ok _ => true | _ => false

theorem accessible_iff {s : State} {i : Issue} : accessible s i = true ↔ s.accessible i := by
  simp only [accessible, State.accessible, Bool.and_eq_true, decide_eq_true_eq, memoryClear_iff, and_assoc, List.all_eq_true]
  refine and_congr_right fun _ => and_congr_right fun _ => forall₂_congr fun l _ => ?_
  cases s.checkAddr i.g.ctx (i.g.addr l i.word) (insSize i.word) <;> simp

/-- No context is owned and no reset has suspects, so no reset makes one. -/
def noSuspects (s : State) : Bool := s.ladder.running.all (fun k => k.suspects.isEmpty) && s.ctxs.isEmpty

theorem noSuspects_imp {s : State} (h : noSuspects s = true) :
    (∀ k ∈ s.ladder.running, k.suspects = []) ∧ ∀ (cores : List Nat) (home : Option Nat), s.suspectsOn cores home = [] := by
  simp only [noSuspects, Bool.and_eq_true, List.all_eq_true, List.isEmpty_iff] at h
  exact ⟨h.1, by simp [State.suspectsOn, h.2]⟩

/-- A port that can be used leads to part d. -/
def reaches (s : State) (d : Nat) : Bool := s.routable && (s.paths d).any s.usable

theorem reaches_imp {s : State} {d : Nat} (h : reaches s d = true) (f : DataFlit) (hf : f.dst = d) : s.hop f ≠ .lost := by
  simp only [reaches, Bool.and_eq_true, List.any_eq_true] at h
  obtain ⟨hr, p, hp, hu⟩ := h
  have hne : (s.paths f.dst).filter s.usable ≠ [] := by
    rw [hf]; exact List.ne_nil_of_mem (List.mem_filter.mpr ⟨hp, hu⟩)
  cases hl : (s.paths f.dst).filter s.usable with
  | nil => exact absurd hl hne
  | cons a l =>
    simp only [State.hop, hr, hl, bestBy, List.head?_cons]
    by_cases h : f.cls = clBULK <;> simp [h] <;> split <;> simp

/-- A group of context 8191. -/
def otherGroup : Group := { group [] with ctx := 8191 }
/-- The FREEZE of context 8191 is under way. -/
def freezing (s : State) : State := { s with firn := { s.firn with freezes := [firnOp] } }
/-- The THAW of context 8191 is under way; its image holds that group. -/
def thawing (s : State) : State := { s with firn := { s.firn with thaws := [firnOp], images := [(8191, { groups := [(15, 3, otherGroup)] })] } }
/-- Slot 1 holds a sealed copy of that checkpoint for member 4. -/
def holdsCopy : State := let s := withHome 0 base; { s with firn := { s.firn with helds := [{ member := 4, slot := 1, step := 3, seq := 1, digests := [(0, ckDone.digest)] }] } }
/-- A flit of the start barrier has arrived by port p. -/
def barrierFlit (op bgen aux : Nat) (body : List Byte) (p : Nat) (s : State) : State := arrived p { cls := clORDERED, op := op, dst := 0, be := bgen, aux := aux, body := body, len := body.length } s
/-- A data flit that this part formed. -/
def outgoing (cls op dst tag : Nat) : DataFlit := base.mkFlit { cls := cls, op := op, dst := dst, tag := tag, ctx := 5, gen := 7 }
/-- The replay buffer holds one flit of each of three kinds. -/
def replaying (n : NlPort) : NlPort := { n with replay := [(1, outgoing 2 0x01 3 1), (2, outgoing 1 0x04 3 2), (3, outgoing 1 0x20 3 0)] }
/-- The port has credits and owes some. -/
def credited (n : NlPort) : NlPort := { n with credit := [(0, 1), (1, 1024), (2, 5)], owed := [(1, 5000), (2, 3)] }
/-- Sending sessions to parts 3 and 4095, the first with three flits that wait for an acknowledgement. -/
def sessions (s : State) : State := { s with fabric := { s.fabric with tx := [(3, { session := 5, next := 3, unacked := [(0, 0, ordered 0 1), (65535, 0, ordered 65535 0), (1, 0, ordered 1 0)] }), (4095, {session := 9})] } }
/-- An ORD_ACK of part 3 for session `sess` and sequence number q has arrived. -/
def ackIn (sess q st : Nat) (s : State) : State := let f := (s.wr FABRIC.FAB_ID_PART 3).mkFlit { cls := clORDERED, op := 0x28, dst := 0, status := st }
  { s with fabric := { s.fabric with inbox := [(15, (f.set 0x10 (leAt f.data 0x10 8 + q)).set 0x20 (sess * 2 ^ 48))] } }
/-- Two flits from part `src` wait for a route that does not come. -/
def noRoute (op src : Nat) (s : State) : State := { s with fabric := { s.fabric with stuck := [⟨0, 3, (s.wr FABRIC.FAB_ID_PART src).mkFlit {cls := clBULK, op := op, dst := 99}⟩, ⟨0, 16, (s.wr FABRIC.FAB_ID_PART src).mkFlit {cls := clORDERED, op := op, dst := 99}⟩] } }
/-- Context 5 is RECOVERING. -/
def recovering5 (s : State) : State := s.modCtx 5 (fun c => {c with state := .recovering})
/-- The layer of a pass. -/
def intLayer1 := intLayer
/-- A verdict with disagreeing columns, a row and the corner. -/
def disagree : Disagree := { ctx := 5, gen := 7, layer := 0xABCD, cols := [(1, true, false), (2, false, true)], rows := [(0, true, false)], corner := some (true, false) }
/-- The DSA and LOG pages of core 15 are quiesced. -/
def logQuiesced (s : State) : State := set s [(HDR.CTL_QUIESCE, pgDSA 15,0,1), (HDR.CTL_QUIESCE, pgLOG 15,0,1)]
/-- A sample in that phase. -/
def sampled := sample
/-- A signature that does not verify or does, as Config says. -/
def goodSig : List Byte := 1#8 :: zeros 95
/-- Context 5 with an extent its image region takes. -/
def small5 (s : State) : State := s.modCtx 5 small
/-- Core 15 holds a group whose thread waits at a GSYNC. -/
def midProgram (s : State) : State := s.setCore 15 {groups := [(3, {group [] with threads := [{pc := 0, gsync := true}]})]}
/-- Every sensor reads 200. -/
def cool (s : State) : State := (List.range 72).foldl (fun s i => s.wr THERM.TEMP_CODE 200 0 i) s
/-- Every sensor reads v. -/
def tempsAt (v : Nat) (s : State) : State := (List.range 72).foldl (fun s i => s.wr THERM.TEMP_CODE v 0 i) s
/-- A change to profile 2 is under way; cores 3 and 15 are to relock. -/
def changing (s : State) : State := {set s [(CLKRST.PROFILE_CHANGING,0,0,1)] with boot := {s.boot with clkTarget := 2, relock := 0x8008}}
/-- The entry of power state `st` is under way. -/
def enteringState (st : Nat) (s : State) : State := {s with pw := {entering := some st}}
/-- The alarm limits of monitor 3. -/
def alarmsAt (s : State) : State := set s ([(AVS.VALARM_LO,0,3,6000),(AVS.VALARM_HI,0,3,7000)])
/-- Main power is off. -/
def noMain (s : State) : State := { s with boot := { s.boot with mainUp := false } }
/-- The Drone rail is off. -/
def noDrone (s : State) : State := { s with boot := { s.boot with droneRail := false } }
/-- A warm boot that keeps the resident firmware. -/
def keptImage (s : State) : State := { set s [(CHIP.BOOT_PATH,0,0,1),(CHIP.BOOT_CAUSE,0,0,3)] with boot := { s.boot with resident := some [3#8], imgDig := some (sha256 [3#8]) } }
/-- A PROGRESS_STALL of HOSTIF, of class CHIP. -/
def hostStall : Tok := { src := pgHOSTIF, kind := kPROGRESS_STALL, cls := cCHIP }
/-- NumVFs is n, and virtual function 3 owns c contexts from b. -/
def vfRange (n b c : Nat) (s : State) : State := { set s [(HOSTIF.VF_CTX_BASE,0,3,b),(HOSTIF.VF_CTX_COUNT,0,3,c)] with pci := { s.pci with numVfs := n, vfEnable := n != 0 } }
/-- A Function Level Reset of function 2 is under way. -/
def flrBusy (s : State) : State := set s [(HOSTIF.FLR_STAT_BUSY,0,0,4)]
/-- Two pages are locked. -/
def locked (s : State) : State := set s [(HDR.CTL_LOCK,pgHOSTIF,0,1),(HDR.CTL_LOCK,pgFE 15,0,1)]
/-- Core 15 is fenced by software. -/
def softFenced (s : State) : State := { s with boot := { s.boot with softFence := 2^15, softComp := true } }
/-- A read of 64 bytes of host memory, once reissued or not. -/
def hostRead (re : Bool) (g : Nat) : DmaRead := { tag := 3, addr := 0x90_0000, len := 64, ctx := 5, gen := g, queue := 63, ssn := 0xFFFF_FFFF, since := 0, reissued := re }
/-- A COPY from host memory waits for that read. -/
def copying (flags : Nat) (d : DmaRead) : State := let s := holds 0x02 0 [0x90_0000, 0x1000, 128, flags] .running; { s with pci := { s.pci with reads := [d] }, host := Memory.writeBytes [] 0x90_0000 [5#8, 6#8] }
/-- Upsets that are correctable and that are not. -/
def upsets (a : List Nat) (b : List Nat) (s : State) : State := { s with marksC := a, marksU := b }
/-- The patrol of core 15 stands at word n. -/
def patrolAt (n : Nat) (f : Core → Core) (s : State) : State := s.modCore 15 (fun c => f { c with scrubPos := n })
/-- The slice of core 15. -/
def slice15 : Nat := sliceBase 15
/-- Bank 3 of core 15 migrates; the banks q are to follow. -/
def migrating (q : List Nat) (s : State) : State := (set s [(SPAD.SPAD_STAT_MIGRATING, 15, 0, 1), (SPAD.SPAD_STAT_MIG_BANK, 15, 0, 3),(SPAD.SPAD_BANKMAP_VALID, 15, 3, 0)]).modCore 15 (fun c => { c with mig := some { logical := 3, phys := 62 }, migQueue := q })
/-- A record of the calibration store (Table 18-1) of type t. -/
def calRec (t : Nat) (payload : List Byte) : List Byte :=
  let b := toLE 1 1 ++ toLE t 1 ++ toLE 0x4B43 2 ++ toLE payload.length 2 ++ toLE 7 2 ++ toLE 1 1 ++ zeros 7 ++ payload
  b ++ toLE (crc32 b) 4
/-- An RC compensation curve. -/
def rcCurve : List Byte := (List.range 16).flatMap (fun i => toLE (i * 10) 2 ++ toLE (1000 - i) 2)
/-- The staging area holds these bytes, the store one record. -/
def staged (r : List Byte) : State := { base with cal := { stage := Memory.writeBytes [] 0 r, store := Memory.writeBytes [] 0x100 (calRec 2 (zeros 64)), inUse := [(2, zeros 64)] } }
/-- The write of a record is under way. -/
def writingRec (t : Nat) (r : List Byte) (s : State) : State := { s with cal := { s.cal with writing := some (t, r), torn := [t] } }
/-- A token of the debug port (Table 19-4). -/
def debugToken (kind : Nat) (nonce : Nat := 0x1234) (sig : List Byte := [1#8]) (ser : Nat := 0x4B5A_0001) : List Byte := toLE 0x4B56_544B 4 ++ toLE kind 1 ++ [0#8, 0#8, 1#8] ++ toLE ser 8 ++ toLE nonce 8 ++ zeros 8 ++ (sig ++ zeros 96).take 96
/-- The part in a lifecycle state, with a token or none. -/
def lifecycle (n : Nat) (k : Option (List Byte)) (s : State) : State := { set s [(SEC.SEC_STAT_LC,0,0,n),(SEC.SEC_STAT_DEBUG,0,0,0)] with sec := { s.sec with token := k } }
/-- The debug level. -/
def debugLevel (n : Nat) (s : State) : State := set s [(SEC.SEC_STAT_DEBUG,0,0,n)]
/-- An update to that image is under way. -/
def updating (im : List Byte) (s : State) : State := { s with sec := { s.sec with update := some im, flash := Memory.writeBytes [] 0x100_0000 [5#8, 6#8], runWseq := 9 } }
/-- The I3C target has an address. -/
def addressed (s : State) : State := { s with sec := { s.sec with i3cAddr := some 5 } }
/-- Vector 0 of PF0 is not masked. -/
def vector0 (s : State) : State := { s with pci := { s.pci with msix := [(0, {addr := 1, data := 2, mask := false})] } }

set_option maxRecDepth 100000 in
theorem test_meets_PacksAndUpdates : List.and [
    (let s : Machine.State := base
     let a : Authority := .host
     decide (lets s a (offChanter 268) 4 CHANTER.PACK_CTL_LOAD) &&
     decide (s.test.loading = none)),
    (let s : Machine.State := loadingPack goodSig
     (s.test.loading).any fun (addr, len, tray) =>
     decide (tray = false) &&
     decide (len ≤ 16777216) &&
     decide (s.boot.fltUp = true) &&
     let ok : Bool := false
     decide (s.packReason (s.hostBytes addr len) len ok ≠ 0)),
    (let s : Machine.State := { base with boot := { base.boot with resident := some [] }, sec := { base.sec with runSvn := 63 } }
     let a : Authority := .host
     let key : Nat := 0x5EC0
     decide (key < 2 ^ 16) &&
     decide (lets s a (offSec 80) 4 SEC.SVN_COMMIT_KEY) &&
     decide (key = 24256) &&
     decide (s.boot.resident.isSome = true)),
    (let s : Machine.State := base
     let a : Authority := .host
     let key : Nat := 15
     decide (key < 2 ^ 16) &&
     decide (lets s a (offSec 80) 4 SEC.SVN_COMMIT_KEY) &&
     decide (key ≠ 24256)),
    (let s : Machine.State := updating (image [1#8]) base
     let a : Authority := .host
     decide (lets s a (offChanter 332) 4 CHANTER.FW_CTL_UPDATE) &&
     decide (s.sec.update.isSome = true)),
    (let s : Machine.State := base
     let a : Authority := .host
     decide (lets s a (offChanter 332) 4 CHANTER.FW_CTL_UPDATE) &&
     decide (s.sec.update = none) &&
     decide (s.lc ≠ 3) &&
     decide ((memoryClear s))),
    (let s : Machine.State := lifecycle 3 none up
     let a : Authority := .host
     decide (lets s a (offChanter 332) 4 CHANTER.FW_CTL_UPDATE) &&
     decide (s.sec.update = none) &&
     decide (s.lc = 3)),
    (let s : Machine.State := updating (image [1#8]) base
     (s.sec.update).any fun image =>
     let readOk : Bool := false
     decide (s.inService = true) &&
     decide (s.sec.runSlot < 2) &&
     decide (1052672 ≤ s.sec.flashHalf) &&
     decide ((if readOk = false then 6 else if image.length < 4096 then 1 else fwReason (List.take 4096 image) (List.take (leAt (List.take 4096 image) 12 4) (List.drop 4096 image)) (s.rd SEC.SEC_STAT_MIN_SVN)) ≠ 0))] = true := by decide +kernel

set_option maxRecDepth 100000 in
theorem test_meets_TenancyCommands : List.and [
    (let s : Machine.State := base.setCtx 8191 {cfg := {hbmBase := 3, hbmLen := 1, affinity := 1}}
     let a : Authority := .host
     let x : Nat := 8191
     let o : Nat := 0
     decide (x < 8192) &&
     decide (o < 64) &&
     decide (lets s a 49216 4 QENG.CTX_CMD_OP) &&
     decide (s.releasing = false) &&
     decide (s.assignResult x o = 0) &&
     let y : Nat := 5
     decide (y ≠ x)),
    (let s : Machine.State := holds 2 0 [] (.done 5 63 5)
     let a : Authority := .host
     let x : Nat := 5
     let o : Nat := 5
     decide (x < 8192) &&
     decide (o < 64) &&
     decide (lets s a 49216 4 QENG.CTX_CMD_OP) &&
     decide (s.releasing = false) &&
     decide (s.assignResult x o ≠ 0)),
    (let s : Machine.State := holds 2 0 [] (.done 5 63 5)
     let a : Authority := .host
     let x : Nat := 5
     decide (x < 8192) &&
     decide (lets s a 49216 4 QENG.CTX_CMD_OP) &&
     decide (s.releasing = false) &&
     decide ((s.ctx x).state = CtxState.owned) &&
     decide ((s.ctx x).reset = none) &&
     decide ((s.ctx x).zeroing = false)),
    (let s : Machine.State := (base.setCtx 8191 {owned with state := .recovering, zeroing := true, cfg := {hbmBase := 3, hbmLen := 1, spadNb := 1, spadFirst := 63}}).store 0xC00_0000 [1#8, 2#8]
     let x : Nat := 8191
     decide ((s.ctx x).zeroing = true) &&
     decide (s.inService = true) &&
     decide ((s.ctx x).cfg.home < 4) &&
     decide ((s.ctx x).cfg.hbmBase + (s.ctx x).cfg.hbmLen ≤ 512) &&
     decide ((s.ctx x).cfg.spadFirst + (s.ctx x).cfg.spadNb ≤ 64) &&
     decide (s.fabric.heldReqs = []) &&
     let y : Nat := 5
     decide (y ≠ x)),
    (let s : Machine.State := holds 2 0 [] (.done 5 63 5)
     let a : Authority := .host
     let v : Nat := 2 ^ 36
     decide (lets s a 49232 8 QENG.CTX_CFG_AFFINITY) &&
     decide (v < 2 ^ 64) &&
     decide ((s.ctx (s.rd QENG.CTX_SEL_CTX)).owned = false) &&
     decide ((s.ctx (s.rd QENG.CTX_SEL_CTX)).cfg.intEn = false) &&
     decide (vectorOk (s.ctxVf (s.rd QENG.CTX_SEL_CTX)) (bits v 42 32) = true) &&
     let y : Nat := 5
     decide (y ≠ s.rd QENG.CTX_SEL_CTX)),
    (let s : Machine.State := holds 2 0 [] (.done 5 63 5)
     let a : Authority := .host
     let v : Nat := 5
     decide (lets s a 49240 4 QENG.CTX_CFG_AFFINITY) &&
     decide (v < 2 ^ 32) &&
     decide ((s.ctx (s.rd QENG.CTX_SEL_CTX)).owned = false) &&
     let y : Nat := 5
     decide (y ≠ s.rd QENG.CTX_SEL_CTX)),
    (let s : Machine.State := holds 2 0 [] (.done 5 63 5)
     let a : Authority := .host
     let o : Nat := 5
     let v : Nat := 5
     decide (o < 64) &&
     decide (lets s a (49408 + 4 * o) 4 QENG.OWN_CORES_CORES) &&
     decide (∀ e ∈ s.ctxs, e.2.owned = true → e.2.owner = o → within e.2.cfg.affinity (v % 2 ^ 16) = true)),
    (let s : Machine.State := holds 2 0 [] (.done 5 63 5)
     let a : Authority := .host
     let q : Nat := 3
     let o : Nat := 0
     let len : Nat := 4
     let v : Nat := 5
     decide (q < 4) &&
     decide (o + len ≤ 64) &&
     decide (lets s a (pgQUAD q * 4096 + 256 + o) len QUAD.SHARE) &&
     decide (s.shareSum q + (List.map (fun (j : Nat) => bits v (8 * j + 7) (8 * j)) (List.range len)).sum ≤ 256) &&
     let j : Nat := 3
     decide (j < len))] = true := by decide +kernel

set_option maxRecDepth 100000 in
theorem test_meets_IntegerResults_1 : List.and [
    (let z : Machine.State := thr (ins 0x01 63 1 3 4 0x8000_0001) someRegs
     let c : Nat := 15
     let p : Nat := 127
     (z.issuePoint c p).any fun i =>
     decide (i.inRange = true) &&
     decide (i.got = true) &&
     decide (insOp i.word = 1)),
    (let z : Machine.State := thr (ins 0x02 63 1 3 4 0x8000_0001) someRegs
     let c : Nat := 15
     let p : Nat := 127
     (z.issuePoint c p).any fun i =>
     decide (i.inRange = true) &&
     decide (i.got = true) &&
     decide (insOp i.word = 2)),
    (let z : Machine.State := thr (ins 0x03 63 1 3 4 0x8000_0001) someRegs
     let c : Nat := 15
     let p : Nat := 127
     (z.issuePoint c p).any fun i =>
     decide (i.inRange = true) &&
     decide (i.got = true) &&
     decide (insOp i.word = 3)),
    (let z : Machine.State := thr (ins 0x04 63 1 3 4 0x8000_0001) someRegs
     let c : Nat := 15
     let p : Nat := 127
     (z.issuePoint c p).any fun i =>
     decide (i.inRange = true) &&
     decide (i.got = true) &&
     decide (insOp i.word = 4)),
    (let z : Machine.State := thr (ins 0x05 63 1 3 4 0x8000_0001) someRegs
     let c : Nat := 15
     let p : Nat := 127
     (z.issuePoint c p).any fun i =>
     decide (i.inRange = true) &&
     decide (i.got = true) &&
     decide (insOp i.word = 5)),
    (let z : Machine.State := thr (ins 0x06 63 1 3 4 0x8000_0001) someRegs
     let c : Nat := 15
     let p : Nat := 127
     (z.issuePoint c p).any fun i =>
     decide (i.inRange = true) &&
     decide (i.got = true) &&
     decide (insOp i.word = 6)),
    (let z : Machine.State := thr (ins 0x07 63 1 3 4 0x8000_0001) someRegs
     let c : Nat := 15
     let p : Nat := 127
     (z.issuePoint c p).any fun i =>
     decide (i.inRange = true) &&
     decide (i.got = true) &&
     decide (insOp i.word = 7)),
    (let z : Machine.State := thr (ins 0x08 63 1 3 4 0x8000_0001) someRegs
     let c : Nat := 15
     let p : Nat := 127
     (z.issuePoint c p).any fun i =>
     decide (i.inRange = true) &&
     decide (i.got = true) &&
     decide (insOp i.word = 8))] = true := by decide +kernel

set_option maxRecDepth 100000 in
theorem test_meets_IntegerResults_2 : List.and [
    (let z : Machine.State := thr (ins 0x09 63 1 3 4 0x8000_0001) someRegs
     let c : Nat := 15
     let p : Nat := 127
     (z.issuePoint c p).any fun i =>
     decide (i.inRange = true) &&
     decide (i.got = true) &&
     decide (insOp i.word = 9)),
    (let z : Machine.State := thr (ins 0x0B 63 1 3 4 0x8000_0001) someRegs
     let c : Nat := 15
     let p : Nat := 127
     (z.issuePoint c p).any fun i =>
     decide (i.inRange = true) &&
     decide (i.got = true) &&
     decide (insOp i.word = 11)),
    (let z : Machine.State := thr (ins 0x0C 63 1 3 4 0x8000_0001) someRegs
     let c : Nat := 15
     let p : Nat := 127
     (z.issuePoint c p).any fun i =>
     decide (i.inRange = true) &&
     decide (i.got = true) &&
     decide (insOp i.word = 12)),
    (let z : Machine.State := thr (ins 0x0D 63 1 3 4 0x8000_0001) someRegs
     let c : Nat := 15
     let p : Nat := 127
     (z.issuePoint c p).any fun i =>
     decide (i.inRange = true) &&
     decide (i.got = true) &&
     decide (insOp i.word = 13)),
    (let z : Machine.State := thr (ins 0x10 63 1 3 4 0x8000_0001) someRegs
     let c : Nat := 15
     let p : Nat := 127
     (z.issuePoint c p).any fun i =>
     decide (i.inRange = true) &&
     decide (i.got = true) &&
     decide (insOp i.word = 16))] = true := by decide +kernel

set_option maxRecDepth 100000 in
theorem test_meets_ShadowPasses_1 : List.and [
    (let s : Machine.State := screening 3 (sampled .waitShadow 4) false 3
     let c : Nat := 3
     let exact : Bool := false
     decide (c < 16) &&
     (s.waitingSample c exact).any fun x =>
     decide (s.unitStarts c exact = true) &&
     decide (s.mayHost c = true) &&
     decide (passCost x.len ≤ s.shadowCredit (c / 4)) &&
     decide (ldMode x.pass.desc = mLOG → s.takesWork (pgLOG c) = true) &&
     let e : Nat := 15
     decide (e ≠ c)),
    (let s : Machine.State := screening 3 (sampled .runShadow 4) true 3
     let c : Nat := 3
     let exact : Bool := false
     (s.serac.samples).any fun x =>
     decide (c < 16) &&
     decide (((s.core c).unit exact).serac = some x.entry) &&
     decide (((s.core c).unit exact).readout = none) &&
     decide (s.sample x.entry = some x) &&
     decide (x.phase = SamplePhase.runShadow) &&
     decide (x.shadow = c) &&
     decide (x.pass.exact = exact) &&
     decide ((memoryClear s)) &&
     ((s.readOperands x.pass).2).any fun _ =>
     decide (s.serac.sinceCanary < 4094) &&
     let e : Nat := 15
     decide (e ≠ c)),
    (let s : Machine.State := screening 3 (sampled .runShadow 4) true 3
     let c : Nat := 3
     let exact : Bool := false
     (s.serac.samples).any fun x =>
     decide (c < 16) &&
     let faults : List (Nat × Int) := []
     decide (((s.core c).unit exact).serac = some x.entry) &&
     decide (((s.core c).unit exact).readout = none) &&
     decide (s.sample x.entry = some x) &&
     decide (x.phase = SamplePhase.runShadow) &&
     decide (x.shadow = c) &&
     decide (x.pass.exact = exact) &&
     decide ((memoryClear s)) &&
     ((s.readOperands x.pass).2).any fun d =>
     decide (s.serac.sinceCanary < 4094) &&
     decide ((s.signs c x d faults).1 = x.accSig ∧ (ldAccIn x.pass.desc = true ∨ (s.signs c x d faults).2 = x.outSig))),
    (let s : Machine.State := screening 3 (sampled .runShadow 4) true 3
     let c : Nat := 3
     let exact : Bool := false
     (s.serac.samples).any fun x =>
     decide (c < 16) &&
     let faults : List (Nat × Int) := [(0, 5), (6, -3), (11, 3)]
     decide (((s.core c).unit exact).serac = some x.entry) &&
     decide (((s.core c).unit exact).readout = none) &&
     decide (s.sample x.entry = some x) &&
     decide (x.phase = SamplePhase.runShadow) &&
     decide (x.shadow = c) &&
     decide (x.pass.exact = exact) &&
     decide ((memoryClear s)) &&
     ((s.readOperands x.pass).2).any fun d =>
     decide (s.serac.sinceCanary < 4094) &&
     decide (¬((s.signs c x d faults).1 = x.accSig ∧ (ldAccIn x.pass.desc = true ∨ (s.signs c x d faults).2 = x.outSig)))),
    (let s : Machine.State := screening 3 (sampled .runShadow 4) true 3
     let c : Nat := 3
     let exact : Bool := false
     (s.serac.samples).any fun x =>
     decide (c < 16) &&
     decide (((s.core c).unit exact).serac = some x.entry) &&
     decide (((s.core c).unit exact).readout = none) &&
     decide (s.sample x.entry = some x) &&
     decide (x.phase = SamplePhase.runShadow) &&
     decide (x.shadow = c) &&
     decide (x.pass.exact = exact) &&
     decide ((memoryClear s)) &&
     ((s.readOperands x.pass).2).any fun _ =>
     decide (s.boot.fltUp = true) &&
     decide (s.serac.sinceCanary < 4095) &&
     let e : Nat := 15
     decide (e ≠ c)),
    (let s : Machine.State := screening 3 (sampled .runShadow 4) true 4094
     let c : Nat := 3
     let exact : Bool := false
     (s.serac.samples).any fun x =>
     decide (c < 16) &&
     let faults : List (Nat × Int) := []
     decide (((s.core c).unit exact).serac = some x.entry) &&
     decide (((s.core c).unit exact).readout = none) &&
     decide (s.sample x.entry = some x) &&
     decide (x.phase = SamplePhase.runShadow) &&
     decide (x.shadow = c) &&
     decide (x.pass.exact = exact) &&
     decide ((memoryClear s)) &&
     ((s.readOperands x.pass).2).any fun d =>
     decide (s.boot.fltUp = true) &&
     decide (s.serac.sinceCanary = 4094) &&
     decide ((s.signs c x d faults).1 = x.accSig ∧ (ldAccIn x.pass.desc = true ∨ (s.signs c x d faults).2 = x.outSig)) &&
     let e : Nat := 15
     decide (e ≠ c)),
    (let s : Machine.State := screening 4 (sampled .runThird 4) true 3
     let c : Nat := 4
     let exact : Bool := false
     (s.serac.samples).any fun x =>
     decide (c < 16) &&
     let faults : List (Nat × Int) := []
     decide (((s.core c).unit exact).serac = some x.entry) &&
     decide (((s.core c).unit exact).readout = none) &&
     decide (s.sample x.entry = some x) &&
     decide (x.phase = SamplePhase.runThird) &&
     decide (x.third = some c) &&
     decide (x.pass.exact = exact) &&
     decide ((memoryClear s)) &&
     ((s.readOperands x.pass).2).any fun d =>
     decide (s.boot.fltUp = true) &&
     decide (x.primary < 16) &&
     decide ((s.signs c x d faults).1 = x.accSig ∧ (ldAccIn x.pass.desc = true ∨ (s.signs c x d faults).2 = x.outSig)) &&
     let e : Nat := 15
     decide (e ≠ c)),
    (let s : Machine.State := screening 4 {sampled .runThird 4 with accSig := 5, outSig2 := (sampled .runThird 4).outSig, accSig2 := (sampled .runThird 4).accSig} true 3
     let c : Nat := 4
     let exact : Bool := false
     (s.serac.samples).any fun x =>
     decide (c < 16) &&
     let faults : List (Nat × Int) := []
     decide (((s.core c).unit exact).serac = some x.entry) &&
     decide (((s.core c).unit exact).readout = none) &&
     decide (s.sample x.entry = some x) &&
     decide (x.phase = SamplePhase.runThird) &&
     decide (x.third = some c) &&
     decide (x.pass.exact = exact) &&
     decide ((memoryClear s)) &&
     ((s.readOperands x.pass).2).any fun d =>
     decide (s.boot.fltUp = true) &&
     decide (x.primary < 16) &&
     decide (¬(fun (a o : Nat) => (s.signs c x d faults).1 = a ∧ (ldAccIn x.pass.desc = true ∨ (s.signs c x d faults).2 = o)) x.accSig x.outSig) &&
     decide ((s.signs c x d faults).1 = x.accSig2 ∧ (ldAccIn x.pass.desc = true ∨ (s.signs c x d faults).2 = x.outSig2)) &&
     let e : Nat := 15
     decide (e ≠ c))] = true := by decide +kernel

set_option maxRecDepth 100000 in
theorem test_meets_ShadowPasses_2 : List.and [
    (let s : Machine.State := screening 4 (sampled .runThird 4) true 3
     let c : Nat := 4
     let exact : Bool := false
     (s.serac.samples).any fun x =>
     decide (c < 16) &&
     let faults : List (Nat × Int) := [(0, 5), (6, -3), (11, 3)]
     decide (((s.core c).unit exact).serac = some x.entry) &&
     decide (((s.core c).unit exact).readout = none) &&
     decide (s.sample x.entry = some x) &&
     decide (x.phase = SamplePhase.runThird) &&
     decide (x.third = some c) &&
     decide (x.pass.exact = exact) &&
     decide ((memoryClear s)) &&
     ((s.readOperands x.pass).2).any fun d =>
     decide (s.boot.fltUp = true) &&
     decide (x.primary < 16) &&
     decide (¬(fun (a o : Nat) => (s.signs c x d faults).1 = a ∧ (ldAccIn x.pass.desc = true ∨ (s.signs c x d faults).2 = o)) x.accSig x.outSig) &&
     decide (¬(fun (a o : Nat) => (s.signs c x d faults).1 = a ∧ (ldAccIn x.pass.desc = true ∨ (s.signs c x d faults).2 = o)) x.accSig2 x.outSig2) &&
     let e : Nat := 15
     decide (e ≠ c))] = true := by decide +kernel

set_option maxRecDepth 100000 in
theorem test_meets_ExplicitTestsStart_1 : List.and [
    (let s : Machine.State := base
     let a : Authority := .host
     let q : Nat := 3
     decide (q < 4) &&
     decide (lets s a (pgQUAD q * 4096 + 64) 4 QUAD.QTEST_KIND) &&
     let target : Nat := 15
     decide ((s.qtest q).phase = TestPhase.none ∧ s.test.loading = none) &&
     decide (s.qparBad q 1 = false) &&
     decide (target < 16) &&
     decide (target / 4 = q) &&
     decide (s.live target = true) &&
     ([QUAD.QTEST_STAT_BUSY, QUAD.QTEST_STAT_RESULT, QUAD.QTEST_STAT_REACHED, QUAD.QTEST_STAT_FAILS, QUAD.QTEST_STAT_REASON]).any fun r =>
     decide (r ≠ QUAD.QTEST_STAT_BUSY)),
    (let s : Machine.State := base
     let a : Authority := .host
     let q : Nat := 3
     decide (q < 4) &&
     decide (lets s a (pgQUAD q * 4096 + 64) 4 QUAD.QTEST_KIND) &&
     let target : Nat := 15
     let drain : Bool := false
     decide ((s.qtest q).phase = TestPhase.none ∧ s.test.loading = none) &&
     decide (s.qparBad q 1 = false) &&
     decide (target < 16) &&
     decide (target / 4 = q) &&
     decide (s.live target = true) &&
     decide (drain = false)),
    (let s : Machine.State := base
     let a : Authority := .host
     let q : Nat := 3
     decide (q < 4) &&
     decide (lets s a (pgQUAD q * 4096 + 64) 4 QUAD.QTEST_KIND) &&
     decide ((s.qtest q).phase = TestPhase.none ∧ s.test.loading = none) &&
     decide (s.qparBad q 2 = false) &&
     ([QUAD.QTEST_STAT_BUSY, QUAD.QTEST_STAT_RESULT, QUAD.QTEST_STAT_REACHED, QUAD.QTEST_STAT_FAILS, QUAD.QTEST_STAT_REASON]).any fun r =>
     decide (r ≠ QUAD.QTEST_STAT_BUSY)),
    (let s : Machine.State := base
     let a : Authority := .host
     let q : Nat := 3
     decide (q < 4) &&
     decide (lets s a (pgQUAD q * 4096 + 64) 4 QUAD.QTEST_KIND) &&
     let drain : Bool := false
     decide ((s.qtest q).phase = TestPhase.none ∧ s.test.loading = none) &&
     decide (s.qparBad q 2 = false) &&
     decide (drain = false)),
    (let s : Machine.State := base
     let a : Authority := .host
     let q : Nat := 3
     decide (q < 4) &&
     decide (lets s a (pgQUAD q * 4096 + 64) 4 QUAD.QTEST_KIND) &&
     let target : Nat := 15
     decide ((s.qtest q).phase = TestPhase.none ∧ s.test.loading = none) &&
     decide (s.qparBad q 3 = false) &&
     decide (target < 16) &&
     decide (target / 4 = q) &&
     decide (s.live target = true) &&
     decide (∃ e ∈ List.range 16, e / 4 = q ∧ e ≠ target ∧ s.live e = true) &&
     ([QUAD.QTEST_STAT_BUSY, QUAD.QTEST_STAT_RESULT, QUAD.QTEST_STAT_REACHED, QUAD.QTEST_STAT_FAILS, QUAD.QTEST_STAT_REASON]).any fun r =>
     decide (r ≠ QUAD.QTEST_STAT_BUSY)),
    (let s : Machine.State := base
     let a : Authority := .host
     let q : Nat := 3
     decide (q < 4) &&
     decide (lets s a (pgQUAD q * 4096 + 64) 4 QUAD.QTEST_KIND) &&
     let target : Nat := 15
     let drain : Bool := false
     decide ((s.qtest q).phase = TestPhase.none ∧ s.test.loading = none) &&
     decide (s.qparBad q 3 = false) &&
     decide (target < 16) &&
     decide (target / 4 = q) &&
     decide (s.live target = true) &&
     decide (∃ e ∈ List.range 16, e / 4 = q ∧ e ≠ target ∧ s.live e = true) &&
     decide (drain = false)),
    (let s : Machine.State := cool (explicit {kind := 3, target := 15, phase := .heat, startTemp := 3})
     let a : Authority := .host
     let q : Nat := 3
     decide (q < 4) &&
     decide (lets s a (pgQUAD q * 4096 + 64) 4 QUAD.QTEST_KIND) &&
     decide (¬((s.qtest q).phase = TestPhase.none ∧ s.test.loading = none))),
    (let s : Machine.State := base
     let a : Authority := .host
     let q : Nat := 3
     decide (q < 4) &&
     decide (lets s a (pgQUAD q * 4096 + 64) 4 QUAD.QTEST_KIND) &&
     decide ((s.qtest q).phase = TestPhase.none))] = true := by decide +kernel

set_option maxRecDepth 100000 in
theorem test_meets_ExplicitTestsStart_2 : List.and [
    (let s : Machine.State := explicit {kind := 1, target := 15, phase := .drain, drain := true}
     let a : Authority := .host
     let q : Nat := 3
     decide (q < 4) &&
     decide (lets s a (pgQUAD q * 4096 + 64) 4 QUAD.QTEST_KIND) &&
     decide ((s.qtest q).phase = TestPhase.drain)),
    (let s : Machine.State := explicit {kind := 2, phase := .running, level := 1, vp := 7000, lo := 6500}
     let a : Authority := .host
     let q : Nat := 3
     decide (q < 4) &&
     decide (lets s a (pgQUAD q * 4096 + 64) 4 QUAD.QTEST_KIND) &&
     decide ((s.qtest q).phase = TestPhase.running) &&
     decide ((s.qtest q).kind = 2)),
    (let s : Machine.State := explicit {kind := 1, target := 15, phase := .drain, drain := true}
     let q : Nat := 3
     decide (q < 4) &&
     decide ((s.qtest q).phase = TestPhase.drain) &&
     decide (s.setIdle q = true) &&
     decide ((s.qtest q).drain = true ∨ s.heldSet q (s.qtest q).kind = []) &&
     decide ((s.qtest q).kind = 1 ∨ (s.qtest q).kind = 2) &&
     (s.drainedSet q).any fun c =>
     (corePages c).any fun _ =>
     true),
    (let s : Machine.State := explicit {kind := 2, phase := .drain}
     let q : Nat := 3
     decide (q < 4) &&
     decide ((s.qtest q).phase = TestPhase.drain) &&
     decide (s.setIdle q = true) &&
     decide ((s.qtest q).drain = true ∨ s.heldSet q (s.qtest q).kind = []) &&
     decide ((s.qtest q).kind = 1 ∨ (s.qtest q).kind = 2) &&
     decide ((s.qtest q).kind = 2)),
    (let s : Machine.State := { small5 (midProgram (explicit { kind := 1, target := 15, phase := .drain, drain := true })) with ftime := 2 ^ 40 }
     let q : Nat := 3
     decide (q < 4) &&
     decide ((s.qtest q).phase = TestPhase.drain) &&
     decide ((s.qtest q).drain = true) &&
     decide ((s.qtest q).since + s.rd QUAD.QTEST_WAIT_DRAIN_MS q * 100000 ≤ s.ftime) &&
     (s.drainedSet q).any fun c =>
     ((s.core c).groups).any fun g =>
     decide ((s.ctx g.2.ctx).state = CtxState.owned) &&
     decide ((s.ctx g.2.ctx).imageOk false = true)),
    (let s : Machine.State := explicit {kind := 2, phase := .drain}
     let q : Nat := 3
     decide (q < 4) &&
     decide ((s.qtest q).phase = TestPhase.drain) &&
     decide ((s.qtest q).drain = false) &&
     decide ((s.qtest q).since + s.rd QUAD.QTEST_WAIT_WAIT_MS q * 100000 ≤ s.ftime))] = true := by decide +kernel

set_option maxRecDepth 100000 in
theorem test_meets_CountersAndFeed_1 : List.and [
    (let z : Machine.State := thr (ins 0x7C 62 0 0 0 0) []
     let c : Nat := 15
     let p : Nat := 127
     (z.issuePoint c p).any fun i =>
     decide (i.inRange = true) &&
     decide (i.got = true) &&
     decide (i.d.kernel.vAllow = true) &&
     decide (insOp i.word = 124) &&
     decide (insXD i.word < 63) &&
     let c' : Nat := 0
     decide (c' ≠ c)),
    (let z : Machine.State := thr (ins 0x7C 62 0 0 0 0) []
     let c : Nat := 15
     let p : Nat := 127
     (z.issuePoint c p).any fun i =>
     decide (i.inRange = true) &&
     decide (i.got = true) &&
     decide (i.d.kernel.vAllow = true) &&
     decide (insOp i.word = 124) &&
     decide (insXD i.word < 63) &&
     let q : Nat := 0
     decide (q ≠ p)),
    (let z : Machine.State := thr (ins 0x7C 62 0 0 0 0) []
     let c : Nat := 15
     let p : Nat := 127
     (z.issuePoint c p).any fun i =>
     decide (i.inRange = true) &&
     decide (i.got = true) &&
     decide (i.d.kernel.vAllow = true) &&
     decide (insOp i.word = 124) &&
     decide (insXD i.word < 63) &&
     (i.lanes).any fun _ =>
     true),
    (let z : Machine.State := thr (ins 0x7C 62 0 0 0 0) []
     let c : Nat := 15
     let p : Nat := 127
     (z.issuePoint c p).any fun i =>
     decide (i.inRange = true) &&
     decide (i.got = true) &&
     decide (i.d.kernel.vAllow = true) &&
     decide (insOp i.word = 124) &&
     decide (insXD i.word < 63) &&
     let l : Nat := 0
     let r : Nat := 0
     decide (r < 64) &&
     decide (l ∉ i.lanes ∨ r ≠ insXD i.word ∧ (true = true → r ≠ insXD i.word + 1))),
    (let z : Machine.State := thr (ins 0x7D 63 0 0 0 0) []
     let c : Nat := 15
     let p : Nat := 127
     (z.issuePoint c p).any fun i =>
     decide (i.inRange = true) &&
     decide (i.got = true) &&
     decide (i.d.kernel.vAllow = true) &&
     decide (insOp i.word = 125) &&
     let c' : Nat := 0
     decide (c' ≠ c)),
    (let z : Machine.State := thr (ins 0x7D 63 0 0 0 0) []
     let c : Nat := 15
     let p : Nat := 127
     (z.issuePoint c p).any fun i =>
     decide (i.inRange = true) &&
     decide (i.got = true) &&
     decide (i.d.kernel.vAllow = true) &&
     decide (insOp i.word = 125) &&
     let q : Nat := 0
     decide (q ≠ p)),
    (let z : Machine.State := thr (ins 0x7D 63 0 0 0 0) []
     let c : Nat := 15
     let p : Nat := 127
     (z.issuePoint c p).any fun i =>
     decide (i.inRange = true) &&
     decide (i.got = true) &&
     decide (i.d.kernel.vAllow = true) &&
     decide (insOp i.word = 125) &&
     (i.lanes).any fun _ =>
     true),
    (let z : Machine.State := thr (ins 0x7D 63 0 0 0 0) []
     let c : Nat := 15
     let p : Nat := 127
     (z.issuePoint c p).any fun i =>
     decide (i.inRange = true) &&
     decide (i.got = true) &&
     decide (i.d.kernel.vAllow = true) &&
     decide (insOp i.word = 125) &&
     let l : Nat := 0
     let r : Nat := 0
     decide (r < 64) &&
     decide (l ∉ i.lanes ∨ r ≠ insXD i.word ∧ (false = true → r ≠ insXD i.word + 1)))] = true := by decide +kernel

set_option maxRecDepth 100000 in
theorem test_meets_CountersAndFeed_2 : List.and [
    (let z : Machine.State := (thr (ins 0x7E 62 0 0 0 0) []).modCore 15 (fun k => { k with cycSeen := some 4 })
     let c : Nat := 15
     let p : Nat := 127
     (z.issuePoint c p).any fun i =>
     decide (i.inRange = true) &&
     decide (i.got = true) &&
     decide (i.d.kernel.vAllow = true) &&
     decide (insOp i.word = 126) &&
     decide (insXD i.word < 63) &&
     (((z.fetched i).core c).cycSeen).any fun _ =>
     true),
    (let z : Machine.State := thr (ins 0x7E 62 0 0 0 0) []
     let c : Nat := 15
     let p : Nat := 127
     (z.issuePoint c p).any fun i =>
     decide (i.inRange = true) &&
     decide (i.got = true) &&
     decide (i.d.kernel.vAllow = true) &&
     decide (insOp i.word = 126) &&
     decide (insXD i.word < 63) &&
     let c' : Nat := 0
     decide (c' ≠ c)),
    (let z : Machine.State := thr (ins 0x7E 62 0 0 0 0) []
     let c : Nat := 15
     let p : Nat := 127
     (z.issuePoint c p).any fun i =>
     decide (i.inRange = true) &&
     decide (i.got = true) &&
     decide (i.d.kernel.vAllow = true) &&
     decide (insOp i.word = 126) &&
     decide (insXD i.word < 63) &&
     let q : Nat := 0
     decide (q ≠ p)),
    (let z : Machine.State := thr (ins 0x7E 62 0 0 0 0) []
     let c : Nat := 15
     let p : Nat := 127
     (z.issuePoint c p).any fun i =>
     decide (i.inRange = true) &&
     decide (i.got = true) &&
     decide (i.d.kernel.vAllow = true) &&
     decide (insOp i.word = 126) &&
     decide (insXD i.word < 63) &&
     (i.lanes).any fun _ =>
     true),
    (let z : Machine.State := thr (ins 0x7E 62 0 0 0 0) []
     let c : Nat := 15
     let p : Nat := 127
     (z.issuePoint c p).any fun i =>
     decide (i.inRange = true) &&
     decide (i.got = true) &&
     decide (i.d.kernel.vAllow = true) &&
     decide (insOp i.word = 126) &&
     decide (insXD i.word < 63) &&
     let l : Nat := 0
     let r : Nat := 0
     decide (r < 64) &&
     decide (l ∉ i.lanes ∨ r ≠ insXD i.word ∧ (true = true → r ≠ insXD i.word + 1))),
    (let z : Machine.State := thr (ins 0x60 0 62 0 0 0x3FD0_03F8) someRegs
     let c : Nat := 15
     let p : Nat := 127
     (z.issuePoint c p).any fun i =>
     (i.d.kernel.storeBase c (feedExact i.word)).any fun st =>
     decide (i.inRange = true) &&
     decide (i.got = true) &&
     decide (insOp i.word = 96) &&
     decide (insXA i.word < 63) &&
     decide ((memoryClear (z.fetched i))) &&
     decide (∀ l ∈ i.lanes, feedFits i.word l = true ∧ (z.fetched i).bankPresent c ((feedAddr st i.word l - sliceBase c) / bankSize) = true) &&
     decide ((z.fetched i).bankHeld c (feedExact i.word) st (feedBank i.word) = false) &&
     (i.lanes).any fun _ =>
     true),
    (let z : Machine.State := thr (ins 0x60 0 62 0 0 0x3FD0_03F8) someRegs
     let c : Nat := 15
     let p : Nat := 127
     (z.issuePoint c p).any fun i =>
     (i.d.kernel.storeBase c (feedExact i.word)).any fun st =>
     decide (i.inRange = true) &&
     decide (i.got = true) &&
     decide (insOp i.word = 96) &&
     decide (insXA i.word < 63) &&
     decide ((memoryClear (z.fetched i))) &&
     decide (∀ l ∈ i.lanes, feedFits i.word l = true ∧ (z.fetched i).bankPresent c ((feedAddr st i.word l - sliceBase c) / bankSize) = true) &&
     decide ((z.fetched i).bankHeld c (feedExact i.word) st (feedBank i.word) = false) &&
     let j : Nat := 0
     decide (∀ l ∈ i.lanes, j < feedAddr st i.word l ∨ feedAddr st i.word l + 8 ≤ j))] = true := by decide +kernel

set_option maxRecDepth 100000 in
theorem test_meets_WindowWrites : List.and [
    (let s : Machine.State := holds 2 0 [] (.done 5 63 5)
     let x : Nat := 5
     let v : Nat := 0xFFFF_FFFF
     decide (x < 8192) &&
     decide (v < 2 ^ 32) &&
     decide (s.barGate Authority.host = Gate.ok) &&
     decide (s.ctxVf x = 0) &&
     decide (before32 (s.ctx x).cq.pidx v = false) &&
     decide ((s.ctx x).reset = none) &&
     let y : Nat := 8191
     decide (y ≠ x)),
    (let s : Machine.State := holds 2 0 [] (.done 5 63 5)
     let x : Nat := 5
     let v : Nat := 0xFFFF_FFFF
     decide (x < 8192) &&
     decide (v < 2 ^ 32) &&
     decide (s.barGate Authority.host = Gate.ok) &&
     decide (s.ctxVf x = 0) &&
     decide (before32 (s.ctx x).eq.pidx v = false) &&
     decide ((s.ctx x).evDrop = false) &&
     let y : Nat := 8191
     decide (y ≠ x)),
    (let s : Machine.State := holds 2 0 [] (.done 5 63 5)
     let x : Nat := 63
     let v : Nat := 5
     decide (x < 8192) &&
     decide (v < 2 ^ 32) &&
     decide (s.barGate Authority.host = Gate.ok) &&
     decide (s.ctxVf x = 0) &&
     let w : Nat := 0
     decide ((s.ctx x).cq.en = false) &&
     decide (w < 2 ^ 64) &&
     decide (w % 4096 = 0) &&
     let y : Nat := 5
     decide (y ≠ x)),
    (let s : Machine.State := holds 2 0 [] (.done 5 63 5)
     let x : Nat := 63
     let v : Nat := 5
     decide (x < 8192) &&
     decide (v < 2 ^ 32) &&
     decide (s.barGate Authority.host = Gate.ok) &&
     decide (s.ctxVf x = 0) &&
     let w : Nat := 0
     decide ((s.ctx x).eq.en = false) &&
     decide (w < 2 ^ 64) &&
     decide (w % 4096 = 0) &&
     let y : Nat := 5
     decide (y ≠ x)),
    (let s : Machine.State := holds 2 0 [] (.done 5 63 5)
     let x : Nat := 63
     let v : Nat := 5
     decide (x < 8192) &&
     decide (v < 2 ^ 32) &&
     decide (s.barGate Authority.host = Gate.ok) &&
     decide (s.ctxVf x = 0) &&
     decide ((s.ctx x).cq.en = false) &&
     decide (4 ≤ bits v 3 0) &&
     decide ((s.ctx x).reset = none) &&
     decide ((s.ctx x).cqFull = false) &&
     let y : Nat := 5
     decide (y ≠ x)),
    (let s : Machine.State := holds 2 0 [] (.done 5 63 5)
     let x : Nat := 63
     let v : Nat := 5
     decide (x < 8192) &&
     decide (v < 2 ^ 32) &&
     decide (s.barGate Authority.host = Gate.ok) &&
     decide (s.ctxVf x = 0) &&
     decide ((s.ctx x).eq.en = false) &&
     decide (4 ≤ bits v 3 0) &&
     decide ((s.ctx x).evDrop = false) &&
     let y : Nat := 5
     decide (y ≠ x)),
    (let s : Machine.State := holds 2 0 [] (.done 5 63 5)
     let x : Nat := 5
     let v : Nat := 5
     decide (x < 8192) &&
     decide (v < 2 ^ 32) &&
     decide (s.barGate Authority.host = Gate.ok) &&
     decide (s.ctxVf x = 0) &&
     decide (((s.ctx x).queue (s.ctx x).qsel).en = false) &&
     decide (4 ≤ bits v 3 0) &&
     decide ((s.ctx x).cq.en = true) &&
     decide ((s.ctx x).eq.en = true) &&
     decide (s.queuesEnabled < 65536) &&
     let y : Nat := 8191
     decide (y ≠ x)),
    (let s : Machine.State := holds 2 0 [] (.done 5 63 5)
     let x : Nat := 8191
     let v : Nat := 5
     decide (x < 8192) &&
     decide (v < 2 ^ 32) &&
     decide (s.barGate Authority.host = Gate.ok) &&
     decide (s.ctxVf x = 0) &&
     decide (bit v 0 = true) &&
     decide ((s.ctx x).runs = true) &&
     decide ((s.ctx x).busy = false) &&
     let y : Nat := 5
     decide (y ≠ x))] = true := by decide +kernel

set_option maxRecDepth 100000 in
theorem test_meets_LoadsStoresAtomics : List.and [
    (let z : Machine.State := memThr 0x40 0
     let c : Nat := 15
     let p : Nat := 127
     (z.issuePoint c p).any fun i =>
     decide (i.inRange = true) &&
     decide (i.got = true) &&
     decide ((accessible (z.fetched i) i)) &&
     decide (insOp i.word = 64) &&
     decide (insSize i.word = 8 → insXD i.word < 63)),
    (let z : Machine.State := memThr 0x41 0
     let c : Nat := 15
     let p : Nat := 127
     (z.issuePoint c p).any fun i =>
     decide (i.inRange = true) &&
     decide (i.got = true) &&
     decide ((accessible (z.fetched i) i)) &&
     decide (insOp i.word = 65) &&
     decide (insSize i.word = 8 → insXB i.word < 63)),
    (let z : Machine.State := memThr 0x42 0
     let c : Nat := 15
     let p : Nat := 127
     (z.issuePoint c p).any fun i =>
     decide (i.inRange = true) &&
     decide (i.got = true) &&
     decide ((accessible (z.fetched i) i)) &&
     decide (insOp i.word = 66) &&
     decide (insSize i.word = 8 → insXB i.word < 63)),
    (let z : Machine.State := memThr 0x43 0
     let c : Nat := 15
     let p : Nat := 127
     (z.issuePoint c p).any fun i =>
     decide (i.inRange = true) &&
     decide (i.got = true) &&
     decide ((accessible (z.fetched i) i)) &&
     decide (insOp i.word = 67) &&
     decide (i.d.kernel.vAllow = true) &&
     decide (insSize i.word = 8 → insXB i.word < 63 ∧ insXD i.word < 63)),
    (let z : Machine.State := memThr 0x44 0
     let c : Nat := 15
     let p : Nat := 127
     (z.issuePoint c p).any fun i =>
     decide (i.inRange = true) &&
     decide (i.got = true) &&
     decide ((accessible (z.fetched i) i)) &&
     decide (insOp i.word = 68) &&
     decide (i.d.kernel.vAllow = true) &&
     decide (insSize i.word = 8 → insXB i.word < 63 ∧ insXC i.word < 63 ∧ insXD i.word < 63)),
    (let z : Machine.State := memThr 0x45 1
     let c : Nat := 15
     let p : Nat := 127
     (z.issuePoint c p).any fun i =>
     decide (i.inRange = true) &&
     decide (i.got = true) &&
     decide ((accessible (z.fetched i) i)) &&
     decide (insOp i.word = 69) &&
     decide (i.d.kernel.vAllow = true) &&
     decide (insSize i.word = 4 ∨ insSize i.word = 2)),
    (let z : Machine.State := memThr 0x46 1
     let c : Nat := 15
     let p : Nat := 127
     (z.issuePoint c p).any fun i =>
     decide (i.inRange = true) &&
     decide (i.got = true) &&
     decide ((accessible (z.fetched i) i)) &&
     decide (insOp i.word = 70) &&
     decide (i.d.kernel.vAllow = true) &&
     decide (insSize i.word = 4 ∨ insSize i.word = 2))] = true := by decide +kernel

set_option maxRecDepth 100000 in
theorem test_meets_LanesHoldAndProbes_1 : List.and [
    (let s : Machine.State := port 15 5 (fun n => {replaying n with rxNext := 3}) base
     let p : Nat := 15
     decide (p < 16) &&
     decide (s.boot.fltUp = true) &&
     let l : Nat := 3
     decide (l < 4) &&
     decide (s.nlUp p = true) &&
     decide (bit (s.rd NL.NL_LANE_FENCED p) l = false) &&
     decide (s.rd NL.NL_LANE_FENCED p < 16) &&
     decide (bit (s.rd NL.NL_STAT_LANES_USED p) l = true) &&
     decide (∃ m ∈ List.range 4, m ≠ l ∧ bit (s.usableLanes p) m = true) &&
     let m : Nat := 3
     decide (m < 4)),
    (let s : Machine.State := port 15 5 (fun n => {replaying n with rxNext := 3}) base
     let p : Nat := 15
     let f : Flit := flit tCTRL 0 (recWIDTH 6)
     decide (p < 16) &&
     decide (s.boot.fltUp = true) &&
     (ctrlOf f 4).any fun d =>
     decide (s.nlUp p = true) &&
     (bestMode (2 ^ s.rd NL.NL_STAT_RATE p) ((s.usableLanes p).land (leAt d 1 1 % 16))).any fun _ =>
     true),
    (let s : Machine.State := port 15 6 (fun n => {replaying n with widthOwed := 1}) base
     let p : Nat := 15
     decide (p < 16) &&
     decide (s.boot.fltUp = true) &&
     decide (s.nlState p = nlRETRAIN)),
    (let s : Machine.State := port 15 1 id base
     let p : Nat := 15
     decide (p < 16) &&
     decide (s.boot.fltUp = true) &&
     decide (s.nlState p ≠ nlOFF) &&
     decide (s.nlState p ≠ nlHOLD) &&
     let a : Authority := .host
     decide (lets s a (offNl p 64) 4 NL.NL_CFG_RENEG)),
    (let s : Machine.State := { port 15 7 (fun n => {n with retryFrom := some 5, resumable := true}) base with ftime := 2 ^ 40 }
     let p : Nat := 15
     decide (p < 16) &&
     decide (s.boot.fltUp = true) &&
     ((s.port p).retryFrom).any fun t0 =>
     decide (t0 + (s.port p).retryTicks ≤ s.ftime) &&
     decide ((s.port p).outcome ≠ 1) &&
     decide ((s.port p).replay = []) &&
     decide (s.fabric.stuck = [])),
    (let s : Machine.State := port 15 0 id base
     let p : Nat := 15
     decide (p < 16) &&
     decide (s.boot.fltUp = true) &&
     let a : Authority := .host
     decide (lets s a (offNl p 104) 4 NL.NL_LANE_FENCED) &&
     decide (s.rd NL.NL_LANE_FENCED p < 16) &&
     let l : Nat := 3
     decide (l < 4)),
    (let s : Machine.State := port 15 5 (fun n => {replaying n with rxNext := 3}) base
     let p : Nat := 15
     let f : Flit := flit tCTRL 0 [5#8, 1#8]
     decide (p < 16) &&
     decide (s.boot.fltUp = true) &&
     (ctrlOf f 5).any fun _ =>
     decide (s.nlUp p = true) &&
     decide (s.fabric.stuck = [])),
    (let s : Machine.State := port 15 1 id base
     let p : Nat := 15
     let f : Flit := flit tPROBE 0 [3#8]
     decide (p < 16) &&
     decide (s.boot.fltUp = true) &&
     decide (flitOk f.bytes = true) &&
     decide (flitType f.bytes = tPROBE) &&
     decide (s.nlState p ≠ nlOFF) &&
     let q : Nat := 3
     decide (q ≠ p))] = true := by decide +kernel

set_option maxRecDepth 100000 in
theorem test_meets_LanesHoldAndProbes_2 : List.and [
    (let s : Machine.State := port 15 0 id base
     let p : Nat := 15
     let f : Flit := flit tPROBE_REPLY 0 (toLE 100 8 ++ toLE 300 8 ++ toLE (2 ^ 64 - 5) 8)
     decide (p < 16) &&
     decide (s.boot.fltUp = true) &&
     decide (flitOk f.bytes = true) &&
     decide (flitType f.bytes = tPROBE_REPLY) &&
     decide ((s.port p).probes.length < 16) &&
     let q : Nat := 3
     decide (q ≠ p)),
    (let s : Machine.State := port 15 0 id base
     let p : Nat := 0
     let f : Flit := flit tPROBE_REPLY 0 (toLE 100 8 ++ toLE 300 8 ++ toLE (2 ^ 64 - 5) 8)
     decide (p < 16) &&
     decide (s.boot.fltUp = true) &&
     decide (flitOk f.bytes = true) &&
     decide (flitType f.bytes = tPROBE_REPLY) &&
     decide ((s.port p).probes.length < 16) &&
     decide (s.isParentPort p = true)),
    (let s : Machine.State := port 15 0 id base
     let p : Nat := 15
     let f : Flit := flit tPROBE_REPLY 0 (toLE 100 8 ++ toLE 300 8 ++ toLE (2 ^ 64 - 5) 8)
     decide (p < 16) &&
     decide (s.boot.fltUp = true) &&
     decide (flitOk f.bytes = true) &&
     decide (flitType f.bytes = tPROBE_REPLY) &&
     decide ((s.port p).probes.length < 16) &&
     decide (s.isParentPort p = false)),
    (let s : Machine.State := port 15 5 (fun n => {replaying n with rxNext := 3}) base
     let p : Nat := 15
     decide (p < 16) &&
     decide (s.boot.fltUp = true) &&
     decide (s.nlState p = nlUP))] = true := by decide +kernel

set_option maxRecDepth 100000 in
theorem test_meets_ContextReset : List.and [
    (let s : Machine.State := (holds 0x13 8191 [] .fetched).setCore 15 {groups := [(3, otherGroup), (4, group [])]}
     let x : Nat := 5
     let qn : Nat := 63
     (s.startOf x qn 19).any fun k =>
     decide (k.target ≠ x) &&
     decide ((s.ctx k.target).state = CtxState.owned) &&
     decide ((s.ctx k.target).reset = none) &&
     decide ((s.ctx k.target).zeroing = false)),
    (let s : Machine.State := other (resetting false) (holds 0 0 [] .fetched)
     let x : Nat := 8191
     ((s.ctx x).reset).any fun r =>
     decide (r.changed = false) &&
     decide ((s.ctx x).queues = []) &&
     decide ((s.ctx x).state = CtxState.recovering) &&
     decide (s.recordsDue x = true) &&
     decide (s.genHeld x = false) &&
     decide ((s.ctx x).eq.en = false) &&
     let y : Nat := 5
     decide (y ≠ x)),
    (let s : Machine.State := other (resetting true) (holds 0 0 [] .fetched)
     let x : Nat := 8191
     ((s.ctx x).reset).any fun r =>
     decide (r.changed = true) &&
     decide (r.release = false) &&
     decide (r.failed = false) &&
     decide (s.recordsDue x = true) &&
     decide ((s.fabric.remotes.any fun (q : Remote) => decide (q.ctx = x)) = false) &&
     decide ((s.ctx x).eq.en = false) &&
     decide (s.fabric.heldReqs = []) &&
     let y : Nat := 5
     decide (y ≠ x))] = true := by decide +kernel

set_option maxRecDepth 100000 in
theorem test_meets_CheckpointRuns : List.and [
    (let s : Machine.State := withHome 8 (holds 0x18 0 [0x6000] .fetched)
     let x : Nat := 5
     let qn : Nat := 63
     (s.startOf x qn 24).any fun k =>
     (s.homeArea).any fun ar =>
     decide (s.firnServes = true) &&
     decide (s.firnIdle = true) &&
     decide ((memoryClear s)) &&
     decide (s.inExtent x (k.at 16) 64 = true) &&
     decide (ckDescReason (s.bytes (k.at 16) 64) = none) &&
     decide (s.inExtent x (ckRegions (s.bytes (k.at 16) 64)) (32 * ckNreg (s.bytes (k.at 16) 64)) = true) &&
     decide (s.ckRegionReason x (s.bytes (k.at 16) 64) (List.map (fun (i : Nat) => List.take 32 (List.drop (32 * i) (s.bytes (ckRegions (s.bytes (k.at 16) 64)) (32 * ckNreg (s.bytes (k.at 16) 64))))) (List.range (ckNreg (s.bytes (k.at 16) 64)))) = none) &&
     decide ((if ((List.map (fun (i : Nat) => List.take 32 (List.drop (32 * i) (s.bytes (ckRegions (s.bytes (k.at 16) 64)) (32 * ckNreg (s.bytes (k.at 16) 64))))) (List.range (ckNreg (s.bytes (k.at 16) 64)))).any rgReplica && ckG (s.bytes (k.at 16) 64) != 1) = true then s.bytes (ckRegions (s.bytes (k.at 16) 64) + 32 * ckNreg (s.bytes (k.at 16) 64)) (4 * ckG (s.bytes (k.at 16) 64)) else []) ≠ [] → s.inExtent x (ckRegions (s.bytes (k.at 16) 64) + 32 * ckNreg (s.bytes (k.at 16) 64)) (4 * ckG (s.bytes (k.at 16) 64)) = true) &&
     decide ((placeEntries (List.flatMap (fun (r : List Byte × Nat) => regionEntries (s.bytes (k.at 16) 64) (if ((List.map (fun (i : Nat) => List.take 32 (List.drop (32 * i) (s.bytes (ckRegions (s.bytes (k.at 16) 64)) (32 * ckNreg (s.bytes (k.at 16) 64))))) (List.range (ckNreg (s.bytes (k.at 16) 64)))).any rgReplica && ckG (s.bytes (k.at 16) 64) != 1) = true then s.bytes (ckRegions (s.bytes (k.at 16) 64) + 32 * ckNreg (s.bytes (k.at 16) 64)) (4 * ckG (s.bytes (k.at 16) 64)) else []) r.2 r.1) (List.map (fun (i : Nat) => List.take 32 (List.drop (32 * i) (s.bytes (ckRegions (s.bytes (k.at 16) 64)) (32 * ckNreg (s.bytes (k.at 16) 64))))) (List.range (ckNreg (s.bytes (k.at 16) 64)))).zipIdx)).2 ≤ ar.slot) &&
     decide (ckHost (s.bytes (k.at 16) 64) = true → (placeEntries (List.flatMap (fun (r : List Byte × Nat) => regionEntries (s.bytes (k.at 16) 64) (if ((List.map (fun (i : Nat) => List.take 32 (List.drop (32 * i) (s.bytes (ckRegions (s.bytes (k.at 16) 64)) (32 * ckNreg (s.bytes (k.at 16) 64))))) (List.range (ckNreg (s.bytes (k.at 16) 64)))).any rgReplica && ckG (s.bytes (k.at 16) 64) != 1) = true then s.bytes (ckRegions (s.bytes (k.at 16) 64) + 32 * ckNreg (s.bytes (k.at 16) 64)) (4 * ckG (s.bytes (k.at 16) 64)) else []) r.2 r.1) (List.map (fun (i : Nat) => List.take 32 (List.drop (32 * i) (s.bytes (ckRegions (s.bytes (k.at 16) 64)) (32 * ckNreg (s.bytes (k.at 16) 64))))) (List.range (ckNreg (s.bytes (k.at 16) 64)))).zipIdx)).2 ≤ ckHostCap (s.bytes (k.at 16) 64)) &&
     decide (ckIfDue (s.bytes (k.at 16) 64) = true) &&
     decide (s.on FIRN.TRIG_STAT_DUE = false)),
    (let s : Machine.State := withHome 0 (holds 0x18 0 [0x6000] .fetched)
     let x : Nat := 5
     let qn : Nat := 63
     (s.startOf x qn 24).any fun k =>
     (s.homeArea).any fun ar =>
     decide (s.firnServes = true) &&
     decide (s.firnIdle = true) &&
     decide ((memoryClear s)) &&
     decide (s.inExtent x (k.at 16) 64 = true) &&
     decide (ckDescReason (s.bytes (k.at 16) 64) = none) &&
     decide (s.inExtent x (ckRegions (s.bytes (k.at 16) 64)) (32 * ckNreg (s.bytes (k.at 16) 64)) = true) &&
     decide (s.ckRegionReason x (s.bytes (k.at 16) 64) (List.map (fun (i : Nat) => List.take 32 (List.drop (32 * i) (s.bytes (ckRegions (s.bytes (k.at 16) 64)) (32 * ckNreg (s.bytes (k.at 16) 64))))) (List.range (ckNreg (s.bytes (k.at 16) 64)))) = none) &&
     decide ((if ((List.map (fun (i : Nat) => List.take 32 (List.drop (32 * i) (s.bytes (ckRegions (s.bytes (k.at 16) 64)) (32 * ckNreg (s.bytes (k.at 16) 64))))) (List.range (ckNreg (s.bytes (k.at 16) 64)))).any rgReplica && ckG (s.bytes (k.at 16) 64) != 1) = true then s.bytes (ckRegions (s.bytes (k.at 16) 64) + 32 * ckNreg (s.bytes (k.at 16) 64)) (4 * ckG (s.bytes (k.at 16) 64)) else []) ≠ [] → s.inExtent x (ckRegions (s.bytes (k.at 16) 64) + 32 * ckNreg (s.bytes (k.at 16) 64)) (4 * ckG (s.bytes (k.at 16) 64)) = true) &&
     decide ((placeEntries (List.flatMap (fun (r : List Byte × Nat) => regionEntries (s.bytes (k.at 16) 64) (if ((List.map (fun (i : Nat) => List.take 32 (List.drop (32 * i) (s.bytes (ckRegions (s.bytes (k.at 16) 64)) (32 * ckNreg (s.bytes (k.at 16) 64))))) (List.range (ckNreg (s.bytes (k.at 16) 64)))).any rgReplica && ckG (s.bytes (k.at 16) 64) != 1) = true then s.bytes (ckRegions (s.bytes (k.at 16) 64) + 32 * ckNreg (s.bytes (k.at 16) 64)) (4 * ckG (s.bytes (k.at 16) 64)) else []) r.2 r.1) (List.map (fun (i : Nat) => List.take 32 (List.drop (32 * i) (s.bytes (ckRegions (s.bytes (k.at 16) 64)) (32 * ckNreg (s.bytes (k.at 16) 64))))) (List.range (ckNreg (s.bytes (k.at 16) 64)))).zipIdx)).2 ≤ ar.slot) &&
     decide (ckHost (s.bytes (k.at 16) 64) = true → (placeEntries (List.flatMap (fun (r : List Byte × Nat) => regionEntries (s.bytes (k.at 16) 64) (if ((List.map (fun (i : Nat) => List.take 32 (List.drop (32 * i) (s.bytes (ckRegions (s.bytes (k.at 16) 64)) (32 * ckNreg (s.bytes (k.at 16) 64))))) (List.range (ckNreg (s.bytes (k.at 16) 64)))).any rgReplica && ckG (s.bytes (k.at 16) 64) != 1) = true then s.bytes (ckRegions (s.bytes (k.at 16) 64) + 32 * ckNreg (s.bytes (k.at 16) 64)) (4 * ckG (s.bytes (k.at 16) 64)) else []) r.2 r.1) (List.map (fun (i : Nat) => List.take 32 (List.drop (32 * i) (s.bytes (ckRegions (s.bytes (k.at 16) 64)) (32 * ckNreg (s.bytes (k.at 16) 64))))) (List.range (ckNreg (s.bytes (k.at 16) 64)))).zipIdx)).2 ≤ ckHostCap (s.bytes (k.at 16) 64)) &&
     decide (ckIfDue (s.bytes (k.at 16) 64) = true → s.on FIRN.TRIG_STAT_DUE = true) &&
     let j : Nat := 0
     decide (j < 4)),
    (let s : Machine.State := set (withHome 8 (holds 0x18 0 [0x6000] .fetched)) [(FIRN.TRIG_STAT_DUE, 0, 0, 1)]
     let x : Nat := 5
     let qn : Nat := 63
     (s.startOf x qn 24).any fun k =>
     (s.homeArea).any fun ar =>
     decide (s.firnServes = true) &&
     decide (s.firnIdle = true) &&
     decide ((memoryClear s)) &&
     decide (s.inExtent x (k.at 16) 64 = true) &&
     decide (ckDescReason (s.bytes (k.at 16) 64) = none) &&
     decide (s.inExtent x (ckRegions (s.bytes (k.at 16) 64)) (32 * ckNreg (s.bytes (k.at 16) 64)) = true) &&
     decide (s.ckRegionReason x (s.bytes (k.at 16) 64) (List.map (fun (i : Nat) => List.take 32 (List.drop (32 * i) (s.bytes (ckRegions (s.bytes (k.at 16) 64)) (32 * ckNreg (s.bytes (k.at 16) 64))))) (List.range (ckNreg (s.bytes (k.at 16) 64)))) = none) &&
     decide ((if ((List.map (fun (i : Nat) => List.take 32 (List.drop (32 * i) (s.bytes (ckRegions (s.bytes (k.at 16) 64)) (32 * ckNreg (s.bytes (k.at 16) 64))))) (List.range (ckNreg (s.bytes (k.at 16) 64)))).any rgReplica && ckG (s.bytes (k.at 16) 64) != 1) = true then s.bytes (ckRegions (s.bytes (k.at 16) 64) + 32 * ckNreg (s.bytes (k.at 16) 64)) (4 * ckG (s.bytes (k.at 16) 64)) else []) ≠ [] → s.inExtent x (ckRegions (s.bytes (k.at 16) 64) + 32 * ckNreg (s.bytes (k.at 16) 64)) (4 * ckG (s.bytes (k.at 16) 64)) = true) &&
     decide ((placeEntries (List.flatMap (fun (r : List Byte × Nat) => regionEntries (s.bytes (k.at 16) 64) (if ((List.map (fun (i : Nat) => List.take 32 (List.drop (32 * i) (s.bytes (ckRegions (s.bytes (k.at 16) 64)) (32 * ckNreg (s.bytes (k.at 16) 64))))) (List.range (ckNreg (s.bytes (k.at 16) 64)))).any rgReplica && ckG (s.bytes (k.at 16) 64) != 1) = true then s.bytes (ckRegions (s.bytes (k.at 16) 64) + 32 * ckNreg (s.bytes (k.at 16) 64)) (4 * ckG (s.bytes (k.at 16) 64)) else []) r.2 r.1) (List.map (fun (i : Nat) => List.take 32 (List.drop (32 * i) (s.bytes (ckRegions (s.bytes (k.at 16) 64)) (32 * ckNreg (s.bytes (k.at 16) 64))))) (List.range (ckNreg (s.bytes (k.at 16) 64)))).zipIdx)).2 ≤ ar.slot) &&
     decide (ckHost (s.bytes (k.at 16) 64) = true → (placeEntries (List.flatMap (fun (r : List Byte × Nat) => regionEntries (s.bytes (k.at 16) 64) (if ((List.map (fun (i : Nat) => List.take 32 (List.drop (32 * i) (s.bytes (ckRegions (s.bytes (k.at 16) 64)) (32 * ckNreg (s.bytes (k.at 16) 64))))) (List.range (ckNreg (s.bytes (k.at 16) 64)))).any rgReplica && ckG (s.bytes (k.at 16) 64) != 1) = true then s.bytes (ckRegions (s.bytes (k.at 16) 64) + 32 * ckNreg (s.bytes (k.at 16) 64)) (4 * ckG (s.bytes (k.at 16) 64)) else []) r.2 r.1) (List.map (fun (i : Nat) => List.take 32 (List.drop (32 * i) (s.bytes (ckRegions (s.bytes (k.at 16) 64)) (32 * ckNreg (s.bytes (k.at 16) 64))))) (List.range (ckNreg (s.bytes (k.at 16) 64)))).zipIdx)).2 ≤ ckHostCap (s.bytes (k.at 16) 64)) &&
     decide (ckIfDue (s.bytes (k.at 16) 64) = true → s.on FIRN.TRIG_STAT_DUE = true) &&
     decide (ckIfDue (s.bytes (k.at 16) 64) = true)),
    (let s : Machine.State := withHome 0 (holds 0x18 0 [0x6000] .fetched)
     let x : Nat := 5
     let qn : Nat := 63
     (s.startOf x qn 24).any fun k =>
     (s.homeArea).any fun ar =>
     decide (s.firnServes = true) &&
     decide (s.firnIdle = true) &&
     decide ((memoryClear s)) &&
     decide (s.inExtent x (k.at 16) 64 = true) &&
     decide (ckDescReason (s.bytes (k.at 16) 64) = none) &&
     decide (s.inExtent x (ckRegions (s.bytes (k.at 16) 64)) (32 * ckNreg (s.bytes (k.at 16) 64)) = true) &&
     decide (s.ckRegionReason x (s.bytes (k.at 16) 64) (List.map (fun (i : Nat) => List.take 32 (List.drop (32 * i) (s.bytes (ckRegions (s.bytes (k.at 16) 64)) (32 * ckNreg (s.bytes (k.at 16) 64))))) (List.range (ckNreg (s.bytes (k.at 16) 64)))) = none) &&
     decide ((if ((List.map (fun (i : Nat) => List.take 32 (List.drop (32 * i) (s.bytes (ckRegions (s.bytes (k.at 16) 64)) (32 * ckNreg (s.bytes (k.at 16) 64))))) (List.range (ckNreg (s.bytes (k.at 16) 64)))).any rgReplica && ckG (s.bytes (k.at 16) 64) != 1) = true then s.bytes (ckRegions (s.bytes (k.at 16) 64) + 32 * ckNreg (s.bytes (k.at 16) 64)) (4 * ckG (s.bytes (k.at 16) 64)) else []) ≠ [] → s.inExtent x (ckRegions (s.bytes (k.at 16) 64) + 32 * ckNreg (s.bytes (k.at 16) 64)) (4 * ckG (s.bytes (k.at 16) 64)) = true) &&
     decide ((placeEntries (List.flatMap (fun (r : List Byte × Nat) => regionEntries (s.bytes (k.at 16) 64) (if ((List.map (fun (i : Nat) => List.take 32 (List.drop (32 * i) (s.bytes (ckRegions (s.bytes (k.at 16) 64)) (32 * ckNreg (s.bytes (k.at 16) 64))))) (List.range (ckNreg (s.bytes (k.at 16) 64)))).any rgReplica && ckG (s.bytes (k.at 16) 64) != 1) = true then s.bytes (ckRegions (s.bytes (k.at 16) 64) + 32 * ckNreg (s.bytes (k.at 16) 64)) (4 * ckG (s.bytes (k.at 16) 64)) else []) r.2 r.1) (List.map (fun (i : Nat) => List.take 32 (List.drop (32 * i) (s.bytes (ckRegions (s.bytes (k.at 16) 64)) (32 * ckNreg (s.bytes (k.at 16) 64))))) (List.range (ckNreg (s.bytes (k.at 16) 64)))).zipIdx)).2 ≤ ar.slot) &&
     decide (ckHost (s.bytes (k.at 16) 64) = true → (placeEntries (List.flatMap (fun (r : List Byte × Nat) => regionEntries (s.bytes (k.at 16) 64) (if ((List.map (fun (i : Nat) => List.take 32 (List.drop (32 * i) (s.bytes (ckRegions (s.bytes (k.at 16) 64)) (32 * ckNreg (s.bytes (k.at 16) 64))))) (List.range (ckNreg (s.bytes (k.at 16) 64)))).any rgReplica && ckG (s.bytes (k.at 16) 64) != 1) = true then s.bytes (ckRegions (s.bytes (k.at 16) 64) + 32 * ckNreg (s.bytes (k.at 16) 64)) (4 * ckG (s.bytes (k.at 16) 64)) else []) r.2 r.1) (List.map (fun (i : Nat) => List.take 32 (List.drop (32 * i) (s.bytes (ckRegions (s.bytes (k.at 16) 64)) (32 * ckNreg (s.bytes (k.at 16) 64))))) (List.range (ckNreg (s.bytes (k.at 16) 64)))).zipIdx)).2 ≤ ckHostCap (s.bytes (k.at 16) 64)) &&
     decide (ckIfDue (s.bytes (k.at 16) 64) = true → s.on FIRN.TRIG_STAT_DUE = true) &&
     decide (ckIfDue (s.bytes (k.at 16) 64) = false)),
    (let s : Machine.State := ckpting (ckRun 1 [ckEntry] []) 1
     (s.firn.ckpt).any fun k =>
     (match k.todo with
     | [] => false
     | e :: _ =>
     let misses : Nat := 0
     decide (s.firnServes = true) &&
     decide (s.firnPaused k.ctx = false) &&
     decide ((memoryClear s)) &&
     decide (e.ref = none) &&
     decide (ckVerify k.desc = true → misses < 2) &&
     decide (ckHost k.desc = true))),
    (let s : Machine.State := ckpting (ckRun 0 [ckEntry] []) 0
     (s.firn.ckpt).any fun k =>
     (match k.todo with
     | [] => false
     | e :: _ =>
     let misses : Nat := 0
     decide (s.firnServes = true) &&
     decide (s.firnPaused k.ctx = false) &&
     decide ((memoryClear s)) &&
     decide (e.ref = none) &&
     decide (ckVerify k.desc = true → misses < 2) &&
     decide (ckHost k.desc = false))),
    (let s : Machine.State := ckpting (ckRun 0 [] [ckDone]) 0
     (s.firn.ckpt).any fun k =>
     decide (k.todo = []) &&
     decide (s.firnServes = true) &&
     decide (s.firnPaused k.ctx = false) &&
     decide (k.clean ≤ s.horizon) &&
     decide (s.ckptSpoiled k = false) &&
     decide (ckBuddy k.desc = false) &&
     decide (k.refused = false) &&
     decide ((memoryClear s)) &&
     decide (ckHost k.desc = false)),
    (let s : Machine.State := ckpting (ckRun 1 [] [ckDone]) 1
     (s.firn.ckpt).any fun k =>
     decide (k.todo = []) &&
     decide (s.firnServes = true) &&
     decide (s.firnPaused k.ctx = false) &&
     decide (k.clean ≤ s.horizon) &&
     decide (s.ckptSpoiled k = false) &&
     decide (ckBuddy k.desc = false) &&
     decide (k.refused = false) &&
     decide ((memoryClear s)) &&
     decide (ckHost k.desc = true))] = true := by decide +kernel

set_option maxRecDepth 100000 in
theorem test_meets_RailsAndPins_1 : List.and [
    (let s : Machine.State := base
     decide (s.boot.mainUp = true)),
    (let s : Machine.State := noMain base
     decide (¬(s.boot.mainUp = true))),
    (let s : Machine.State := noMain base
     let diodes : List Int := []
     decide (s.boot.droneRail = true) &&
     decide (s.boot.mainUp = false) &&
     decide (∀ d ∈ diodes, d < 864)),
    (let s : Machine.State := noMain base
     let diodes : List Int := [864]
     decide (s.boot.droneRail = true) &&
     decide (s.boot.mainUp = false) &&
     decide (∃ d ∈ diodes, 864 ≤ d)),
    (let s : Machine.State := base
     decide (s.boot.droneRail = true)),
    (let s : Machine.State := noDrone base
     let diodes : List Int := []
     decide (s.boot.droneRail = false) &&
     decide (∀ d ∈ diodes, d < 864)),
    (let s : Machine.State := noDrone base
     let diodes : List Int := [864]
     decide (s.boot.droneRail = false) &&
     decide (∃ d ∈ diodes, 864 ≤ d)),
    (let s : Machine.State := {base with boot := {base.boot with counting := true}}
     let error : Option Int := some (-5000)
     decide (s.boot.counting = true) &&
     decide (∃ (e : Int), error = some e ∧ -5000 ≤ e ∧ e ≤ 5000))] = true := by decide +kernel

set_option maxRecDepth 100000 in
theorem test_meets_RailsAndPins_2 : List.and [
    (let s : Machine.State := {base with boot := {base.boot with counting := true}}
     let error : Option Int := none
     decide (s.boot.counting = true) &&
     decide (∀ (e : Int), error = some e → e < -5000 ∨ 5000 < e)),
    (let s : Machine.State := {base with boot := {base.boot with picked := true}}
     decide (s.boot.picked = true)),
    (let s : Machine.State := base
     let error : Option Int := none
     decide (s.droneRuns = true) &&
     decide (s.rd CLKRST.CLK_STAT_DRONE_SRC = 0) &&
     decide (s.boot.fltUp = true) &&
     decide (∀ (e : Int), error = some e → (if (s.calUse 2).isSome = true then 1000 else 5000) < e.natAbs)),
    (let s : Machine.State := noMain base
     decide (s.pins.perst = false) &&
     decide (s.mainRuns = false)),
    (let s : Machine.State := base
     decide (s.pins.perst = false) &&
     decide (s.mainRuns = true)),
    (let s : Machine.State := {base with pins := {base.pins with perst := true}}
     decide (s.pins.perst = true) &&
     decide (s.power ≠ 3))] = true := by decide +kernel

set_option maxRecDepth 100000 in
theorem test_meets_VirtualFunctions_1 : List.and [
    (let s : Machine.State := vfRange 3 4 3 base
     let v : Nat := 1
     decide (s.vfExists v = true) &&
     decide (v < 64) &&
     decide (s.flrBusy v = false) &&
     decide (s.rangeCtxs v = [])),
    (let s : Machine.State := vfRange 3 4 3 base
     let v : Nat := 3
     decide (s.vfExists v = true) &&
     decide (v < 64) &&
     decide (s.flrBusy v = false) &&
     (s.rangeCtxs v).any fun x =>
     decide ((s.ctx x).state = CtxState.owned) &&
     decide ((s.ctx x).reset = none) &&
     decide ((s.ctx x).zeroing = false)),
    (let s : Machine.State := flrBusy (vfRange 3 4 3 base)
     let v : Nat := 3
     decide (1 ≤ v) &&
     decide (v < 64) &&
     decide (s.flrBusy v = true) &&
     decide (∀ x ∈ s.rangeCtxs v, (s.ctx x).reset = none)),
    (let s : Machine.State := base
     let n : Nat := 3
     decide (s.pci.identity = true) &&
     decide (s.pci.vfEnable = false ∧ n ≤ 63)),
    (let s : Machine.State := base
     let n : Nat := 0x1F0
     decide (s.pci.identity = true) &&
     decide (¬(s.pci.vfEnable = false ∧ n ≤ 63))),
    (let s : Machine.State := base
     decide (s.pci.identity = true)),
    (let s : Machine.State := vfRange 3 4 3 base
     decide (s.pci.vfEnable = true) &&
     let v : Nat := 3
     decide (s.vfExists v = true) &&
     decide (v < 64)),
    (let s : Machine.State := {base with pci := {base.pci with numVfs := 0, vfEnable := true}}
     decide (s.pci.vfEnable = true) &&
     decide (s.pci.numVfs = 0) &&
     decide (s.rd HOSTIF.FLR_STAT_BUSY = 0))] = true := by decide +kernel

set_option maxRecDepth 100000 in
theorem test_meets_VirtualFunctions_2 : List.and [
    (let s : Machine.State := base
     let a : Authority := .host
     let v : Nat := 3
     let value : Nat := 3
     decide (1 ≤ v) &&
     decide (v < 64) &&
     decide (lets s a (pgHOSTIF * 4096 + 256 + 4 * v) 4 HOSTIF.VF_CTX_BASE) &&
     decide (s.vfCtxOk v (bits value 28 16) (bits value 10 0) = true)),
    (let s : Machine.State := base
     let a : Authority := .host
     let v : Nat := 3
     let value : Nat := 15
     decide (1 ≤ v) &&
     decide (v < 64) &&
     decide (lets s a (pgHOSTIF * 4096 + 256 + 4 * v) 4 HOSTIF.VF_CTX_BASE) &&
     decide (s.vfCtxOk v (bits value 28 16) (bits value 10 0) = false) &&
     decide (s.boot.fltUp = true))] = true := by decide +kernel

set_option maxRecDepth 100000 in
theorem test_meets_QueueCommands_1 : List.and [
    (let s : Machine.State := holds 0 0 [] .fetched
     let x : Nat := 5
     let qn : Nat := 63
     (s.startOf x qn 0).any fun _ =>
     true),
    (let s : Machine.State := (holds 1 0 [0x7000] .fetched).store 0x7000 kernelDesc
     let x : Nat := 5
     let qn : Nat := 63
     (s.startOf x qn 1).any fun k =>
     decide (k.at 16 % 64 = 0) &&
     decide (s.inExtent x (k.at 16) 64 = true) &&
     decide ((memoryClear s))),
    (let s : Machine.State := holds 2 0 [0x2000, 0x3FFFFF0, 16, 0] .fetched
     let x : Nat := 5
     let qn : Nat := 63
     (s.startOf x qn 2).any fun k =>
     decide (bit (k.at 40) 0 = true ∨ s.rangeStatus x (k.at 16) (k.at 32) = stOK) &&
     decide (bit (k.at 40) 1 = true ∨ s.rangeStatus x (k.at 24) (k.at 32) = stOK)),
    (let s : Machine.State := holds 3 0 [0x2001, 13, 0x1122334455667788, 0] .fetched
     let x : Nat := 5
     let qn : Nat := 63
     (s.startOf x qn 3).any fun k =>
     decide (bit (k.at 40) 1 = true ∨ s.rangeStatus x (k.at 16) (k.at 24) = stOK)),
    (let s : Machine.State := holds 4 0 [15, 2^64-1] .fetched
     let x : Nat := 5
     let qn : Nat := 63
     (s.startOf x qn 4).any fun k =>
     decide ((List.takeWhile (fun (e : Cmd) => e.ssn != k.ssn) ((s.ctx x).queue qn).cmds).all Cmd.over = true) &&
     let y : Nat := 0
     decide (y ≠ x)),
    (let s : Machine.State := holds 5 0 [15, 2^64-1] .fetched
     let x : Nat := 5
     let qn : Nat := 63
     (s.startOf x qn 5).any fun _ =>
     true),
    (let s : Machine.State := holds 3 0 [0x2001, 13, 0x1122334455667788, 0] .running
     let x : Nat := 5
     let qn : Nat := 63
     let ssn : Nat := 0xFFFF_FFFF
     (s.runningCmd x qn ssn).any fun k =>
     decide (s.inService = true) &&
     decide (s.queueRuns x = true) &&
     decide ((memoryClear s)) &&
     decide (k.opc = 3) &&
     decide (bit (k.at 40) 1 = false) &&
     let j : Nat := 0
     decide (j < k.at 24)),
    (let s : Machine.State := (holds 2 0 [0x2000, 0x2004, 16, 0] .running).store 0x2000 (toLE 0x123456789ABCDEF0 8)
     let x : Nat := 5
     let qn : Nat := 63
     let ssn : Nat := 0xFFFF_FFFF
     (s.runningCmd x qn ssn).any fun k =>
     decide (s.inService = true) &&
     decide (s.queueRuns x = true) &&
     decide ((memoryClear s)) &&
     decide (k.opc = 2) &&
     decide (bit (k.at 40) 0 = false) &&
     decide (bit (k.at 40) 1 = false) &&
     let j : Nat := 0
     decide (j < k.at 32))] = true := by decide +kernel

set_option maxRecDepth 100000 in
theorem test_meets_QueueCommands_2 : List.and [
    (let s : Machine.State := (holds 5 0 [15, 1] .running).modCtx 5 (fun c => {c with sync := [(15, 1)]})
     let x : Nat := 5
     let qn : Nat := 63
     let ssn : Nat := 0xFFFF_FFFF
     (s.runningCmd x qn ssn).any fun k =>
     decide (s.inService = true) &&
     decide (s.queueRuns x = true) &&
     decide ((memoryClear s)) &&
     decide (k.opc = 5) &&
     decide (k.at 24 ≤ (s.ctx x).syncVal (bits (k.at 16) 3 0)))] = true := by decide +kernel

set_option maxRecDepth 100000 in
theorem test_meets_ProfilesAndThrottle_1 : List.and [
    (let s : Machine.State := changing base
     let a : Authority := .host
     let v : Nat := 3
     decide (lets s a (offClkrst 64) 4 CLKRST.PROFILE_REQ) &&
     decide (v < 4) &&
     decide (s.boot.fltUp = true) &&
     decide (s.on CLKRST.PROFILE_CHANGING = true)),
    (let s : Machine.State := base
     let a : Authority := .host
     let v : Nat := 3
     decide (lets s a (offClkrst 64) 4 CLKRST.PROFILE_REQ) &&
     decide (v < 4) &&
     decide (s.boot.fltUp = true) &&
     decide (s.on CLKRST.PROFILE_CHANGING = false) &&
     decide ((if v = 3 ∨ v = 2 ∧ s.on CHIP.CORE_MAP_PMAX_OK = false then 1 else v) = s.rd CLKRST.PROFILE_ACTIVE)),
    (let s : Machine.State := base
     let a : Authority := .host
     let v : Nat := 2
     decide (lets s a (offClkrst 64) 4 CLKRST.PROFILE_REQ) &&
     decide (v < 4) &&
     decide (s.boot.fltUp = true) &&
     decide (s.on CLKRST.PROFILE_CHANGING = false) &&
     decide ((if v = 3 ∨ v = 2 ∧ s.on CHIP.CORE_MAP_PMAX_OK = false then 1 else v) ≠ s.rd CLKRST.PROFILE_ACTIVE)),
    (let s : Machine.State := changing base
     let c : Nat := 15
     decide (c < 16) &&
     decide (s.mayRelock c = true)),
    (let s : Machine.State := {changing base with boot := {base.boot with clkTarget := 0, relock := 0}}
     decide (s.on CLKRST.PROFILE_CHANGING = true) &&
     decide (s.boot.relock = 0) &&
     decide (s.boot.queuedReq = none) &&
     decide (s.boot.clkTarget < 4) &&
     let q : Nat := 3
     decide (q < 4) &&
     decide (s.voltTests q = false) &&
     decide ((s.volts q s.boot.clkTarget).1 ≤ 7600)),
    (let s : Machine.State := base
     decide (s.boot.mainUp = true) &&
     let c : Nat := 15
     decide (c < 16) &&
     decide (s.on CLKRST.CORE_FREQ_OVERDRIVE 0 c = false)),
    (let s : Machine.State := { base with boot := { base.boot with mainUp := false } }
     decide (s.boot.mainUp = false)),
    (let s : Machine.State := { base with pins := { base.pins with throttle := true } }
     decide (s.pins.throttle = true) &&
     decide (s.boot.mainUp = true) &&
     let c : Nat := 15
     decide (c < 16))] = true := by decide +kernel

set_option maxRecDepth 100000 in
theorem test_meets_ProfilesAndThrottle_2 : List.and [
    (let s : Machine.State := base
     decide (s.pins.throttle = false ∨ s.boot.mainUp = false))] = true := by decide +kernel

set_option maxRecDepth 100000 in
theorem test_meets_RoutesAndIdentity : List.and [
    (let s : Machine.State := set base [(FABRIC.ROUTE_IDX_IDX,0,0,4095)]
     let a : Authority := .host
     decide (lets s a (offFabric 76) 4 FABRIC.ROUTE_ENT_PORTS) &&
     decide (s.fabric.stuck = [])),
    (let s : Machine.State := port 15 4 (fun n => {n with identDue := true}) base
     let a : Authority := .host
     let v : Nat := 0x8000_0FFF
     decide (lets s a (offFabric 64) 4 FABRIC.FAB_ID_PART) &&
     decide (v < 2 ^ 32) &&
     decide (∀ p ∈ List.range 16, s.nlUp p = false ∧ s.nlHeld p = false ∧ (s.port p).keptIdent = none ∧ (s.nlState p = nlIDENTIFY → (s.port p).identSent = false)) &&
     let p : Nat := 15
     decide (p < 16) &&
     decide (s.nlState p = nlIDENTIFY) &&
     decide ((s.port p).identDue = true) &&
     decide (bit v 31 = true)),
    (let s : Machine.State := set base [(FABRIC.ROUTE_IDX_IDX,0,0,4095)]
     let a : Authority := .host
     let v : Nat := 0
     decide (lets s a (offFabric 64) 4 FABRIC.FAB_ID_PART) &&
     decide (v < 2 ^ 32) &&
     decide (∀ p ∈ List.range 16, s.nlUp p = false ∧ s.nlHeld p = false ∧ (s.port p).keptIdent = none ∧ (s.nlState p = nlIDENTIFY → (s.port p).identSent = false)) &&
     let p : Nat := 0
     decide (p < 16) &&
     decide (s.nlState p ≠ nlIDENTIFY ∨ (s.port p).identDue = false)),
    (let s : Machine.State := noRoute 1 3 (routed base)
     let n : Nat := 0
     (s.fabric.stuck[n]?).any fun e =>
     decide (e.flit.src ≠ s.ownPart) &&
     decide (e.flit.cls = clORDERED → s.heldPair e.flit = false) &&
     decide (e.since + s.routeWait e.flit ≤ s.ftime)),
    (let s : Machine.State := sent {cls := clURGENT, op := 0x40, dst := 0, tag := 9, body := [1#8]} (routed base)
     ((s.takeFlit clURGENT fun (e : DataFlit) => decide (e.op = 64))).any fun (_, f, _) =>
     decide (leAt f.body 0 1 = 1))] = true := by decide +kernel

set_option maxRecDepth 100000 in
theorem test_meets_FieldTimePasses : List.and [
    (let s : Machine.State := State.reset
     decide (s.pending = []) &&
     decide (s.mainRuns = false)),
    (let s : Machine.State := base
     decide (s.pending = []) &&
     decide (s.mainRuns = true) &&
     let c : Nat := 15
     decide (c < 16)),
    (let s : Machine.State := set (atBarrier base) [(BARRIER.BAR_STAT_STATE,0,0,3)]
     decide (s.pending = []) &&
     decide (s.mainRuns = true) &&
     decide (s.barState = barCOUNTDOWN)),
    (let s : Machine.State := base
     decide (s.pending = []) &&
     decide (s.mainRuns = true) &&
     decide (s.barState ≠ barCOUNTDOWN))] = true := by decide +kernel

set_option maxRecDepth 100000 in
theorem test_meets_FieldCommandsStart : List.and [
    (let s : Machine.State := (member 0 0 0 .fetched).store 0x6000 (zeros 64)
     let x : Nat := 5
     let qn : Nat := 63
     (s.startOf x qn 32).any fun k =>
     (s.descOff x (k.at 16)).any fun o =>
     decide ((memoryClear s)) &&
     decide (s.collDetail x (s.bytes o 64) (collMembers (s.bytes o 64) (s.bytes (leAt (s.bytes o 64) 8 8 % 2 ^ 52) (2 * collNmem (s.bytes o 64)))) ≠ 0)),
    (let s : Machine.State := member 0 0 0 .fetched
     let x : Nat := 5
     let qn : Nat := 63
     (s.startOf x qn 32).any fun k =>
     (s.descOff x (k.at 16)).any fun o =>
     decide ((memoryClear s)) &&
     decide (s.collDetail x (s.bytes o 64) (collMembers (s.bytes o 64) (s.bytes (leAt (s.bytes o 64) 8 8 % 2 ^ 52) (2 * collNmem (s.bytes o 64)))) = 0) &&
     let c := { ctx := x, queue := qn, ssn := k.ssn, cgen := leAt (s.bytes o 64) 4 4, op := bits (leAt (s.bytes o 64) 0 4) 23 20, dtype := bits (leAt (s.bytes o 64) 0 4) 19 16, red := bit (leAt (s.bytes o 64) 0 4) 15, members := collMembers (s.bytes o 64) (s.bytes (leAt (s.bytes o 64) 8 8 % 2 ^ 52) (2 * collNmem (s.bytes o 64))), index := (List.findIdx? (fun (p : Nat) => decide (p = s.ownPart)) (collMembers (s.bytes o 64) (s.bytes (leAt (s.bytes o 64) 8 8 % 2 ^ 52) (2 * collNmem (s.bytes o 64))))).getD 0, src := leAt (s.bytes o 64) 20 8 % 2 ^ 52, dst := leAt (s.bytes o 64) 28 8 % 2 ^ 52, stage := leAt (s.bytes o 64) 36 8 % 2 ^ 52, len := leAt (s.bytes o 64) 44 4, joined := List.map (fun (e : Nat × DataFlit) => e.2.be / 2 ^ 32) (List.filter (fun (e : Nat × DataFlit) => decide (e.2.ctx = x ∧ e.2.be % 2 ^ 32 = leAt (s.bytes o 64) 4 4)) s.fabric.earlyJoins), started := s.ftime : Coll }
     decide (c.kids.all c.joined.contains = false)),
    (let s : Machine.State := tree (routed (holds 0x21 0 [2] .fetched))
     let x : Nat := 5
     let qn : Nat := 63
     (s.startOf x qn 33).any fun k =>
     decide (k.at 16 % 2 ^ 32 ≠ s.nextBgen ∨ s.peerCtx x = false)),
    (let s : Machine.State := tree (routed (holds 0x21 0 [1] .fetched))
     let x : Nat := 5
     let qn : Nat := 63
     (s.startOf x qn 33).any fun k =>
     decide (k.at 16 % 2 ^ 32 = s.nextBgen) &&
     decide (s.peerCtx x = true) &&
     decide (s.barrier.cmds.length + 1 < s.rd BARRIER.BAR_TREE_LOCAL ∨ s.childPorts.all s.barrier.children.contains = false))] = true := by decide +kernel

set_option maxRecDepth 100000 in
theorem test_meets_MemoryUpkeep_1 : List.and [
    (let s : Machine.State := base
     decide (s.boot.fltUp = true) &&
     let k : Nat := 3
     decide (k < 4) &&
     decide (s.mainRuns = true) &&
     decide (s.on HBM.HBM_STAT_IN_SERVICE k = true) &&
     let j : Nat := 15
     decide (j ≠ k)),
    (let s : Machine.State := base
     decide (s.boot.fltUp = true) &&
     let k : Nat := 15
     decide ((s.hbm k).hour = s.ftime / 360000000000)),
    (let s : Machine.State := base.modHbm 3 (fun h => {h with hour := 1})
     decide (s.boot.fltUp = true) &&
     let k : Nat := 3
     decide (¬((s.hbm k).hour = s.ftime / 360000000000))),
    (let s : Machine.State := base
     decide (s.boot.fltUp = true) &&
     decide (s.inService = true) &&
     decide (s.rd DRONE.PWR_STAT_STATE ≤ 1) &&
     let c : Nat := 15
     decide (c < 16) &&
     decide (s.fused c = true) &&
     decide (s.rd HDR.STAT_STATE (pgSPAD c) ≠ stRESET) &&
     decide (s.lostPaths = []) &&
     (s.nextInService c ((s.core c).scrubPos * 8)).any fun o =>
     (s.logicalOf c (o / bankSize)).any fun j =>
     decide (j < 64) &&
     decide (o < sliceSize) &&
     decide (o % 8 = 0) &&
     decide (s.marksC = []) &&
     decide (s.marksU = []) &&
     let d : Nat := 3
     decide (d ≠ c)),
    (let s : Machine.State := upsets [slice15] [] base
     decide (s.boot.fltUp = true) &&
     decide (s.inService = true) &&
     decide (s.rd DRONE.PWR_STAT_STATE ≤ 1) &&
     let c : Nat := 15
     decide (c < 16) &&
     decide (s.fused c = true) &&
     decide (s.rd HDR.STAT_STATE (pgSPAD c) ≠ stRESET) &&
     decide (s.lostPaths = []) &&
     (s.nextInService c ((s.core c).scrubPos * 8)).any fun o =>
     (s.logicalOf c (o / bankSize)).any fun j =>
     decide (j < 64) &&
     decide (o < sliceSize) &&
     decide (o % 8 = 0) &&
     decide (s.marksC = [sliceBase c + j * bankSize + o % bankSize]) &&
     decide (s.marksU = []) &&
     let d : Nat := 3
     decide (d ≠ c)),
    (let s : Machine.State := patrolAt 0x4_0000 (fun c => { c with ceSeen := [slice15 + 24, slice15+0x20_0000] }) (upsets [] [slice15 + 0x20_0000] base)
     decide (s.boot.fltUp = true) &&
     decide (s.inService = true) &&
     decide (s.rd DRONE.PWR_STAT_STATE ≤ 1) &&
     let c : Nat := 15
     decide (c < 16) &&
     decide (s.fused c = true) &&
     decide (s.rd HDR.STAT_STATE (pgSPAD c) ≠ stRESET) &&
     decide (s.lostPaths = []) &&
     (s.nextInService c ((s.core c).scrubPos * 8)).any fun o =>
     (s.logicalOf c (o / bankSize)).any fun j =>
     decide (j < 64) &&
     decide (o < sliceSize) &&
     decide (o % 8 = 0) &&
     decide (s.marksC = []) &&
     decide (s.marksU = [sliceBase c + j * bankSize + o % bankSize]) &&
     let d : Nat := 3
     decide (d ≠ c)),
    (let s : Machine.State := base
     decide (s.boot.fltUp = true) &&
     decide (s.inService = true) &&
     decide (s.rd DRONE.PWR_STAT_STATE ≤ 1) &&
     let k : Nat := 3
     decide (k < 4) &&
     decide (s.on HBM.HBM_STAT_IN_SERVICE k = true) &&
     decide (s.on HBM.HBM_STAT_SELF_REFRESH k = false) &&
     decide ((memoryClear s)) &&
     decide ((s.hbm k).scrubPos * 64 < hbmSize)),
    (let s : Machine.State := base.modHbm 3 (fun h => {h with scrubPos := hbmSize/64})
     decide (s.boot.fltUp = true) &&
     decide (s.inService = true) &&
     decide (s.rd DRONE.PWR_STAT_STATE ≤ 1) &&
     let k : Nat := 3
     decide (k < 4) &&
     decide (s.on HBM.HBM_STAT_IN_SERVICE k = true) &&
     decide (s.on HBM.HBM_STAT_SELF_REFRESH k = false) &&
     decide ((memoryClear s)) &&
     decide (hbmSize ≤ (s.hbm k).scrubPos * 64))] = true := by decide +kernel

set_option maxRecDepth 100000 in
theorem test_meets_MemoryUpkeep_2 : List.and [
    (let s : Machine.State := base
     decide (s.boot.fltUp = true) &&
     (allPages).any fun _ =>
     decide (s.mainRuns = true) &&
     decide ((memoryClear s))),
    (let s : Machine.State := patrolAt 0x4_0000 (fun c => { c with ceSeen := [slice15 + 24, slice15+0x20_0000] }) (upsets [] [slice15 + 0x20_0000] base)
     decide (s.boot.fltUp = true) &&
     (allPages).any fun _ =>
     let addr : Nat := slice15 + 0x20_0000
     (memPage addr).any fun _ =>
     decide (s.mainRuns = true) &&
     decide (s.lostPaths = []) &&
     (match touched s.marksU ((addr / if addr < spadBase then 64 else 8) * if addr < spadBase then 64 else 8) (if addr < spadBase then 64 else 8) with
     | [] => false
     | _ :: rest =>
     decide (rest = []) &&
     decide (∀ k ∈ List.range 4, s.asleep k = false))),
    (let s : Machine.State := migrating [] base
     decide (s.boot.fltUp = true) &&
     let c : Nat := 15
     decide (c < 16) &&
     ((s.core c).mig).any fun m =>
     decide (m.phys < 64) &&
     decide (m.logical < 64) &&
     decide (s.mainRuns = true) &&
     decide (s.rd HDR.STAT_STATE (pgSPAD c) ≠ stRESET) &&
     decide (bit (s.rd SPAD.SPAD_FENCED_BANKS c) m.phys = false) &&
     decide ((s.core c).migQueue = []) &&
     decide ((memoryClear s)) &&
     let d : Nat := 3
     decide (d ≠ c)),
    (let s : Machine.State := base
     decide (s.boot.fltUp = true) &&
     let a : Authority := .host
     let k : Nat := 3
     let value : Nat := 15
     decide (k < 4) &&
     decide (lets s a (offCarve k) 4 HBM.HBM_CARVE_BUDDY_GIB) &&
     decide (12 < bits value 3 0)),
    (let s : Machine.State := base
     decide (s.boot.fltUp = true) &&
     let a : Authority := .host
     let k : Nat := 3
     let value : Nat := 3
     decide (k < 4) &&
     decide (lets s a (offCarve k) 4 HBM.HBM_CARVE_BUDDY_GIB) &&
     decide (bits value 3 0 ≤ 12)),
    (let s : Machine.State := base
     decide (s.boot.fltUp = true) &&
     let k : Nat := 3
     decide (k < 4) &&
     decide (s.inService = true) &&
     decide (s.on HBM.HBM_STAT_IN_SERVICE k = true) &&
     let c : Nat := 15
     decide (c < 16) &&
     decide (c / 4 = k))] = true := by decide +kernel

set_option maxRecDepth 100000 in
theorem test_meets_ExplicitTestsRun : List.and [
    (let s : Machine.State := explicit {kind := 2, phase := .running, level := 1, vp := 7000, lo := 6500}
     let q : Nat := 3
     decide (q < 4) &&
     decide ((s.qtest q).kind = 2) &&
     decide ((s.qtest q).phase = TestPhase.running) &&
     decide ((s.qtest q).settled = false) &&
     decide (s.on AVS.VMON_VALID 0 q = true) &&
     decide (s.voltTarget q < 2 ^ 16)),
    (let s : Machine.State := explicit {kind := 2, phase := .running, level := 1, vp := 7000, lo := 6500}
     let q : Nat := 3
     decide (q < 4) &&
     decide ((s.qtest q).kind = 2) &&
     decide ((s.qtest q).phase = TestPhase.running) &&
     decide (s.boot.fltUp = true) &&
     decide (s.on AVS.VMON_VALID 0 q = true) &&
     decide (s.restoreVolts q < 2 ^ 16) &&
     decide ((s.qtest q).lo < 2 ^ 16)),
    (let s : Machine.State := explicit {kind := 1, target := 15, phase := .running, od := true, fails := 3}
     let q : Nat := 3
     decide (q < 4) &&
     decide ((s.qtest q).kind = 1) &&
     decide ((s.qtest q).phase = TestPhase.running) &&
     decide ((s.qtest q).level = 0) &&
     decide ((s.qtest q).target < 16) &&
     decide ((s.qtest q).od = true)),
    (let s : Machine.State := explicit {kind := 1, target := 15, phase := .running}
     let q : Nat := 3
     decide (q < 4) &&
     decide ((s.qtest q).kind = 1) &&
     decide ((s.qtest q).phase = TestPhase.running) &&
     decide ((s.qtest q).level = 0) &&
     decide ((s.qtest q).target < 16) &&
     decide ((s.qtest q).od = false)),
    (let s : Machine.State := cool (explicit {kind := 3, target := 15, phase := .heat, startTemp := 3})
     let q : Nat := 3
     decide (q < 4) &&
     decide ((s.qtest q).kind = 3) &&
     decide ((s.qtest q).phase = TestPhase.heat) &&
     decide (s.pumpGoal q ≤ s.targetTemp q) &&
     let p : Nat := 15
     decide (p ≠ q)),
    (let s : Machine.State := { explicit { kind := 3, target := 15, phase := .heat, startTemp := 3 } with ftime := 2 ^ 40 }
     let q : Nat := 3
     decide (q < 4) &&
     decide ((s.qtest q).kind = 3) &&
     decide ((s.qtest q).phase = TestPhase.heat) &&
     decide ((s.qtest q).since + 50000000 ≤ s.ftime) &&
     let p : Nat := 15
     decide (p ≠ q)),
    (let s : Machine.State := { explicit { kind := 3, target := 15, phase := .hold, startTemp := 3 } with ftime := 2 ^ 40 }
     let q : Nat := 3
     decide (q < 4) &&
     decide ((s.qtest q).kind = 3) &&
     decide ((s.qtest q).phase = TestPhase.hold) &&
     decide ((s.qtest q).since + s.rd QUAD.QTEST_PAR_HOLD_MS q * 100000 ≤ s.ftime) &&
     let p : Nat := 15
     decide (p ≠ q)),
    (let s : Machine.State := cool (explicit {kind := 3, target := 15, phase := .restore, result := 1, startTemp := 160})
     let q : Nat := 3
     decide (q < 4) &&
     decide ((s.qtest q).kind = 3) &&
     decide ((s.qtest q).phase = TestPhase.restore) &&
     decide (s.targetTemp q ≤ (s.qtest q).startTemp + 40) &&
     decide ((s.qtest q).result < 16) &&
     decide ((s.qtest q).reason < 256))] = true := by decide +kernel

set_option maxRecDepth 100000 in
theorem test_meets_ResetValues : List.and [
    (let i : Nat := 71
     decide (i < 72)),
    (let m : Nat := 4
     decide (m < 5)),
    (let q : Nat := 3
     decide (q < 4)),
    (let g : Nat := 5
     decide (g < 6)),
    (let c : Nat := 15
     decide (c < 16)),
    (let k : Nat := 3
     decide (k < 4))] = true := by decide +kernel

set_option maxRecDepth 100000 in
theorem test_meets_MoraineRing : List.and [
    (let s : Machine.State := ring 0xFFFF_FFFF 0xFFFF_FFF0 (tok 0x111 3 cINFO) base
     (match s.mor.queue with
     | [] => false
     | _ :: _ =>
     decide (s.boot.fltUp = true) &&
     decide (s.morRoom = true) &&
     let a : Nat := 0
     decide (a < s.rd MORAINE.MOR_BASE_BASE * 4096 + s.rd MORAINE.MOR_PIDX_PIDX % 2 ^ s.rd MORAINE.MOR_CTL_LOG2 * 32 ∨ s.rd MORAINE.MOR_BASE_BASE * 4096 + s.rd MORAINE.MOR_PIDX_PIDX % 2 ^ s.rd MORAINE.MOR_CTL_LOG2 * 32 + 32 ≤ a))),
    (let s : Machine.State := ring 1024 1 (tok 0x111 3 cCONTEXT) base
     (match s.mor.queue with
     | [] => false
     | e :: _ =>
     decide (s.boot.fltUp = true) &&
     decide (s.morRoom = true) &&
     decide (max 1 (s.rd MORAINE.MOR_MOD_MOD_CNT) ≤ s.mor.unsignalled + 1 ∨ cCONTEXT ≤ e.tok.cls ∨ e.tok.kind = kOVF))),
    (let s : Machine.State := ring 0xFFFF_FFFF 0xFFFF_FFF0 (tok 0x111 3 cINFO) base
     (match s.mor.queue with
     | [] => false
     | e :: _ =>
     decide (s.boot.fltUp = true) &&
     decide (s.morRoom = true) &&
     decide (¬(max 1 (s.rd MORAINE.MOR_MOD_MOD_CNT) ≤ s.mor.unsignalled + 1 ∨ cCONTEXT ≤ e.tok.cls ∨ e.tok.kind = kOVF)))),
    (let s : Machine.State := (let s := ring 5 5 (tok 0x111 3 cINFO) base; {s with mor := {s.mor with unsignalled := 1, firstUnsignalled := some 5}})
     (s.mor.firstUnsignalled).any fun t0 =>
     decide (s.rd MORAINE.MOR_MOD_MOD_US ≠ 0) &&
     decide (t0 + 100 * s.rd MORAINE.MOR_MOD_MOD_US ≤ s.ftime)),
    (let s : Machine.State := told [tok 0x111 kCHECKSUM_COLSUM cINFO] base
     let a : Authority := .host
     let v : Nat := 2 ^ 31 + 10
     decide (lets s a (offMoraine 72) 4 MORAINE.MOR_CTL_EN) &&
     decide (s.on MORAINE.MOR_CTL_EN = false) &&
     decide (bit v 31 = true) &&
     decide (10 ≤ bits v 4 0) &&
     decide (bits v 4 0 ≤ 20)),
    (let s : Machine.State := ring 0xFFFF_FFFF 0xFFFF_FFF0 (tok 0x111 3 cINFO) base
     let a : Authority := .host
     let v : Nat := 2 ^ 31 + 10
     decide (lets s a (offMoraine 72) 4 MORAINE.MOR_CTL_EN) &&
     decide (s.on MORAINE.MOR_CTL_EN = true) &&
     decide (bits v 4 0 = s.rd MORAINE.MOR_CTL_LOG2)),
    (let s : Machine.State := told [tok 0x111 kCHECKSUM_COLSUM cINFO] base
     decide (s.boot.fltUp = true) &&
     decide (s.rd FLT.FLT_LIMIT_COUNT < 2 ^ FLT.FLT_LIMIT_COUNT.width))] = true := by decide +kernel

set_option maxRecDepth 100000 in
theorem test_meets_FreezeAndThaw : List.and [
    (let s : Machine.State := other small (holds 0x10 8191 [] .fetched)
     let x : Nat := 5
     let qn : Nat := 63
     let evict : Bool := false
     (s.startOf x qn (if evict = true then 17 else 16)).any fun k =>
     decide (k.target ≠ x) &&
     decide ((s.ctx k.target).state = CtxState.owned) &&
     decide (s.firnBusy k.target = false) &&
     decide ((s.ctx k.target).imageOk evict = true) &&
     decide (evict = false)),
    (let s : Machine.State := other small (holds 0x11 8191 [] .fetched)
     let x : Nat := 5
     let qn : Nat := 63
     let evict : Bool := true
     (s.startOf x qn (if evict = true then 17 else 16)).any fun k =>
     decide (k.target ≠ x) &&
     decide ((s.ctx k.target).state = CtxState.owned) &&
     decide (s.firnBusy k.target = false) &&
     decide ((s.ctx k.target).imageOk evict = true) &&
     decide (evict = true)),
    (let s : Machine.State := (freezing (holds 0x10 8191 [] .running)).setCore 15 {groups := [(3, otherGroup), (4, group [])]}
     let x : Nat := 8191
     let y : Nat := 5
     let qn : Nat := 63
     let n : Nat := 0xFFFF_FFFF
     (List.find? (fun (o : FirnOp) => decide (o.target = x)) s.firn.freezes).any fun op =>
     decide (op.evict = false) &&
     decide (op.by_ = some (y, qn, n)) &&
     decide (y ≠ x) &&
     decide (s.passesDone x = true) &&
     decide ((s.ctx x).state = CtxState.owned)),
    (let s : Machine.State := { (other (fun c => {small c with state := .frozen}) (holds 0x12 8191 [] .fetched)) with firn := { images := [(8191, { groups := [(15, 3, otherGroup)] })] } }
     let x : Nat := 5
     let qn : Nat := 63
     (s.startOf x qn 18).any fun k =>
     decide (k.target ≠ x) &&
     decide ((s.ctx k.target).state = CtxState.frozen) &&
     decide (s.firnBusy k.target = false) &&
     decide ((Option.map (fun (x : Image) => x.test) (s.image k.target)).getD false = false) &&
     decide ((s.thawCheck k.target).1 = stOK)),
    (let s : Machine.State := thawing (other (fun c => {small c with state := .frozen}) (holds 0x12 8191 [] .running))
     let x : Nat := 8191
     let y : Nat := 5
     (List.find? (fun (o : FirnOp) => decide (o.target = x)) s.firn.thaws).any fun op =>
     decide (op.by_ = some (y, 63, 0xFFFF_FFFF)) &&
     decide (y ≠ x) &&
     (s.image x).any fun m =>
     decide (m.evicted = none) &&
     decide (m.lostRemotes = false) &&
     decide (m.passes = []) &&
     decide ((s.fabric.remotes.any fun (r : Remote) => decide (r.ctx = x)) = false) &&
     (s.seatAll (s.thawCheck x).2 m.groups).any fun r => r.2.isEmpty)] = true := by decide +kernel

set_option maxRecDepth 100000 in
theorem test_meets_ChipResets_1 : List.and [
    (let s : Machine.State := up
     let a : Authority := .host
     let v : Nat := 15
     decide (lets s a 80 4 CHIP.RST_REQ_CHIP) &&
     decide (bits v 31 16 ≠ 45063) &&
     decide (s.boot.fltUp = true)),
    (let s : Machine.State := up
     let a : Authority := .host
     let v : Nat := 0xB007_0000
     decide (lets s a 80 4 CHIP.RST_REQ_CHIP) &&
     decide (bits v 31 16 = 45063) &&
     decide (bit v 0 = false)),
    (let s : Machine.State := (let s := atStage 0 false; {s with boot := {s.boot with aligned := false}})
     let a : Authority := .self_
     let v : Nat := 0xB007_0001
     decide (lets s a 80 4 CHIP.RST_REQ_CHIP) &&
     decide (bits v 31 16 = 45063) &&
     decide (bit v 0 = true) &&
     decide (s.ladder.chip = none) &&
     decide (s.boot.fltUp = false)),
    (let s : Machine.State := up
     let a : Authority := .host
     let v : Nat := 0xB007_0001
     decide (lets s a 80 4 CHIP.RST_REQ_CHIP) &&
     decide (bits v 31 16 = 45063) &&
     decide (bit v 0 = true) &&
     decide (s.ladder.chip = none) &&
     decide (s.boot.fltUp = true) &&
     decide (s.inService = true) &&
     decide (s.pins.perst = false)),
    (let s : Machine.State := up
     decide (s.mainRuns = true) &&
     decide (2 ≤ s.stage) &&
     decide (s.boot.fltUp = true)),
    (let s : Machine.State := (let s := atStage 2 false; {s with boot := {s.boot with deferred := [hostStall]}, droneToks := [s.stamped hostStall]})
     decide (s.mainRuns = true) &&
     decide (2 ≤ s.stage) &&
     decide (s.boot.fltUp = false)),
    (let s : Machine.State := up
     decide (s.mainRuns = true) &&
     decide (s.boot.fltUp = true)),
    (let s : Machine.State := ending 4 up
     (s.ladder.chip).any fun r =>
     decide (r.level = 4) &&
     decide (s.fltIn = []) &&
     decide (s.mor.queue = []) &&
     decide (s.reached = []) &&
     decide (s.boot.chipReq.getD 4 < 16))] = true := by decide +kernel

set_option maxRecDepth 100000 in
theorem test_meets_ChipResets_2 : List.and [
    (let s : Machine.State := ending 6 (base.setCore 14 {groups := [(3, group [])]})
     (s.ladder.chip).any fun r =>
     decide (r.level = 6) &&
     let c : Nat := 15
     decide (c < 16)),
    (let s : Machine.State := set (captured base) [(CLKRST.CAP_DMA_CTL_BUSY,0,0,0)]
     let a : Authority := .host
     decide (lets s a (offClkrst 316) 4 CLKRST.CAP_DMA_CTL_GO) &&
     decide (s.on CLKRST.CAP_DMA_CTL_BUSY = false) &&
     decide (s.capRecord.isSome = true)),
    (let s : Machine.State := up
     let a : Authority := .host
     decide (lets s a (offClkrst 316) 4 CLKRST.CAP_DMA_CTL_GO) &&
     decide (s.on CLKRST.CAP_DMA_CTL_BUSY = false) &&
     decide (s.capRecord = none)),
    (let s : Machine.State := captured base
     (s.capRecord).any fun (_, _, _) =>
     decide (s.on CLKRST.CAP_DMA_CTL_BUSY = true) &&
     decide ((memoryClear s))),
    (let s : Machine.State := base
     let a : Authority := .host
     let v : Nat := 2^31 + 15*2^16 + 5
     decide (lets s a (pgQENG * 4096 + 96) 4 QENG.SOLO_EN) &&
     decide ((s.ctx (bits v 12 0)).owned = true) &&
     decide (s.live (bits v 19 16) = true) &&
     decide (bit (s.ctx (bits v 12 0)).cfg.affinity (bits v 19 16) = true))] = true := by decide +kernel

set_option maxRecDepth 100000 in
theorem test_meets_DebugAndTrayPorts_1 : List.and [
    (let s : Machine.State := { base with boot := { base.boot with droneRail := false } }
     decide (s.mainRuns = false)),
    (let s : Machine.State := base
     decide (s.mainRuns = true) &&
     decide (s.boot.aligned = true)),
    (let s : Machine.State := { base with boot := { base.boot with aligned := false } }
     decide (s.mainRuns = true) &&
     decide (s.boot.aligned = false)),
    (let s : Machine.State := base
     decide (s.mainRuns = true) &&
     let data : List Byte := debugToken 4
     decide (data.length = 128) &&
     decide (s.boot.aligned = true) &&
     decide (s.lc ≠ 3)),
    (let s : Machine.State := base
     decide (s.mainRuns = true) &&
     let level : Nat := 15
     decide (level < 16) &&
     decide (s.boot.aligned = true) &&
     decide (s.dbgReason Authority.debug (min 3 level) ≠ 0)),
    (let s : Machine.State := base
     decide (s.mainRuns = true) &&
     let level : Nat := 0
     decide (level < 16) &&
     decide (s.boot.aligned = true) &&
     decide (s.dbgReason Authority.debug (min 3 level) = 0)),
    (let s : Machine.State := debugLevel 2 base
     decide (s.mainRuns = true) &&
     let d : Nat := 15
     decide (1 ≤ s.debugLevel) &&
     decide (s.boot.aligned = true) &&
     decide (bit d 64 = false)),
    (let s : Machine.State := debugLevel 2 base
     decide (s.mainRuns = true) &&
     let d : Nat := 0x10 * 2^32 + 3 * 2^64 + 4
     decide (1 ≤ s.debugLevel) &&
     decide (s.boot.aligned = true) &&
     decide (bit d 64 = true) &&
     decide (bit d 65 = true) &&
     decide (bits d 63 32 < 268435456))] = true := by decide +kernel

set_option maxRecDepth 100000 in
theorem test_meets_DebugAndTrayPorts_2 : List.and [
    (let s : Machine.State := debugLevel 2 base
     decide (s.mainRuns = true) &&
     let d : Nat := 0x5_1040 * 2^32 + 2^64
     decide (1 ≤ s.debugLevel) &&
     decide (s.boot.aligned = true) &&
     decide (bit d 64 = true) &&
     decide (bit d 65 = false)),
    (let s : Machine.State := debugLevel 2 base
     decide (s.mainRuns = true) &&
     let d : Nat := sliceBase 15 * 2^64 + 3 * 2^128 + 77
     decide (s.debugLevel = 2) &&
     decide (s.boot.aligned = true) &&
     decide (bit d 128 = true) &&
     decide (s.memapPlace (bits d 127 64) = MemapPlace.memory) &&
     decide ((memoryClear s)) &&
     decide (bit d 129 = true)),
    (let s : Machine.State := debugLevel 2 base
     decide (s.mainRuns = true) &&
     let d : Nat := sliceBase 15 * 2^64 + 2^128 + 77
     decide (s.debugLevel = 2) &&
     decide (s.boot.aligned = true) &&
     decide (bit d 128 = true) &&
     decide (s.memapPlace (bits d 127 64) = MemapPlace.memory) &&
     decide ((memoryClear s)) &&
     decide (bit d 129 = false)),
    (let s : Machine.State := base
     decide (s.boot.droneRail = true) &&
     let addr : Nat := 15
     decide (addr < 128)),
    (let s : Machine.State := base
     decide (s.boot.droneRail = true) &&
     decide (s.sec.i3cAddr = none)),
    (let s : Machine.State := addressed base
     decide (s.boot.droneRail = true) &&
     decide (s.sec.i3cAddr.isSome = true) &&
     let a : Nat := 15
     decide (a < 16777216)),
    (let s : Machine.State := addressed base
     decide (s.boot.droneRail = true) &&
     decide (s.sec.i3cAddr.isSome = true) &&
     let a : Nat := 0x100_0008
     decide (16777216 ≤ a) &&
     decide (a < 33554432) &&
     decide (a % 4 = 0) &&
     decide (s.stagingUp = true) &&
     decide ((memoryClear s)))] = true := by decide +kernel

set_option maxRecDepth 100000 in
theorem test_meets_CompareCountShuffleVote_1 : List.and [
    (let z : Machine.State := thr (ins 0x0A 0 1 2 0 0) someRegs
     let c : Nat := 15
     let p : Nat := 127
     (z.issuePoint c p).any fun i =>
     decide (i.inRange = true) &&
     decide (i.got = true) &&
     decide (insOp i.word = 10) &&
     decide (bits i.word 2 0 = 0)),
    (let z : Machine.State := thr (ins 0x0A 0 1 2 0 1) someRegs
     let c : Nat := 15
     let p : Nat := 127
     (z.issuePoint c p).any fun i =>
     decide (i.inRange = true) &&
     decide (i.got = true) &&
     decide (insOp i.word = 10) &&
     decide (bits i.word 2 0 = 1)),
    (let z : Machine.State := thr (ins 0x0A 0 1 2 0 2) someRegs
     let c : Nat := 15
     let p : Nat := 127
     (z.issuePoint c p).any fun i =>
     decide (i.inRange = true) &&
     decide (i.got = true) &&
     decide (insOp i.word = 10) &&
     decide (bits i.word 2 0 = 2)),
    (let z : Machine.State := thr (ins 0x0A 0 1 2 0 3) someRegs
     let c : Nat := 15
     let p : Nat := 127
     (z.issuePoint c p).any fun i =>
     decide (i.inRange = true) &&
     decide (i.got = true) &&
     decide (insOp i.word = 10) &&
     decide (bits i.word 2 0 = 3)),
    (let z : Machine.State := thr (ins 0x0A 0 1 2 0 4) someRegs
     let c : Nat := 15
     let p : Nat := 127
     (z.issuePoint c p).any fun i =>
     decide (i.inRange = true) &&
     decide (i.got = true) &&
     decide (insOp i.word = 10) &&
     decide (bits i.word 2 0 = 4)),
    (let z : Machine.State := thr (ins 0x0A 0 1 2 0 5) someRegs
     let c : Nat := 15
     let p : Nat := 127
     (z.issuePoint c p).any fun i =>
     decide (i.inRange = true) &&
     decide (i.got = true) &&
     decide (insOp i.word = 10) &&
     decide (bits i.word 2 0 = 5)),
    (let z : Machine.State := thr (ins 0x0E 63 1 3 4 0x8000_0001) someRegs
     let c : Nat := 15
     let p : Nat := 127
     (z.issuePoint c p).any fun i =>
     decide (i.inRange = true) &&
     decide (i.got = true) &&
     decide (insOp i.word = 14)),
    (let z : Machine.State := thr (ins 0x0F 63 1 3 4 0x8000_0001) someRegs
     let c : Nat := 15
     let p : Nat := 127
     (z.issuePoint c p).any fun i =>
     decide (i.inRange = true) &&
     decide (i.got = true) &&
     decide (insOp i.word = 15))] = true := by decide +kernel

set_option maxRecDepth 100000 in
theorem test_meets_CompareCountShuffleVote_2 : List.and [
    (let z : Machine.State := thr (ins 0x75 5 1 3 0 0) someRegs
     let c : Nat := 15
     let p : Nat := 127
     (z.issuePoint c p).any fun i =>
     decide (i.inRange = true) &&
     decide (i.got = true) &&
     decide (insOp i.word = 117)),
    (let z : Machine.State := thr (ins 0x76 62 1 0 0 0) someRegs
     let c : Nat := 15
     let p : Nat := 127
     (z.issuePoint c p).any fun i =>
     decide (i.inRange = true) &&
     decide (i.got = true) &&
     decide (insOp i.word = 118) &&
     decide (bits i.word 1 0 = 0)),
    (let z : Machine.State := thr (ins 0x76 62 1 0 0 1) someRegs
     let c : Nat := 15
     let p : Nat := 127
     (z.issuePoint c p).any fun i =>
     decide (i.inRange = true) &&
     decide (i.got = true) &&
     decide (insOp i.word = 118) &&
     decide (bits i.word 1 0 = 1)),
    (let z : Machine.State := thr (ins 0x76 62 1 0 0 2) someRegs
     let c : Nat := 15
     let p : Nat := 127
     (z.issuePoint c p).any fun i =>
     decide (i.inRange = true) &&
     decide (i.got = true) &&
     decide (insOp i.word = 118) &&
     decide (bits i.word 1 0 = 2) &&
     decide (insXD i.word < 63) &&
     (i.lanes).any fun _ =>
     true),
    (let z : Machine.State := thr (ins 0x76 62 1 0 0 2) someRegs
     let c : Nat := 15
     let p : Nat := 127
     (z.issuePoint c p).any fun i =>
     decide (i.inRange = true) &&
     decide (i.got = true) &&
     decide (insOp i.word = 118) &&
     decide (bits i.word 1 0 = 2) &&
     decide (insXD i.word < 63) &&
     let l : Nat := 0
     let r : Nat := 0
     decide (r < 64) &&
     decide (l ∉ i.lanes ∨ r ≠ insXD i.word ∧ r ≠ insXD i.word + 1))] = true := by decide +kernel

set_option maxRecDepth 100000 in
theorem test_meets_LifecycleAndDebug_1 : List.and [
    (let s : Machine.State := base
     let a : Authority := .host
     decide (s.boot.fltUp = true) &&
     let v : Nat := 15
     decide (lets s a (offSec 380) 4 SEC.TOKEN) &&
     decide (s.tokenReason (Memory.readBytes (Memory.writeBytes s.sec.tokenBuf 380 (toLE (v % 2 ^ 32) 4)) 256 128) ≠ 0)),
    (let s : Machine.State := base
     let a : Authority := .host
     decide (s.boot.fltUp = true) &&
     decide (lets s a (offSec 72) 4 SEC.LC_REQ_KEY) &&
     decide (a ≠ Authority.debug) &&
     decide (s.lcReason 1 ≠ 0)),
    (let s : Machine.State := up
     let a : Authority := .host
     decide (s.boot.fltUp = true) &&
     decide (lets s a (offSec 72) 4 SEC.LC_REQ_KEY) &&
     decide (a ≠ Authority.debug) &&
     decide (s.lcReason 1 = 0)),
    (let s : Machine.State := base
     let a : Authority := .host
     decide (s.boot.fltUp = true) &&
     decide (lets s a (offSec 72) 4 SEC.LC_REQ_KEY) &&
     decide (a ≠ Authority.debug) &&
     decide (s.lcReason 2 ≠ 0)),
    (let s : Machine.State := lifecycle 1 (some (debugToken 1)) up
     let a : Authority := .host
     decide (s.boot.fltUp = true) &&
     decide (lets s a (offSec 72) 4 SEC.LC_REQ_KEY) &&
     decide (a ≠ Authority.debug) &&
     decide (s.lcReason 2 = 0)),
    (let s : Machine.State := base
     let a : Authority := .host
     decide (s.boot.fltUp = true) &&
     decide (lets s a (offSec 72) 4 SEC.LC_REQ_KEY) &&
     decide (a ≠ Authority.debug) &&
     decide (s.lcReason 3 ≠ 0)),
    (let s : Machine.State := up
     let a : Authority := .host
     decide (s.boot.fltUp = true) &&
     decide (lets s a (offSec 72) 4 SEC.LC_REQ_KEY) &&
     decide (a ≠ Authority.debug) &&
     decide (s.lcReason 3 = 0)),
    (let s : Machine.State := base
     let a : Authority := .host
     decide (s.boot.fltUp = true) &&
     decide (lets s a (offSec 72) 4 SEC.LC_REQ_KEY) &&
     decide (a ≠ Authority.debug) &&
     let key : Nat := 15
     decide (key < 2 ^ 16) &&
     decide (key ≠ 24256))] = true := by decide +kernel

set_option maxRecDepth 100000 in
theorem test_meets_LifecycleAndDebug_2 : List.and [
    (let s : Machine.State := { up with sec := { up.sec with burning := some 7, burnFrom := 2 } }
     decide (s.boot.fltUp = true) &&
     (s.sec.burning).any fun _ =>
     decide (s.inService = true) &&
     decide (s.pins.perst = false) &&
     decide (s.ladder.chip = none)),
    (let s : Machine.State := lifecycle 1 none up
     let a : Authority := .tray
     decide (s.boot.fltUp = true) &&
     decide (lets s a (offSec 68) 4 SEC.DBG_REQ_LEVEL) &&
     decide (s.dbgReason a 1 ≠ 0)),
    (let s : Machine.State := debugLevel 1 base
     let a : Authority := .host
     decide (s.boot.fltUp = true) &&
     decide (lets s a (offSec 68) 4 SEC.DBG_REQ_LEVEL) &&
     decide (s.dbgReason a 1 = 0) &&
     decide (1 = s.debugLevel)),
    (let s : Machine.State := base
     let a : Authority := .host
     decide (s.boot.fltUp = true) &&
     decide (lets s a (offSec 68) 4 SEC.DBG_REQ_LEVEL) &&
     decide (s.dbgReason a 1 = 0) &&
     decide (1 ≠ s.debugLevel)),
    (let s : Machine.State := lifecycle 1 none up
     let a : Authority := .host
     decide (s.boot.fltUp = true) &&
     decide (lets s a (offSec 68) 4 SEC.DBG_REQ_LEVEL) &&
     decide (s.dbgReason a 2 ≠ 0)),
    (let s : Machine.State := debugLevel 2 base
     let a : Authority := .host
     decide (s.boot.fltUp = true) &&
     decide (lets s a (offSec 68) 4 SEC.DBG_REQ_LEVEL) &&
     decide (s.dbgReason a 2 = 0) &&
     decide (2 = s.debugLevel)),
    (let s : Machine.State := base
     let a : Authority := .host
     decide (s.boot.fltUp = true) &&
     decide (lets s a (offSec 68) 4 SEC.DBG_REQ_LEVEL) &&
     decide (s.dbgReason a 2 = 0) &&
     decide (2 ≠ s.debugLevel)),
    (let s : Machine.State := base
     let a : Authority := .host
     decide (s.boot.fltUp = true) &&
     decide (lets s a (offSec 68) 4 SEC.DBG_REQ_LEVEL) &&
     decide (s.debugLevel = 0))] = true := by decide +kernel

set_option maxRecDepth 100000 in
theorem test_meets_LifecycleAndDebug_3 : List.and [
    (let s : Machine.State := debugLevel 2 base
     let a : Authority := .host
     decide (s.boot.fltUp = true) &&
     decide (lets s a (offSec 68) 4 SEC.DBG_REQ_LEVEL) &&
     decide (s.debugLevel ≠ 0))] = true := by decide +kernel

set_option maxRecDepth 100000 in
theorem test_meets_StepKeepsCanonical : List.and [
    (let s : Machine.State := { base with pending := [.rdtime 15 127] }
     canon s &&
     (match step s with | .next _ => true | _ => false))] = true := by decide +kernel

set_option maxRecDepth 100000 in
theorem test_meets_RemoteMemory_1 : List.and [
    (let s : Machine.State := sent {cls := 2, op := 1, dst := 0, ctx := 5, gen := 7, addr := 0x2047, tag := 3} ((tree (routed base)).store 0x2040 [1#8, 2#8, 3#8])
     ((s.takeFlit clBULK fun (e : DataFlit) => decide (e.op = 1))).any fun (_, f, u) =>
     decide (u.admits f.ctx ((fun (f : DataFlit) => f.addr % 2 ^ 52 / 64 * 64) f) 64 = true ∧ (u.ctx f.ctx).state ≠ CtxState.recovering ∧ u.putWaits f = false ∧ (memoryClear u) ∧ 64 ≤ f.body.length)),
    (let s : Machine.State := sent {cls := 2, op := 1, dst := 0, ctx := 5, gen := 7, addr := 0x2047, tag := 3} (recovering5 (tree (routed base)))
     ((s.takeFlit clBULK fun (e : DataFlit) => decide (e.op = 1))).any fun (_, f, u) =>
     decide (u.peerCtx f.ctx = true ∧ (u.ctx f.ctx).state = CtxState.recovering ∨ u.putWaits f = true)),
    (let s : Machine.State := sent {cls := 2, op := 1, dst := 0, ctx := 3, gen := 7, addr := 0x2047, tag := 3} (tree (routed base))
     ((s.takeFlit clBULK fun (e : DataFlit) => decide (e.op = 1))).any fun (_, f, u) =>
     decide (¬(fun (u : Machine.State) (f : DataFlit) => u.peerCtx f.ctx = true ∧ (u.ctx f.ctx).state = CtxState.recovering ∨ u.putWaits f = true) u f ∧ u.admits f.ctx ((fun (f : DataFlit) => f.addr % 2 ^ 52 / 64 * 64) f) 64 = false ∧ u.boot.fltUp = true)),
    (let s : Machine.State := sent {cls := 2, op := 3, dst := 0, ctx := 5, gen := 7, addr := 0x2040, tag := 3, be := 0x8000_0000_0000_00F1, body := (List.range 64).map (fun k => BitVec.ofNat 8 (k + 1))} ((tree (routed base)).store 0x2040 [1#8, 2#8, 3#8])
     ((s.takeFlit clBULK fun (e : DataFlit) => decide (e.op = 3))).any fun (_, f, u) =>
     decide (u.admits f.ctx ((fun (f : DataFlit) => f.addr % 2 ^ 52 / 64 * 64) f) 64 = true ∧ (u.ctx f.ctx).state ≠ CtxState.recovering ∧ u.putWaits f = false ∧ (memoryClear u) ∧ 64 ≤ f.body.length) &&
     let j : Nat := 0
     decide (j < 64)),
    (let s : Machine.State := sent {cls := 2, op := 3, dst := 0, ctx := 5, addr := 0x2047, tag := 3} (recovering5 (tree (routed base)))
     ((s.takeFlit clBULK fun (e : DataFlit) => decide (e.op = 3))).any fun (_, f, u) =>
     decide (u.peerCtx f.ctx = true ∧ (u.ctx f.ctx).state = CtxState.recovering ∨ u.putWaits f = true)),
    (let s : Machine.State := sent {cls := 2, op := 3, dst := 0, ctx := 5, gen := 7, addr := 0x6400_0000, tag := 3} (tree (routed base))
     ((s.takeFlit clBULK fun (e : DataFlit) => decide (e.op = 3))).any fun (_, f, u) =>
     decide (¬(fun (u : Machine.State) (f : DataFlit) => u.peerCtx f.ctx = true ∧ (u.ctx f.ctx).state = CtxState.recovering ∨ u.putWaits f = true) u f ∧ u.admits f.ctx ((fun (f : DataFlit) => f.addr % 2 ^ 52 / 64 * 64) f) 64 = false ∧ u.boot.fltUp = true)),
    (let s : Machine.State := sent {cls := 1, op := 4, dst := 0, ctx := 5, gen := 7, addr := sliceBase 3, tag := 3, be := 2 ^ 64 - 1, body := (List.range 64).map (fun k => BitVec.ofNat 8 (k + 1))} (tree (routed base))
     ((s.takeFlit clORDERED fun (e : DataFlit) => decide (e.op = 4))).any fun (_, f, u) =>
     decide (u.admits f.ctx ((fun (f : DataFlit) => f.addr % 2 ^ 52 / 64 * 64) f) 64 = true ∧ (u.ctx f.ctx).state ≠ CtxState.recovering ∧ u.putWaits f = false ∧ (memoryClear u) ∧ 64 ≤ f.body.length) &&
     let j : Nat := 0
     decide (j < 64)),
    (let s : Machine.State := sent {cls := 1, op := 4, dst := 0, ctx := 5, addr := 0x2047, tag := 3} (recovering5 (tree (routed base)))
     ((s.takeFlit clORDERED fun (e : DataFlit) => decide (e.op = 4))).any fun (_, f, u) =>
     decide (u.peerCtx f.ctx = true ∧ (u.ctx f.ctx).state = CtxState.recovering ∨ u.putWaits f = true))] = true := by decide +kernel

set_option maxRecDepth 100000 in
theorem test_meets_RemoteMemory_2 : List.and [
    (let s : Machine.State := sent {cls := 1, op := 4, dst := 0, ctx := 4, gen := 7, addr := 0x2047, tag := 3} (tree (routed base))
     ((s.takeFlit clORDERED fun (e : DataFlit) => decide (e.op = 4))).any fun (_, f, u) =>
     decide (¬(fun (u : Machine.State) (f : DataFlit) => u.peerCtx f.ctx = true ∧ (u.ctx f.ctx).state = CtxState.recovering ∨ u.putWaits f = true) u f ∧ u.admits f.ctx ((fun (f : DataFlit) => f.addr % 2 ^ 52 / 64 * 64) f) 64 = false ∧ u.boot.fltUp = true)),
    (let s : Machine.State := sent {cls := 2, op := 2, dst := 0, ctx := 5, gen := 7, tag := 1, len := 64, body := (List.range 64).map (fun k => BitVec.ofNat 8 (k + 1))} (asking 1)
     ((s.takeFlit clBULK fun (e : DataFlit) => decide (e.op = 2))).any fun (_, f, u) =>
     (List.find? (fun (e : Remote) => decide (e.tag = f.tag) && decide (e.dst = f.src)) u.fabric.remotes).any fun r =>
     decide ((u.ctx r.ctx).gen = f.gen ∧ r.gen = f.gen) &&
     decide (f.status = stOK) &&
     let c : Nat := 0
     decide (c ≠ r.core)),
    (let s : Machine.State := sent {cls := 2, op := 2, dst := 0, ctx := 5, gen := 6, tag := 1, len := 64} (asking 1)
     ((s.takeFlit clBULK fun (e : DataFlit) => decide (e.op = 2))).any fun (_, f, u) =>
     (List.find? (fun (e : Remote) => decide (e.tag = f.tag) && decide (e.dst = f.src)) u.fabric.remotes).any fun r =>
     decide (¬(fun (u : Machine.State) (f : DataFlit) (r : Remote) => (u.ctx r.ctx).gen = f.gen ∧ r.gen = f.gen) u f r)),
    (let s : Machine.State := sent {cls := 1, op := 5, dst := 0, ctx := 5, gen := 7, tag := 1} (asking 4)
     ((s.takeFlit clORDERED fun (e : DataFlit) => decide (e.op = 5))).any fun (_, f, u) =>
     (List.find? (fun (e : Remote) => decide (e.tag = f.tag) && decide (e.dst = f.src)) u.fabric.remotes).any fun _ =>
     decide (f.status = stOK)),
    (let s : Machine.State := sent {cls := 2, op := 5, dst := 0, ctx := 5, gen := 7, tag := 2} (asking 3)
     ((s.takeFlit clBULK fun (e : DataFlit) => decide (e.op = 5))).any fun (_, f, u) =>
     decide ((s.takeFlit clORDERED fun (e : DataFlit) => decide (e.op = 5)) = none) &&
     (List.find? (fun (e : Remote) => decide (e.tag = f.tag) && decide (e.dst = f.src)) u.fabric.remotes).any fun _ =>
     decide (f.status = stOK)),
    (let s : Machine.State := sent { cls := 1, op := 6, dst := 0, ctx := 5, tag := 2, status := 3 } ((asking 3).modCtx 5 (fun c => { c with gen := 8 }))
     ((s.takeFlit clORDERED fun (e : DataFlit) => decide (e.op = 6))).any fun (_, f, u) =>
     decide (u.boot.fltUp = true) &&
     (List.find? (fun (e : Remote) => decide (e.tag = f.tag) && (decide (f.status = e.op) || decide (f.status = 0))) u.fabric.remotes).any fun r =>
     decide ((u.ctx r.ctx).gen ≠ r.gen)),
    (let s : Machine.State := sent {cls := 1, op := 6, dst := 0, ctx := 5, tag := 2, status := 3} (asking 3)
     ((s.takeFlit clORDERED fun (e : DataFlit) => decide (e.op = 6))).any fun (_, f, u) =>
     decide (u.boot.fltUp = true) &&
     (List.find? (fun (e : Remote) => decide (e.tag = f.tag) && (decide (f.status = e.op) || decide (f.status = 0))) u.fabric.remotes).any fun r =>
     decide ((u.ctx r.ctx).gen = r.gen)),
    (let s : Machine.State := (asking 4).modCtx 5 (fun c => {c with gen := 8})
     let tag : Nat := 1
     (List.find? (fun (e : Remote) => decide (e.tag = tag)) s.fabric.remotes).any fun r =>
     decide (s.boot.fltUp = true) &&
     decide (r.since + max 1 (s.rd FABRIC.FAB_TMO_RMT_MS) * 100000 ≤ s.ftime) &&
     decide ((s.ctx r.ctx).gen ≠ r.gen))] = true := by decide +kernel

set_option maxRecDepth 100000 in
theorem test_meets_RemoteMemory_3 : List.and [
    (let s : Machine.State := sent {cls := 2, op := 2, dst := 0, ctx := 5, gen := 7, tag := 1, len := 64, body := (List.range 64).map (fun k => BitVec.ofNat 8 (k + 1))} (asking 1)
     let tag : Nat := 1
     (List.find? (fun (e : Remote) => decide (e.tag = tag)) s.fabric.remotes).any fun r =>
     decide (s.boot.fltUp = true) &&
     decide (r.since + max 1 (s.rd FABRIC.FAB_TMO_RMT_MS) * 100000 ≤ s.ftime) &&
     decide ((s.ctx r.ctx).gen = r.gen))] = true := by decide +kernel

set_option maxRecDepth 100000 in
theorem test_meets_RegisterAccesses_1 : List.and [
    (let s : Machine.State := base
     let a : Authority := .host
     ([FLT.FLT_INJ_CTX_CTX, FABRIC.ROUTE_IDX_IDX, FABRIC.COLL_TMO_MS, BARRIER.BAR_LEAD_US, BARRIER.BAR_TMO_MS]).any fun r =>
     decide (lets s a (r.page * 4096 + r.off) 4 r)),
    (let s : Machine.State := base
     let a : Authority := .host
     let p : Nat := 4
     decide (p < 1024) &&
     decide (lets s a (p * 4096 + 28) 4 HDR.BLK_ERRMASK)),
    (let s : Machine.State := base
     let a : Authority := .host
     decide (a = Authority.host ∨ a = Authority.tray ∨ a = Authority.debug) &&
     decide (s.inService = true) &&
     let off : Nat := 0x5040
     let len : Nat := 4
     decide (off < 4194304) &&
     decide (goodShape off len = true) &&
     decide (s.gate a off len false = Gate.ok) &&
     decide (s.pageWake a (off / 4096) = s) &&
     (covered (off / 4096) (off % 4096) len).any fun c =>
     decide (c.row.acc = Access.rc) &&
     decide (s.mayRead a c.row = true)),
    (let s : Machine.State := base
     let a : Authority := .host
     decide (a = Authority.host ∨ a = Authority.tray ∨ a = Authority.debug) &&
     decide (s.inService = true) &&
     let off : Nat := 4
     let len : Nat := 4
     decide (off < 4194304) &&
     decide (goodShape off len = true) &&
     decide (s.gate a off len false = Gate.ok) &&
     decide (s.pageWake a (off / 4096) = s) &&
     decide (len = 4) &&
     decide (off ≠ offCoreMap + 4)),
    (let s : Machine.State := base
     let a : Authority := .host
     decide (a = Authority.host ∨ a = Authority.tray ∨ a = Authority.debug) &&
     decide (s.inService = true) &&
     let off : Nat := 4
     decide (off < 4194304) &&
     decide (off % 4 = 0) &&
     decide (s.gate a off 4 false = Gate.ok)),
    (let s : Machine.State := base
     let a : Authority := .host
     decide (a = Authority.host ∨ a = Authority.tray ∨ a = Authority.debug) &&
     decide (s.inService = true) &&
     decide (s.gate a offCoreMap 4 false = Gate.ok)),
    (let s : Machine.State := base
     let a : Authority := .host
     decide (a = Authority.host ∨ a = Authority.tray ∨ a = Authority.debug) &&
     decide (s.inService = true) &&
     decide (s.gate a (offCoreMap + 4) 4 false = Gate.ok) &&
     decide (s.latchHi = none)),
    (let s : Machine.State := base
     let a : Authority := .host
     let off : Nat := 0x3F_0000
     let len : Nat := 4
     decide (a = Authority.host ∨ a = Authority.tray ∨ a = Authority.debug) &&
     decide (off < 4194304) &&
     decide (s.boot.fltUp = true) &&
     decide (len = 4 ∨ len = 8) &&
     decide (off ≠ pgCAL * 4096 + 64) &&
     decide (s.gate a off len true = Gate.unmapped) &&
     decide (s.on HOSTIF.BAD_LOG_VALID = false))] = true := by decide +kernel

set_option maxRecDepth 100000 in
theorem test_meets_RegisterAccesses_2 : List.and [
    (let s : Machine.State := base
     let a : Authority := .tray
     let off : Nat := 0x104050
     let len : Nat := 8
     decide (a = Authority.host ∨ a = Authority.tray ∨ a = Authority.debug) &&
     decide (off < 4194304) &&
     decide (s.boot.fltUp = true) &&
     decide (len = 4 ∨ len = 8) &&
     decide (off ≠ pgCAL * 4096 + 64) &&
     decide (s.gate a off len true = Gate.denied) &&
     decide (s.on HOSTIF.BAD_LOG_VALID = false)),
    (let s : Machine.State := base
     let a : Authority := .host
     let off : Nat := 4
     let len : Nat := 8
     decide (a = Authority.host ∨ a = Authority.tray ∨ a = Authority.debug) &&
     decide (off < 4194304) &&
     decide (s.boot.fltUp = true) &&
     decide (len = 4 ∨ len = 8) &&
     decide (off ≠ pgCAL * 4096 + 64) &&
     decide (s.gate a off len true = Gate.shape) &&
     decide (s.on HOSTIF.BAD_LOG_VALID = false)),
    (let s : Machine.State := base
     let a : Authority := .host
     let off : Nat := 4
     let len : Nat := 4
     decide (a = Authority.host ∨ a = Authority.tray ∨ a = Authority.debug) &&
     decide (off < 4194304) &&
     decide (s.boot.fltUp = true) &&
     decide (len = 4 ∨ len = 8) &&
     decide (off ≠ pgCAL * 4096 + 64) &&
     decide (s.answers a off true = true) &&
     decide ((pageRows (off / 4096)).isSome = true) &&
     decide (s.on HOSTIF.BAD_LOG_VALID = false)),
    (let s : Machine.State := base
     let a : Authority := .host
     let off : Nat := 4
     let len : Nat := 4
     decide (a = Authority.host ∨ a = Authority.tray ∨ a = Authority.debug) &&
     decide (off < 4194304) &&
     decide (s.boot.fltUp = true) &&
     decide (len = 4 ∨ len = 8) &&
     decide (off ≠ pgCAL * 4096 + 64) &&
     decide (s.gate a off len true ∈ [Gate.silent, Gate.unfused, Gate.resetting, Gate.reserved])),
    (let s : Machine.State := base
     let a : Authority := .host
     let off : Nat := 0x3F_0000
     let len : Nat := 4
     decide (a = Authority.host ∨ a = Authority.tray ∨ a = Authority.debug) &&
     decide (off < 4194304) &&
     decide (s.boot.fltUp = true) &&
     decide (goodShape off len = true) &&
     decide (s.gate a off len false = Gate.unmapped) &&
     decide (s.on HOSTIF.BAD_LOG_VALID = false)),
    (let s : Machine.State := base
     let a : Authority := .tray
     let off : Nat := 0x5040
     let len : Nat := 4
     decide (a = Authority.host ∨ a = Authority.tray ∨ a = Authority.debug) &&
     decide (off < 4194304) &&
     decide (s.boot.fltUp = true) &&
     decide (goodShape off len = true) &&
     decide (s.gate a off len false = Gate.denied) &&
     decide (s.on HOSTIF.BAD_LOG_VALID = false)),
    (let s : Machine.State := { atStage 2 false with boot := {(atStage 2 false).boot with fltUp := true} }
     let a : Authority := .host
     let off : Nat := 0x5040
     let len : Nat := 4
     decide (a = Authority.host ∨ a = Authority.tray ∨ a = Authority.debug) &&
     decide (off < 4194304) &&
     decide (s.boot.fltUp = true) &&
     decide (goodShape off len = true) &&
     decide (s.gate a off len false ∈ [Gate.early, Gate.silent, Gate.resetting])),
    (let s : Machine.State := set base [(CHIP.CORE_MAP_FUSED,0,0,0x7FFE)]
     let a : Authority := .host
     let off : Nat := 0x104050
     let len : Nat := 4
     decide (a = Authority.host ∨ a = Authority.tray ∨ a = Authority.debug) &&
     decide (off < 4194304) &&
     decide (s.boot.fltUp = true) &&
     decide (goodShape off len = true) &&
     decide (s.gate a off len false ∈ [Gate.unfused, Gate.reserved]))] = true := by decide +kernel

set_option maxRecDepth 100000 in
theorem test_meets_RestoreAndRegisters : List.and [
    (let s : Machine.State := sealedHome
     let x : Nat := 5
     let qn : Nat := 63
     (s.startOf x qn 25).any fun k =>
     decide (s.firnServes = true) &&
     decide (s.firnIdle = true) &&
     decide ({ ctx := x, queue := qn, ssn := k.ssn, step := bits (k.at 16) 31 0, source := bits (k.at 16) 33 32, hostFb := bit (k.at 16) 40, member := bits (k.at 24) 11 0, holder := bits (k.at 24) 43 32, hostAddr := k.at 32 : Restore }.source < 2) &&
     decide ((memoryClear s)) &&
     (s.restoreManifest { ctx := x, queue := qn, ssn := k.ssn, step := bits (k.at 16) 31 0, source := bits (k.at 16) 33 32, hostFb := bit (k.at 16) 40, member := bits (k.at 24) 11 0, holder := bits (k.at 24) 43 32, hostAddr := k.at 32 : Restore } []).any fun m =>
     decide (s.restoreFits x m.2.1 = true)),
    (let s : Machine.State := withHome 0 (holds 0x19 0 [3] .fetched)
     let x : Nat := 5
     let qn : Nat := 63
     (s.startOf x qn 25).any fun k =>
     decide (s.firnServes = true) &&
     decide (s.firnIdle = true) &&
     decide ({ ctx := x, queue := qn, ssn := k.ssn, step := bits (k.at 16) 31 0, source := bits (k.at 16) 33 32, hostFb := bit (k.at 16) 40, member := bits (k.at 24) 11 0, holder := bits (k.at 24) 43 32, hostAddr := k.at 32 : Restore }.source < 2) &&
     decide ((memoryClear s)) &&
     decide (s.restoreManifest { ctx := x, queue := qn, ssn := k.ssn, step := bits (k.at 16) 31 0, source := bits (k.at 16) 33 32, hostFb := bit (k.at 16) 40, member := bits (k.at 24) 11 0, holder := bits (k.at 24) 43 32, hostAddr := k.at 32 : Restore } [] = none)),
    (let s : Machine.State := restoring
     (s.firn.restore).any fun r =>
     let sent : List Byte := []
     (s.restoreManifest r sent).any fun c =>
     (c.1).any fun a =>
     decide (s.firnServes = true) &&
     decide (s.firnPaused r.ctx = false) &&
     decide ((memoryClear s)) &&
     decide (c.2.2 = []) &&
     decide (s.restoreFits r.ctx c.2.1 = true) &&
     decide (c.2.1.entries.length = 1) &&
     decide ((entryOf (c.2.1.entries.getD 0 [])).ref = none) &&
     decide (sha256 (s.bytes (a + (entryOf (c.2.1.entries.getD 0 [])).off) (entryOf (c.2.1.entries.getD 0 [])).stored) = (entryOf (c.2.1.entries.getD 0 [])).digest)),
    (let s : Machine.State := withHome 0 (holds 0x18 0 [0x6000] .fetched)
     let a : Authority := .host
     let v : Nat := 0
     decide (lets s a (offFirn 88) 4 FIRN.HOME_VALID) &&
     decide (s.firnIdle = true) &&
     decide (v < 2 ^ 32)),
    (let s : Machine.State := withHome 0 (holds 0x18 0 [0x6000] .fetched)
     let a : Authority := .host
     let v : Nat := 0
     decide (lets s a (offFirn 92) 4 FIRN.HOME_VALID) &&
     decide (s.firnIdle = true) &&
     decide (v < 2 ^ 32) &&
     decide (bit v 31 = true → s.areaOk 16 (bits v 25 24) (bits v 23 16) (bits v 7 0) = true)),
    (let s : Machine.State := withHome 0 (holds 0x18 0 [0x6000] .fetched)
     let a : Authority := .host
     let v : Nat := 0x8000_2004
     decide (lets s a (offFirn 100) 4 FIRN.HOME_VALID) &&
     decide (s.firnIdle = true) &&
     decide (v < 2 ^ 32) &&
     decide (bit v 31 = true) &&
     decide (s.areaOk (s.rd FIRN.HOLD_IDX_IDX) (bits v 29 28) (bits v 27 20) (bits v 19 12) = true) &&
     let j : Nat := 3
     decide (j ≠ s.rd FIRN.HOLD_IDX_IDX)),
    (let s : Machine.State := withHome 0 (holds 0x18 0 [0x6000] .fetched)
     let a : Authority := .host
     let v : Nat := 0
     decide (lets s a (offFirn 116) 4 FIRN.CTX_IMG_IMG_OFF) &&
     decide (v < 2 ^ 32) &&
     decide ((s.ctx (s.rd FIRN.CTX_SEL_CTX)).state ≠ CtxState.frozen) &&
     let y : Nat := 3
     decide (y ≠ s.rd FIRN.CTX_SEL_CTX))] = true := by decide +kernel

set_option maxRecDepth 100000 in
theorem test_meets_DispatchPlaceLaunchComplete : List.and [
    (let s : Machine.State := { queued [cmd 1 0 [0x7000] .running] base with waiting := [disp1] }
     let n : Nat := 9
     (List.find? (fun (e : Dispatch) => decide (e.id = n)) s.waiting).any fun d =>
     decide (s.ctxIssues d.ctx d.gen = true) &&
     (s.leastLoaded (List.filter (fun (e : Nat) => !s.inSlice e && (s.takesWork (pgFE e) && !s.fencePending e)) (s.soloCores d.ctx (s.liveAffinity d.ctx)))).any fun c =>
     decide (s.liveAffinity d.ctx ≠ []) &&
     decide (s.kdReason d.ctx c d.raw = 0)),
    (let s : Machine.State := (queued [cmd 1 0 [0x7000] .running] base).setCore 15 { disps := [disp1] }
     let c : Nat := 15
     let d : Dispatch := disp1
     decide (s.coreIssues c = true) &&
     decide (List.filter (fun (e : Dispatch) => (s.core c).launchable e && s.ctxIssues e.ctx e.gen) (s.core c).disps = [d]) &&
     ((s.core c).freeRun d.kernel.width).any fun _ =>
     ((s.core c).freePlace).any fun _ =>
     let e : Nat := 0
     decide (e ≠ c)),
    (let s : Machine.State := (queued [cmd 1 0 [0x7000] .running] base).setCore 15 { disps := [disp1] }
     let c : Nat := 15
     let d : Dispatch := disp1
     decide (s.coreIssues c = true) &&
     decide (List.filter (fun (e : Dispatch) => (s.core c).launchable e && s.ctxIssues e.ctx e.gen) (s.core c).disps = [d]) &&
     ((s.core c).freeRun d.kernel.width).any fun _ =>
     ((s.core c).freePlace).any fun p =>
     let q : Nat := 5
     decide (q ≠ p)),
    (let s : Machine.State := (queued [cmd 1 0 [0x7000] .running] base).setCore 15 { disps := [disp1] }
     let c : Nat := 15
     let d : Dispatch := disp1
     decide (s.coreIssues c = true) &&
     decide (List.filter (fun (e : Dispatch) => (s.core c).launchable e && s.ctxIssues e.ctx e.gen) (s.core c).disps = [d]) &&
     ((s.core c).freeRun d.kernel.width).any fun _ =>
     ((s.core c).freePlace).any fun _ =>
     let l : Nat := 0
     let r : Nat := 0
     decide (l < d.kernel.width) &&
     decide (r < 64)),
    (let s : Machine.State := (queued [cmd 1 0 [0x7000] .running] base).setCore 15 { disps := [{disp1 with launched := 1, ended := 1}] }
     let c : Nat := 15
     let n : Nat := 9
     ((s.core c).disp n).any fun d =>
     decide (d.fault = none) &&
     decide (d.launched = d.kernel.groups) &&
     decide (d.ended = d.kernel.groups) &&
     decide ((s.core c).hasPass d.id = false) &&
     decide (s.remoteWrites d.id = 0) &&
     decide (s.ctxIssues d.ctx d.gen = true))] = true := by decide +kernel

set_option maxRecDepth 100000 in
theorem test_meets_BarrierEndsOrAborts_1 : List.and [
    (let s : Machine.State := barrierFlit 0x20 1 0 [] 0 (tree (routed base))
     ((s.takeFlit clORDERED fun (e : DataFlit) => decide (e.op = 32))).any fun (p, f, u) =>
     decide (p ∈ u.childPorts) &&
     decide (f.be % 2 ^ 32 = u.nextBgen) &&
     decide (u.barrier.arrived = true ∨ u.barrier.cmds.length < u.rd BARRIER.BAR_TREE_LOCAL)),
    (let s : Machine.State := barrierFlit 0x20 5 0 [] 3 (tree (routed base))
     ((s.takeFlit clORDERED fun (e : DataFlit) => decide (e.op = 32))).any fun (p, f, u) =>
     decide (p ∈ u.childPorts) &&
     decide (before32 u.nextBgen (f.be % 2 ^ 32) = true)),
    (let s : Machine.State := barrierFlit 0x21 1 (2^31 + 1000) [9#8,0#8,0#8,0#8,1#8] 15 (set (atBarrier base) [(BARRIER.BAR_TREE_CHILD,0,0,0), (BARRIER.BAR_STAT_RATE_VALID,0,0,1), (NL.NL_DELAY_VALID,15,0,1), (NL.NL_DELAY_ONE_WAY,15,0,30)])
     ((s.takeFlit clORDERED fun (e : DataFlit) => decide (e.op = 33))).any fun (p, f, u) =>
     decide (f.be % 2 ^ 32 = u.nextBgen) &&
     decide (u.isParentPort p = true) &&
     decide (u.childPorts = []) &&
     decide (0 < u.ownRemain (Int.ofNat (f.aux % 2 ^ 31)) p)),
    (let s : Machine.State := (let s := atBarrier base; {s.wr BARRIER.BAR_STAT_STATE 3 with barrier := {s.barrier with carried := some (0xFFFF_FFFF, true, true), early := [(2, 3), (3, 0)]}})
     (s.barrier.carried).any fun (step, _, _) =>
     decide (s.barState = barCOUNTDOWN) &&
     decide (s.barrier.remain ≤ 0) &&
     decide (s.ftime < 2 ^ 64) &&
     decide (s.barrier.hops < 16) &&
     decide (step < 2 ^ 32)),
    (let s : Machine.State := barrierFlit 0x22 1 0 [] 0 (atBarrier base)
     ((s.takeFlit clORDERED fun (e : DataFlit) => decide (e.op = 34))).any fun (_, f, u) =>
     decide (u.boot.fltUp = true) &&
     decide (f.be % 2 ^ 32 = u.nextBgen)),
    (let s : Machine.State := { tree (routed base) with ftime := 2 ^ 40, barrier := { since := some 5 } }
     decide (s.boot.fltUp = true) &&
     (s.barrier.since).any fun t0 =>
     decide (t0 + max 1 (s.rd BARRIER.BAR_TMO_MS) * 100000 ≤ s.ftime)),
    (let s : Machine.State := member 0 0 0 .fetched
     let a : Authority := .host
     let v : Nat := 5
     decide (lets s a (offBarrier 80) 4 BARRIER.STEP_STEP) &&
     decide (s.barState = barIDLE) &&
     decide (v < 2 ^ 32)),
    (let s : Machine.State := member 0 0 0 .fetched
     let a : Authority := .host
     let v : Nat := 63
     decide (lets s a (offBarrier 64) 4 BARRIER.BAR_TREE_CHILD) &&
     decide (s.barState = barIDLE) &&
     decide (v < 2 ^ 32) &&
     decide (s.isRoot = bit v 8 ∧ s.rd BARRIER.BAR_TREE_PARENT = bits v 3 0))] = true := by decide +kernel

set_option maxRecDepth 100000 in
theorem test_meets_BarrierEndsOrAborts_2 : List.and [
    (let s : Machine.State := member 0 0 0 .fetched
     let a : Authority := .host
     let v : Nat := 5
     decide (lets s a (offBarrier 64) 4 BARRIER.BAR_TREE_CHILD) &&
     decide (s.barState = barIDLE) &&
     decide (v < 2 ^ 32) &&
     decide (¬(s.isRoot = bit v 8 ∧ s.rd BARRIER.BAR_TREE_PARENT = bits v 3 0)))] = true := by decide +kernel

set_option maxRecDepth 100000 in
theorem test_meets_HolderReceives : List.and [
    (let s : Machine.State := withHome 0 (holds 0x18 0 [0x6000] .fetched)
     let src : Nat := 4
     (s.heldArea src).any fun a =>
     let size : Nat := 2 ^ 40
     decide (s.firnServes = true) &&
     decide ((memoryClear s)) &&
     decide (a.slot < size)),
    (let s : Machine.State := withHome 0 (holds 0x18 0 [0x6000] .fetched)
     let src : Nat := 4
     (s.heldArea src).any fun a =>
     let size : Nat := 0
     decide (s.firnServes = true) &&
     decide ((memoryClear s)) &&
     decide (size ≤ a.slot) &&
     let j : Nat := 0
     decide (j < 4)),
    (let s : Machine.State := holdsCopy
     let src : Nat := 4
     (s.heldArea src).any fun a =>
     (List.find? (fun (h : Held) => decide (h.member = src)) s.firn.helds).any fun h =>
     let off : Nat := 0
     let data : List Byte := []
     decide (s.firnServes = true) &&
     decide (off + data.length ≤ a.slot) &&
     decide (h.manifest = none) &&
     decide ((memoryClear s))),
    (let s : Machine.State := holdsCopy
     let src : Nat := 4
     (s.heldArea src).any fun a =>
     (List.find? (fun (h : Held) => decide (h.member = src)) s.firn.helds).any fun h =>
     let data : List Byte := []
     decide (s.firnServes = true) &&
     decide (data.length ≤ a.slot) &&
     decide ((memoryClear s)) &&
     decide (∀ i < leAt data 20 4,   have e := entryOf (List.take 128 (List.drop (128 * (1 + i)) data));   e.ref.isSome = true ∨ Option.map (fun (x : Nat × List Byte) => x.2) (List.find? (fun (d : Nat × List Byte) => decide (d.1 = i)) h.digests) = some e.digest)),
    (let s : Machine.State := ckpting (ckRun 2 [ckEntry] []) 2
     (s.firn.ckpt).any fun k =>
     let src : Nat := 4
     decide (ckBuddy k.desc = true) &&
     decide (s.rd FIRN.BUDDY_PART = src)),
    (let s : Machine.State := ckpting (ckRun 0 [] [ckDone]) 0
     (s.firn.ckpt).any fun k =>
     let entry : Nat := 0
     (k.entries[entry]?).any fun e =>
     let src : Nat := 4
     decide (e.ref = none) &&
     decide (s.firnServes = true) &&
     decide (s.on FIRN.BUDDY_VALID = true) &&
     decide (s.rd FIRN.BUDDY_PART = src) &&
     decide ((memoryClear s))),
    (let s : Machine.State := sealedHome
     let member : Nat := 0
     (if member = s.ownPart then s.homeArea else s.heldArea member).any fun area =>
     let step : Nat := 3
     (s.copyOf area step).any fun c =>
     let region : Nat := 0
     let shard : Nat := 0
     (List.find? (fun (e : CkptEntry) => decide (e.region = region) && decide (e.shard = shard) && e.ref.isNone) (List.map entryOf c.2.1.entries)).any fun _ =>
     decide (s.firnServes = true) &&
     decide ((memoryClear s)))] = true := by decide +kernel

set_option maxRecDepth 100000 in
theorem test_meets_PassesAndVerdicts_1 : List.and [
    (let s : Machine.State := withUnit (pass intLayer1).exact {pending := some (pass intLayer1)}
     let c : Nat := 15
     let exact : Bool := false
     decide (c < 16) &&
     (((s.core c).unit exact).pending).any fun p =>
     decide (p.exact = exact) &&
     decide (s.passStarts c p = true) &&
     decide (s.ctxIssues p.ctx p.gen = true) &&
     let e : Nat := 3
     decide (e ≠ c)),
    (let s : Machine.State := withUnit (pass intLayer1).exact {running := some (pass intLayer1)}
     let c : Nat := 15
     let exact : Bool := false
     decide (c < 16) &&
     (((s.core c).unit exact).running).any fun p =>
     decide (((s.core c).unit exact).readout = none) &&
     decide ((memoryClear s)) &&
     ((s.readOperands p).2).any fun _ =>
     decide ((ldShadowOk p.desc && s.on SERAC.SRC_CTL_SHADOW_EN && !s.compFenced) = false) &&
     let e : Nat := 3
     decide (e ≠ c)),
    (let s : Machine.State := withUnit (pass intLayer1).exact {running := some (pass intLayer1)}
     let c : Nat := 15
     let exact : Bool := false
     decide (c < 16) &&
     (((s.core c).unit exact).running).any fun p =>
     decide (((s.core c).unit exact).readout = none) &&
     decide ((memoryClear s)) &&
     ((s.readOperands p).2).any fun _ =>
     decide ((ldShadowOk p.desc && s.on SERAC.SRC_CTL_SHADOW_EN && !s.compFenced) = false) &&
     decide (exact = false)),
    (let s : Machine.State := withUnit (pass intLayer1).exact {readout := some (pass intLayer1), accs := {data := [5, -3, 1000, 2, 7, 9], colLane := [2,3,4], rowLane := [1,1], corner := 3}}
     let c : Nat := 15
     let exact : Bool := false
     decide (c < 16) &&
     (((s.core c).unit exact).readout).any fun _ =>
     decide ((memoryClear s)) &&
     let e : Nat := 3
     decide (e ≠ c)),
    (let s : Machine.State := withUnit (pass intLayer1).exact {readout := some (pass intLayer1), accs := {data := [5, -3, 1000, 2, 7, 9], colLane := [2,3,4], rowLane := [1,1], corner := 3}}
     let c : Nat := 15
     let exact : Bool := false
     decide (c < 16) &&
     (((s.core c).unit exact).readout).any fun p =>
     decide ((memoryClear s)) &&
     ((s.core c).group p.place).any fun g =>
     decide (g.disp = p.disp) &&
     decide (g.index = p.group)),
    (let s : Machine.State := withUnit (pass intLayer1).exact {readout := some (pass intLayer1), accs := {data := [5, -3, 1000, 2, 7, 9], colLane := [2,3,4], rowLane := [1,1], corner := 3}}
     let c : Nat := 15
     let exact : Bool := false
     decide (c < 16) &&
     (((s.core c).unit exact).readout).any fun p =>
     decide ((memoryClear s)) &&
     ((s.core c).disp p.disp).any fun _ =>
     true),
    (let s : Machine.State := withUnit (pass intLayer1).exact {readout := some (pass intLayer1), accs := {data := [5, -3, 1000, 2, 7, 9], colLane := [2,3,4], rowLane := [1,1], corner := 3}}
     let c : Nat := 15
     let exact : Bool := false
     decide (c < 16) &&
     (((s.core c).unit exact).readout).any fun p =>
     decide ((memoryClear s)) &&
     let j : Nat := 15
     decide (∀ r < ldM p.desc, j < p.out + r * p.pitch ∨ (p.out + r * p.pitch + if ldWbOp p.desc = 1 then ldN p.desc * (outBits p.desc / 8) else rowBytes p.desc) ≤ j)),
    (let s : Machine.State := withUnit (pass intLayer1).exact {readout := some (pass intLayer1), accs := {data := [5, -3, 1000, 2, 7, 9], colLane := [2,3,4], rowLane := [1,1], corner := 3}}
     let c : Nat := 15
     let exact : Bool := false
     decide (c < 16) &&
     (((s.core c).unit exact).readout).any fun p =>
     decide ((memoryClear s)) &&
     decide (ldWbOp p.desc ≠ 1) &&
     decide (rowBytes p.desc ≤ p.pitch) &&
     let r : Nat := 0
     decide (r < ldM p.desc))] = true := by decide +kernel

set_option maxRecDepth 100000 in
theorem test_meets_PassesAndVerdicts_2 : List.and [
    (let s : Machine.State := withUnit false {verdict := [disagree]}
     let c : Nat := 15
     (match (s.core c).dsa.verdict with
     | [] => false
     | d :: _ =>
     decide (c < 16) &&
     decide (s.boot.fltUp = true) &&
     decide (d.cols ≠ [] ∨ d.rows ≠ [] ∨ d.corner.isSome = true) &&
     let e : Nat := 3
     decide (e ≠ c)))] = true := by decide +kernel

set_option maxRecDepth 100000 in
theorem test_meets_CollectiveRuns_1 : List.and [
    (let s : Machine.State := collIn 0x10 0 1 (inColl 0 0 id)
     ((s.takeFlit clORDERED fun (e : DataFlit) => decide (e.op = 16) && decide (e.aux % 2 = 0))).any fun (_, f, u) =>
     (u.coll f.ctx (f.be % 2 ^ 32)).any fun c =>
     decide (c.kids.all (f.be / 2 ^ 32 :: c.joined).contains = false)),
    (let s : Machine.State := collIn 0x10 1 0 (inColl 2 1 id)
     ((s.takeFlit clORDERED fun (e : DataFlit) => decide (e.op = 16) && decide (e.aux % 2 = 1) && s.collReadyFor e)).any fun (_, f, u) =>
     (u.coll f.ctx (f.be % 2 ^ 32)).any fun c =>
     decide (c.phase = CollPhase.join) &&
     decide (c.parent = some (f.be / 2 ^ 32)) &&
     decide (c.upDone = false ∨ c.op = 1 ∧ c.kids = [] ∧ u.collBarred c = false)),
    (let s : Machine.State := arrived 15 { cls := clBULK, op := 0x12, dst := 0, ctx := 5, be := 0xFFFF_FFFF, addr := 0, len := 32, body := [1#8,2#8] ++ zeros 30 } (inColl 1 1 (fun c => {c with phase := .read}))
     ((s.takeFlit clBULK fun (e : DataFlit) => decide (e.op = 18) && decide (e.aux % 2 = 0) && s.collReadyFor e)).any fun (_, f, u) =>
     (u.coll f.ctx (f.be % 2 ^ 32)).any fun c =>
     decide (c.phase = CollPhase.read) &&
     decide (c.parent = some (f.be / 2 ^ 32)) &&
     decide (c.got + f.len < c.outLen) &&
     decide ((memoryClear u))),
    (let s : Machine.State := collIn 0x13 0 1 (inColl 0 0 (fun c => {c with phase := .read}))
     ((s.takeFlit clORDERED fun (e : DataFlit) => decide (e.op = 19) && decide (e.aux % 2 = 0) && s.collReadyFor e)).any fun (_, f, u) =>
     (u.coll f.ctx (f.be % 2 ^ 32)).any fun c =>
     decide (c.phase ≠ CollPhase.read ∨ c.whole = false ∨ c.kids.all (f.be / 2 ^ 32 :: c.readies).contains = false)),
    (let s : Machine.State := collIn 0x14 0 0 ((inColl 1 0 (fun c => {c with phase := .ready})).store (sliceBase 15) [3#8, 4#8])
     ((s.takeFlit clORDERED fun (e : DataFlit) => decide (e.op = 20) && decide (e.aux % 2 = 0) && s.collReadyFor e)).any fun (_, f, u) =>
     (u.coll f.ctx (f.be % 2 ^ 32)).any fun c =>
     (c.parent).any fun _ =>
     decide (c.phase = CollPhase.ready) &&
     decide (c.kids = []) &&
     decide (u.collBarred c = false) &&
     decide ((memoryClear u))),
    (let s : Machine.State := collIn 0x15 0 2 (inColl 0 0 (fun c => {c with phase := .done}))
     ((s.takeFlit clORDERED fun (e : DataFlit) => decide (e.op = 21) && decide (e.aux % 2 = 0) && s.collReadyFor e)).any fun (_, f, u) =>
     (u.coll f.ctx (f.be % 2 ^ 32)).any fun c =>
     decide (c.phase ≠ CollPhase.done ∨ c.kids.all (f.be / 2 ^ 32 :: c.dones).contains = false)),
    (let s : Machine.State := collIn 0x15 1 0 (inColl 1 0 (fun c => {c with phase := .done}))
     ((s.takeFlit clORDERED fun (e : DataFlit) => decide (e.op = 21) && decide (e.aux % 2 = 1) && s.collReadyFor e)).any fun (_, f, u) =>
     (u.coll f.ctx (f.be % 2 ^ 32)).any fun c =>
     decide (c.phase = CollPhase.done)),
    (let s : Machine.State := collIn 0x16 0 1 (inColl 0 0 id)
     ((s.takeFlit clORDERED fun (e : DataFlit) => decide (e.op = 22) && decide (e.aux % 2 = 0) && s.collReadyFor e)).any fun (_, f, u) =>
     (u.coll f.ctx (f.be % 2 ^ 32)).any fun c =>
     decide (u.boot.fltUp = true) &&
     decide (c.phase ≠ CollPhase.commit))] = true := by decide +kernel

set_option maxRecDepth 100000 in
theorem test_meets_CollectiveRuns_2 : List.and [
    (let s : Machine.State := { inColl 0 0 id with ftime := 2 ^ 40 }
     let x : Nat := 5
     let g : Nat := 0xFFFF_FFFF
     (s.coll x g).any fun c =>
     decide (s.boot.fltUp = true) &&
     decide (c.phase ≠ CollPhase.commit) &&
     decide (c.started + max 1 (s.rd FABRIC.COLL_TMO_MS) * 100000 ≤ s.ftime))] = true := by decide +kernel

set_option maxRecDepth 100000 in
theorem test_meets_PassesWaitsAndSignals : List.and [
    (let z : Machine.State := passThr 0x77 intLayer
     let c : Nat := 15
     let p : Nat := 127
     (z.issuePoint c p).any fun i =>
     let exact : Bool := false
     (i.d.kernel.storeBase c exact).any fun _ =>
     decide (i.inRange = true) &&
     decide (i.got = true) &&
     ((z.fetched i).descOff i.g.ctx (i.recPair 0)).any fun o =>
     let d : List Byte := intLayer
     decide (insXA i.word ≤ 56) &&
     decide ((((z.fetched i).core c).unit exact).pending = none) &&
     decide (SMap.find i.d.descs (i.recPair 0) = some d ∨ SMap.find i.d.descs (i.recPair 0) = none ∧ (memoryClear (z.fetched i)) ∧ d = (z.fetched i).bytes o 64) &&
     decide (ldReason d = 0) &&
     decide (ldV d = true → i.d.kernel.vAllow = true) &&
     decide (decide (ldMode d = mEXACT) = exact) &&
     decide (bits (i.record 7) 7 1 = 0) &&
     decide (i.record 7 / 256 % 64 = 0) &&
     decide ((z.fetched i).rowsIn i.g.ctx (i.recPair 2) (ldM d) (i.record 7 / 256) (rowBytes d) = true) &&
     decide (ldAccIn d = true → (z.fetched i).rowsIn i.g.ctx (i.recPair 4) (ldM d) (partialPitch d) (ldN d * partialBytes d) = true) &&
     decide (insOp i.word = 119) &&
     decide (exact = false) &&
     let c' : Nat := 0
     decide (c' ≠ c)),
    (let z : Machine.State := passThr 0x78 exactLayer
     let c : Nat := 15
     let p : Nat := 127
     (z.issuePoint c p).any fun i =>
     let exact : Bool := true
     (i.d.kernel.storeBase c exact).any fun _ =>
     decide (i.inRange = true) &&
     decide (i.got = true) &&
     ((z.fetched i).descOff i.g.ctx (i.recPair 0)).any fun o =>
     let d : List Byte := exactLayer
     decide (insXA i.word ≤ 56) &&
     decide ((((z.fetched i).core c).unit exact).pending = none) &&
     decide (SMap.find i.d.descs (i.recPair 0) = some d ∨ SMap.find i.d.descs (i.recPair 0) = none ∧ (memoryClear (z.fetched i)) ∧ d = (z.fetched i).bytes o 64) &&
     decide (ldReason d = 0) &&
     decide (ldV d = true → i.d.kernel.vAllow = true) &&
     decide (decide (ldMode d = mEXACT) = exact) &&
     decide (bits (i.record 7) 7 1 = 0) &&
     decide (i.record 7 / 256 % 64 = 0) &&
     decide ((z.fetched i).rowsIn i.g.ctx (i.recPair 2) (ldM d) (i.record 7 / 256) (rowBytes d) = true) &&
     decide (ldAccIn d = true → (z.fetched i).rowsIn i.g.ctx (i.recPair 4) (ldM d) (partialPitch d) (ldN d * partialBytes d) = true) &&
     decide (insOp i.word = 120) &&
     decide (exact = true) &&
     let c' : Nat := 0
     decide (c' ≠ c)),
    (let z : Machine.State := thr (ins 0x79 0 0 0 0 0) []
     let c : Nat := 15
     let p : Nat := 127
     (z.issuePoint c p).any fun i =>
     decide (i.inRange = true) &&
     decide (i.got = true) &&
     decide (insOp i.word = 121) &&
     decide (i.g.passes = 0)),
    (let z : Machine.State := onGroup (thr (ins 0x79 0 0 0 0 0) []) (fun g => {g with passes := 1})
     let c : Nat := 15
     let p : Nat := 127
     (z.issuePoint c p).any fun i =>
     decide (i.inRange = true) &&
     decide (i.got = true) &&
     decide (insOp i.word = 121) &&
     decide (i.g.passes ≠ 0)),
    (let z : Machine.State := thr (ins 0x7F 0 0 0 0 0) []
     let c : Nat := 15
     let p : Nat := 127
     (z.issuePoint c p).any fun i =>
     decide (i.inRange = true) &&
     decide (i.got = true) &&
     decide (insOp i.word = 127) &&
     decide ((z.fetched i).groupWrites i.g.disp i.g.index = 0)),
    (let z : Machine.State := thr (ins 0x7A 0 1 2 0 0) someRegs
     let c : Nat := 15
     let p : Nat := 127
     (z.issuePoint c p).any fun i =>
     decide (i.inRange = true) &&
     decide (i.got = true) &&
     decide (insOp i.word = 122) &&
     decide ((z.fetched i).groupWrites i.g.disp i.g.index = 0) &&
     let x : Nat := 0
     decide (x ≠ i.g.ctx)),
    (let z : Machine.State := thr (ins 0x7B 0 1 62 0 0) someRegs
     let c : Nat := 15
     let p : Nat := 127
     (z.issuePoint c p).any fun i =>
     decide (i.inRange = true) &&
     decide (i.got = true) &&
     decide (insOp i.word = 123) &&
     decide (insXB i.word < 63) &&
     decide (i.g.pair i.lane (insXB i.word) ≤ ((z.fetched i).ctx i.g.ctx).syncVal (BitVec.toNat (i.g.reg i.lane (insXA i.word)) % 16))),
    (let z : Machine.State := thr (ins 0x7B 0 1 2 0 0) someRegs
     let c : Nat := 15
     let p : Nat := 127
     (z.issuePoint c p).any fun i =>
     decide (i.inRange = true) &&
     decide (i.got = true) &&
     decide (insOp i.word = 123) &&
     decide (insXB i.word < 63) &&
     decide (((z.fetched i).ctx i.g.ctx).syncVal (BitVec.toNat (i.g.reg i.lane (insXA i.word)) % 16) < i.g.pair i.lane (insXB i.word)) &&
     (i.lanes).any fun _ =>
     true)] = true := by decide +kernel

set_option maxRecDepth 100000 in
theorem test_meets_PortsNegotiate_1 : List.and [
    (let s : Machine.State := port 15 0 id base
     let p : Nat := 15
     let lanes : Nat := 15
     decide (p < 16) &&
     decide (s.boot.fltUp = true) &&
     decide (s.nlEnabled p = true) &&
     decide (lanes % 16 ≠ 0) &&
     decide (s.nlState p ∈ [nlOFF, nlDETECT, nlHOLD])),
    (let s : Machine.State := port 15 0xA id base
     let p : Nat := 15
     let lanes : Nat := 15
     decide (p < 16) &&
     decide (s.boot.fltUp = true) &&
     decide (s.nlEnabled p = true) &&
     decide (lanes % 16 ≠ 0) &&
     decide (s.nlState p = nlFAILED)),
    (let s : Machine.State := port 15 8 id base
     let p : Nat := 15
     let lanes : Nat := 15
     decide (p < 16) &&
     decide (s.boot.fltUp = true) &&
     decide (s.nlEnabled p = true) &&
     decide (lanes % 16 ≠ 0) &&
     decide (s.nlState p = nlFOREIGN)),
    (let s : Machine.State := port 15 2 id base
     let p : Nat := 15
     let f : Flit := flit tCTRL 0 (recCAP 5 15 0)
     decide (p < 16) &&
     decide (s.boot.fltUp = true) &&
     (ctrlOf f 1).any fun d =>
     decide (s.nlState p = nlNEGOTIATE) &&
     (bestMode ((s.port p).cfg.rates.land (bits (leAt d 1 1) 2 0)) ((s.usableLanes p).land (bits (leAt d 1 1) 6 3))).any fun _ =>
     true),
    (let s : Machine.State := port 15 2 id base
     let p : Nat := 15
     let f : Flit := flit tCTRL 0 (recCAP 4 0 1)
     decide (p < 16) &&
     decide (s.boot.fltUp = true) &&
     (ctrlOf f 1).any fun d =>
     decide (s.nlState p = nlNEGOTIATE) &&
     decide (bestMode ((s.port p).cfg.rates.land (bits (leAt d 1 1) 2 0)) ((s.usableLanes p).land (bits (leAt d 1 1) 6 3)) = none) &&
     decide ((s.port p).negFailAt = none)),
    (let s : Machine.State := port 15 3 id base
     let p : Nat := 15
     let lanes : Nat := 15
     decide (p < 16) &&
     decide (s.boot.fltUp = true) &&
     decide (s.nlState p = nlTRAIN) &&
     decide (∀ l ∈ List.range 4, bit (s.rd NL.NL_STAT_LANES_USED p) l = true → bit lanes l = true) &&
     decide (s.on FABRIC.FAB_ID_VALID = true) &&
     decide ((s.port p).keptIdent = none)),
    (let s : Machine.State := port 15 3 id base
     let p : Nat := 15
     let lanes : Nat := 3
     decide (p < 16) &&
     decide (s.boot.fltUp = true) &&
     decide (s.nlState p = nlTRAIN) &&
     decide (∃ l ∈ List.range 4, bit (s.rd NL.NL_STAT_LANES_USED p) l = true ∧ bit lanes l = false) &&
     decide (∀ l ∈ List.range 4, countAt (s.port p).leftOut l < 2) &&
     let l : Nat := 3
     decide (l < 4)),
    (let s : Machine.State := port 15 4 (fun n => {n with identSent := true, retryFrom := some 5, recorded := some (1, 2)}) base
     let p : Nat := 15
     let f : Flit := ident base.sec.serial base.boot.nonce 9 0
     decide (p < 16) &&
     decide (s.boot.fltUp = true) &&
     (ctrlOf f 2).any fun d =>
     decide (s.nlState p = nlIDENTIFY) &&
     decide ((s.port p).identSent = true) &&
     decide ((s.port p).outcome = 0) &&
     decide (((s.port p).retryFrom.isSome = true ∧ ∃ (e : Nat × Nat), (s.port p).recorded = some e ∧ e.1 ≠ leAt d 1 8) → (s.port p).replay = [] ∧ s.fabric.stuck = []) &&
     decide (leAt d 1 8 = s.sec.serial ∧ leAt d 9 8 = s.boot.nonce) &&
     decide ((s.port p).retryFrom.isSome = true ∧ ∃ (e : Nat × Nat), (s.port p).recorded = some e ∧ e.1 ≠ leAt d 1 8))] = true := by decide +kernel

set_option maxRecDepth 100000 in
theorem test_meets_PortsNegotiate_2 : List.and [
    (let s : Machine.State := port 15 4 (fun n => {n with identSent := true}) base
     let p : Nat := 15
     let f : Flit := ident base.sec.serial base.boot.nonce 9 0
     decide (p < 16) &&
     decide (s.boot.fltUp = true) &&
     (ctrlOf f 2).any fun d =>
     decide (s.nlState p = nlIDENTIFY) &&
     decide ((s.port p).identSent = true) &&
     decide ((s.port p).outcome = 0) &&
     decide (((s.port p).retryFrom.isSome = true ∧ ∃ (e : Nat × Nat), (s.port p).recorded = some e ∧ e.1 ≠ leAt d 1 8) → (s.port p).replay = [] ∧ s.fabric.stuck = []) &&
     decide (leAt d 1 8 = s.sec.serial ∧ leAt d 9 8 = s.boot.nonce) &&
     decide (¬((s.port p).retryFrom.isSome = true ∧ ∃ (e : Nat × Nat), (s.port p).recorded = some e ∧ e.1 ≠ leAt d 1 8))),
    (let s : Machine.State := port 15 4 (fun n => {n with identSent := true, retryFrom := some 5, recorded := some (1, 2)}) base
     let p : Nat := 15
     let f : Flit := ident 77 88 4 3
     decide (p < 16) &&
     decide (s.boot.fltUp = true) &&
     (ctrlOf f 2).any fun d =>
     decide (s.nlState p = nlIDENTIFY) &&
     decide ((s.port p).identSent = true) &&
     decide ((s.port p).outcome = 0) &&
     decide (((s.port p).retryFrom.isSome = true ∧ ∃ (e : Nat × Nat), (s.port p).recorded = some e ∧ e.1 ≠ leAt d 1 8) → (s.port p).replay = [] ∧ s.fabric.stuck = []) &&
     decide (¬(leAt d 1 8 = s.sec.serial ∧ leAt d 9 8 = s.boot.nonce)) &&
     decide (leAt d 17 4 ≠ s.rd NL.NL_FIELD_FIELD_TAG p) &&
     decide ((s.port p).retryFrom.isSome = true ∧ ∃ (e : Nat × Nat), (s.port p).recorded = some e ∧ e.1 ≠ leAt d 1 8)),
    (let s : Machine.State := port 15 4 (fun n => {n with identSent := true}) base
     let p : Nat := 15
     let f : Flit := ident 77 88 4 3
     decide (p < 16) &&
     decide (s.boot.fltUp = true) &&
     (ctrlOf f 2).any fun d =>
     decide (s.nlState p = nlIDENTIFY) &&
     decide ((s.port p).identSent = true) &&
     decide ((s.port p).outcome = 0) &&
     decide (((s.port p).retryFrom.isSome = true ∧ ∃ (e : Nat × Nat), (s.port p).recorded = some e ∧ e.1 ≠ leAt d 1 8) → (s.port p).replay = [] ∧ s.fabric.stuck = []) &&
     decide (¬(leAt d 1 8 = s.sec.serial ∧ leAt d 9 8 = s.boot.nonce)) &&
     decide (leAt d 17 4 ≠ s.rd NL.NL_FIELD_FIELD_TAG p) &&
     decide (¬((s.port p).retryFrom.isSome = true ∧ ∃ (e : Nat × Nat), (s.port p).recorded = some e ∧ e.1 ≠ leAt d 1 8))),
    (let s : Machine.State := port 15 4 (fun n => {replaying n with identSent := true, resumable := true, retryFrom := some 5, recorded := some (77, 88)}) base
     let p : Nat := 15
     let f : Flit := ident 77 88 9 3
     decide (p < 16) &&
     decide (s.boot.fltUp = true) &&
     (ctrlOf f 2).any fun d =>
     decide (s.nlState p = nlIDENTIFY) &&
     decide ((s.port p).identSent = true) &&
     decide ((s.port p).outcome = 0) &&
     decide (¬(leAt d 1 8 = s.sec.serial ∧ leAt d 9 8 = s.boot.nonce)) &&
     decide (leAt d 17 4 = s.rd NL.NL_FIELD_FIELD_TAG p) &&
     decide ((s.port p).recorded = some (leAt d 1 8, leAt d 9 8) ∧ (s.port p).resumable = true ∧ (s.port p).retryFrom.isSome = true ∧ bit (leAt d 23 1) 1 = true)),
    (let s : Machine.State := port 15 4 (fun n => {n with identSent := true}) base
     let p : Nat := 15
     let f : Flit := ident 77 88 9 3
     decide (p < 16) &&
     decide (s.boot.fltUp = true) &&
     (ctrlOf f 2).any fun d =>
     decide (s.nlState p = nlIDENTIFY) &&
     decide ((s.port p).identSent = true) &&
     decide ((s.port p).outcome = 0) &&
     decide (¬(leAt d 1 8 = s.sec.serial ∧ leAt d 9 8 = s.boot.nonce)) &&
     decide (leAt d 17 4 = s.rd NL.NL_FIELD_FIELD_TAG p) &&
     decide (¬((s.port p).recorded = some (leAt d 1 8, leAt d 9 8) ∧ (s.port p).resumable = true ∧ (s.port p).retryFrom.isSome = true ∧ bit (leAt d 23 1) 1 = true)) &&
     decide ((s.port p).replay = []) &&
     decide (s.fabric.stuck = [])),
    (let s : Machine.State := port 15 2 id base
     let p : Nat := 15
     let f : Flit := ident 77 88 9 3
     decide (p < 16) &&
     decide (s.boot.fltUp = true) &&
     (ctrlOf f 2).any fun _ =>
     decide (s.nlState p ∈ [nlNEGOTIATE, nlTRAIN] ∨ s.nlState p = nlIDENTIFY ∧ (s.port p).identSent = false) &&
     let q : Nat := 3
     decide (q ≠ p)),
    (let s : Machine.State := port 15 4 (fun n => {replaying n with outcome := 1, resumeFrom := 3, probes := (List.range 16).map (fun k : Nat => (((100 + k * 7 % 5 : Nat) : Int), 5, 9))}) base
     let p : Nat := 15
     decide (p < 16) &&
     decide (s.boot.fltUp = true) &&
     decide (16 ≤ (s.port p).probes.length) &&
     decide (s.isParentPort p = false) &&
     decide ((s.port p).keptCredit = none)),
    (let s : Machine.State := set (port 15 4 (fun n => {n with outcome := 2}) base) [(NL.NL_DELAY_VALID,15,0,1)]
     let p : Nat := 15
     let f : Flit := flit tCTRL 0 recCREDIT
     decide (p < 16) &&
     decide (s.boot.fltUp = true) &&
     (ctrlOf f 3).any fun _ =>
     decide (s.nlState p = nlIDENTIFY) &&
     decide ((s.port p).outcome ≠ 0) &&
     decide (s.on NL.NL_DELAY_VALID p = true) &&
     decide (s.fabric.stuck = []))] = true := by decide +kernel

set_option maxRecDepth 100000 in
theorem test_meets_PortsNegotiate_3 : List.and [
    (let s : Machine.State := port 15 4 (fun n => {n with outcome := 2, probes := List.replicate 16 (3, 5, 9), keptCredit := some recCREDIT}) base
     let p : Nat := 15
     decide (p < 16) &&
     decide (s.boot.fltUp = true) &&
     ((s.port p).keptCredit).any fun _ =>
     decide (16 ≤ (s.port p).probes.length) &&
     decide (s.isParentPort p = false) &&
     decide (s.nlState p = nlIDENTIFY) &&
     decide ((s.port p).outcome ≠ 0) &&
     decide (s.fabric.stuck = [])),
    (let s : Machine.State := port 15 3 id base
     let p : Nat := 15
     let f : Flit := flit tCTRL 0 recCREDIT
     decide (p < 16) &&
     decide (s.boot.fltUp = true) &&
     (ctrlOf f 3).any fun _ =>
     decide (s.nlState p ∈ [nlTRAIN, nlIDENTIFY]) &&
     decide (¬(s.nlState p = nlIDENTIFY ∧ (s.port p).outcome ≠ 0 ∧ s.on NL.NL_DELAY_VALID p = true)) &&
     let q : Nat := 3
     decide (q ≠ p))] = true := by decide +kernel

set_option maxRecDepth 100000 in
theorem test_meets_SlicesRun_1 : List.and [
    (let s : Machine.State := base
     let c : Nat := 12
     decide (c < 16) &&
     decide (s.inService = true) &&
     decide (s.share (c / 4) ≠ 0) &&
     decide (0 ≤ s.sliceCredit (c / 4)) &&
     decide (∀ d ∈ List.range 16, d / 4 = c / 4 → (s.tcore d).chosen = false) &&
     decide (s.pw.entering = none) &&
     decide (s.rd DRONE.PWR_STAT_STATE ≤ 1) &&
     decide (s.ladder.chip = none) &&
     decide (nextAfter (SMap.get s.test.lastSlice (c / 4) 99) (List.filter s.sliceEligible (List.map (fun (j : Nat) => 4 * (c / 4) + j) (List.range 4))) = some c) &&
     decide ((s.tcore c).due = false) &&
     decide (s.slicePairs c ≠ []) &&
     let d : Nat := 15
     decide (d ≠ c)),
    (let s : Machine.State := testing (fun t => {t with chosen := true})
     let c : Nat := 15
     decide (c < 16) &&
     decide ((s.tcore c).chosen = true) &&
     decide ((s.tcore c).started = none) &&
     decide (([(s.core c).dsa.running, (s.core c).dsa.readout, (s.core c).exu.running, (s.core c).exu.readout].all fun (x : Option Pass) => x.isNone) = true ∧ (s.core c).dsa.serac = none ∧ (s.core c).exu.serac = none) &&
     let d : Nat := 3
     decide (d ≠ c)),
    (let s : Machine.State := testing (fun t => {t with chosen := true})
     let c : Nat := 15
     decide (c < 16) &&
     decide ((s.tcore c).chosen = true) &&
     decide ((s.tcore c).started = none) &&
     decide (([(s.core c).dsa.running, (s.core c).dsa.readout, (s.core c).exu.running, (s.core c).exu.readout].all fun (x : Option Pass) => x.isNone) = true ∧ (s.core c).dsa.serac = none ∧ (s.core c).exu.serac = none) &&
     (corePages c).any fun _ =>
     true),
    (let s : Machine.State := set (testing (fun t => {t with chosen := true, overdrive := true, started := some 99, run := [(0, romEntry)]})) [(CLKRST.CORE_FREQ_OVERDRIVE,0,15,1)]
     let c : Nat := 15
     decide (c < 16) &&
     decide (s.on CLKRST.CORE_FREQ_OVERDRIVE 0 c = true)),
    (let s : Machine.State := testing (fun t => {t with chosen := true, overdrive := true, started := some 99})
     let c : Nat := 15
     decide (c < 16) &&
     decide (s.on CLKRST.CORE_FREQ_OVERDRIVE 0 c = false) &&
     decide ((s.tcore c).chosen = true) &&
     decide ((s.tcore c).overdrive = true) &&
     decide ((s.tcore c).started.isSome = true)),
    (let s : Machine.State := testing (fun t => {t with chosen := true, overdrive := true, started := some 99})
     let c : Nat := 15
     decide (c < 16) &&
     ((s.tcore c).started).any fun _ =>
     decide ((s.tcore c).chosen = true) &&
     decide ((s.tcore c).window = false) &&
     let d : Nat := 3
     decide (d ≠ c)),
    (let s : Machine.State := set (testing (fun t => {t with chosen := true, started := some 99, run := [(0, romEntry)]})) ((corePages 15).map (fun p => (HDR.STAT_STATE, p, 0, stTEST)))
     let c : Nat := 15
     decide (c < 16) &&
     ((s.tcore c).started).any fun _ =>
     decide ((s.tcore c).chosen = true) &&
     decide ((s.tcore c).window = false) &&
     decide (s.rd HDR.STAT_STATE (pgFE c) = stTEST) &&
     (corePages c).any fun _ =>
     true),
    (let s : Machine.State := base
     let c : Nat := 15
     decide (c < 16) &&
     let a : Authority := .host
     decide (lets s a (pgTEST c * 4096 + 64) 4 TEST.TST_CTL_SLICE_EN) &&
     decide (s.boot.fltUp = true) &&
     decide ((s.tcore c).chosen = false))] = true := by decide +kernel

set_option maxRecDepth 100000 in
theorem test_meets_SlicesRun_2 : List.and [
    (let s : Machine.State := testing (fun t => {t with chosen := true})
     let c : Nat := 15
     decide (c < 16) &&
     let a : Authority := .host
     decide (lets s a (pgTEST c * 4096 + 64) 4 TEST.TST_CTL_SLICE_EN) &&
     decide (s.boot.fltUp = true) &&
     decide ((s.tcore c).chosen = true)),
    (let s : Machine.State := {testing id with ftime := 2^40}
     let c : Nat := 15
     decide (c < 16) &&
     decide (max 1 (min 60 (s.rd TEST.TST_CTL_REF_S c)) ≤ s.refAge c) &&
     let d : Nat := 3
     decide (d ≠ c)),
    (let s : Machine.State := set (midProgram (testing (fun t => {t with lastRef := 5, due := true}))) [(CLKRST.CORE_FREQ_F25,0,15,80),(CLKRST.PROFILE_ACTIVE,0,0,2),(TEST.TST_STAT_STALE,15,0,1)]
     let c : Nat := 15
     decide (c < 16) &&
     decide (s.inSlice c = false) &&
     decide (s.pins.throttle = false) &&
     decide (s.rd CLKRST.CORE_FREQ_F25 0 c * 25 = mhzOf (s.coreProfile c)) &&
     decide (s.voltTests (c / 4) = false) &&
     decide (∀ e ∈ (s.core c).groups, e.2.stopped = true) &&
     decide (([(s.core c).dsa.running, (s.core c).dsa.readout, (s.core c).exu.running, (s.core c).exu.readout].all fun (x : Option Pass) => x.isNone) = true ∧ (s.core c).dsa.serac = none ∧ (s.core c).exu.serac = none) &&
     decide (s.on TEST.TST_STAT_STALE c = true))] = true := by decide +kernel

set_option maxRecDepth 100000 in
theorem test_meets_ExitAndBarriers_1 : List.and [
    (let z : Machine.State := onGroup (thr (ins 0x72 0 0 0 0 0) []) lastLane
     let c : Nat := 15
     let p : Nat := 127
     (z.issuePoint c p).any fun i =>
     decide (i.inRange = true) &&
     decide (i.got = true) &&
     decide (insOp i.word = 114) &&
     decide (∀ l ∈ List.range i.g.threads.length, ¬(fun (l : Nat) => l < i.g.threads.length ∧ l ∉ i.lanes ∧ (i.g.thread l).exited = false) l) &&
     let c' : Nat := 0
     decide (c' ≠ c)),
    (let z : Machine.State := onGroup (thr (ins 0x72 0 0 0 0 0) []) lastLane
     let c : Nat := 15
     let p : Nat := 127
     (z.issuePoint c p).any fun i =>
     decide (i.inRange = true) &&
     decide (i.got = true) &&
     decide (insOp i.word = 114) &&
     decide (∀ l ∈ List.range i.g.threads.length, ¬(fun (l : Nat) => l < i.g.threads.length ∧ l ∉ i.lanes ∧ (i.g.thread l).exited = false) l) &&
     let p' : Nat := 0
     decide (p' ≠ p)),
    (let z : Machine.State := onGroup (thr (ins 0x72 0 0 0 0 0) []) laneApart
     let c : Nat := 15
     let p : Nat := 127
     (z.issuePoint c p).any fun i =>
     decide (i.inRange = true) &&
     decide (i.got = true) &&
     decide (insOp i.word = 114) &&
     decide (∃ l ∈ List.range i.g.threads.length, (fun (l : Nat) => l < i.g.threads.length ∧ l ∉ i.lanes ∧ (i.g.thread l).exited = false) l ∧ (i.g.thread l).gsync = false) &&
     let c' : Nat := 0
     decide (c' ≠ c)),
    (let z : Machine.State := onGroup (thr (ins 0x72 0 0 0 0 0) []) laneApart
     let c : Nat := 15
     let p : Nat := 127
     (z.issuePoint c p).any fun i =>
     decide (i.inRange = true) &&
     decide (i.got = true) &&
     decide (insOp i.word = 114) &&
     decide (∃ l ∈ List.range i.g.threads.length, (fun (l : Nat) => l < i.g.threads.length ∧ l ∉ i.lanes ∧ (i.g.thread l).exited = false) l ∧ (i.g.thread l).gsync = false) &&
     let p' : Nat := 0
     decide (p' ≠ p)),
    (let z : Machine.State := onGroup (thr (ins 0x72 0 0 0 0 0) []) laneApart
     let c : Nat := 15
     let p : Nat := 127
     (z.issuePoint c p).any fun i =>
     decide (i.inRange = true) &&
     decide (i.got = true) &&
     decide (insOp i.word = 114) &&
     decide (∃ l ∈ List.range i.g.threads.length, (fun (l : Nat) => l < i.g.threads.length ∧ l ∉ i.lanes ∧ (i.g.thread l).exited = false) l ∧ (i.g.thread l).gsync = false) &&
     let l : Nat := 0
     decide (l < i.g.threads.length)),
    (let z : Machine.State := onGroup (thr (ins 0x73 0 0 0 0 0) []) laneApart
     let c : Nat := 15
     let p : Nat := 127
     (z.issuePoint c p).any fun i =>
     decide (i.inRange = true) &&
     decide (i.got = true) &&
     decide (insOp i.word = 115) &&
     decide (∃ l ∈ List.range i.g.threads.length, (fun (l : Nat) => l < i.g.threads.length ∧ l ∉ i.lanes ∧ (i.g.thread l).exited = false) l ∧ (i.g.thread l).gsync = false) &&
     let c' : Nat := 0
     decide (c' ≠ c)),
    (let z : Machine.State := onGroup (thr (ins 0x73 0 0 0 0 0) []) laneApart
     let c : Nat := 15
     let p : Nat := 127
     (z.issuePoint c p).any fun i =>
     decide (i.inRange = true) &&
     decide (i.got = true) &&
     decide (insOp i.word = 115) &&
     decide (∃ l ∈ List.range i.g.threads.length, (fun (l : Nat) => l < i.g.threads.length ∧ l ∉ i.lanes ∧ (i.g.thread l).exited = false) l ∧ (i.g.thread l).gsync = false) &&
     let p' : Nat := 0
     decide (p' ≠ p)),
    (let z : Machine.State := onGroup (thr (ins 0x73 0 0 0 0 0) []) laneApart
     let c : Nat := 15
     let p : Nat := 127
     (z.issuePoint c p).any fun i =>
     decide (i.inRange = true) &&
     decide (i.got = true) &&
     decide (insOp i.word = 115) &&
     decide (∃ l ∈ List.range i.g.threads.length, (fun (l : Nat) => l < i.g.threads.length ∧ l ∉ i.lanes ∧ (i.g.thread l).exited = false) l ∧ (i.g.thread l).gsync = false) &&
     (i.lanes).any fun _ =>
     true)] = true := by decide +kernel

set_option maxRecDepth 100000 in
theorem test_meets_ExitAndBarriers_2 : List.and [
    (let z : Machine.State := onGroup (thr (ins 0x73 0 0 0 0 0) []) laneAtSync
     let c : Nat := 15
     let p : Nat := 127
     (z.issuePoint c p).any fun i =>
     decide (i.inRange = true) &&
     decide (i.got = true) &&
     decide (insOp i.word = 115) &&
     decide (i.lanes ≠ []) &&
     decide (∀ l ∈ List.range i.g.threads.length, (fun (l : Nat) => l < i.g.threads.length ∧ l ∉ i.lanes ∧ (i.g.thread l).exited = false) l → (i.g.thread l).gsync = true ∧ (i.g.thread l).pc = i.pc) &&
     let c' : Nat := 0
     decide (c' ≠ c)),
    (let z : Machine.State := onGroup (thr (ins 0x73 0 0 0 0 0) []) laneAtSync
     let c : Nat := 15
     let p : Nat := 127
     (z.issuePoint c p).any fun i =>
     decide (i.inRange = true) &&
     decide (i.got = true) &&
     decide (insOp i.word = 115) &&
     decide (i.lanes ≠ []) &&
     decide (∀ l ∈ List.range i.g.threads.length, (fun (l : Nat) => l < i.g.threads.length ∧ l ∉ i.lanes ∧ (i.g.thread l).exited = false) l → (i.g.thread l).gsync = true ∧ (i.g.thread l).pc = i.pc) &&
     let p' : Nat := 0
     decide (p' ≠ p)),
    (let z : Machine.State := onGroup (thr (ins 0x73 0 0 0 0 0) []) laneAtSync
     let c : Nat := 15
     let p : Nat := 127
     (z.issuePoint c p).any fun i =>
     decide (i.inRange = true) &&
     decide (i.got = true) &&
     decide (insOp i.word = 115) &&
     decide (i.lanes ≠ []) &&
     decide (∀ l ∈ List.range i.g.threads.length, (fun (l : Nat) => l < i.g.threads.length ∧ l ∉ i.lanes ∧ (i.g.thread l).exited = false) l → (i.g.thread l).gsync = true ∧ (i.g.thread l).pc = i.pc) &&
     let l : Nat := 0
     decide (l < i.g.threads.length) &&
     decide ((i.g.thread l).exited = false)),
    (let z : Machine.State := thr (ins 0x74 0 0 0 0 0) []
     let c : Nat := 15
     let p : Nat := 127
     (z.issuePoint c p).any fun i =>
     decide (i.inRange = true) &&
     decide (i.got = true) &&
     decide (insOp i.word = 116) &&
     decide (i.d.kernel.ksyncOk = true) &&
     let c' : Nat := 0
     decide (c' ≠ c)),
    (let z : Machine.State := thr (ins 0x74 0 0 0 0 0) []
     let c : Nat := 15
     let p : Nat := 127
     (z.issuePoint c p).any fun i =>
     decide (i.inRange = true) &&
     decide (i.got = true) &&
     decide (insOp i.word = 116) &&
     decide (i.d.kernel.ksyncOk = true) &&
     decide (i.d.ksynced + 1 < i.d.kernel.groups)),
    (let z : Machine.State := (thr (ins 0x74 0 0 0 0 0) []).modCore 15 (fun c => c.setDisp { disp with ksynced := 1 })
     let c : Nat := 15
     let p : Nat := 127
     (z.issuePoint c p).any fun i =>
     decide (i.inRange = true) &&
     decide (i.got = true) &&
     decide (insOp i.word = 116) &&
     decide (i.d.kernel.ksyncOk = true) &&
     decide (¬i.d.ksynced + 1 < i.d.kernel.groups))] = true := by decide +kernel

set_option maxRecDepth 100000 in
theorem test_meets_CompletionAndModeration : List.and [
    (let s : Machine.State := holds 2 0 [] (.done 5 63 5)
     let x : Nat := 5
     let qn : Nat := 63
     let st : Nat := 5
     let d : Nat := 63
     let tm : Nat := 5
     (((s.ctx x).queue qn).cmds).any fun k =>
     let rest : List Cmd := []
     decide (s.inService = true) &&
     decide (s.boot.qengUp = true) &&
     decide ((s.ctx x).state = CtxState.owned) &&
     decide (((s.ctx x).queue qn).cmds = k :: rest) &&
     decide (k.phase = CmdPhase.done st d tm) &&
     decide (k.ssn = ((s.ctx x).queue qn).done) &&
     decide ((s.ctx x).cq.room = true) &&
     decide (s.pci.linkUp = true) &&
     decide (s.lostPaths = []) &&
     let y : Nat := 8191
     decide (y ≠ x)),
    (let s : Machine.State := holds 2 0 [] (.done 5 63 5)
     let x : Nat := 5
     let qn : Nat := 63
     let st : Nat := 5
     let d : Nat := 63
     let tm : Nat := 5
     (((s.ctx x).queue qn).cmds).any fun k =>
     let rest : List Cmd := []
     decide (s.inService = true) &&
     decide (s.boot.qengUp = true) &&
     decide ((s.ctx x).state = CtxState.owned) &&
     decide (((s.ctx x).queue qn).cmds = k :: rest) &&
     decide (k.phase = CmdPhase.done st d tm) &&
     decide (k.ssn = ((s.ctx x).queue qn).done) &&
     decide ((s.ctx x).cq.room = true) &&
     decide (s.pci.linkUp = true) &&
     decide (s.lostPaths = []) &&
     let a : Nat := 5
     decide (a < (s.ctx x).cq.slot ∨ (s.ctx x).cq.slot + 32 ≤ a)),
    (let s : Machine.State := base.setCtx 8191 {owned with cfg := {owned.cfg with modUs := 1, vector := 2047}, firstPending := some 3, pending := 2}
     let x : Nat := 8191
     ((s.ctx x).firstPending).any fun t0 =>
     decide (s.inService = true) &&
     decide ((s.ctx x).cfg.intEn = true) &&
     decide ((s.ctx x).cfg.modUs ≠ 0) &&
     decide (t0 + 100 * (s.ctx x).cfg.modUs ≤ s.ftime) &&
     let y : Nat := 5
     decide (y ≠ x))] = true := by decide +kernel

set_option maxRecDepth 100000 in
theorem test_meets_CorrectionTable : List.and [
    (let s : Machine.State := withUnit (pass intLayer1).exact {pending := some (pass intLayer1)}
     let a : Authority := .host
     let c : Nat := 15
     decide (c < 16) &&
     decide (lets s a (offLogCtl c) 4 LOG.LOG_CTL_COMMIT) &&
     decide ((s.core c).logBusy = none) &&
     let e : Nat := 3
     decide (e ≠ c)),
    (let s : Machine.State := logQuiesced base
     let a : Authority := .host
     let c : Nat := 15
     decide (c < 16) &&
     decide (lets s a (offLogCtl c) 4 LOG.LOG_CTL_COMMIT) &&
     decide ((s.core c).logBusy = none) &&
     decide (s.logFree c = true) &&
     let e : Nat := 3
     decide (e ≠ c)),
    (let s : Machine.State := base.modCore 15 (fun c => {c with logBusy := some true, logActP := [(3,5)], logStageP := [(63, 1)]})
     let c : Nat := 15
     decide (c < 16) &&
     ((s.core c).logBusy).any fun _ =>
     let e : Nat := 3
     decide (e ≠ c)),
    (let s : Machine.State := base.modCore 15 (fun c => {c with logBusy := some false, logActP := [(3,5)], logStageP := [(63, 1)]})
     let c : Nat := 15
     decide (c < 16) &&
     ((s.core c).logBusy).any fun rom =>
     decide (rom = false)),
    (let s : Machine.State := withUnit (pass intLayer1).exact {pending := some (pass intLayer1)}
     let a : Authority := .host
     let c : Nat := 15
     decide (c < 16) &&
     decide (lets s a (offDsaCtl c) 4 DSA.DSA_CTL_CKSUM_EN) &&
     decide (s.boot.fltUp = true)),
    (let s : Machine.State := withUnit (pass intLayer1).exact {pending := some (pass intLayer1)}
     let a : Authority := .self_
     let c : Nat := 15
     decide (c < 16) &&
     decide (lets s a (offDsaCtl c) 4 DSA.DSA_CTL_HOLD))] = true := by decide +kernel

set_option maxRecDepth 100000 in
theorem test_meets_LadderResets_1 : List.and [
    (let s : Machine.State := set (base.setCore 15 {dsa := {running := some (pass intLayer)}}) [(HDR.PROGWIN_WIN_US, pgDSA 15, 0, 5)]
     let c : Nat := 15
     let q : Nat := 3
     decide (c < 16) &&
     decide (q < 4) &&
     let p : Nat := pgDSA 15
     decide (s.inService = true) &&
     decide (s.boot.fltUp = true) &&
     decide (hasProg p = true) &&
     decide (s.rd HDR.PROGWIN_WIN_US p ≠ 0) &&
     decide (s.on HDR.CTL_ENABLE p = true) &&
     decide (s.rd HDR.STAT_STATE p ∈ [stREADY, stBUSY]) &&
     decide (s.armed p = true) &&
     decide (SMap.find s.ladder.timers p ≠ some { seen := s.rd HDR.BLK_PROG p : Prog })),
    (let s : Machine.State := set {(base.setCore 15 {dsa := {running := some (pass intLayer)}}) with ladder := {timers := [(pgDSA 15, ⟨7⟩)]}} [(HDR.PROGWIN_WIN_US, pgDSA 15, 0, 5), (HDR.BLK_PROG, pgDSA 15, 0, 7)]
     let c : Nat := 15
     let q : Nat := 3
     decide (c < 16) &&
     decide (q < 4) &&
     let p : Nat := pgDSA 15
     decide (s.inService = true) &&
     decide (s.boot.fltUp = true) &&
     decide (hasProg p = true) &&
     decide (s.rd HDR.PROGWIN_WIN_US p ≠ 0) &&
     decide (s.on HDR.CTL_ENABLE p = true) &&
     decide (s.rd HDR.STAT_STATE p ∈ [stREADY, stBUSY]) &&
     decide (s.armed p = true) &&
     decide (SMap.find s.ladder.timers p = some { seen := s.rd HDR.BLK_PROG p : Prog })),
    (let s : Machine.State := up
     let c : Nat := 15
     let q : Nat := 3
     decide (c < 16) &&
     decide (q < 4) &&
     let p : Nat := pgDSA 15
     decide (s.inService = true) &&
     decide (s.boot.fltUp = true) &&
     decide (hasProg p = true) &&
     decide (s.rd HDR.PROGWIN_WIN_US p ≠ 0) &&
     decide (s.on HDR.CTL_ENABLE p = true) &&
     decide (s.rd HDR.STAT_STATE p ∈ [stREADY, stBUSY]) &&
     decide (s.armed p = false)),
    (let s : Machine.State := up
     let a : Authority := .host
     let c : Nat := 15
     let q : Nat := 3
     decide (c < 16) &&
     decide (q < 4) &&
     decide (lets s a (offClkrst 256) 4 CLKRST.RST_CMD_KEY) &&
     decide (noSuspects s) &&
     decide (s.fused c = true) &&
     decide (s.joins 2 c = false) &&
     (corePages c).any fun _ =>
     true),
    (let s : Machine.State := up
     let a : Authority := .host
     let c : Nat := 15
     let q : Nat := 3
     decide (c < 16) &&
     decide (q < 4) &&
     decide (lets s a (offClkrst 256) 4 CLKRST.RST_CMD_KEY) &&
     decide (noSuspects s) &&
     decide (s.joins 3 q = false) &&
     (quadPages q).any fun _ =>
     true),
    (let s : Machine.State := up
     let a : Authority := .host
     let c : Nat := 15
     let q : Nat := 3
     decide (c < 16) &&
     decide (q < 4) &&
     decide (lets s a (offClkrst 256) 4 CLKRST.RST_CMD_KEY) &&
     let key : Nat := 15
     decide (key < 2 ^ 16) &&
     decide (key ≠ 45063) &&
     decide (s.boot.fltUp = true)),
    (let s : Machine.State := up
     let a : Authority := .host
     let c : Nat := 15
     let q : Nat := 3
     decide (c < 16) &&
     decide (q < 4) &&
     decide (lets s a (offClkrst 256) 4 CLKRST.RST_CMD_KEY) &&
     decide (s.ladder.chip = none)),
    (let s : Machine.State := laddered 2 15 up
     let c : Nat := 15
     let q : Nat := 3
     decide (c < 16) &&
     decide (q < 4) &&
     (List.find? (fun (r : Reset) => decide (r.level = 2) && decide (r.domain = c)) s.ladder.running).any fun _ =>
     decide (noSuspects s) &&
     decide (s.joins 3 (c / 4) = false) &&
     (quadPages (c / 4)).any fun _ =>
     true)] = true := by decide +kernel

set_option maxRecDepth 100000 in
theorem test_meets_LadderResets_2 : List.and [
    (let s : Machine.State := laddered 2 15 up
     let c : Nat := 15
     let q : Nat := 3
     decide (c < 16) &&
     decide (q < 4) &&
     (List.find? (fun (r : Reset) => decide (r.level = 2) && decide (r.domain = c)) s.ladder.running).any fun r =>
     decide (r.suspects = []) &&
     let res : AdmitResult := {core := 15, badRows := [], badCols := [], firstRun := none, secondRun := none}
     decide (res.core = c) &&
     decide (res.badRows = []) &&
     decide (res.badCols = []) &&
     decide (res.firstRun = none) &&
     decide (s.fused c = true) &&
     decide (s.coreFenced c = false) &&
     let e : Nat := 3
     decide (e ≠ c)),
    (let s : Machine.State := laddered 2 15 up
     let c : Nat := 15
     let q : Nat := 3
     decide (c < 16) &&
     decide (q < 4) &&
     (List.find? (fun (r : Reset) => decide (r.level = 2) && decide (r.domain = c)) s.ladder.running).any fun r =>
     decide (r.suspects = []) &&
     let res : AdmitResult := {core := 15, badRows := [], badCols := [], firstRun := none, secondRun := none}
     decide (res.core = c) &&
     decide (res.badRows = []) &&
     decide (res.badCols = []) &&
     decide (res.firstRun = none) &&
     decide (s.fused c = true) &&
     decide (s.coreFenced c = false) &&
     (corePages c).any fun _ =>
     true),
    (let s : Machine.State := laddered 3 3 up
     let c : Nat := 15
     let q : Nat := 3
     decide (c < 16) &&
     decide (q < 4) &&
     (List.find? (fun (r : Reset) => decide (r.level = 3) && decide (r.domain = q)) s.ladder.running).any fun r =>
     decide (r.suspects = []) &&
     decide (s.on HBM.HBM_STAT_IN_SERVICE q = true))] = true := by decide +kernel

set_option maxRecDepth 100000 in
theorem test_meets_FloatResults_1 : List.and [
    (let z : Machine.State := thr (ins 0x20 1 1 3 4 0) someRegs
     let c : Nat := 15
     let p : Nat := 127
     (z.issuePoint c p).any fun i =>
     decide (i.inRange = true) &&
     decide (i.got = true) &&
     decide (((z.fetched i).core c).exu.running = none) &&
     decide (((z.fetched i).core c).exu.serac = none) &&
     decide (insOp i.word = 32)),
    (let z : Machine.State := thr (ins 0x21 1 1 3 4 0) someRegs
     let c : Nat := 15
     let p : Nat := 127
     (z.issuePoint c p).any fun i =>
     decide (i.inRange = true) &&
     decide (i.got = true) &&
     decide (((z.fetched i).core c).exu.running = none) &&
     decide (((z.fetched i).core c).exu.serac = none) &&
     decide (insOp i.word = 33)),
    (let z : Machine.State := thr (ins 0x22 1 1 3 4 0) someRegs
     let c : Nat := 15
     let p : Nat := 127
     (z.issuePoint c p).any fun i =>
     decide (i.inRange = true) &&
     decide (i.got = true) &&
     decide (((z.fetched i).core c).exu.running = none) &&
     decide (((z.fetched i).core c).exu.serac = none) &&
     decide (insOp i.word = 34)),
    (let z : Machine.State := thr (ins 0x23 1 1 3 4 0) someRegs
     let c : Nat := 15
     let p : Nat := 127
     (z.issuePoint c p).any fun i =>
     decide (i.inRange = true) &&
     decide (i.got = true) &&
     decide (((z.fetched i).core c).exu.running = none) &&
     decide (((z.fetched i).core c).exu.serac = none) &&
     decide (insOp i.word = 35)),
    (let z : Machine.State := thr (ins 0x24 1 1 3 4 0) someRegs
     let c : Nat := 15
     let p : Nat := 127
     (z.issuePoint c p).any fun i =>
     decide (i.inRange = true) &&
     decide (i.got = true) &&
     decide (((z.fetched i).core c).exu.running = none) &&
     decide (((z.fetched i).core c).exu.serac = none) &&
     decide (insOp i.word = 36)),
    (let z : Machine.State := thr (ins 0x25 0 1 2 0 0) someRegs
     let c : Nat := 15
     let p : Nat := 127
     (z.issuePoint c p).any fun i =>
     decide (i.inRange = true) &&
     decide (i.got = true) &&
     decide (((z.fetched i).core c).exu.running = none) &&
     decide (((z.fetched i).core c).exu.serac = none) &&
     decide (insOp i.word = 37) &&
     decide (bits i.word 2 0 < 6)),
    (let z : Machine.State := thr (ins 0x26 0 1 2 0 0) someRegs
     let c : Nat := 15
     let p : Nat := 127
     (z.issuePoint c p).any fun i =>
     decide (i.inRange = true) &&
     decide (i.got = true) &&
     decide (((z.fetched i).core c).exu.running = none) &&
     decide (((z.fetched i).core c).exu.serac = none) &&
     decide (insOp i.word = 38) &&
     decide (bits i.word 3 0 ≤ 8)),
    (let z : Machine.State := thr (ins 0x27 1 1 3 4 0) someRegs
     let c : Nat := 15
     let p : Nat := 127
     (z.issuePoint c p).any fun i =>
     decide (i.inRange = true) &&
     decide (i.got = true) &&
     decide (((z.fetched i).core c).exu.running = none) &&
     decide (((z.fetched i).core c).exu.serac = none) &&
     decide (insOp i.word = 39))] = true := by decide +kernel

set_option maxRecDepth 100000 in
theorem test_meets_FloatResults_2 : List.and [
    (let z : Machine.State := thr (ins 0x28 1 1 3 4 0) someRegs
     let c : Nat := 15
     let p : Nat := 127
     (z.issuePoint c p).any fun i =>
     decide (i.inRange = true) &&
     decide (i.got = true) &&
     decide (((z.fetched i).core c).exu.running = none) &&
     decide (((z.fetched i).core c).exu.serac = none) &&
     decide (insOp i.word = 40)),
    (let z : Machine.State := thr (ins 0x29 1 1 3 4 0) someRegs
     let c : Nat := 15
     let p : Nat := 127
     (z.issuePoint c p).any fun i =>
     decide (i.inRange = true) &&
     decide (i.got = true) &&
     decide (((z.fetched i).core c).exu.running = none) &&
     decide (((z.fetched i).core c).exu.serac = none) &&
     decide (insOp i.word = 41)),
    (let z : Machine.State := thr (ins 0x2A 1 1 3 4 0) someRegs
     let c : Nat := 15
     let p : Nat := 127
     (z.issuePoint c p).any fun i =>
     decide (i.inRange = true) &&
     decide (i.got = true) &&
     decide (((z.fetched i).core c).exu.running = none) &&
     decide (((z.fetched i).core c).exu.serac = none) &&
     decide (insOp i.word = 42))] = true := by decide +kernel

set_option maxRecDepth 100000 in
theorem test_meets_TokensReachFlt : List.and [
    (let s : Machine.State := told [{tok 0x111 kCHECKSUM_COLSUM cINFO with gen := 6}] (set base [(FLT.FLT_CNT_COUNT,0,0,0xFFFF_FFFF)])
     (match tokOrder s.fltIn with
     | [] => false
     | t :: _ =>
     decide (s.boot.fltUp = true) &&
     decide (s.rd HDR.TOKCFG_RATE t.src = 0) &&
     decide (t.src < 4096) &&
     decide (s.mor.ovf = none) &&
     decide (s.mor.taken none < 4095) &&
     decide (copyRule t = Copy.none ∨ copyRule t = Copy.byCtx ∧ (s.ctx t.ctx).gen ≠ t.gen) &&
     decide (s.secondary t = false) &&
     decide (s.withDomain t (s.overridden t) = cINFO ∨ s.withDomain t (s.overridden t) = cCORRECTED) &&
     let j : Nat := 0
     decide (j < 32))),
    (let s : Machine.State := told [tok 0x111 kRANGE cCONTEXT] (base.setCore 15 {groups := [(3, group [])]})
     (match tokOrder s.fltIn with
     | [] => false
     | t :: _ =>
     decide (s.boot.fltUp = true) &&
     decide (s.secondary t = false) &&
     decide (s.soloStall t = false) &&
     decide (s.withDomain t (s.overridden t) = cCONTEXT) &&
     decide (s.cascDue (1 * 2 ^ 16 + t.ctx) = false) &&
     decide (t.charges = []) &&
     decide ({ src := t.src, kind := t.kind, cls := cCONTEXT, inj := t.inj, chk := t.chk, ctx := t.ctx, gen := t.gen, addr := t.addr, detail := t.detail, charges := t.charges, since := t.since : Tok }.tableCharges = []) &&
     decide ((s.ctx t.ctx).gen = t.gen) &&
     decide ((s.ctx t.ctx).state = CtxState.owned) &&
     decide ((s.ctx t.ctx).reset = none) &&
     decide ((s.ctx t.ctx).zeroing = false)))] = true := by decide +kernel

set_option maxRecDepth 100000 in
theorem test_meets_RemoteRequests : List.and [
    (let z : Machine.State := routed (thr (ins 0x47 10 62 1 3 3) (addrRegs (2 ^ 52 * 3 + 0x2000) (2 ^ 52 * 4095 + 0x2038)))
     let c : Nat := 15
     let p : Nat := 127
     (z.issuePoint c p).any fun i =>
     decide (i.inRange = true) &&
     decide (i.got = true) &&
     decide (insXA i.word < 63) &&
     decide (∀ l ∈ i.lanes, i.g.addr l i.word % insSize i.word = 0 ∧ (z.fetched i).localOf (i.g.addr l i.word) = none) &&
     decide (∀ l ∈ i.lanes, reaches (z.fetched i) (i.g.addr l i.word / 2 ^ 52) = true) &&
     decide (i.g.ctx < 8192) &&
     decide (i.g.gen < 256) &&
     decide ((z.fetched i).ownPart < 4096) &&
     decide (insOp i.word = 71) &&
     decide (i.d.kernel.vAllow = true) &&
     decide (insSize i.word = 8 → insXD i.word < 63)),
    (let z : Machine.State := routed (thr (ins 0x48 10 62 1 3 3) (addrRegs (2 ^ 52 * 3 + 0x2000) (2 ^ 52 * 4095 + 0x2038)))
     let c : Nat := 15
     let p : Nat := 127
     (z.issuePoint c p).any fun i =>
     decide (i.inRange = true) &&
     decide (i.got = true) &&
     decide (insXA i.word < 63) &&
     decide (∀ l ∈ i.lanes, i.g.addr l i.word % insSize i.word = 0 ∧ (z.fetched i).localOf (i.g.addr l i.word) = none) &&
     decide (∀ l ∈ i.lanes, reaches (z.fetched i) (i.g.addr l i.word / 2 ^ 52) = true) &&
     decide (i.g.ctx < 8192) &&
     decide (i.g.gen < 256) &&
     decide ((z.fetched i).ownPart < 4096) &&
     decide (insOp i.word = 72) &&
     decide (i.d.kernel.vAllow = true) &&
     decide (insSize i.word = 8 → insXB i.word < 63)),
    (let z : Machine.State := routed (thr (ins 0x49 10 62 1 3 3) (addrRegs (2 ^ 52 * 3 + 0x2000) (2 ^ 52 * 4095 + 0x2038)))
     let c : Nat := 15
     let p : Nat := 127
     (z.issuePoint c p).any fun i =>
     decide (i.inRange = true) &&
     decide (i.got = true) &&
     decide (insXA i.word < 63) &&
     decide (∀ l ∈ i.lanes, i.g.addr l i.word % insSize i.word = 0 ∧ (z.fetched i).localOf (i.g.addr l i.word) = none) &&
     decide (∀ l ∈ i.lanes, reaches (z.fetched i) (i.g.addr l i.word / 2 ^ 52) = true) &&
     decide (i.g.ctx < 8192) &&
     decide (i.g.gen < 256) &&
     decide ((z.fetched i).ownPart < 4096) &&
     decide (insOp i.word = 73) &&
     decide (insSize i.word = 8 → insXB i.word < 63))] = true := by decide +kernel

set_option maxRecDepth 100000 in
theorem test_meets_DoorbellAndEntryFetch : List.and [
    (let s : Machine.State := (base.setCtx 8191 { owned.setQueue 63 { en := true, done := 0xFFFF_FFF0, expect := 0xFFFF_FFFE } with gen := 255 })
     let x : Nat := 8191
     let qn : Nat := 63
     let value : Nat := 0xFF00_0000_0000_0000
     decide (x < 8192) &&
     decide (qn < 64) &&
     decide (s.barGate Authority.host = Gate.ok) &&
     decide (s.rangeVf x = 0) &&
     decide ((s.ctx x).owned = true) &&
     decide ((s.ctx x).state ≠ CtxState.lost) &&
     decide ((s.ctx x).state ≠ CtxState.recovering) &&
     decide (((s.ctx x).queue qn).en = true) &&
     decide (bits value 63 56 = (s.ctx x).gen) &&
     decide (before32 ((s.ctx x).queue qn).expect (bits value 31 0) = true) &&
     decide (dist32 ((s.ctx x).queue qn).done (bits value 31 0) ≤ 2 ^ ((s.ctx x).queue qn).log2) &&
     decide (s.boot.qengUp = true) &&
     decide (3 ≤ s.rd CHIP.SVC_LEVEL_LEVEL) &&
     decide (s.rd DRONE.PWR_STAT_STATE ≠ 2) &&
     let y : Nat := 0
     decide (y ≠ x)),
    (let s : Machine.State := (base.setCtx 8191 { owned.setQueue 63 { en := true, done := 0xFFFF_FFF0, expect := 0xFFFF_FFFE } with gen := 255 })
     let x : Nat := 8191
     let qn : Nat := 63
     let value : Nat := 0xFF00_0000_0000_0000
     decide (x < 8192) &&
     decide (qn < 64) &&
     decide (s.barGate Authority.host = Gate.ok) &&
     decide (s.rangeVf x = 0) &&
     decide ((s.ctx x).owned = true) &&
     decide ((s.ctx x).state ≠ CtxState.lost) &&
     decide ((s.ctx x).state ≠ CtxState.recovering) &&
     decide (((s.ctx x).queue qn).en = true) &&
     decide (bits value 63 56 = (s.ctx x).gen) &&
     decide (before32 ((s.ctx x).queue qn).expect (bits value 31 0) = true) &&
     decide (dist32 ((s.ctx x).queue qn).done (bits value 31 0) ≤ 2 ^ ((s.ctx x).queue qn).log2) &&
     decide (s.boot.qengUp = true) &&
     decide (3 ≤ s.rd CHIP.SVC_LEVEL_LEVEL) &&
     decide (s.rd DRONE.PWR_STAT_STATE ≠ 2) &&
     decide (((s.ctx x).queue qn).urgent = false)),
    (let s : Machine.State := (base.setCtx 8191 { owned.setQueue 63 { en := true, done := 0xFFFF_FFF0, expect := 0xFFFF_FFFE } with gen := 255 })
     let x : Nat := 8191
     let qn : Nat := 63
     decide (s.queueRuns x = true) &&
     decide (((s.ctx x).queue qn).en = true) &&
     (((s.ctx x).queue qn).fetchNext).any fun _ =>
     let y : Nat := 0
     decide (y ≠ x))] = true := by decide +kernel

set_option maxRecDepth 100000 in
theorem test_meets_ControlFlowAndFaults_1 : List.and [
    (let z : Machine.State := thr (ins 0x70 0 3 0 0 0xFFFF_FFFF) someRegs
     let c : Nat := 15
     let p : Nat := 127
     (z.issuePoint c p).any fun i =>
     decide (i.inRange = true) &&
     decide (i.got = true) &&
     decide (insOp i.word = 112) &&
     let l : Nat := 0
     decide (l < i.g.threads.length) &&
     decide (l ∈ i.lanes ∧ i.g.reg l (insXA i.word) ≠ 0#32)),
    (let z : Machine.State := thr (ins 0x70 0 3 0 0 0xFFFF_FFFF) someRegs
     let c : Nat := 15
     let p : Nat := 127
     (z.issuePoint c p).any fun i =>
     decide (i.inRange = true) &&
     decide (i.got = true) &&
     decide (insOp i.word = 112) &&
     let l : Nat := 1
     decide (l < i.g.threads.length) &&
     decide (¬(fun (l : Nat) => l ∈ i.lanes ∧ i.g.reg l (insXA i.word) ≠ 0#32) l)),
    (let z : Machine.State := thr (ins 0x71 0 0 0 0 0x3) someRegs
     let c : Nat := 15
     let p : Nat := 127
     (z.issuePoint c p).any fun i =>
     decide (i.inRange = true) &&
     decide (i.got = true) &&
     decide (insOp i.word = 113) &&
     let l : Nat := 0
     decide (l < i.g.threads.length) &&
     decide (l ∈ i.lanes)),
    (let z : Machine.State := thr (ins 0x71 0 0 0 0 0x3) someRegs
     let c : Nat := 15
     let p : Nat := 127
     (z.issuePoint c p).any fun i =>
     decide (i.inRange = true) &&
     decide (i.got = true) &&
     decide (insOp i.word = 113) &&
     let l : Nat := 1
     decide (l < i.g.threads.length) &&
     decide (¬(fun (l : Nat) => l ∈ i.lanes) l)),
    (let z : Machine.State := thr (ins 0x99 0 0 0 0 3) []
     let c : Nat := 15
     let p : Nat := 127
     (z.issuePoint c p).any fun i =>
     decide (z.boot.fltUp = true) &&
     decide (i.inRange = true) &&
     decide (i.got = true) &&
     decide (opcodes.contains (insOp i.word) = false) &&
     decide ((z.fetched i).rd FE.FE_FAULT_VALID c = 0)),
    (let z : Machine.State := thr (ins 0x99 0 0 0 0 3) []
     let c : Nat := 15
     let p : Nat := 127
     (z.issuePoint c p).any fun i =>
     decide (z.boot.fltUp = true) &&
     decide (i.inRange = true) &&
     decide (i.got = true) &&
     decide (opcodes.contains (insOp i.word) = false) &&
     let c' : Nat := 0
     decide (c' ≠ c)),
    (let z : Machine.State := onGroup (thr 0 []) pastEnd
     let c : Nat := 15
     let p : Nat := 127
     (z.issuePoint c p).any fun i =>
     decide (z.boot.fltUp = true) &&
     decide (i.inRange = false) &&
     decide ((z.fetched i).rd FE.FE_FAULT_VALID c = 0)),
    (let z : Machine.State := onGroup (thr 0 []) pastEnd
     let c : Nat := 15
     let p : Nat := 127
     (z.issuePoint c p).any fun i =>
     decide (z.boot.fltUp = true) &&
     decide (i.inRange = false) &&
     let c' : Nat := 0
     decide (c' ≠ c))] = true := by decide +kernel

set_option maxRecDepth 100000 in
theorem test_meets_ControlFlowAndFaults_2 : List.and [
    (let z : Machine.State := thr (ins 0x01 63 1 3 4 0x8000_0001) someRegs
     let c : Nat := 15
     let p : Nat := 127
     (z.issuePoint c p).any fun i =>
     decide (i.inRange = true) &&
     decide (z.heldLine c (i.pc / 64) = none) &&
     decide ((memoryClear z)) &&
     let c' : Nat := 0
     decide (c' ≠ c)),
    (let z : Machine.State := thr (ins 0x01 63 1 3 4 0x8000_0001) someRegs
     let c : Nat := 15
     let p : Nat := 127
     (z.issuePoint c p).any fun i =>
     decide (i.inRange = true) &&
     decide (z.heldLine c (i.pc / 64) = none) &&
     decide ((memoryClear z)) &&
     let m : Nat := 0
     decide (m ≠ i.pc / 64)),
    (let z : Machine.State := { thr (ins 0x7E 62 0 0 0 0) [] with marksU := [0x8000] }
     let c : Nat := 15
     let p : Nat := 127
     (z.issuePoint c p).any fun i =>
     decide (i.inRange = true) &&
     decide (i.got = false))] = true := by decide +kernel

set_option maxRecDepth 100000 in
theorem test_meets_CalibrationStore : List.and [
    (let s : Machine.State := writingRec 2 (calRec 2 rcCurve) (staged [])
     let a : Authority := .tray
     let type : Nat := 15
     decide (type < 256) &&
     decide (lets s a (pgCAL * 4096 + 64) 4 CAL.CAL_CMD_COMMIT) &&
     decide (s.answers a (pgCAL * 4096 + 64) true = true) &&
     decide (s.cal.writing.isSome = true)),
    (let s : Machine.State := base
     let a : Authority := .tray
     let type : Nat := 15
     decide (type < 256) &&
     decide (lets s a (pgCAL * 4096 + 64) 4 CAL.CAL_CMD_COMMIT) &&
     decide (s.answers a (pgCAL * 4096 + 64) true = true) &&
     decide (s.cal.writing = none)),
    (let s : Machine.State := writingRec 2 (calRec 2 rcCurve) (staged [])
     (s.cal.writing).any fun (type, r) =>
     decide (1 ≤ type) &&
     decide (type ≤ 7) &&
     decide (s.boot.fltUp = true) &&
     decide (r.length = 20 + recLen r) &&
     decide (calLenOk type (recLen r) = true))] = true := by decide +kernel

set_option maxRecDepth 100000 in
theorem test_meets_LimitsAndMargins : List.and [
    (let s : Machine.State := tempsAt 900 base
     decide (s.boot.fltUp = true) &&
     decide (s.boot.thermUp = true) &&
     (s.firstFalls).any fun _ =>
     true),
    (let s : Machine.State := tempsAt 900 base
     decide (s.boot.fltUp = true) &&
     decide (s.boot.thermUp = true) &&
     let c : Nat := 15
     decide (c < 16) &&
     decide (s.fused c = true) &&
     decide ((s.hotBy c).isSome = true)),
    (let s : Machine.State := base
     decide (s.boot.fltUp = true) &&
     decide (s.boot.thermUp = true) &&
     let c : Nat := 15
     decide (c < 16) &&
     decide (s.fused c = true) &&
     decide (s.hotBy c = none) &&
     decide ((s.limit c).cool < 10)),
    (let s : Machine.State := base
     decide (s.boot.fltUp = true) &&
     decide (s.inService = true) &&
     let c : Nat := 15
     decide (c < 16) &&
     decide (s.live c = true)),
    (let s : Machine.State := base
     decide (s.boot.fltUp = true) &&
     let margins : List Int := []
     decide (s.inService = true) &&
     let q : Nat := 3
     decide (q < 4) &&
     decide (s.cal.due.contains 4 = false) &&
     decide (s.voltTests q = false) &&
     decide (s.on AVS.VMON_VALID 0 q = true) &&
     (bestBy (fun (a b : Nat) => decide (margins.getD a 0 < margins.getD b 0)) (List.filter (fun (d : Nat) => s.live d && !s.on TEST.TST_STAT_STALE d) (List.map (fun (j : Nat) => 4 * q + j) (List.range 4)))).any fun c =>
     decide (margins.getD c 0 < s.guard c) &&
     decide (s.rd AVS.TARGET_CODE 0 q < (s.volts q (s.rd CLKRST.PROFILE_ACTIVE)).2.2) &&
     decide ((s.volts q (s.rd CLKRST.PROFILE_ACTIVE)).2.2 < 2 ^ 16)),
    (let s : Machine.State := {testing id with ftime := 2^40}
     decide (s.boot.fltUp = true) &&
     let c : Nat := 15
     decide (c < 16) &&
     decide (600 ≤ s.refAge c) &&
     decide (s.on TEST.TST_STAT_STALE c = false) &&
     decide (s.live c = true) &&
     let d : Nat := 3
     decide (d ≠ c))] = true := by decide +kernel

set_option maxRecDepth 100000 in
theorem test_meets_SensorsAndMonitors_1 : List.and [
    (let s : Machine.State := {set (testing id) [(THERM.SFENCE_S0_63,0,0,2^63+8), (THERM.SFENCE_HI_S64_71,0,0,128)] with sensors := [(15, {outRange := 3}), (3, {disagree := 38}), (71, {outRange := 3})]}
     decide (s.boot.thermUp = true) &&
     decide (s.mainRuns = true) &&
     decide (s.boot.fltUp = true) &&
     let i : Nat := 3
     decide (i < 72) &&
     decide (s.sensorFenced i = true)),
    (let s : Machine.State := base
     let raw : List Int := []
     decide (s.boot.thermUp = true) &&
     decide (s.mainRuns = true) &&
     decide (s.boot.fltUp = true) &&
     let i : Nat := 15
     decide (i < 72) &&
     decide (s.sensorFenced i = false) &&
     decide ((s.sensor i).disagree < 39) &&
     decide (-320 ≤ (s.calTake 1).thermCode i (raw.getD i 0)) &&
     decide ((s.calTake 1).thermCode i (raw.getD i 0) ≤ 1200)),
    (let s : Machine.State := { testing id with sensors := [(3, { outRange := 3 })] }
     let raw : List Int := (List.range 72).map (fun i : Nat => (if i % 5 = 3 then 5000 else if i % 7 = 2 then (-900) else 300 + i : Int))
     decide (s.boot.thermUp = true) &&
     decide (s.mainRuns = true) &&
     decide (s.boot.fltUp = true) &&
     let i : Nat := 3
     decide (i < 72) &&
     decide (s.sensorFenced i = false) &&
     decide ((s.sensor i).disagree < 39) &&
     decide ((s.calTake 1).thermCode i (raw.getD i 0) < -320 ∨ 1200 < (s.calTake 1).thermCode i (raw.getD i 0)) &&
     decide ((s.sensor i).outRange = 3)),
    (let s : Machine.State := {set (testing id) [(THERM.SFENCE_S0_63,0,0,2^63+8), (THERM.SFENCE_HI_S64_71,0,0,128)] with sensors := [(15, {outRange := 3}), (3, {disagree := 38}), (71, {outRange := 3})]}
     let a : Authority := .host
     let i : Nat := 3
     decide (i < 72) &&
     decide (lets s a (pgTHERM * 4096 + 104 + 4 * (i / 32)) 4 THERM.SFENCE_S0_63) &&
     decide (s.sensorFenced i = true)),
    (let s : Machine.State := base
     let a : Authority := .host
     let i : Nat := 15
     decide (i < 72) &&
     decide (lets s a (pgTHERM * 4096 + 104 + 4 * (i / 32)) 4 THERM.SFENCE_S0_63) &&
     let j : Nat := 3
     decide (j < 72) &&
     decide (j ≠ i)),
    (let s : Machine.State := base
     let a : Authority := .host
     let g : Nat := 3
     let v : Nat := 0x1F_0F05
     decide (g < 6) &&
     decide (lets s a (pgTHERM * 4096 + 64 + 4 * g) 4 THERM.GRP_CFG_RATE) &&
     decide (s.boot.fltUp = true) &&
     decide (bits v 7 0 ≤ bits v 15 8)),
    (let s : Machine.State := base
     let a : Authority := .host
     let g : Nat := 3
     let v : Nat := 15
     decide (g < 6) &&
     decide (lets s a (pgTHERM * 4096 + 64 + 4 * g) 4 THERM.GRP_CFG_RATE) &&
     decide (s.boot.fltUp = true) &&
     decide (bits v 15 8 < bits v 7 0)),
    (let s : Machine.State := base
     let idx : Nat := 15
     decide (s.boot.droneRail = true) &&
     decide (s.pins.thermtrip = false) &&
     decide (idx < 76) &&
     let c : Nat := 15
     decide (c < 16))] = true := by decide +kernel

set_option maxRecDepth 100000 in
theorem test_meets_SensorsAndMonitors_2 : List.and [
    (let s : Machine.State := base
     let idx : Nat := 15
     decide (s.boot.droneRail = true) &&
     decide (s.pins.thermtrip = false) &&
     decide (idx < 76) &&
     let k : Nat := 3
     decide (k < 4) &&
     decide (s.on HBM.HBM_STAT_IN_SERVICE k = true)),
    (let s : Machine.State := base
     let idx : Nat := 15
     decide (s.boot.droneRail = true) &&
     decide (s.pins.thermtrip = false) &&
     decide (idx < 76) &&
     decide (s.fltIn = []) &&
     decide (s.droneToks.length < 16)),
    (let s : Machine.State := base
     decide (s.droneRuns = true) &&
     decide (s.cal.due.contains 2 = false) &&
     decide (s.calUse 2 = none)),
    (let s : Machine.State := base
     let m : Nat := 3
     let raw : Nat := 15
     decide (m < 5) &&
     decide (s.mainRuns = true) &&
     decide ((s.calTake 3).vmonCode m raw < 2 ^ 16) &&
     decide ((s.monitor m).sampled = false ∨ s.on AVS.VMON_VALID 0 m = true) &&
     decide (s.boot.fltUp = true) &&
     decide (m < 4) &&
     decide (s.rd AVS.VALARM_LO 0 m ≤ (s.calTake 3).vmonCode m raw) &&
     decide ((s.calTake 3).vmonCode m raw ≤ s.rd AVS.VALARM_HI 0 m)),
    (let s : Machine.State := {alarmsAt base with monitors := [(3, {low := 3, high := 3, sampled := true})]}
     let m : Nat := 3
     let raw : Nat := 15
     decide (m < 5) &&
     decide (s.mainRuns = true) &&
     decide ((s.calTake 3).vmonCode m raw < 2 ^ 16) &&
     decide ((s.monitor m).sampled = false ∨ s.on AVS.VMON_VALID 0 m = true) &&
     decide (s.boot.fltUp = true) &&
     decide (m < 4) &&
     decide ((s.calTake 3).vmonCode m raw < s.rd AVS.VALARM_LO 0 m) &&
     decide ((s.calTake 3).vmonCode m raw ≤ s.rd AVS.VALARM_HI 0 m) &&
     decide ((s.monitor m).low = 3)),
    (let s : Machine.State := {alarmsAt base with monitors := [(3, {low := 3, high := 3, sampled := true})]}
     let m : Nat := 3
     let raw : Nat := 7500
     decide (m < 5) &&
     decide (s.mainRuns = true) &&
     decide ((s.calTake 3).vmonCode m raw < 2 ^ 16) &&
     decide ((s.monitor m).sampled = false ∨ s.on AVS.VMON_VALID 0 m = true) &&
     decide (s.boot.fltUp = true) &&
     decide (m < 4) &&
     decide (s.rd AVS.VALARM_LO 0 m ≤ (s.calTake 3).vmonCode m raw) &&
     decide (s.rd AVS.VALARM_HI 0 m < (s.calTake 3).vmonCode m raw) &&
     decide ((s.monitor m).high = 3)),
    (let s : Machine.State := {set (alarmsAt base) [(AVS.VMON_VALID,0,3,0)] with monitors := [(3, {heldTarget := some 6100, sampled := true})]}
     let m : Nat := 3
     let raw : Nat := 15
     decide (m < 5) &&
     decide (s.mainRuns = true) &&
     decide ((s.calTake 3).vmonCode m raw < 2 ^ 16) &&
     decide (m < 4) &&
     decide ((s.monitor m).sampled = true) &&
     decide (s.on AVS.VMON_VALID 0 m = false) &&
     ((s.monitor m).heldTarget).any fun v =>
     decide (v < 2 ^ 16))] = true := by decide +kernel

set_option maxRecDepth 100000 in
theorem test_meets_PowerStates_1 : List.and [
    (let s : Machine.State := enteringState 2 base
     let a : Authority := .host
     decide (lets s a (offDrone 64) 4 DRONE.PWR_CTL_TARGET) &&
     decide (s.pw.entering.isSome = true ∨ s.pw.waking.isSome = true)),
    (let s : Machine.State := set base [(DRONE.PWR_STAT_STATE,0,0,1)]
     let a : Authority := .host
     decide (lets s a (offDrone 64) 4 DRONE.PWR_CTL_TARGET) &&
     decide (s.pw.entering = none) &&
     decide (s.pw.waking = none) &&
     decide (s.power = 1)),
    (let s : Machine.State := set base [(DRONE.PWR_STAT_STATE,0,0,2),(DRONE.WAKE_EN_EN,0,0,0x7FFFF),(DRONE.ALARM_TIME,0,0,5)]
     let a : Authority := .host
     decide (lets s a (offDrone 64) 4 DRONE.PWR_CTL_TARGET) &&
     decide (s.pw.entering = none) &&
     decide (s.pw.waking = none) &&
     decide (s.power = 2) &&
     decide (s.pins.thermtrip = false) &&
     decide (a = Authority.host)),
    (let s : Machine.State := base
     let a : Authority := .host
     decide (lets s a (offDrone 64) 4 DRONE.PWR_CTL_TARGET) &&
     decide (s.pw.entering = none) &&
     decide (s.pw.waking = none) &&
     decide (s.power ≤ 1) &&
     decide (s.mayDoze = true)),
    (let s : Machine.State := queued [cmd 0 0 [] .fetched] base
     let a : Authority := .host
     decide (lets s a (offDrone 64) 4 DRONE.PWR_CTL_TARGET) &&
     decide (s.pw.entering = none) &&
     decide (s.pw.waking = none) &&
     decide (s.power ≤ 1) &&
     decide (s.mayDoze = false)),
    (let s : Machine.State := set up [(DRONE.PWR_STAT_STATE,0,0,0)]
     let a : Authority := .host
     decide (lets s a (offDrone 64) 4 DRONE.PWR_CTL_TARGET) &&
     decide (s.pw.entering = none) &&
     decide (s.pw.waking = none) &&
     decide (s.power = 0) &&
     decide (∀ c ∈ List.range 16, (s.tcore c).chosen = false) &&
     decide (s.mayDrone = true)),
    (let s : Machine.State := base
     let a : Authority := .host
     decide (lets s a (offDrone 64) 4 DRONE.PWR_CTL_TARGET) &&
     decide (s.pw.entering = none) &&
     decide (s.pw.waking = none) &&
     decide (s.power = 0) &&
     decide (∀ c ∈ List.range 16, (s.tcore c).chosen = false) &&
     decide (s.mayDrone = false)),
    (let s : Machine.State := enteringState 2 base
     decide (s.pw.entering = some 2) &&
     decide (∀ c ∈ List.range 16, (s.tcore c).chosen = false) &&
     let c : Nat := 15
     decide (c < 16))] = true := by decide +kernel

set_option maxRecDepth 100000 in
theorem test_meets_PowerStates_2 : List.and [
    (let s : Machine.State := enteringState 2 base
     decide (s.pw.entering = some 2) &&
     decide (∀ c ∈ List.range 16, (s.tcore c).chosen = false) &&
     let k : Nat := 3
     decide (k < 4) &&
     decide (s.on HBM.HBM_STAT_IN_SERVICE k = true)),
    (let s : Machine.State := enteringState 3 base
     decide (s.pw.entering = some 3) &&
     decide (s.fltIn = []) &&
     decide (s.mor.queue = []) &&
     let c : Nat := 15
     decide (c < 16)),
    (let s : Machine.State := enteringState 3 base
     decide (s.pw.entering = some 3) &&
     decide (s.fltIn = []) &&
     decide (s.mor.queue = []) &&
     let k : Nat := 3
     decide (k < 4) &&
     decide (s.on HBM.HBM_STAT_IN_SERVICE k = true)),
    (let s : Machine.State := enteringState 3 base
     decide (s.pw.entering = some 3) &&
     decide (s.fltIn = []) &&
     decide (s.mor.queue = []) &&
     let q : Nat := 3
     decide (q < 4) &&
     decide (s.on AVS.VMON_VALID 0 q = true)),
    (let s : Machine.State := {set base [(DRONE.PWR_STAT_STATE,0,0,2)] with pw := {waking := some 3}}
     (s.pw.waking).any fun code =>
     decide (code < 256) &&
     decide (s.boot.fltUp = true) &&
     let k : Nat := 3
     decide (k < 4) &&
     decide (s.on HBM.HBM_STAT_IN_SERVICE k = true)),
    (let s : Machine.State := set base [(DRONE.PWR_STAT_STATE,0,0,2),(DRONE.WAKE_EN_EN,0,0,0x7FFFF),(DRONE.ALARM_TIME,0,0,5)]
     decide (s.droneRuns = true) &&
     let code : Nat := 5
     let p : Nat := 15
     decide (code ∈ [5, 6, 8]) &&
     decide (s.power = 2 ∧ s.pw.entering = none ∧ s.pw.waking = none ∧ s.pins.thermtrip = false ∧ s.wakeActs code p 2 = true)),
    (let s : Machine.State := enteringState 2 (set base [(DRONE.WAKE_EN_EN,0,0,0x7FFFF),(DRONE.ALARM_TIME,0,0,5)])
     decide (s.droneRuns = true) &&
     let code : Nat := 5
     let p : Nat := 15
     decide (code ∈ [5, 6, 8]) &&
     decide (s.boot.fltUp = true ∧ ∃ (st : Nat), s.pw.entering = some st ∧ s.wakeActs code p st = true)),
    (let s : Machine.State := set base [(DRONE.PWR_STAT_STATE,0,0,2),(DRONE.WAKE_EN_EN,0,0,0x7FFFF),(DRONE.ALARM_TIME,0,0,5)]
     decide (s.droneRuns = true) &&
     decide (s.rd DRONE.ALARM_TIME ≠ 0) &&
     decide (s.rd DRONE.ALARM_TIME ≤ s.ftime) &&
     decide (s.power = 2 ∧ s.pw.entering = none ∧ s.pw.waking = none ∧ s.pins.thermtrip = false ∧ s.wakeActs 7 0 2 = true))] = true := by decide +kernel

set_option maxRecDepth 100000 in
theorem test_meets_PowerStates_3 : List.and [
    (let s : Machine.State := enteringState 2 (set base [(DRONE.WAKE_EN_EN,0,0,0x7FFFF),(DRONE.ALARM_TIME,0,0,5)])
     decide (s.droneRuns = true) &&
     decide (s.rd DRONE.ALARM_TIME ≠ 0) &&
     decide (s.rd DRONE.ALARM_TIME ≤ s.ftime) &&
     decide (s.boot.fltUp = true ∧ ∃ (st : Nat), s.pw.entering = some st ∧ s.wakeActs 7 0 st = true))] = true := by decide +kernel

set_option maxRecDepth 100000 in
theorem test_meets_HostTransactions_1 : List.and [
    (let s : Machine.State := base
     decide (s.boot.fltUp = true) &&
     let width : Nat := 3
     let rate : Nat := 3
     decide (s.mainRuns = true) &&
     decide (s.pins.perst = false) &&
     decide (width < 16) &&
     decide (rate < 16) &&
     decide (s.pci.trained = true)),
    (let s : Machine.State := base
     decide (s.boot.fltUp = true) &&
     decide (s.pins.perst = false) &&
     decide (s.pci.linkUp = true)),
    (let s : Machine.State := base
     decide (s.boot.fltUp = true) &&
     let func : Nat := 3
     let off : Nat := 3
     decide (func < 64) &&
     decide (off < 2 ^ 28)),
    (let s : Machine.State := copying 1 (hostRead false 7)
     decide (s.boot.fltUp = true) &&
     let tag : Nat := 3
     (List.find? (fun (d : DmaRead) => decide (d.tag = tag)) s.pci.reads).any fun d =>
     decide (d.reissued = false)),
    (let s : Machine.State := copying 1 (hostRead true 7)
     decide (s.boot.fltUp = true) &&
     let tag : Nat := 3
     (List.find? (fun (d : DmaRead) => decide (d.tag = tag)) s.pci.reads).any fun d =>
     decide (d.reissued = true)),
    (let s : Machine.State := { copying 1 (hostRead false 7) with ftime := 2 ^ 40 }
     decide (s.boot.fltUp = true) &&
     let tag : Nat := 3
     (List.find? (fun (d : DmaRead) => decide (d.tag = tag)) s.pci.reads).any fun d =>
     decide (s.timeoutOn = true) &&
     decide (d.since + 100 * s.timeoutUs ≤ s.ftime)),
    (let s : Machine.State := (let s := copying 1 (hostRead false 7); { s with pci := { s.pci with cfg := [(cfgKey 0 cfgDevCtl2, 16)] } })
     decide (s.boot.fltUp = true) &&
     let tag : Nat := 3
     (List.find? (fun (d : DmaRead) => decide (d.tag = tag)) s.pci.reads).any fun _ =>
     decide (s.timeoutOn = false)),
    (let s : Machine.State := copying 1 (hostRead false 6)
     decide (s.boot.fltUp = true) &&
     let tag : Nat := 3
     (List.find? (fun (d : DmaRead) => decide (d.tag = tag)) s.pci.reads).any fun d =>
     decide (d.entry = false) &&
     decide (d.gen ≠ (s.ctx d.ctx).gen))] = true := by decide +kernel

set_option maxRecDepth 100000 in
theorem test_meets_HostTransactions_2 : List.and [
    (let s : Machine.State := copying 1 (hostRead false 7)
     decide (s.boot.fltUp = true) &&
     let tag : Nat := 3
     (List.find? (fun (d : DmaRead) => decide (d.tag = tag)) s.pci.reads).any fun d =>
     (List.find? (fun (k : Cmd) => decide (k.ssn = d.ssn)) ((s.ctx d.ctx).queue d.queue).cmds).any fun k =>
     decide (d.entry = false) &&
     decide (d.gen = (s.ctx d.ctx).gen) &&
     decide ((s.ctx d.ctx).state = CtxState.owned) &&
     decide ((s.ctx d.ctx).freezing = false) &&
     decide (k.hostCopy = true) &&
     decide ((memoryClear s)) &&
     decide (bit (k.at 40) 1 = false)),
    (let s : Machine.State := copying 3 (hostRead false 7)
     decide (s.boot.fltUp = true) &&
     let tag : Nat := 3
     (List.find? (fun (d : DmaRead) => decide (d.tag = tag)) s.pci.reads).any fun d =>
     (List.find? (fun (k : Cmd) => decide (k.ssn = d.ssn)) ((s.ctx d.ctx).queue d.queue).cmds).any fun k =>
     decide (d.entry = false) &&
     decide (d.gen = (s.ctx d.ctx).gen) &&
     decide ((s.ctx d.ctx).state = CtxState.owned) &&
     decide ((s.ctx d.ctx).freezing = false) &&
     decide (k.hostCopy = true) &&
     decide ((memoryClear s)) &&
     decide (bit (k.at 40) 1 = true)),
    (let s : Machine.State := base
     decide (s.boot.fltUp = true) &&
     let func : Nat := 0
     let vec : Nat := 3
     decide (s.inService = true) &&
     decide (vec < vectorsOf func) &&
     decide (func = 0 ∨ s.vfExists func = true ∧ s.flrBusy func = false) &&
     let j : Nat := 15
     decide (j ≠ msiKey func vec)),
    (let s : Machine.State := { base with pci := { base.pci with identity := false } }
     decide (s.boot.fltUp = true) &&
     decide (s.mainRuns = true) &&
     decide (s.pins.perst = false) &&
     decide (s.pci.identity = false)),
    (let s : Machine.State := base
     decide (s.boot.fltUp = true) &&
     decide (s.mainRuns = true) &&
     decide (s.pins.perst = false) &&
     decide (s.pci.identity = true) &&
     ([(0, 3222675260), (8, 301990064), (12, 0), (24, 0), (28, 0), (32, 0), (36, 0), (44, s.sec.subsys % 2 ^ 16 * 2 ^ 16 + 7996), (340, s.sec.serial % 2 ^ 32), (380, 63 * 2 ^ 16 + 63), (388, 65537)]).any fun _ =>
     true),
    (let s : Machine.State := base
     decide (s.boot.fltUp = true) &&
     decide (s.mainRuns = true) &&
     decide (s.pins.perst = false) &&
     decide (s.pci.identity = true) &&
     let v : Nat := 0
     decide (v < 2 ^ 32) &&
     decide (bits v 3 0 = 0))] = true := by decide +kernel

set_option maxRecDepth 100000 in
theorem test_meets_OrderedSessions : List.and [
    (let s : Machine.State := ordIn 65535 0 [(3, {rxSession 65535 with held := []})]
     (match s.fabric.inOrdered with
     | [] => false
     | (_, f) :: _ =>
     decide (s.rd DRONE.PWR_STAT_STATE ≠ 2) &&
     (SMap.find s.fabric.rx f.src).any fun r =>
     decide (r.snonce = f.snonce) &&
     decide (r.session = f.session) &&
     decide (f.oseq = r.expect) &&
     decide (∀ h ∈ r.held, h.1 ≠ (r.expect + 1) % 2 ^ 16))),
    (let s : Machine.State := ordIn 7 0 [(3, rxSession 6)]
     (match s.fabric.inOrdered with
     | [] => false
     | (_, f) :: _ =>
     decide (s.rd DRONE.PWR_STAT_STATE ≠ 2) &&
     (SMap.find s.fabric.rx f.src).any fun r =>
     decide (r.snonce = f.snonce) &&
     decide (r.session = f.session) &&
     decide (before16 r.expect f.oseq = true) &&
     decide (r.held.length < 64) &&
     decide (∀ h ∈ r.held, h.1 ≠ f.oseq))),
    (let s : Machine.State := ordIn 7 0 [(3, rxSession 9)]
     (match s.fabric.inOrdered with
     | [] => false
     | (_, f) :: _ =>
     decide (s.rd DRONE.PWR_STAT_STATE ≠ 2) &&
     (SMap.find s.fabric.rx f.src).any fun r =>
     decide (r.snonce = f.snonce) &&
     decide (r.session = f.session) &&
     decide (f.oseq ≠ r.expect) &&
     decide (before16 r.expect f.oseq = false))),
    (let s : Machine.State := ordIn 0 1 []
     (match s.fabric.inOrdered with
     | [] => false
     | (_, f) :: _ =>
     decide (s.rd DRONE.PWR_STAT_STATE ≠ 2) &&
     decide (SMap.find s.fabric.rx f.src = none) &&
     decide (f.opens = true) &&
     decide (f.oseq = 0))),
    (let s : Machine.State := ackIn 5 1 0 (sessions (routed base))
     ((s.takeFlit 3 fun (e : DataFlit) => decide (e.op = 40))).any fun (_, f, u) =>
     (SMap.find u.fabric.tx f.src).any fun _ =>
     decide (f.status ≠ stPEER_LOST)),
    (let s : Machine.State := (let s := ackIn 9 0 stPEER_LOST (sessions (routed base)); {s with fabric := {s.fabric with tx := [(3, {session := 9, unacked := [(0, 0, ordered 0 0)]})]}})
     ((s.takeFlit 3 fun (e : DataFlit) => decide (e.op = 40))).any fun (_, f, u) =>
     (SMap.find u.fabric.tx f.src).any fun x =>
     decide (f.status = stPEER_LOST) &&
     decide (x.session = f.session) &&
     decide (∀ e ∈ x.unacked, e.2.2.session ≠ f.session)),
    (let s : Machine.State := (let s := sessions (routed base); {s with fabric := {s.fabric with tx := [(3, {session := 9, unacked := [(0, 0, (s.mkFlit {cls := 1, op := 0x10, dst := 3})), (1, 0, (s.mkFlit {cls := 1, op := 0x20, dst := 3}))]})]}})
     let d : Nat := 3
     let q : Nat := 15
     (SMap.find s.fabric.tx d).any fun x =>
     decide (∀ e ∈ x.unacked, (fun (e : Nat × Nat × DataFlit) => decide (e.2.1 + max 1 (s.rd FABRIC.FAB_TMO_ORD_US) * 100 ≤ s.ftime)) e = true → e.2.2.cls = clORDERED ∧ s.hop e.2.2 = Hop.port q) &&
     let r : Nat := 0
     decide (r ≠ q))] = true := by decide +kernel

set_option maxRecDepth 100000 in
theorem test_meets_PageHeaders_1 : List.and [
    (let s : Machine.State := base
     let a : Authority := .host
     let p : Nat := 3
     decide (p < 1024) &&
     decide (lets s a (p * 4096 + 16) 4 HDR.CTL_LOCK)),
    (let s : Machine.State := base
     let a : Authority := .host
     let p : Nat := 3
     decide (p < 1024) &&
     decide (lets s a (p * 4096 + 16) 4 HDR.CTL_QUIESCE)),
    (let s : Machine.State := base
     let a : Authority := .self_
     let p : Nat := 3
     decide (p < 1024) &&
     decide (lets s a (p * 4096 + 16) 4 HDR.CTL_TEST_HOLD)),
    (let s : Machine.State := base
     let a : Authority := .host
     let p : Nat := 0x1F0
     decide (p < 1024) &&
     decide (lets s a (p * 4096 + 16) 4 HDR.CTL_FENCE) &&
     let c : Nat := 15
     decide (c < 16) &&
     decide (p ∈ corePages c) &&
     decide (bit s.boot.softFence c = false) &&
     decide (bit s.boot.fenceCores c = false) &&
     decide ((s.serac.softFencing.any fun (e : Nat × Nat) => decide (e.1 = c)) = false)),
    (let s : Machine.State := softFenced base
     let a : Authority := .host
     let p : Nat := 0x1F0
     decide (p < 1024) &&
     decide (lets s a (p * 4096 + 16) 4 HDR.CTL_FENCE) &&
     let c : Nat := 15
     decide (c < 16) &&
     decide (p ∈ corePages c) &&
     decide (bit s.boot.softFence c = true) &&
     decide (s.rd HDR.STAT_STATE (pgFE c) ≠ stRESET) &&
     (corePages c).any fun _ =>
     true),
    (let s : Machine.State := base
     let a : Authority := .host
     let p : Nat := 7
     decide (p < 1024) &&
     decide (lets s a (p * 4096 + 16) 4 HDR.CTL_FENCE) &&
     decide (p = pgSERAC) &&
     decide (s.compFenced = false) &&
     decide (s.boot.fltUp = true)),
    (let s : Machine.State := base
     let a : Authority := .host
     let p : Nat := 3
     decide (p < 1024) &&
     decide (lets s a (p * 4096 + 16) 4 HDR.CTL_FENCE) &&
     decide (p ≠ pgSERAC) &&
     decide (∀ c ∈ List.range 16, p ∉ corePages c)),
    (let s : Machine.State := base
     let a : Authority := .host
     let p : Nat := 3
     decide (p < 1024) &&
     decide (lets s a (p * 4096 + 16) 4 HDR.CTL_ENABLE))] = true := by decide +kernel

set_option maxRecDepth 100000 in
theorem test_meets_PageHeaders_2 : List.and [
    (let s : Machine.State := locked base
     let a : Authority := .host
     let p : Nat := 0x1F0
     decide (p < 1024) &&
     decide (lets s a (p * 4096 + 32) 4 HDR.BLK_ERRINJ) &&
     decide (s.on HDR.CTL_LOCK p = true)),
    (let s : Machine.State := base
     let a : Authority := .host
     let p : Nat := 3
     decide (p < 1024) &&
     decide (lets s a (p * 4096 + 32) 4 HDR.BLK_ERRINJ) &&
     decide (s.on HDR.CTL_LOCK p = false) &&
     decide (s.boot.fltUp = true)),
    (let s : Machine.State := base
     let a : Authority := .host
     let p : Nat := 3
     decide (p < 1024) &&
     let v : Nat := 3
     decide (lets s a (p * 4096 + 36) 4 HDR.TOKCFG_OVR_EN) &&
     decide (overrideForbidden p v = false)),
    (let s : Machine.State := base
     let a : Authority := .host
     let p : Nat := 3
     decide (p < 1024) &&
     let v : Nat := 0xF000_0000
     decide (lets s a (p * 4096 + 36) 4 HDR.TOKCFG_OVR_EN) &&
     decide (overrideForbidden p v = true) &&
     decide (s.boot.fltUp = true))] = true := by decide +kernel

set_option maxRecDepth 100000 in
theorem test_meets_FlitsInAndOut_1 : List.and [
    (let s : Machine.State := port 15 5 (fun n => {replaying n with rxNext := 3}) base
     let p : Nat := 15
     let f : Flit := ⟨zeros 256⟩
     decide (p < 16) &&
     decide (s.boot.fltUp = true) &&
     decide (s.nlUp p = true) &&
     decide (flitOk f.bytes = false)),
    (let s : Machine.State := port 15 5 (fun n => {replaying n with rxNext := 3}) base
     let p : Nat := 15
     let f : Flit := flit tDATA 2 (outgoing 2 0x1 0 4).data
     decide (p < 16) &&
     decide (s.boot.fltUp = true) &&
     decide (s.nlUp p = true) &&
     decide (flitOk f.bytes = true) &&
     decide (flitType f.bytes = tDATA) &&
     decide (s.ladder.chip = none) &&
     decide (flitSeq f.bytes = (s.port p).rxNext) &&
     decide (s.classFits { cls := flitClass f.bytes, data := flitPayload f.bytes : DataFlit } = true) &&
     decide ({ cls := flitClass f.bytes, data := flitPayload f.bytes : DataFlit }.dst = s.ownPart) &&
     let q : Nat := 3
     decide (q ≠ p)),
    (let s : Machine.State := port 15 5 (fun n => {replaying n with rxNext := 3}) base
     let p : Nat := 15
     let f : Flit := flit tDATA 1 (outgoing 1 0x6 0 4).data
     decide (p < 16) &&
     decide (s.boot.fltUp = true) &&
     decide (s.nlUp p = true) &&
     decide (flitOk f.bytes = true) &&
     decide (flitType f.bytes = tDATA) &&
     decide (s.ladder.chip = none) &&
     decide (flitSeq f.bytes = (s.port p).rxNext) &&
     decide (s.classFits { cls := flitClass f.bytes, data := flitPayload f.bytes : DataFlit } = true) &&
     decide ({ cls := flitClass f.bytes, data := flitPayload f.bytes : DataFlit }.dst = s.ownPart) &&
     decide ({ cls := flitClass f.bytes, data := flitPayload f.bytes : DataFlit }.cls = clORDERED ∧ { cls := flitClass f.bytes, data := flitPayload f.bytes : DataFlit }.op ≠ 40)),
    (let s : Machine.State := port 15 5 (fun n => {replaying n with rxNext := 3}) base
     let p : Nat := 15
     let f : Flit := flit tDATA 2 (outgoing 2 0x1 0 4).data
     decide (p < 16) &&
     decide (s.boot.fltUp = true) &&
     decide (s.nlUp p = true) &&
     decide (flitOk f.bytes = true) &&
     decide (flitType f.bytes = tDATA) &&
     decide (s.ladder.chip = none) &&
     decide (flitSeq f.bytes = (s.port p).rxNext) &&
     decide (s.classFits { cls := flitClass f.bytes, data := flitPayload f.bytes : DataFlit } = true) &&
     decide ({ cls := flitClass f.bytes, data := flitPayload f.bytes : DataFlit }.dst = s.ownPart) &&
     decide (¬({ cls := flitClass f.bytes, data := flitPayload f.bytes : DataFlit }.cls = clORDERED ∧ { cls := flitClass f.bytes, data := flitPayload f.bytes : DataFlit }.op ≠ 40))),
    (let s : Machine.State := port 15 5 (fun n => {replaying n with rxNext := 3}) base
     let p : Nat := 15
     let f : Flit := flit tIDLE 0 []
     decide (p < 16) &&
     decide (s.boot.fltUp = true) &&
     decide (s.nlUp p = true) &&
     decide (flitOk f.bytes = true) &&
     decide (flitType f.bytes = tIDLE) &&
     let q : Nat := 3
     decide (q ≠ p)),
    (let s : Machine.State := port 15 5 (fun n => {n with ctrl := [(tNAK, []), (tPROBE, [3#8])]}) base
     let p : Nat := 15
     decide (p < 16) &&
     decide (s.boot.fltUp = true) &&
     (match (s.port p).ctrl with
     | [] => false
     | (_, _) :: _ =>
     decide (s.nlState p ≠ nlOFF) &&
     decide (s.nlState p ≠ nlFAILED) &&
     let q : Nat := 3
     decide (q ≠ p))),
    (let s : Machine.State := port 15 5 (fun n => {replaying n with rxNext := 3}) base
     let p : Nat := 15
     decide (p < 16) &&
     decide (s.boot.fltUp = true) &&
     decide ((s.port p).ctrl = []) &&
     decide (s.nlState p = nlUP) &&
     decide (s.routable = false) &&
     let q : Nat := 3
     decide (q ≠ p)),
    (let s : Machine.State := set (port 15 5 (fun n => {n with again := [(3, outgoing 1 0x10 3 1)]}) base) [(CHIP.SVC_LEVEL_LEVEL, 0, 0, 4)]
     let p : Nat := 15
     decide (p < 16) &&
     decide (s.boot.fltUp = true) &&
     decide ((s.port p).ctrl = []) &&
     decide (s.nlState p = nlUP) &&
     decide (s.routable = true) &&
     (match (s.port p).again with
     | [] => false
     | (_, _) :: _ =>
     let q6 : Nat := 3
     decide (q6 ≠ p)))] = true := by decide +kernel

set_option maxRecDepth 100000 in
theorem test_meets_FlitsInAndOut_2 : List.and [
    (let s : Machine.State := set (port 15 5 (fun n => {n with replay := List.replicate 4096 (3, outgoing 1 0x10 3 1)}) base) [(CHIP.SVC_LEVEL_LEVEL, 0, 0, 4)]
     let p : Nat := 15
     decide (p < 16) &&
     decide (s.boot.fltUp = true) &&
     decide ((s.port p).ctrl = []) &&
     decide (s.nlState p = nlUP) &&
     decide (s.routable = true) &&
     decide ((s.port p).again = []) &&
     (match (s.port p).replay with
     | [] => false
     | (_, _) :: _ =>
     decide (4096 ≤ (s.port p).replay.length) &&
     decide ((s.port p).retries < max 1 (s.port p).cfg.replayMax))),
    (let s : Machine.State := set (port 15 5 (fun n => {credited n with urgent := [outgoing 0 0x40 3 1]}) base) [(CHIP.SVC_LEVEL_LEVEL, 0, 0, 4)]
     let p : Nat := 15
     decide (p < 16) &&
     decide (s.boot.fltUp = true) &&
     decide ((s.port p).ctrl = []) &&
     decide (s.nlState p = nlUP) &&
     decide (s.routable = true) &&
     decide ((s.port p).again = []) &&
     decide ((s.port p).replay.length < 4096) &&
     (match (s.port p).urgent with
     | [] => false
     | _ :: _ =>
     decide (0 < countAt (s.port p).credit clURGENT ∧ (s.port p).replay.length < 4096) &&
     let q : Nat := 3
     decide (q ≠ p))),
    (let s : Machine.State := set (port 15 5 (fun n => {credited (replaying n) with ordered := [outgoing 1 0x10 3 1], bulk := [outgoing 2 0x3 4095 1]}) base) [(CHIP.SVC_LEVEL_LEVEL, 0, 0, 4)]
     let p : Nat := 15
     decide (p < 16) &&
     decide (s.boot.fltUp = true) &&
     decide ((s.port p).ctrl = []) &&
     decide (s.nlState p = nlUP) &&
     decide (s.routable = true) &&
     decide ((s.port p).again = []) &&
     decide ((s.port p).replay.length < 4096) &&
     decide ((s.port p).urgent = []) &&
     (match (s.port p).ordered with
     | [] => false
     | _ :: _ =>
     decide (0 < countAt (s.port p).credit clORDERED ∧ (s.port p).replay.length < 4096) &&
     decide ((s.port p).bulk = [] ∨ ¬(fun (c : Nat) => 0 < countAt (s.port p).credit c ∧ (s.port p).replay.length < 4096) clBULK ∨ (s.port p).bulkTurn = false) &&
     let q : Nat := 3
     decide (q ≠ p))),
    (let s : Machine.State := set (port 15 5 (fun n => {credited (replaying n) with ordered := [outgoing 1 0x10 3 1], bulk := [outgoing 2 0x3 4095 1], bulkTurn := true}) base) [(CHIP.SVC_LEVEL_LEVEL, 0, 0, 4)]
     let p : Nat := 15
     decide (p < 16) &&
     decide (s.boot.fltUp = true) &&
     decide ((s.port p).ctrl = []) &&
     decide (s.nlState p = nlUP) &&
     decide (s.routable = true) &&
     decide ((s.port p).again = []) &&
     decide ((s.port p).replay.length < 4096) &&
     decide ((s.port p).urgent = []) &&
     (match (s.port p).bulk with
     | [] => false
     | _ :: _ =>
     decide (0 < countAt (s.port p).credit clBULK ∧ (s.port p).replay.length < 4096) &&
     decide ((s.port p).ordered = [] ∨ ¬(fun (c : Nat) => 0 < countAt (s.port p).credit c ∧ (s.port p).replay.length < 4096) clORDERED ∨ (s.port p).bulkTurn = true) &&
     let q : Nat := 3
     decide (q ≠ p))),
    (let s : Machine.State := set (port 15 5 id (up.wr CHIP.SVC_LEVEL_LEVEL 4)) [(CHIP.SVC_LEVEL_NL_UP,0,0,0x8000)]
     let p : Nat := 15
     decide (p < 16) &&
     decide (s.boot.fltUp = true) &&
     decide ((s.port p).ctrl = []) &&
     decide (s.nlState p = nlUP) &&
     decide (s.routable = true) &&
     decide ((s.port p).again = []) &&
     decide ((s.port p).replay.length < 4096) &&
     decide ((s.port p).urgent = []) &&
     decide ((s.port p).ordered = []) &&
     decide ((s.port p).bulk = []) &&
     let q : Nat := 3
     decide (q ≠ p)),
    (let s : Machine.State := port 15 5 (fun n => {replaying n with rxNext := 3}) base
     let p : Nat := 15
     let f : Flit := flit tNAK 0 []
     decide (p < 16) &&
     decide (s.boot.fltUp = true) &&
     decide (s.nlUp p = true) &&
     decide (flitOk f.bytes = true) &&
     decide (flitType f.bytes = tNAK) &&
     decide (List.filter (fun (e : Nat × DataFlit) => !before16 e.1 (flitAck f.bytes)) (s.port p).replay ≠ []) &&
     decide ((s.port p).retries < max 1 (s.port p).cfg.replayMax)),
    (let s : Machine.State := port 15 5 (fun n => {replaying n with rxNext := 3}) base
     let p : Nat := 15
     decide (p < 16) &&
     decide (s.boot.fltUp = true) &&
     decide (s.nlUp p = true) &&
     decide ((s.port p).replay ≠ []) &&
     decide ((s.port p).ackAt + max 1 (s.port p).cfg.ackUs * 100 ≤ s.ftime) &&
     decide ((s.port p).retries < max 1 (s.port p).cfg.replayMax)),
    (let s : Machine.State := port 15 5 (fun n => {replaying n with rxNext := 3, retries := 8}) base
     let p : Nat := 15
     decide (p < 16) &&
     decide (s.boot.fltUp = true) &&
     decide (s.nlUp p = true) &&
     decide ((s.port p).replay ≠ []) &&
     decide ((s.port p).ackAt + max 1 (s.port p).cfg.ackUs * 100 ≤ s.ftime) &&
     decide (max 1 (s.port p).cfg.replayMax ≤ (s.port p).retries))] = true := by decide +kernel

set_option maxRecDepth 100000 in
theorem test_meets_ScreeningUpkeep_1 : List.and [
    (let s : Machine.State := screening 3 { sampled .waitShadow 4 with ended := 77, compared := 77 } false 3
     decide (s.boot.fltUp = true) &&
     let e : Nat := 255
     (s.sample e).any fun x =>
     decide (x.primary < 16) &&
     decide (s.holdOver x = true) &&
     decide (x.phase = SamplePhase.waitShadow)),
    (let s : Machine.State := screening 4 { sampled .waitThird 4 with ended := 77, compared := 77 } false 3
     decide (s.boot.fltUp = true) &&
     let e : Nat := 255
     (s.sample e).any fun x =>
     decide (x.primary < 16) &&
     decide (s.holdOver x = true) &&
     decide (x.phase = SamplePhase.waitThird)),
    (let s : Machine.State := screening 3 { sampled .waitShadow 4 with ended := 77, compared := 77 } false 3
     decide (s.boot.fltUp = true) &&
     let e : Nat := 255
     (s.sample e).any fun x =>
     decide (x.primary < 16) &&
     decide (x.ended + 10000 ≤ s.ftime) &&
     decide (x.phase = SamplePhase.waitShadow ∨ x.phase = SamplePhase.runShadow)),
    (let s : Machine.State := screening 4 { sampled .waitThird 4 with ended := 77, compared := 77 } false 3
     decide (s.boot.fltUp = true) &&
     let e : Nat := 255
     (s.sample e).any fun x =>
     decide (x.primary < 16) &&
     decide (x.ended + 10000 ≤ s.ftime) &&
     decide (x.phase = SamplePhase.waitThird ∨ x.phase = SamplePhase.runThird)),
    (let s : Machine.State := {up with ftime := 24 * 3600 * 100000000 * 3, serac := {scores := [(3, ⟨5, 1, 3⟩), (4, ⟨6, 255, 3⟩)]}}
     decide (s.boot.fltUp = true) &&
     decide (s.ftime % (24 * 3600 * 100000000) = 0)),
    (let s : Machine.State := {up with serac := {spares := [(3, true, 5), (15, false, 511)]}}
     decide (s.boot.fltUp = true) &&
     let c : Nat := 15
     decide (c < 16) &&
     (List.find? (fun (e : Nat × Bool × Nat) => decide (e.1 = c)) s.serac.spares).any fun (_, row, l) =>
     decide (l < 2 ^ 10) &&
     decide ((s.core c).dsa.running = none) &&
     decide ((s.core c).dsa.readout = none) &&
     decide ((s.core c).dsa.serac = none) &&
     (List.find? (fun (j : Nat) => !s.on (if row = true then DSA.DSA_ROWMAP_VALID else DSA.DSA_COLMAP_VALID) c j) (List.range 7)).any fun _ =>
     true),
    (let s : Machine.State := {up with serac := {fencing := [(15, 2000000, 5)]}}
     decide (s.boot.fltUp = true) &&
     let c : Nat := 15
     decide (c < 16) &&
     (List.find? (fun (e : Nat × Nat × Nat) => decide (e.1 = c)) s.serac.fencing).any fun (_, _, _) =>
     decide ((s.core c).groups = []) &&
     decide ((s.tcore c).chosen = false) &&
     let d5 : Nat := 3
     decide (d5 ≠ c)),
    (let s : Machine.State := {up with serac := {fencing := [(15, 2000000, 5)]}}
     decide (s.boot.fltUp = true) &&
     let c : Nat := 15
     decide (c < 16) &&
     (List.find? (fun (e : Nat × Nat × Nat) => decide (e.1 = c)) s.serac.fencing).any fun (_, _, _) =>
     decide ((s.core c).groups = []) &&
     decide ((s.tcore c).chosen = false) &&
     (corePages c).any fun _ =>
     true)] = true := by decide +kernel

set_option maxRecDepth 100000 in
theorem test_meets_ScreeningUpkeep_2 : List.and [
    (let s : Machine.State := screening 3 (sampled .waitShadow 4) false 3
     decide (s.boot.fltUp = true) &&
     let a : Authority := .host
     decide (lets s a offSrcCtl 4 SERAC.SRC_CTL_SHADOW_EN))] = true := by decide +kernel

set_option maxRecDepth 100000 in
theorem test_meets_BootStages_1 : List.and [
    (let s : Machine.State := (let s := atStage 0 false; {s with boot := {s.boot with aligned := false}})
     decide (s.mainRuns = true) &&
     let diodes : List Int := []
     decide (s.stage = 0) &&
     decide (s.boot.aligned = false) &&
     decide (s.pins.perst = false) &&
     decide (s.pins.droneOk = true) &&
     decide (∀ d ∈ diodes, d < 864) &&
     ([CLKRST.CLK_STAT_REFCLK_OK, CLKRST.CLK_STAT_HOST_LOCK, CLKRST.CLK_STAT_HBM_LOCK, CLKRST.CLK_STAT_FAB_LOCK, CLKRST.CLK_STAT_CHANTER_LOCK]).any fun _ =>
     true),
    (let s : Machine.State := (let s := atStage 0 false; {s with boot := {s.boot with aligned := false}})
     decide (s.mainRuns = true) &&
     let diodes : List Int := [864]
     decide (s.stage = 0) &&
     decide (s.boot.aligned = false) &&
     decide (s.pins.perst = false) &&
     decide (s.pins.droneOk = true) &&
     decide (∃ d ∈ diodes, 864 ≤ d)),
    (let s : Machine.State := (let s := atStage 0 false; {s with boot := {s.boot with aligned := true}})
     decide (s.mainRuns = true) &&
     decide (s.stage = 0) &&
     decide (s.boot.aligned = true)),
    (let s : Machine.State := set (atStage 1 false) [(SEC.SEC_STAT_LC,0,0,3)]
     decide (s.mainRuns = true) &&
     decide (s.stage = 1) &&
     decide (s.lc = 3)),
    (let s : Machine.State := keptImage (withImage (1#8 :: zeros 95))
     decide (s.mainRuns = true) &&
     decide (s.stage = 1) &&
     decide (s.lc ≠ 3) &&
     decide (s.fwKept = true)),
    (let s : Machine.State := atStage 1 false
     decide (s.mainRuns = true) &&
     let readable : Bool := false
     decide (s.stage = 1) &&
     decide (s.lc ≠ 3) &&
     decide (s.fwKept = false) &&
     decide (readable = false ∨ s.sec.flashOk = false)),
    (let s : Machine.State := atStage 1 false
     decide (s.mainRuns = true) &&
     let readable : Bool := true
     decide (s.stage = 1) &&
     decide (s.lc ≠ 3) &&
     decide (s.fwKept = false) &&
     decide (readable = true) &&
     decide (s.sec.flashOk = true) &&
     decide (s.fwSelect = none)),
    (let s : Machine.State := (let s := atStage 2 false; {s with boot := {s.boot with deferred := [hostStall]}, droneToks := [s.stamped hostStall]})
     decide (s.mainRuns = true) &&
     decide (s.stage = 2) &&
     decide (s.boot.fltUp = false) &&
     decide (s.boot.avsUp = true) &&
     (s.boot.deferred).any fun _ =>
     true)] = true := by decide +kernel

set_option maxRecDepth 100000 in
theorem test_meets_BootStages_2 : List.and [
    (let s : Machine.State := set (atStage 2 false) [(CHIP.BOOT_EARLY_WR,0,0,3)]
     decide (s.mainRuns = true) &&
     decide (s.stage = 2) &&
     decide (s.boot.fltUp = false) &&
     decide (s.boot.avsUp = true) &&
     decide (s.rd CHIP.BOOT_EARLY_WR ≠ 0)),
    (let s : Machine.State := atStage 3 true
     decide (s.mainRuns = true) &&
     decide (s.stage = 3) &&
     let a : Nat := spadBase
     decide (spadBase ≤ a) &&
     decide (a < spadBase + 16 * sliceSize)),
    (let s : Machine.State := atStage 3 true
     decide (s.mainRuns = true) &&
     let results : List StackResult := [⟨0, true, 5, 30⟩, ⟨3, true, 5, 30⟩, ⟨2, false, 5, 30⟩]
     decide (s.stage = 3) &&
     let k : Nat := 3
     decide (k < 4) &&
     (List.find? (fun (r : StackResult) => decide (r.stack = k)) results).any fun r =>
     decide (r.trained = true)),
    (let s : Machine.State := atStage 3 true
     decide (s.mainRuns = true) &&
     decide (s.stage = 3) &&
     decide (s.boot.ueLogs = []) &&
     decide (s.sec.lcLast = some s.lc) &&
     let a : Nat := 15
     decide (a < 4 * hbmSize)),
    (let s : Machine.State := atStage 3 true
     decide (s.mainRuns = true) &&
     decide (s.stage = 3) &&
     decide (s.sec.lcLast = some s.lc) &&
     decide (s.boot.restoreOk = true) &&
     decide (s.on HBM.HBM_STAT_IN_SERVICE = true) &&
     decide (bit s.boot.hadStacks 0 = false)),
    (let s : Machine.State := atStage 4 true
     decide (s.mainRuns = true) &&
     let results : List AdmitResult := [{core := 15, firstRun := none, secondRun := none, badRows := [], badCols := []}, {core := 3, firstRun := some 5, secondRun := some 5, badRows := [], badCols := []}, {core := 4, firstRun := none, secondRun := none, badRows := [3], badCols := [5]}]
     decide (s.stage = 4) &&
     let c : Nat := 15
     decide (c < 16) &&
     decide (s.fused c = true) &&
     decide (s.coreFenced c = false) &&
     (List.find? (fun (r : AdmitResult) => decide (r.core = c)) results).any fun r =>
     decide (r.badRows = []) &&
     decide (r.badCols = []) &&
     decide (r.firstRun = none)),
    (let s : Machine.State := atStage 4 true
     decide (s.mainRuns = true) &&
     let results : List AdmitResult := [{core := 15, firstRun := none, secondRun := none, badRows := [], badCols := []}, {core := 3, firstRun := some 5, secondRun := some 5, badRows := [], badCols := []}, {core := 4, firstRun := none, secondRun := none, badRows := [3], badCols := [5]}]
     decide (s.stage = 4) &&
     let c : Nat := 3
     decide (c < 16) &&
     decide (s.fused c = true) &&
     decide (s.coreFenced c = false) &&
     (List.find? (fun (r : AdmitResult) => decide (r.core = c)) results).any fun r =>
     decide (r.firstRun.isSome = true) &&
     decide (r.secondRun.isSome = true)),
    (let s : Machine.State := atStage 5 true
     decide (s.mainRuns = true) &&
     decide (s.stage = 5) &&
     decide (s.boot.clocks = false) &&
     let c : Nat := 15
     decide (c < 16) &&
     decide (s.live c = true))] = true := by decide +kernel

set_option maxRecDepth 100000 in
theorem test_meets_BootStages_3 : List.and [
    (let s : Machine.State := atStage 5 true
     decide (s.mainRuns = true) &&
     decide (s.stage = 5) &&
     decide (s.boot.clocks = false) &&
     let q : Nat := 3
     decide (q < 4) &&
     decide ((s.volts q (s.rd CLKRST.PROFILE_ACTIVE)).1 ≤ 7600)),
    (let s : Machine.State := (let s := vector0 (atStage 5 true); {s with boot := {s.boot with clocks := true}, pci := {s.pci with cfg := [(cfgKey 0 cfgMsix, 2 ^ 31)]}})
     decide (s.mainRuns = true) &&
     decide (s.stage = 5) &&
     decide (s.boot.clocks = true) &&
     decide ((SMap.get s.pci.msix (msiKey 0 0) { : MsiVec }).mask = false) &&
     decide (s.msixMasked 0 = false) &&
     decide (s.msixEnabled 0 = true)),
    (let s : Machine.State := (let s := atStage 0 false; {s with boot := {s.boot with aligned := true}})
     decide (s.mainRuns = true) &&
     decide (s.pins.perst = false) &&
     decide (s.stage = 0) &&
     decide (s.boot.aligned = true)),
    (let s : Machine.State := (let s := atStage 0 false; {s with boot := {s.boot with aligned := false}})
     decide (s.mainRuns = true) &&
     decide (s.pins.perst = false) &&
     decide (s.stage = 0) &&
     decide (s.boot.aligned = false)),
    (let s : Machine.State := atStage 1 false
     decide (s.mainRuns = true) &&
     decide (s.pins.perst = false) &&
     decide (s.stage = 1)),
    (let s : Machine.State := (let s := atStage 2 false; {s with boot := {s.boot with deferred := [hostStall]}, droneToks := [s.stamped hostStall]})
     decide (s.mainRuns = true) &&
     decide (s.pins.perst = false) &&
     decide (s.stage = 2)),
    (let s : Machine.State := atStage 3 true
     decide (s.mainRuns = true) &&
     decide (s.pins.perst = false) &&
     decide (s.stage = 3)),
    (let s : Machine.State := atStage 4 true
     decide (s.mainRuns = true) &&
     decide (s.pins.perst = false) &&
     decide (s.stage = 4))] = true := by decide +kernel

set_option maxRecDepth 100000 in
theorem test_meets_BootStages_4 : List.and [
    (let s : Machine.State := atStage 5 true
     decide (s.mainRuns = true) &&
     let windows : List Nat := [15, 3]
     decide (s.pins.perst = false) &&
     decide (s.stage = 5) &&
     decide (s.boot.clocks = false) &&
     let c : Nat := 15
     decide (c < 16) &&
     decide (s.live c = true) &&
     decide (c ∈ windows))] = true := by decide +kernel

set_option maxRecDepth 100000

/-! Four clauses rest on an answer of Config: these theorems take it as their hypothesis. -/

/-- Core 15 holds the line of its group's pc in its instruction cache, and does not fetch it again. -/
def lineHeld : State :=
  (thr (ins 0x7E 62 0 0 0 0) []).modCore 15 (fun k =>
    { k with icache := [(0x200, zeros 8 ++ toLE (ins 0x7D 62 0 0 0 0) 8 ++ zeros 48)] })

theorem test_meets_LinesFetched :
    (lineHeld.issuePoint 15 127).any (fun i => i.inRange && decide (i.pc / 64 = 0x200)) = true := by decide +kernel

theorem test_meets_LinesFetched_held (h : Config.refetches 15 0x200 (lineHeld.rd HDR.BLK_PROG (pgFE 15)) = false) :
    (lineHeld.heldLine 15 0x200).isSome = true := by
  unfold State.heldLine
  rw [h]
  decide +kernel

/-- The bytes of the pack that is loaded. -/
def packBytes : List Byte := (loadingPack goodSig).hostBytes 0x90_0000 256

theorem test_meets_PacksLoad (h : signatureOk 1 (sha256 (packBytes.take (256 - 96))) (packBytes.drop (256 - 96)) = true) :
    (loadingPack goodSig).packReason packBytes 256 true = 0 := by
  unfold State.packReason
  rw [if_neg (by decide +kernel), if_neg (by decide +kernel), if_neg (by decide +kernel), if_neg (by decide +kernel),
    if_neg (by decide +kernel), if_neg (by simp [h]), if_neg (by decide +kernel), if_neg (by decide +kernel),
    if_neg (by decide +kernel), if_neg (by decide +kernel)]

theorem test_meets_PacksLoad_state :
    (loadingPack goodSig).test.loading = some (0x90_0000, 256, false) ∧ (loadingPack goodSig).boot.fltUp = true ∧
    ∀ c ∈ List.range 16, ((loadingPack goodSig).tcore c).chosen = false := by decide +kernel

theorem test_meets_FirmwareUpdates_state :
    (updating (image goodSig) base).inService = true ∧ 4096 ≤ (image goodSig).length ∧
    (updating (image goodSig) base).sec.runSlot < 2 ∧ 0x10_1000 ≤ (updating (image goodSig) base).sec.flashHalf ∧
    (updating (image goodSig) base).rd SEC.SEC_STAT_MIN_SVN = 0 := by decide +kernel

theorem selects_slotA {s : State} (h : fwReason (s.fwSlot 0).1 (s.fwSlot 0).2 (s.rd SEC.SEC_STAT_MIN_SVN) = 0) :
    s.fwSelect.isSome = true := by
  have h0 : s.fwSlotOk 0 = true := decide_eq_true h
  unfold State.fwSelect
  dsimp only
  split <;> simp [List.find?, h0]
  split <;> simp

/-- A header and body that verify pass the ROM's checks. -/
theorem reason_zero {h b : List Byte} {m : Nat}
    (h1 : fwHeaderOk h = true ∧ m ≤ leAt h 4 1 % 64 ∧ sha256 b = (h.drop 0x10).take 32)
    (h4 : signatureOk 0 (sha256 (h.take 0x30)) ((h.drop 0x30).take 96) = true) : fwReason h b m = 0 := by
  simp [fwReason, h1.1, Nat.not_lt.mpr h1.2.1, h1.2.2, h4]

theorem test_meets_FirmwareUpdates
    (h : signatureOk 0 (sha256 (((image goodSig).take 4096).take 0x30)) ((((image goodSig).take 4096).drop 0x30).take 96) = true) :
    fwReason ((image goodSig).take 4096) (((image goodSig).drop 4096).take 0) 0 = 0 :=
  reason_zero (by decide +kernel) h

theorem test_meets_BootStages_image
    (h : signatureOk 0 (sha256 (((withImage goodSig).fwSlot 0).1.take 0x30)) ((((withImage goodSig).fwSlot 0).1.drop 0x30).take 96) = true) :
    (withImage goodSig).fwSelect.isSome = true :=
  selects_slotA (reason_zero (by decide +kernel) h)

theorem test_meets_BootStages_slot :
    (withImage goodSig).mainRuns = true ∧ (withImage goodSig).stage = 1 ∧ (withImage goodSig).lc ≠ 3 ∧ (withImage goodSig).fwKept = false ∧
    (withImage goodSig).sec.flashOk = true := by decide +kernel

end Sys2Proof.Tests
end

section
/-! A step on an empty queue: what one unit of field time moves, and what it leaves (R343, R392 and R612; logs 5 and 67). -/
namespace Sys2Proof.Machine

/-! ### Folds of a state change -/

/-- What every change of a fold keeps holds at its end. -/
theorem State.each_inv {α : Type} {f : State → α → State} (P : State → Prop) (hf : ∀ t x, P t → P (f t x)) (l : List α) :
    ∀ s : State, P s → P (s.each l f) := by
  induction l with
  | nil => exact fun _ h => h
  | cons x xs ih => exact fun s h => ih (f s x) (hf s x h)

theorem State.each_range_succ (s : State) (n : Nat) (f : State → Nat → State) :
    s.each (List.range (n + 1)) f = f (s.each (List.range n) f) n := by
  simp [State.each, List.range_succ]

/-- A fold of changes that leave a core leaves it. -/
theorem State.each_core {α : Type} {f : State → α → State} {c : Nat} (hf : ∀ (t : State) x, (f t x).core c = t.core c)
    (l : List α) (s : State) : (s.each l f).core c = s.core c :=
  State.each_inv (fun t => t.core c = s.core c) (fun t x h => (hf t x).trans h) l s rfl

/-! ### What the clocks may move -/

/-- From s to t only the cores, Serac's state and the contexts' deficits moved: what the core clocks and the screening credits touch. -/
structure State.ClockFrame (s t : State) : Prop where
  rest : t = { s with ctxs := t.ctxs, cores := t.cores, serac := t.serac }
  ctx : ∀ x, t.ctx x = { s.ctx x with deficit := (t.ctx x).deficit }

theorem State.ClockFrame.refl (s : State) : s.ClockFrame s := ⟨rfl, fun _ => rfl⟩

theorem State.ClockFrame.trans {s t u : State} (h : s.ClockFrame t) (h' : t.ClockFrame u) : s.ClockFrame u where
  rest := by rw [h'.rest, h.rest]
  ctx x := by rw [h'.ctx x, h.ctx x]

theorem State.ClockFrame.each {α : Type} {f : State → α → State} (hf : ∀ (t : State) x, t.ClockFrame (f t x)) (s : State) (l : List α) :
    s.ClockFrame (s.each l f) :=
  State.each_inv s.ClockFrame (fun t x h => h.trans (hf t x)) l s (.refl s)

theorem State.ClockFrame.rd {s t : State} (h : s.ClockFrame t) (r : Row) (k i : Nat) : t.rd r k i = s.rd r k i := by
  rw [h.rest]; rfl

theorem State.modCore_clockFrame (s : State) (c : Nat) (f : Core → Core) : s.ClockFrame (s.modCore c f) :=
  ⟨rfl, fun _ => rfl⟩

theorem State.modSerac_clockFrame (s : State) (f : Serac → Serac) : s.ClockFrame (s.modSerac f) :=
  ⟨rfl, fun _ => rfl⟩

theorem State.charge_clockFrame (s : State) (x : Nat) (d : Ctx → Int) :
    s.ClockFrame (s.modCtx x (fun c => { c with deficit := d c })) where
  rest := rfl
  ctx y := by
    rw [State.modCtx, State.ctx_setCtx]
    split
    · next h => rw [h]
    · rfl

/-! ### A core's clock -/

/-- A core whose clock ran n quarter cycles: its cycle count grew by n, what its owners are charged moved, nothing else did. -/
def Core.ran (k : Core) (n : Nat) (k' : Core) : Prop := k' = { k with cyc := k.cyc + n, usage := k'.usage }

theorem Core.ran_zero (k : Core) : k.ran 0 k := rfl

theorem Core.ran.trans {k k' k'' : Core} {m n : Nat} (h : k.ran m k') (h' : k'.ran n k'') : k.ran (m + n) k'' := by
  unfold Core.ran at *
  rw [h', h, Nat.add_assoc]

/-- The charges of contexts move no core. -/
theorem State.core_charges (s : State) (xs : List Nat) (d : Ctx → Int) (y : Nat) :
    (s.each xs (fun s x => s.modCtx x (fun c => { c with deficit := d c }))).core y = s.core y :=
  State.each_core (fun t x => t.setCtx_core x _ y) xs s

theorem State.runCore_clockFrame (s : State) (c : Nat) : s.ClockFrame (s.runCore c) := by
  unfold State.runCore
  dsimp only
  split
  · exact .refl s
  · exact (s.modCore_clockFrame c _).trans (.each (fun t x => t.charge_clockFrame x _) _ _)

theorem State.runCore_core (s : State) (c : Nat) : (s.core c).ran (s.quarters c) ((s.runCore c).core c) := by
  unfold State.runCore
  dsimp only
  split
  · next h => rw [h]; exact Core.ran_zero _
  · rw [State.core_charges, State.modCore, State.core_setCore_self]
    rfl

theorem State.runCore_core_ne (s : State) {c d : Nat} (h : c ≠ d) : (s.runCore c).core d = s.core d := by
  unfold State.runCore
  dsimp only
  split
  · rfl
  · rw [State.core_charges, State.modCore, State.core_setCore, if_neg h]

/-- After the clocks of the cores below n ran, each of them ran its own quarters and no other core ran. -/
theorem State.runCores_core (s : State) (c : Nat) : ∀ n : Nat,
    (s.core c).ran (if c < n then s.quarters c else 0) ((s.each (List.range n) State.runCore).core c)
  | 0 => Core.ran_zero _
  | n + 1 => by
    have ih := s.runCores_core c n
    have frame := State.ClockFrame.each State.runCore_clockFrame s (List.range n)
    rw [State.each_range_succ]
    by_cases h : n = c
    · subst h
      rw [if_neg (Nat.lt_irrefl _)] at ih
      rw [if_pos (Nat.lt_succ_self _), ← Nat.zero_add (s.quarters n)]
      refine ih.trans ?_
      rw [State.quarters, ← frame.rd]
      exact State.runCore_core _ n
    · rw [State.runCore_core_ne _ h]
      have same : c < n + 1 ↔ c < n := by omega
      simpa only [same] using ih

/-! ### The screening credits, the countdown, upsets -/

theorem State.growCredit_clockFrame (s : State) (q : Nat) : s.ClockFrame (s.growCredit q) := by
  unfold State.growCredit
  exact s.modSerac_clockFrame _

theorem State.growCredit_core (s : State) (q c : Nat) : (s.growCredit q).core c = s.core c := by
  unfold State.growCredit
  exact s.modSerac_core _ c

/-- The screening credits, which grow in service only. -/
def State.growCredits (s : State) : State := s.when s.inService (fun s => s.each (List.range 4) State.growCredit)

theorem State.growCredits_clockFrame (s : State) : s.ClockFrame s.growCredits := by
  unfold State.growCredits State.when
  split
  · exact .each State.growCredit_clockFrame _ _
  · exact .refl s

theorem State.growCredits_core (s : State) (c : Nat) : s.growCredits.core c = s.core c := by
  unfold State.growCredits State.when
  split
  · exact State.each_core (fun t q => t.growCredit_core q c) _ s
  · rfl

/-- The countdown moves the barrier alone. -/
theorem State.countDown_eq (s : State) : s.countDown = { s with barrier :=
    if s.barState = barCOUNTDOWN then { s.barrier with remain := s.barrier.remain - 128 } else s.barrier } := by
  unfold State.countDown
  split <;> rfl

theorem State.countDown_core (s : State) (c : Nat) : s.countDown.core c = s.core c := by rw [State.countDown_eq]; rfl

theorem State.countDown_ctx (s : State) (x : Nat) : s.countDown.ctx x = s.ctx x := by rw [State.countDown_eq]; rfl

/-- An upset moves the draws and the marks of struck words alone. -/
theorem State.upset_eq (s : State) :
    s.upset = { s with draws := s.upset.draws, marksC := s.upset.marksC, marksU := s.upset.marksU } := by
  unfold State.upset
  dsimp only
  split
  · rfl
  · split <;> rfl

theorem State.upset_core (s : State) (c : Nat) : s.upset.core c = s.core c := by rw [State.upset_eq]; rfl

theorem State.upset_ctx (s : State) (x : Nat) : s.upset.ctx x = s.ctx x := by rw [State.upset_eq]; rfl

/-! ### One unit of field time -/

/-- Field time counts where the Drone clock runs. -/
def State.timed (s : State) : State := { s with ftime := s.ftime + (if s.droneRuns = true then 1 else 0) }

/-- What the clocks of the main domains move in one unit of field time: the cores, then the screening credits. -/
def State.clocked (s : State) : State := (s.timed.each (List.range 16) State.runCore).growCredits

theorem State.tick_eq (s : State) : s.tick = if s.mainRuns = true then s.clocked.countDown.upset else s.timed := by
  have e : (if s.droneRuns = true then { s with ftime := s.ftime + 1 } else s) = s.timed := by
    unfold State.timed
    split <;> rfl
  have m : s.timed.mainRuns = s.mainRuns := rfl
  unfold State.tick
  rw [e]
  dsimp only
  rw [m]
  cases s.mainRuns <;> rfl

theorem State.clocked_frame (s : State) : s.timed.ClockFrame s.clocked :=
  (State.ClockFrame.each State.runCore_clockFrame _ _).trans (State.growCredits_clockFrame _)

theorem State.clocked_core (s : State) {c : Nat} (h : c < 16) : (s.core c).ran (s.quarters c) (s.clocked.core c) := by
  have ran := s.timed.runCores_core c 16
  rw [if_pos h] at ran
  rw [State.clocked, State.growCredits_core]
  exact ran

theorem State.tick_of_stopped {s : State} (h : s.mainRuns = false) : s.tick = s.timed := by
  rw [State.tick_eq, if_neg (by simp [h])]

section
variable {s : State} (h : s.mainRuns = true)
include h

theorem State.tick_of_runs : s.tick = s.clocked.countDown.upset := by rw [State.tick_eq, if_pos h]

/-- While the main domains run, a unit of field time moves field time, the contexts, the cores, Serac's credits, the draws, the marks
and the barrier, and nothing else. -/
theorem State.tick_frame :
    s.tick = { s with
      ftime := s.timed.ftime, ctxs := s.tick.ctxs, cores := s.tick.cores, serac := s.tick.serac
      draws := s.tick.draws, marksC := s.tick.marksC, marksU := s.tick.marksU
      barrier := if s.barState = barCOUNTDOWN then { s.barrier with remain := s.barrier.remain - 128 } else s.barrier } := by
  have clocks := s.clocked_frame
  have struck := s.clocked.countDown.upset_eq
  rw [← State.tick_of_runs h, State.countDown_eq] at struck
  generalize s.clocked = u at clocks struck
  generalize s.tick = t at struck ⊢
  have state : u.barState = s.barState := clocks.rd BARRIER.BAR_STAT_STATE 0 0
  have barrier : u.barrier = s.barrier := by rw [clocks.rest]; rfl
  rw [state, barrier, clocks.rest] at struck
  rw [struck]
  rfl

theorem State.tick_core {c : Nat} (hc : c < 16) : (s.core c).ran (s.quarters c) (s.tick.core c) := by
  rw [State.tick_of_runs h, State.upset_core, State.countDown_core]
  exact s.clocked_core hc

theorem State.tick_ctx (x : Nat) : s.tick.ctx x = { s.ctx x with deficit := (s.tick.ctx x).deficit } := by
  rw [State.tick_of_runs h, State.upset_ctx, State.countDown_ctx]
  exact s.clocked_frame.ctx x

end

/-- Settles O57: while the main domains stop, field time alone moves; while they run, each clause is read off the frame of the tick,
what it does to a core, or what it does to a context. -/
theorem fieldTimePasses : Obligations.FieldTimePasses := by
  unfold Obligations.FieldTimePasses
  intro s idle
  refine ⟨s.tick, by rw [step, idle], ?_⟩
  cases run : s.mainRuns with
  | false =>
    rw [State.tick_of_stopped run]
    exact ⟨rfl, idle, rfl, rfl, rfl, rfl, rfl, rfl, rfl, rfl, rfl, rfl, rfl, fun _ => rfl, fun runs => Bool.noConfusion runs⟩
  | true =>
    have frame := State.tick_frame run
    have core {c : Nat} (hc : c < 16) : (s.core c).ran (s.quarters c) (s.tick.core c) := State.tick_core run hc
    have ctx := State.tick_ctx run
    generalize s.tick = t at frame core ctx ⊢
    generalize t.ctxs = ctxs, t.cores = cores, t.serac = serac, t.draws = draws, t.marksC = marksC, t.marksU = marksU at frame
    subst frame
    refine ⟨rfl, idle, rfl, rfl, rfl, rfl, rfl, rfl, rfl, rfl, rfl, rfl, rfl, fun stopped => Bool.noConfusion stopped,
      fun _ => ⟨fun c hc => ?_, fun x => ?_, fun counts => if_pos counts, fun counts => if_neg counts⟩⟩
    · rw [core hc]; exact ⟨rfl, rfl, rfl, rfl⟩
    · rw [ctx x]; exact ⟨rfl, rfl, rfl⟩

end Sys2Proof.Machine
end

section
/-! A chip reset is not silent in memory (R455, R338), and P-MAX needs the grade of R36. -/
namespace Sys2Proof.Machine

/-! ### A member of a collective in its COMMIT phase -/

/-- Before FLT is in service, with the stage FLT current: context 5 is owned and its core waits at a collective whose member holds the
result, in staging at 0, and has yet to write it to address 64. -/
def committing : State :=
  { boot := { mainUp := true }, pins := { perst := false }, mem := [(0, 1#8)]
    regs := [(CHIP.BOOT_STAGE.bit 0 0, 2)]
    ctxs := [(5, { state := .owned })]
    fabric := { colls := [{ ctx := 5, queue := 0, ssn := 0, cgen := 1, op := 0, dtype := 0, red := false, members := [0], index := 0
                            src := 0, dst := 64, stage := 0, len := 64, phase := .commit, started := 0 }] } }

theorem committing_byte : committing.byte 64 = 0#8 := by decide +kernel

/-- A chip reset takes the owned context, aborts its collective, and a member in COMMIT writes its result as it aborts. -/
theorem committing_chipAssert_byte : (committing.chipAssert 6).byte 64 = 1#8 := by decide +kernel

theorem committing_watchdog : exec .chanterWatchdogExpire committing = .next (committing.chipAssert 6) := by
  show execChanterWatchdogExpire committing = _
  rw [execChanterWatchdogExpire, if_neg (by decide +kernel), if_neg (by decide +kernel)]

theorem committing_perst : exec .perstAssert committing =
    .next (({ committing with pins := { committing.pins with perst := true } } : State).chipAssert 2 |>.wr CLKRST.PC_STAT_PENDING 0) := by
  show execPerstAssert committing = _
  rw [execPerstAssert, if_neg (by decide +kernel)]
  dsimp only
  rw [if_pos (by decide +kernel)]

theorem committing_perst_byte :
    (({ committing with pins := { committing.pins with perst := true } } : State).chipAssert 2 |>.wr CLKRST.PC_STAT_PENDING 0).byte 64
      = 1#8 := by decide +kernel

/-- Refutes O35: memory is not kept by a chip reset. The watchdog of Chanter expires before FLT is in service, and the reset of cause
0x6 aborts the collective of an owned context (R455): a member in COMMIT writes its result to address 64 as it aborts. -/
theorem not_chipResets : ¬ Obligations.ChipResets := by
  unfold Obligations.ChipResets
  rintro ⟨requests, -⟩
  obtain ⟨-, watchdog, -⟩ := requests committing
  obtain ⟨t, ht, -, -, -, -, -, hmem, -⟩ := (watchdog (by decide +kernel) (by decide +kernel)).2 rfl
  rw [committing_watchdog] at ht
  have kept : t.byte 64 = committing.byte 64 := by rw [State.byte, State.byte, hmem]
  rw [← Host.Outcome.next.inj ht, committing_chipAssert_byte, committing_byte] at kept
  exact absurd kept (by decide)

/-- Refutes O46: PERST_n does not keep memory. Its chip reset aborts the collective of an owned context (R455), and a member in COMMIT
writes its result to address 64 as it aborts. -/
theorem not_railsAndPins : ¬ Obligations.RailsAndPins := by
  unfold Obligations.RailsAndPins
  intro h
  obtain ⟨-, -, -, -, -, -, -, perst, -⟩ := h committing
  obtain ⟨t, ht, -, -, -, -, -, -, -, -, -, hmem, -⟩ := (perst rfl).2 (by decide +kernel)
  rw [committing_perst] at ht
  have kept : t.byte 64 = committing.byte 64 := by rw [State.byte, State.byte, hmem]
  rw [← Host.Outcome.next.inj ht, committing_perst_byte, committing_byte] at kept
  exact absurd kept (by decide)

/-! ### A part whose fuses rate it for P-MAX and whose GRADE does not -/

/-- In service, PMAX_OK set and GRADE 0x00. -/
def gradeless : State :=
  { boot := { mainUp := true, fltUp := true }, pins := { perst := false }
    regs := [(CHIP.CORE_MAP_GRADE.bit 0 0, 0), (CHIP.BOOT_STAGE.bit 0 0, 6)] }

theorem gradeless_lets : gradeless.lets .host (offClkrst 0x40) 4 CLKRST.PROFILE_REQ :=
  ⟨by decide +kernel, by decide +kernel, rfl⟩

theorem gradeless_profileReq : exec (.profileReq .host 2) gradeless = .next (gradeless.profileReq 2) := by rfl

/-- R36: P-MAX asks for GRADE 0x10 as well, so the request is denied. -/
theorem gradeless_denied : (gradeless.profileReq 2).fltIn = [gradeless.rising (tokOf pgCLKRST kPROFILE_DENIED 0 2)] := by decide +kernel

/-- Refutes O42: a part with PMAX_OK set and GRADE other than 0x10 is not rated for P-MAX (R36) either: a request for it raises
PROFILE_DENIED where the statement, which asks for PMAX_OK alone, has no token raised. -/
theorem not_profilesAndThrottle : ¬ Obligations.ProfilesAndThrottle := by
  unfold Obligations.ProfilesAndThrottle
  intro h
  obtain ⟨request, -⟩ := h gradeless
  obtain ⟨t, ht, -, -, hraised, -⟩ := request .host 2 gradeless_lets (by decide) rfl
  rw [if_neg (by decide +kernel)] at hraised
  rw [gradeless_profileReq] at ht
  rw [← Host.Outcome.next.inj ht, State.raised, gradeless_denied] at hraised
  exact absurd hraised (by decide)

end Sys2Proof.Machine
end

section
/-! What the part reports: registers that one write reaches, vectors, tokens and the service level (R33, R116, R284, R308). -/
namespace Sys2Proof.Machine

/-! ### Registers -/

theorem SMap.find_filter {α : Type} (p : Nat → Bool) (m : List (Nat × α)) (k : Nat) :
    SMap.find (m.filter (fun e => p e.1)) k = if p k = true then SMap.find m k else none := by
  induction m with
  | nil => simp
  | cons e r ih =>
    obtain ⟨a, w⟩ := e
    by_cases hp : p a = true <;> by_cases ha : a = k <;> simp_all [SMap.find]

theorem State.rd_of_find {s t : State} {r : Row} {k i : Nat}
    (h : SMap.find t.regs (r.bit k i) = SMap.find s.regs (r.bit k i)) : t.rd r k i = s.rd r k i := by
  simp only [State.rd, SMap.get, h]

theorem State.find_wr_ne (s : State) {r : Row} {v k i b : Nat} (h : r.bit k i ≠ b) :
    SMap.find (s.wr r v k i).regs b = SMap.find s.regs b := by
  rw [State.wr_regs, SMap.find_put_ne _ _ h]

theorem State.on_wr_self (s : State) (r : Row) (v k i : Nat) : (s.wr r v k i).on r k i = decide (v % 2 ^ r.width = 1) := by
  rw [State.on, State.rd_wr_self]

theorem State.regsBut_refl (s : State) (keys : List Nat) : s.regsBut s keys := fun _ _ => rfl

theorem State.regsBut.trans {s t u : State} {keys : List Nat} (h : s.regsBut t keys) (h' : t.regsBut u keys) : s.regsBut u keys :=
  fun b hb => (h' b hb).trans (h b hb)

theorem State.regsBut_wr (s : State) {r : Row} {v k i : Nat} {keys : List Nat} (h : r.bit k i ∈ keys) :
    s.regsBut (s.wr r v k i) keys :=
  fun _ hb => s.find_wr_ne (fun e => hb (e ▸ h))

theorem State.regsBut.rd {s t : State} {keys : List Nat} (h : s.regsBut t keys) {r : Row} {k i : Nat} (hb : r.bit k i ∉ keys) :
    t.rd r k i = s.rd r k i :=
  State.rd_of_find (h _ hb)

/-! ### Vectors -/

theorem State.sendVector_rest (s : State) (func vec : Nat) : s.sendVector func vec =
    { s with pci := { s.pci with msix := (s.sendVector func vec).pci.msix }, out := (s.sendVector func vec).out } := by
  unfold State.sendVector
  dsimp only
  split
  · rfl
  · split <;> rfl

theorem State.sendVector_out (s : State) (func vec : Nat) : s.out <+: (s.sendVector func vec).out := by
  unfold State.sendVector
  dsimp only
  split
  · exact List.prefix_rfl
  · split
    · exact List.prefix_rfl
    · exact List.prefix_append _ _

theorem State.sendVector_msix (s : State) {func vec j : Nat} (h : msiKey func vec ≠ j) :
    SMap.find (s.sendVector func vec).pci.msix j = SMap.find s.pci.msix j := by
  unfold State.sendVector
  dsimp only
  split
  · rfl
  · split
    · exact SMap.find_put_ne _ _ h
    · rfl

theorem State.errVector_rest (s : State) (before : Bool) : s.errVector before =
    { s with pci := { s.pci with msix := (s.errVector before).pci.msix }, out := (s.errVector before).out } := by
  unfold State.errVector
  split
  · exact s.sendVector_rest 0 2
  · rfl

/-! ### What a report touches -/

/-- From s to t the part reported: tokens went to FLT or wait for it, control flits became due, vectors 2 and 3 of PF0 were signalled,
and of the registers only those of K changed. -/
structure State.Reports (K : Nat → Prop) (s t : State) : Prop where
  rest : t = { s with
    regs := t.regs, pci := { s.pci with msix := t.pci.msix }, fltIn := t.fltIn, out := t.out, nl := t.nl
    boot := { s.boot with deferred := t.boot.deferred } }
  regs : ∀ b, ¬ K b → SMap.find t.regs b = SMap.find s.regs b
  msix : ∀ j, j ≠ 2 → j ≠ 3 → SMap.find t.pci.msix j = SMap.find s.pci.msix j
  fltIn : s.fltIn <+: t.fltIn
  out : s.out <+: t.out
  boot : s.boot.fltUp = true → t.boot = s.boot

namespace State.Reports
variable {K K' : Nat → Prop} {s t u : State}

theorem refl (s : State) : s.Reports K s :=
  ⟨rfl, fun _ _ => rfl, fun _ _ _ => rfl, List.prefix_rfl, List.prefix_rfl, fun _ => rfl⟩

theorem fltUp (h : s.Reports K t) : t.boot.fltUp = s.boot.fltUp := by rw [h.rest]

theorem trans (h : s.Reports K t) (h' : t.Reports K u) : s.Reports K u where
  rest := by rw [h'.rest, h.rest]
  regs b hb := (h'.regs b hb).trans (h.regs b hb)
  msix j h2 h3 := (h'.msix j h2 h3).trans (h.msix j h2 h3)
  fltIn := h.fltIn.trans h'.fltIn
  out := h.out.trans h'.out
  boot up := (h'.boot (h.fltUp.trans up)).trans (h.boot up)

theorem mono (h : s.Reports K t) (hK : ∀ b, K b → K' b) : s.Reports K' t :=
  { h with regs := fun b hb => h.regs b (fun hk => hb (hK b hk)) }

theorem rd (h : s.Reports K t) {r : Row} {k i : Nat} (hb : ¬ K (r.bit k i)) : t.rd r k i = s.rd r k i :=
  State.rd_of_find (h.regs _ hb)

theorem on (h : s.Reports K t) {r : Row} {k i : Nat} (hb : ¬ K (r.bit k i)) : t.on r k i = s.on r k i := by
  rw [State.on, State.on, h.rd hb]

theorem each {α : Type} {f : State → α → State} (l : List α) (hf : ∀ (t : State), ∀ x ∈ l, t.Reports K (f t x)) (s : State) :
    s.Reports K (s.each l f) := by
  induction l generalizing s with
  | nil => exact refl s
  | cons x xs ih =>
    exact (hf s x (List.mem_cons_self ..)).trans (ih (fun t y hy => hf t y (List.mem_cons_of_mem _ hy)) _)

theorem wr (s : State) {r : Row} {k i : Nat} (v : Nat) (h : K (r.bit k i)) : s.Reports K (s.wr r v k i) :=
  ⟨rfl, fun _ hb => s.find_wr_ne (fun e => hb (e ▸ h)), fun _ _ _ => rfl, List.prefix_rfl, List.prefix_rfl, fun _ => rfl⟩

theorem sendVector (s : State) {vec : Nat} (h : vec = 2 ∨ vec = 3) : s.Reports K (s.sendVector 0 vec) where
  rest := by rw [s.sendVector_rest]
  regs _ _ := by rw [s.sendVector_rest]
  msix j h2 h3 := s.sendVector_msix (by simp only [msiKey]; omega)
  fltIn := by rw [s.sendVector_rest]
  out := s.sendVector_out 0 vec
  boot _ := by rw [s.sendVector_rest]

theorem errVector (s : State) (before : Bool) : s.Reports K (s.errVector before) := by
  unfold State.errVector
  split
  · exact sendVector s (.inl rfl)
  · exact refl s

end State.Reports

/-! ### Tokens -/

/-- FLT in service: a token goes to it, and BLK_ERR of its page takes the kind. -/
theorem State.raiseTok_up {s : State} (h : s.boot.fltUp = true) (k : Tok) : s.raiseTok k =
    { (s.wr HDR.BLK_ERR (setBit (s.rd HDR.BLK_ERR k.src) (k.kind % 32)) k.src).errVector s.errAny with
      fltIn := s.fltIn ++ [s.rising k] } := by
  rw [State.raiseTok, if_pos h]
  rfl

theorem State.raiseTok_down {s : State} (h : s.boot.fltUp = false) {k : Tok} (hk : droneKind k.kind = false) : s.raiseTok k = s := by
  rw [State.raiseTok, if_neg (by simp [h]), if_neg (by simp [hk])]

theorem State.raiseTok_raised {s : State} (h : s.boot.fltUp = true) (k : Tok) : s.raised (s.raiseTok k) [k] := by
  rw [s.raiseTok_up h]
  rfl

theorem State.Reports.raiseTok {K : Nat → Prop} (s : State) {k : Tok} (hk : s.boot.fltUp = true ∨ droneKind k.kind = false)
    (hK : K (HDR.BLK_ERR.bit k.src 0)) : s.Reports K (s.raiseTok k) := by
  cases up : s.boot.fltUp with
  | false => rw [s.raiseTok_down up (hk.resolve_left (by simp [up]))]; exact .refl s
  | true =>
    have marked := (Reports.wr s (setBit (s.rd HDR.BLK_ERR k.src) (k.kind % 32)) hK).trans (Reports.errVector _ s.errAny)
    rw [s.raiseTok_up up]
    exact { marked with rest := by rw [marked.rest], fltIn := List.prefix_append _ _ }

/-- A token raised while FLT is in service changes BLK_ERR of its page, and sends vector 2 or leaves it pending. -/
theorem State.raiseTok_frame {s : State} (h : s.boot.fltUp = true) (k : Tok) :
    s.raiseTok k = { s with regs := (s.raiseTok k).regs, fltIn := (s.raiseTok k).fltIn, out := (s.raiseTok k).out
                            pci := { s.pci with msix := (s.raiseTok k).pci.msix } } ∧
    s.regsBut (s.raiseTok k) [HDR.BLK_ERR.bit k.src 0] := by
  rw [s.raiseTok_up h, State.errVector_rest]
  exact ⟨rfl, fun b hb => s.find_wr_ne (fun e => hb (by simp [e]))⟩

/-! ### The service level -/

/-- The registers that follow the service level, and BLK_ERR of the page that reports its change. -/
def levelKey (b : Nat) : Prop := (576 ≤ b ∧ b < 608) ∨ b = 192

theorem levelKey_svc {b : Nat} (h : 576 ≤ b) (h' : b < 608) : levelKey b := .inl ⟨h, h'⟩

namespace State.Reports
variable {K : Nat → Prop}

theorem raise (s : State) {src kind addr detail : Nat} (hk : s.boot.fltUp = true ∨ droneKind kind = false)
    (hK : K (HDR.BLK_ERR.bit src 0)) : s.Reports K (s.raise src kind addr detail) :=
  raiseTok s hk hK

theorem raiseLater (s : State) {src kind addr detail : Nat} (hk : droneKind kind = false) (hK : K (HDR.BLK_ERR.bit src 0)) :
    s.Reports K (s.raiseLater src kind addr detail) := by
  unfold State.raiseLater
  split
  · exact raise s (.inr hk) hK
  · next down => exact ⟨rfl, fun _ _ => rfl, fun _ _ _ => rfl, List.prefix_rfl, List.prefix_rfl, fun up => absurd up down⟩

theorem sendCtrl (s : State) (p type : Nat) (payload : List Byte) : s.Reports K (s.sendCtrl p type payload) :=
  ⟨rfl, fun _ _ => rfl, fun _ _ _ => rfl, List.prefix_rfl, List.prefix_rfl, fun _ => rfl⟩

theorem tellRoutable (s : State) (before : Bool) : s.Reports K (s.tellRoutable before) := by
  unfold State.tellRoutable
  split
  · exact refl s
  · exact each _ (fun t p _ => sendCtrl t p _ _) s

theorem setLevel (s : State) (hK : ∀ b, levelKey b → K b) : s.Reports K s.setLevel := by
  have wrote : ∀ (t : State) (r : Row) (v : Nat), 576 ≤ r.bit 0 0 → r.bit 0 0 < 608 → t.Reports K (t.wr r v) :=
    fun t r v h h' => wr t v (hK _ (levelKey_svc h h'))
  unfold State.setLevel
  extract_lets cq lv changed link core qeng cal avs therm moraine flt was told
  have lacks : s.Reports K flt := (((((((wrote s _ _ (by decide) (by decide)).trans (wrote link _ _ (by decide) (by decide))).trans
    (wrote core _ _ (by decide) (by decide))).trans (wrote qeng _ _ (by decide) (by decide))).trans
    (wrote cal _ _ (by decide) (by decide))).trans (wrote avs _ _ (by decide) (by decide))).trans
    (wrote therm _ _ (by decide) (by decide))).trans (wrote moraine _ _ (by decide) (by decide))
  have level : s.Reports K told := ((lacks.trans (wrote flt CHIP.SVC_LEVEL_CQUAD cq (by decide) (by decide))).trans
    (wrote _ CHIP.SVC_LEVEL_LEVEL lv (by decide) (by decide))).trans (tellRoutable _ was)
  split
  · next h =>
    have up : s.boot.fltUp = true := (Bool.and_eq_true_iff.mp h).1
    exact (level.trans (raise _ (.inl (level.fltUp.trans up)) (hK _ (.inr rfl)))).trans (sendVector _ (.inr rfl))
  · exact level

end State.Reports

end Sys2Proof.Machine
end

section
/-! The host link: its errors, its reads, the masks of its vectors, and configuration space (O50). -/
namespace Sys2Proof.Machine

/-! ### The link and its errors (R92, R98, Table 3-4) -/

theorem State.count_rd (s : State) (r : Row) (k i : Nat) :
    (s.count r k i).rd r k i = min (2 ^ r.width - 1) (s.rd r k i + 1) := by
  have pos : 0 < 2 ^ r.width := Nat.two_pow_pos _
  rw [State.count, State.rd_wr_self, satInc]
  split
  · rw [Nat.mod_eq_of_lt (by omega), Nat.min_eq_right (by omega)]
  · rw [Nat.mod_eq_of_lt (by omega), Nat.min_eq_left (by omega)]

/-- The registers of the link at L0. -/
def State.atL0 (s : State) (width rate : Nat) (flit : Bool) : State :=
  let s := if s.pci.trained then s.count HOSTIF.LINK_STAT_RETRAIN else s
  ((s.wr HOSTIF.LINK_STAT_WIDTH width).wr HOSTIF.LINK_STAT_RATE rate).wr HOSTIF.LINK_STAT_FLIT (b2n (rate = 6 || flit))

def linkStatKeys : List Nat :=
  [HOSTIF.LINK_STAT_WIDTH.bit 0 0, HOSTIF.LINK_STAT_RATE.bit 0 0, HOSTIF.LINK_STAT_FLIT.bit 0 0, HOSTIF.LINK_STAT_RETRAIN.bit 0 0]

theorem State.atL0_regsBut (s : State) (width rate : Nat) (flit : Bool) : s.regsBut (s.atL0 width rate flit) linkStatKeys := by
  have counted : s.regsBut (if s.pci.trained then s.count HOSTIF.LINK_STAT_RETRAIN else s) linkStatKeys := by
    split
    · exact s.regsBut_wr (by decide)
    · exact s.regsBut_refl _
  exact ((counted.trans (State.regsBut_wr _ (by decide))).trans (State.regsBut_wr _ (by decide))).trans (State.regsBut_wr _ (by decide))

theorem State.atL0_width (s : State) (width rate : Nat) (flit : Bool) :
    (s.atL0 width rate flit).rd HOSTIF.LINK_STAT_WIDTH = width % 2 ^ HOSTIF.LINK_STAT_WIDTH.width := by
  rw [State.atL0, State.rd_wr_ne _ _ _ _ _ _ _ _ (by decide), State.rd_wr_ne _ _ _ _ _ _ _ _ (by decide), State.rd_wr_self]

theorem State.atL0_rate (s : State) (width rate : Nat) (flit : Bool) :
    (s.atL0 width rate flit).rd HOSTIF.LINK_STAT_RATE = rate % 2 ^ HOSTIF.LINK_STAT_RATE.width := by
  rw [State.atL0, State.rd_wr_ne _ _ _ _ _ _ _ _ (by decide), State.rd_wr_self]

theorem State.atL0_flit (s : State) (width rate : Nat) (flit : Bool) :
    (s.atL0 width rate flit).on HOSTIF.LINK_STAT_FLIT = (decide (rate = 6) || flit) := by
  rw [State.atL0, State.on_wr_self]
  cases decide (rate = 6) || flit <;> rfl

theorem State.atL0_retrain {s : State} (h : s.pci.trained = true) (width rate : Nat) (flit : Bool) :
    (s.atL0 width rate flit).rd HOSTIF.LINK_STAT_RETRAIN =
      min (2 ^ HOSTIF.LINK_STAT_RETRAIN.width - 1) (s.rd HOSTIF.LINK_STAT_RETRAIN + 1) := by
  rw [State.atL0, if_pos h, State.rd_wr_ne _ _ _ _ _ _ _ _ (by decide), State.rd_wr_ne _ _ _ _ _ _ _ _ (by decide),
    State.rd_wr_ne _ _ _ _ _ _ _ _ (by decide), State.count_rd]

theorem execPcieLinkL0_eq {s : State} (hmain : s.mainRuns = true) (hperst : s.pins.perst = false) (width rate : Nat) (flit : Bool) :
    ∃ t, exec (.pcieLinkL0 width rate flit) s = .next t ∧ t = { s with
      regs := (s.atL0 width rate flit).regs, pins := t.pins, pci := { s.pci with linkUp := true, trained := true } } := by
  show ∃ t, execPcieLinkL0 width rate flit s = .next t ∧ _
  rw [execPcieLinkL0, if_neg (by simp [hmain, hperst])]
  refine ⟨_, rfl, ?_⟩
  unfold State.atL0
  split <;> rfl

/-- HOSTIF raised one token: vector 2 of PF0 may have gone out, and AER is as it was. -/
def State.hostifRaised (u t : State) (k : Tok) : Prop :=
  t = { u with regs := t.regs, fltIn := t.fltIn, pci := t.pci, out := t.out } ∧ u.raised t [k] ∧
  t.pci.aerCorr = u.pci.aerCorr ∧ t.pci.aerUnc = u.pci.aerUnc ∧ u.regsBut t [HDR.BLK_ERR.bit pgHOSTIF 0]

theorem State.hostifRaised_raiseTok {u : State} (up : u.boot.fltUp = true) {k : Tok} (hk : k.src = pgHOSTIF) :
    u.hostifRaised (u.raiseTok k) k := by
  obtain ⟨frame, regs⟩ := u.raiseTok_frame up k
  rw [hk] at regs
  refine ⟨?_, u.raiseTok_raised up k, congrArg (·.pci.aerCorr) frame, congrArg (·.pci.aerUnc) frame, regs⟩
  rw [frame]

/-! ### Reads of host memory (R93, R94, R98, R264) -/

/-- Reads were asked for, and nothing else changed. -/
structure State.Asks (s t : State) : Prop where
  eq : t = { s with pci := { s.pci with reads := t.pci.reads, nextTag := t.pci.nextTag }, out := t.out }

theorem State.Asks.refl (s : State) : s.Asks s := ⟨rfl⟩

theorem State.Asks.trans {s t u : State} (h : s.Asks t) (h' : t.Asks u) : s.Asks u := ⟨by rw [h'.eq, h.eq]⟩

theorem State.Asks.mem {s t : State} (h : s.Asks t) : t.mem = s.mem := by rw [h.eq]
theorem State.Asks.host {s t : State} (h : s.Asks t) : t.host = s.host := by rw [h.eq]
theorem State.Asks.cores {s t : State} (h : s.Asks t) : t.cores = s.cores := by rw [h.eq]
theorem State.Asks.fltIn {s t : State} (h : s.Asks t) : t.fltIn = s.fltIn := by rw [h.eq]
theorem State.Asks.aerUnc {s t : State} (h : s.Asks t) : t.pci.aerUnc = s.pci.aerUnc := by rw [h.eq]

theorem State.Asks.each {α : Type} {f : State → α → State} (hf : ∀ (t : State) x, t.Asks (f t x)) (s : State) (l : List α) :
    s.Asks (s.each l f) :=
  State.each_inv s.Asks (fun t x h => h.trans (hf t x)) l s (State.Asks.refl s)

theorem State.asks_askHost (s : State) (x gen qn ssn a n : Nat) (entry : Bool) : s.Asks (s.askHost x gen qn ssn a n entry) := by
  unfold State.askHost
  split <;> exact ⟨rfl⟩

theorem State.asks_pumpRead (s : State) (x qn : Nat) (k : Cmd) : s.Asks (s.pumpRead x qn k) := by
  unfold State.pumpRead
  split
  · exact State.Asks.refl s
  · exact s.asks_askHost ..

theorem State.asks_pumpReads (s : State) : s.Asks s.pumpReads := by
  unfold State.pumpReads
  refine State.Asks.each (fun t e => ?_) s _
  split
  · exact State.Asks.each (fun u (q : Nat × Queue) => State.Asks.each (fun v k => v.asks_pumpRead e.1 q.1 k) u _) t _
  · exact State.Asks.refl t

/-- The token of a read that failed: it bears the context and generation of the read. -/
def DmaRead.tok (d : DmaRead) (kind detail : Nat) : Tok :=
  { tokOf pgHOSTIF kind d.addr detail with ctx := d.ctx, gen := d.gen }

/-- A read that fails for good raises its token, and neither writes memory nor logs more in AER. -/
theorem State.readFails_spec (s : State) (d : DmaRead) {kind detail : Nat} (up : s.boot.fltUp = true) (hd : detail < 2 ^ 16) :
    s.told (s.readFails d kind detail) (d.tok kind detail) ∧ (s.readFails d kind detail).mem = s.mem ∧
    (s.readFails d kind detail).pci.aerUnc = s.pci.aerUnc := by
  have tok : ({ src := pgHOSTIF, kind := kind, cls := defaultClass kind pgHOSTIF, ctx := d.ctx, gen := d.gen
                addr := d.addr % 2 ^ 48, detail := detail } : Tok) = d.tok kind detail := by
    rw [DmaRead.tok, tokOf, Nat.mod_eq_of_lt hd]
  unfold State.readFails
  extract_lets pci u k low now failed
  have hk : k = d.tok kind detail := tok
  obtain ⟨frame, raised, -, unc, -⟩ := State.hostifRaised_raiseTok (u := u) up (k := k) rfl
  have same : failed.fltIn = (u.raiseTok k).fltIn ∧ failed.mem = (u.raiseTok k).mem ∧
      failed.pci.aerUnc = (u.raiseTok k).pci.aerUnc := by
    simp only [failed, State.when]
    split <;> exact ⟨rfl, rfl, rfl⟩
  generalize hv : failed.when (low && now) (fun s => s.finish d.ctx d.queue d.ssn 0x01 0) = v
  have ended : v.fltIn = failed.fltIn ∧ v.mem = failed.mem ∧ v.pci = failed.pci := by
    rw [← hv, State.when]
    split <;> exact ⟨rfl, rfl, rfl⟩
  obtain ⟨hflt, hmem, haer⟩ := same
  obtain ⟨hflt', hmem', hpci⟩ := ended
  have pump := v.asks_pumpReads
  refine ⟨⟨[u.rising k], ?_, by rw [hk]; exact List.mem_cons_self ..⟩, ?_, ?_⟩
  · rw [pump.fltIn]
    exact (hflt'.trans hflt).trans raised
  · rw [pump.mem]
    exact (hmem'.trans hmem).trans ((congrArg State.mem frame).trans rfl)
  · rw [pump.aerUnc]
    exact ((congrArg Pci.aerUnc hpci).trans haer).trans unc

/-! ### Writes where nothing stands in their way -/

theorem localPlace_hbm_lt {a k o : Nat} (h : localPlace a = .hbm k o) : k < 4 := by
  unfold localPlace at h
  split at h
  · next lt =>
    obtain ⟨rfl, -⟩ := Place.hbm.inj h
    exact Nat.div_lt_of_lt_mul (by rwa [Nat.mul_comm] at lt)
  · split at h <;> exact absurd h (by simp)

theorem State.memAsleep_of_clear {s : State} (h : s.memoryClear) (a : Nat) : s.memAsleep a = false := by
  obtain ⟨-, -, -, awake⟩ := h
  unfold State.memAsleep
  split
  · next k o place => exact awake k (localPlace_hbm_lt place)
  · rfl

theorem State.pathLost_of_clear {s : State} (h : s.memoryClear) (a n : Nat) (into : Bool) : s.pathLost a n into = false := by
  obtain ⟨-, -, lost, -⟩ := h
  rw [State.pathLost, lost, List.any_nil]

theorem State.writeMem_of_clear {s : State} (h : s.memoryClear) (a : Nat) (bs : List Byte) :
    s.writeMem a bs = ((s.store a bs).served a bs.length, true) := by
  obtain ⟨corrected, uncorrected, -, -⟩ := id h
  unfold State.writeMem
  dsimp only
  have keptC : ∀ p, s.marksC.filter p = s.marksC := fun p => by rw [corrected]; rfl
  have keptU : ∀ p, s.marksU.filter p = s.marksU := fun p => by rw [uncorrected]; rfl
  have noneC : touched s.marksC a bs.length = [] := by rw [corrected]; rfl
  have noneU : touched s.marksU a bs.length = [] := by rw [uncorrected]; rfl
  rw [s.pathLost_of_clear h, s.memAsleep_of_clear h, if_neg (by decide), noneC, noneU]
  simp only [List.filter_nil, State.mend, State.each, List.foldl_nil, keptC, keptU]

theorem State.served_mem (s : State) (a n : Nat) : (s.served a n).mem = s.mem := by
  unfold State.served
  dsimp only
  split <;> rfl

theorem State.served_host (s : State) (a n : Nat) : (s.served a n).host = s.host := by
  unfold State.served
  dsimp only
  split <;> rfl

theorem State.asleep_hostMoved (s : State) (n k : Nat) : (s.hostMoved n).asleep k = s.asleep k := by
  rw [State.asleep, State.on, State.hostMoved, State.rd_wr_ne _ _ _ _ _ _ _ _ ?_]
  · rfl
  · simp only [Row.bit, HDR.BLK_PROG, HBM.HBM_STAT_SELF_REFRESH, pgHOSTIF]
    omega

theorem State.memoryClear_hostMoved {s : State} (h : s.memoryClear) (n : Nat) : (s.hostMoved n).memoryClear := by
  obtain ⟨corrected, uncorrected, lost, awake⟩ := h
  exact ⟨corrected, uncorrected, lost, fun k hk => (s.asleep_hostMoved n k).trans (awake k hk)⟩

theorem State.chargeStack_eq (s : State) (x a n : Nat) : s.chargeStack x a n = { s with hbms := (s.chargeStack x a n).hbms } := by
  unfold State.chargeStack
  split <;> rfl

theorem State.memoryClear_chargeStack {s : State} (h : s.memoryClear) (x a n : Nat) : (s.chargeStack x a n).memoryClear := by
  rw [State.chargeStack_eq]
  exact h

/-! ### The data of a read (R252, R264) -/

/-- A COPY into the context's memory: the bytes the host gave stand at its destination. -/
theorem State.copyPiece_local {s : State} (h : s.memoryClear) (d : DmaRead) (k : Cmd) (dir : bit (k.at 0x28) 1 = false) :
    (s.copyPiece d k).mem = Memory.writeBytes s.mem (k.at 0x18 + k.moved) (s.hostBytes d.addr d.len) ∧
    (s.copyPiece d k).host = s.host := by
  have clear : ((s.hostMoved d.len).chargeStack d.ctx (k.at 0x18 + k.moved) d.len).memoryClear :=
    State.memoryClear_chargeStack (State.memoryClear_hostMoved h _) ..
  unfold State.copyPiece
  extract_lets bs dst moved w
  have wrote : w = (((moved.chargeStack d.ctx dst d.len).store dst bs).served dst bs.length, true) := by
    simp only [w, dir, Bool.false_eq_true, if_false]
    exact State.writeMem_of_clear clear dst bs
  refine ⟨?_, ?_⟩
  · show w.1.mem = _
    rw [wrote, State.served_mem, State.chargeStack_eq]
    rfl
  · show w.1.host = _
    rw [wrote, State.served_host, State.chargeStack_eq]
    rfl

/-- A COPY into host memory. -/
theorem State.copyPiece_host (s : State) (d : DmaRead) (k : Cmd) (dir : bit (k.at 0x28) 1 = true) :
    (s.copyPiece d k).host = Memory.writeBytes s.host (k.at 0x18 + k.moved) (s.hostBytes d.addr d.len) ∧
    (s.copyPiece d k).mem = s.mem := by
  unfold State.copyPiece
  extract_lets bs dst moved w
  have wrote : w = (moved.hostStore (s.ctx d.ctx).owner true dst bs, true) := by
    simp only [w, dir, if_true]
    rfl
  refine ⟨?_, ?_⟩
  · show w.1.host = _
    rw [wrote]
    rfl
  · show w.1.mem = _
    rw [wrote]
    rfl

theorem bytes_of_written {m m' : List Host.Cell} {a n : Nat} {bs : List Byte} (h : m' = Memory.writeBytes m a bs) (hn : bs.length = n) :
    Memory.readBytes m' a n = bs := by
  rw [h, ← hn, Memory.readBytes_writeBytes]

/-! ### Configuration space (R63, R93 to R100) -/

/-- A word with the bits of a mask written. -/
def maskPut (x w v : Nat) : Nat := x - Nat.land x w + Nat.land v w

theorem land_halves (x w : Nat) : Nat.land x w = 2 * Nat.land (x / 2) (w / 2) + x % 2 * (w % 2) := by
  have half : Nat.land x w / 2 = Nat.land (x / 2) (w / 2) := Nat.and_div_two
  have low : Nat.land x w % 2 = x % 2 * (w % 2) := by
    have h : Nat.land x w % 2 ^ 1 = Nat.land (x % 2 ^ 1) (w % 2 ^ 1) := Nat.and_mod_two_pow
    rw [Nat.pow_one] at h
    rw [h]
    rcases Nat.mod_two_eq_zero_or_one x with hx | hx <;> rcases Nat.mod_two_eq_zero_or_one w with hw | hw <;> rw [hx, hw] <;> rfl
  omega

theorem maskPut_halves (x w v : Nat) :
    maskPut x w v = 2 * maskPut (x / 2) (w / 2) (v / 2) + (x % 2 - x % 2 * (w % 2) + v % 2 * (w % 2)) := by
  have le : Nat.land (x / 2) (w / 2) ≤ x / 2 := Nat.and_le_left
  unfold maskPut
  rw [land_halves x w, land_halves v w]
  rcases Nat.mod_two_eq_zero_or_one w with hw | hw <;> rw [hw] <;> omega

theorem maskPut_div (x w v n : Nat) : maskPut x w v / 2 ^ n = maskPut (x / 2 ^ n) (w / 2 ^ n) (v / 2 ^ n) := by
  induction n generalizing x w v with
  | zero => simp
  | succ n ih =>
    have half : maskPut x w v / 2 = maskPut (x / 2) (w / 2) (v / 2) := by
      have := maskPut_halves x w v
      rcases Nat.mod_two_eq_zero_or_one w with hw | hw <;> rw [hw] at this <;> omega
    rw [Nat.pow_succ', ← Nat.div_div_eq_div_mul, ← Nat.div_div_eq_div_mul, ← Nat.div_div_eq_div_mul, ← Nat.div_div_eq_div_mul, half, ih]

theorem maskPut_mod (x w v n : Nat) (h : w % 2 ^ n = 2 ^ n - 1) : maskPut x w v % 2 ^ n = v % 2 ^ n := by
  induction n generalizing x w v with
  | zero => omega
  | succ n ih =>
    have pos : 0 < 2 ^ n := Nat.two_pow_pos n
    have split : ∀ a, a % 2 ^ (n + 1) = a % 2 + 2 * (a / 2 % 2 ^ n) := fun a => by rw [Nat.pow_succ', Nat.mod_mul]
    rw [split, Nat.pow_succ'] at h
    have low : w % 2 = 1 := by omega
    have high : w / 2 % 2 ^ n = 2 ^ n - 1 := by omega
    have whole := maskPut_halves x w v
    rw [low] at whole
    have half : maskPut x w v / 2 = maskPut (x / 2) (w / 2) (v / 2) := by omega
    rw [split, split v, half, ih _ _ _ high]
    omega

theorem bits_maskPut (x w v hi lo : Nat) (h : bits w hi lo = 2 ^ (hi + 1 - lo) - 1) : bits (maskPut x w v) hi lo = bits v hi lo := by
  rw [bits, bits, maskPut_div, maskPut_mod _ _ _ _ h]

theorem bit_maskPut (x w v k : Nat) (h : bits w k k = 1) : bit (maskPut x w v) k = bit v k := by
  have field := bits_maskPut x w v k k (by rw [h, Nat.add_sub_cancel_left]; rfl)
  simp only [bits, Nat.add_sub_cancel_left, Nat.pow_one] at field
  rw [bit, bit, field]

/-! #### Reads -/

section
variable {s : State} (hmain : s.mainRuns = true) (hperst : s.pins.perst = false)
include hmain hperst

theorem State.cfgUp_of : s.cfgUp = true := by rw [State.cfgUp, hmain, hperst]; rfl

theorem rcRead_cfg_early (h : s.pci.identity = false) (o : Nat) :
    exec (.rcRead .host (cfgBase + o) 4 true) s = .next { s with out := s.out ++ [.cfgRetry .host] } := by
  show execRcRead .host (cfgBase + o) 4 true s = _
  rw [execRcRead, if_pos (Nat.le_add_right ..), State.cfgAccessRead]
  simp only [cfgFunction, State.cfgUp_of hmain hperst, h, Bool.not_true, Bool.not_false, Bool.false_eq_true, if_false, if_true]
  rfl

theorem rcRead_cfg (h : s.pci.identity = true) {o : Nat} (ho : o < 4096) (aligned : o / 4 * 4 = o) :
    exec (.rcRead .host (cfgBase + o) 4 true) s = .next { s with out := s.out ++ [.answer .host [s.cfgRead 0 o]] } := by
  show execRcRead .host (cfgBase + o) 4 true s = _
  rw [execRcRead, if_pos (Nat.le_add_right ..), Nat.add_sub_cancel_left, State.cfgAccessRead]
  simp only [cfgFunction, State.cfgUp_of hmain hperst, h, Bool.not_true, Bool.false_eq_true, if_false, aligned]
  simp [State.hasFunction, ho]
  rfl

theorem regWrite_cfg (h : s.pci.identity = true) {o : Nat} (ho : o < 4096) (aligned : o % 4 = 0) {v : Nat} (hv : v < 2 ^ 32) :
    exec (.regWrite .host (cfgBase + o) 4 true v) s = .next (s.cfgPut 0 o (2 ^ 32 - 1) v) := by
  show execRegWrite .host (cfgBase + o) 4 true v s = _
  rw [execRegWrite, if_pos (Nat.le_add_right ..), Nat.add_sub_cancel_left, State.cfgAccessWrite]
  have word : o / 4 * 4 = o := by omega
  simp only [cfgFunction, State.cfgUp_of hmain hperst, h, Bool.not_true, Bool.false_eq_true, if_false, aligned, word]
  rw [if_neg (by simp [State.hasFunction]; omega), Nat.mod_eq_of_lt hv, Nat.pow_zero, Nat.mul_one, Nat.mul_one]

end

/-- The words of PF0's configuration space that identify the part, by offset (Table 3-5). -/
def State.identityWords (s : State) : List (Nat × Nat) :=
  [(0x00, 0xC016_1F3C), (0x08, 0x1200_00B0), (0x0C, 0), (0x18, 0), (0x1C, 0), (0x20, 0), (0x24, 0),
    (0x2C, s.sec.subsys % 2 ^ 16 * 2 ^ 16 + 0x1F3C), (0x154, s.sec.serial % 2 ^ 32), (0x17C, 63 * 2 ^ 16 + 63), (0x184, 0x0001_0001)]

theorem State.identityWords_aligned (s : State) : ∀ e ∈ s.identityWords, e.1 < 4096 ∧ e.1 / 4 * 4 = e.1 := by
  simp only [State.identityWords, List.forall_mem_cons]
  exact ⟨by decide, by decide, by decide, by decide, by decide, by decide, by decide, by decide, by decide, by decide, by decide,
    fun _ h => absurd h List.not_mem_nil⟩

theorem State.cfgRead_identity (s : State) : ∀ e ∈ s.identityWords, s.cfgRead 0 e.1 = e.2 := by
  simp only [State.identityWords, List.forall_mem_cons]
  exact ⟨rfl, rfl, rfl, rfl, rfl, rfl, rfl, rfl, rfl, rfl, rfl, fun _ h => absurd h List.not_mem_nil⟩

/-! #### Device Control and Device Control 2 -/

theorem State.cfgPut_plain (s : State) {off : Nat} (hoff : off = cfgDevCtl ∨ off = cfgDevCtl2) (v : Nat) :
    s.cfgPut 0 off (2 ^ 32 - 1) v = { s with pci := { s.pci with
      cfg := SMap.put s.pci.cfg (cfgKey 0 off) (maskPut (s.cfgHeld 0 off) (cfgWritable 0 off) v) } } := by
  rcases hoff with rfl | rfl <;> rfl

theorem State.cfgHeld_cfgPut (s : State) {off : Nat} (hoff : off = cfgDevCtl ∨ off = cfgDevCtl2) (v : Nat) :
    (s.cfgPut 0 off (2 ^ 32 - 1) v).cfgHeld 0 off = maskPut (s.cfgHeld 0 off) (cfgWritable 0 off) v := by
  rw [s.cfgPut_plain hoff]
  exact SMap.get_put_self ..

/-! ### The mask of a vector (R284) -/

/-- The state with the Mask bit of a vector cleared, before its pending message is looked at. -/
def State.maskCleared (s : State) (func vec : Nat) : State :=
  { s with pci := { s.pci with msix := SMap.put s.pci.msix (msiKey func vec) { SMap.get s.pci.msix (msiKey func vec) {} with mask := false } } }

/-- The pending message of an unmasked vector can go out. -/
def State.unmaskSends (s : State) (func vec : Nat) : Bool :=
  (SMap.get s.pci.msix (msiKey func vec) {}).pend && s.msixEnabled func && !s.msixMasked func

theorem State.msixWord_unmask (s : State) (func vec : Nat) :
    let m := SMap.get s.pci.msix (msiKey func vec) {}
    s.msixWord func vec 3 0 = if s.unmaskSends func vec = true then
      { s with pci := { s.pci with msix := SMap.put (s.maskCleared func vec).pci.msix (msiKey func vec) { m with mask := false, pend := false } }
               out := s.out ++ [.msix func vec m.addr m.data] }
    else s.maskCleared func vec := by
  have word : s.msixWord func vec 3 0 = (s.maskCleared func vec).msixFlush func vec := rfl
  have held : SMap.get (s.maskCleared func vec).pci.msix (msiKey func vec) {} =
      { SMap.get s.pci.msix (msiKey func vec) {} with mask := false } := SMap.get_put_self ..
  have sends : ((SMap.get s.pci.msix (msiKey func vec) {}).pend && !false && (s.maskCleared func vec).msixEnabled func &&
      !(s.maskCleared func vec).msixMasked func) = s.unmaskSends func vec := by
    rw [Bool.not_false, Bool.and_true]
    rfl
  intro m
  rw [word, State.msixFlush, held]
  dsimp only
  rw [sends]
  rfl

/-- A vector is unmasked: its pending message goes out where its function is enabled and not masked. -/
theorem State.msixWord_unmask_spec (s : State) (func vec : Nat) :
    let m := SMap.get s.pci.msix (msiKey func vec) {}
    let t := s.msixWord func vec 3 0
    t = { s with pci := { s.pci with msix := t.pci.msix }, out := t.out } ∧
    SMap.get t.pci.msix (msiKey func vec) {} = { m with mask := false, pend := m.pend && !s.unmaskSends func vec } ∧
    (∀ j, j ≠ msiKey func vec → SMap.find t.pci.msix j = SMap.find s.pci.msix j) ∧
    t.out = s.out ++ (if s.unmaskSends func vec = true then [.msix func vec m.addr m.data] else []) := by
  intro m t
  have unmasked : t = _ := s.msixWord_unmask func vec
  have others : ∀ {j : Nat}, j ≠ msiKey func vec → SMap.find (s.maskCleared func vec).pci.msix j = SMap.find s.pci.msix j :=
    fun hj => SMap.find_put_ne _ _ (Ne.symm hj)
  cases hg : s.unmaskSends func vec with
  | true =>
    rw [hg, if_pos rfl] at unmasked
    rw [unmasked]
    refine ⟨rfl, ?_, fun j hj => ?_, rfl⟩
    · exact (SMap.get_put_self ..).trans (by rw [Bool.not_true, Bool.and_false])
    · exact (SMap.find_put_ne _ _ (Ne.symm hj)).trans (others hj)
  | false =>
    rw [hg, if_neg (by decide)] at unmasked
    rw [unmasked]
    refine ⟨rfl, ?_, fun j hj => others hj, (List.append_nil _).symm⟩
    exact (SMap.get_put_self ..).trans (by rw [Bool.not_false, Bool.and_true])

/-! ### Completions (R98, R264, R284) -/

section
variable {s : State} {tag : Nat} {d : DmaRead} (found : s.pci.reads.find? (fun d => d.tag = tag) = some d)
include found

theorem poisonedCompletion_first (h : d.reissued = false) : exec (.poisonedCompletion tag) s = .next { s with
    pci := { (s.aerUncLog (2 ^ 12)).pci with
      reads := s.pci.reads.map (fun e => if e.tag = tag then { e with reissued := true, since := s.ftime } else e) }
    out := s.out ++ [.dmaRead (s.ctx d.ctx).owner tag d.addr d.len false false] } := by
  show execPoisonedCompletion tag s = _
  rw [execPoisonedCompletion, found]
  dsimp only
  rw [h, if_neg (by decide)]
  rfl

theorem poisonedCompletion_second (h : d.reissued = true) :
    exec (.poisonedCompletion tag) s = .next ((s.aerUncLog (2 ^ 12)).readFails d kHOST_POISON 1) := by
  show execPoisonedCompletion tag s = _
  rw [execPoisonedCompletion, found]
  dsimp only
  rw [h, if_pos rfl]
  rfl

theorem completionTimeout_fails (on : s.timeoutOn = true) (late : d.since + 100 * s.timeoutUs ≤ s.ftime) :
    exec (.completionTimeout tag) s = .next ((s.aerUncLog (2 ^ 14)).readFails d kCPL_TIMEOUT 0) := by
  show execCompletionTimeout tag s = _
  rw [execCompletionTimeout, found]
  dsimp only
  rw [if_neg (by simp [on]; omega)]
  rfl

theorem completionTimeout_off (off : s.timeoutOn = false) : exec (.completionTimeout tag) s = .next s := by
  show execCompletionTimeout tag s = _
  rw [execCompletionTimeout, found]
  dsimp only
  rw [if_pos (by simp [off])]

/-- The read is no longer outstanding. -/
def State.readEnded (s : State) (tag : Nat) : State :=
  { s with pci := { s.pci with reads := s.pci.reads.filter (fun e => e.tag != tag) } }

theorem hostDmaCompletion_stale (h : d.gen ≠ (s.ctx d.ctx).gen) :
    exec (.hostDmaCompletion tag) s = .next (s.readEnded tag).pumpReads := by
  show execHostDmaCompletion tag s = _
  rw [execHostDmaCompletion, found]
  dsimp only
  rw [if_pos (by rw [bne_iff_ne]; exact h)]
  rfl

theorem hostDmaCompletion_copies {k : Cmd} (cmd : ((s.ctx d.ctx).queue d.queue).cmds.find? (fun k => k.ssn = d.ssn) = some k)
    (entry : d.entry = false) (gen : d.gen = (s.ctx d.ctx).gen) (owned : (s.ctx d.ctx).state = .owned)
    (freezing : (s.ctx d.ctx).freezing = false) (copy : k.hostCopy = true) :
    exec (.hostDmaCompletion tag) s = .next ((s.readEnded tag).copyPiece d k).pumpReads := by
  show execHostDmaCompletion tag s = _
  have goes : ((s.ctx d.ctx).runs && !(s.ctx d.ctx).freezing && k.hostCopy) = true := by
    rw [Ctx.runs, owned, freezing, copy]
    rfl
  rw [execHostDmaCompletion, found]
  show Host.Outcome.next (State.pumpReads (ite ((d.gen != ((s.readEnded tag).ctx d.ctx).gen) = true) _ _)) = _
  rw [show (s.readEnded tag).ctx d.ctx = s.ctx d.ctx from rfl, if_neg (by rw [gen]; simp), entry, if_neg (by decide)]
  split
  · next k' some =>
    obtain rfl : k' = k := Option.some.inj (some.symm.trans cmd)
    exact congrArg (fun t : State => Host.Outcome.next t.pumpReads) (if_pos goes)
  · next none => exact absurd (none.symm.trans cmd) (by simp)

end

/-! ### The obligation's clauses -/

theorem pcieLinkL0_spec {s : State} (hmain : s.mainRuns = true) (hperst : s.pins.perst = false) (width rate : Nat) (flit : Bool) :
    ∃ t, exec (.pcieLinkL0 width rate flit) s = .next t ∧
      t = { s with regs := t.regs, pins := t.pins, pci := { s.pci with linkUp := true, trained := true } } ∧
      t.rd HOSTIF.LINK_STAT_WIDTH = width % 2 ^ HOSTIF.LINK_STAT_WIDTH.width ∧
      t.rd HOSTIF.LINK_STAT_RATE = rate % 2 ^ HOSTIF.LINK_STAT_RATE.width ∧
      t.on HOSTIF.LINK_STAT_FLIT = (decide (rate = 6) || flit) ∧ s.regsBut t linkStatKeys ∧
      (s.pci.trained = true → t.rd HOSTIF.LINK_STAT_RETRAIN =
        min (2 ^ HOSTIF.LINK_STAT_RETRAIN.width - 1) (s.rd HOSTIF.LINK_STAT_RETRAIN + 1)) := by
  obtain ⟨t, ht, frame⟩ := execPcieLinkL0_eq hmain hperst width rate flit
  have regs : t.regs = (s.atL0 width rate flit).regs := by rw [frame]
  have rd : ∀ r, t.rd r = (s.atL0 width rate flit).rd r := fun r => by rw [State.rd, State.rd, regs]
  refine ⟨t, ht, ?_, (rd _).trans (s.atL0_width ..), (rd _).trans (s.atL0_rate ..), ?_, ?_,
    fun trained => (rd _).trans (State.atL0_retrain trained ..)⟩
  · rw [frame]
  · exact (congrArg (fun v => decide (v = 1)) (rd _)).trans (s.atL0_flit ..)
  · intro b hb
    rw [regs]
    exact s.atL0_regsBut width rate flit b hb

theorem linkErrors_raise {s : State} (up : s.boot.fltUp = true) :
    (∀ status, (∃ t, exec (.linkCorr status) s = .next t ∧ (s.aerCorrLog status).hostifRaised t (tokOf pgHOSTIF kLINK_CORR 0 status)) ∧
      (∃ t, exec (.tlpBad status) s = .next t ∧ (s.aerUncLog status).hostifRaised t (tokOf pgHOSTIF kTLP_BAD 0 status))) ∧
    (s.pins.perst = false → s.pci.linkUp = true → ∃ t, exec .linkDown s = .next t ∧
      ({ s with pci := { s.pci with linkUp := false } }.aerUncLog (2 ^ 5)).hostifRaised t (tokOf pgHOSTIF kLINK_DOWN 0 0)) := by
  refine ⟨fun status => ⟨⟨_, rfl, ?_⟩, ⟨_, rfl, ?_⟩⟩, fun perst link => ⟨_, ?_, State.hostifRaised_raiseTok ?_ ?_⟩⟩
  · exact State.hostifRaised_raiseTok (u := s.aerCorrLog status) up rfl
  · exact State.hostifRaised_raiseTok (u := s.aerUncLog status) up rfl
  · show execLinkDown s = _
    rw [execLinkDown, if_neg (by simp [perst, link])]
    rfl
  · exact up
  · rfl

/-- A poisoned write is named by its function and its offset. -/
theorem poisonedWrite_raises {s : State} (up : s.boot.fltUp = true) {func off : Nat} (hf : func < 64) (ho : off < 2 ^ 28) :
    ∃ t, exec (.poisonedWrite func off) s = .next t ∧
      (s.aerUncLog (2 ^ 12)).hostifRaised t { tokOf pgHOSTIF kHOST_POISON (off + func * 2 ^ 28) 2 with cls := cINFO } := by
  have addr : off % 2 ^ 28 + func % 2 ^ 7 * 2 ^ 28 = (off + func * 2 ^ 28) % 2 ^ 48 := by omega
  refine ⟨_, rfl, ?_⟩
  rw [addr]
  exact State.hostifRaised_raiseTok (u := s.aerUncLog (2 ^ 12)) up rfl

/-- The data of a good completion reaches the destination of its COPY. -/
theorem hostDmaCompletion_data {s : State} {tag : Nat} {d : DmaRead} (found : s.pci.reads.find? (fun d => d.tag = tag) = some d)
    {k : Cmd} (cmd : ((s.ctx d.ctx).queue d.queue).cmds.find? (fun k => k.ssn = d.ssn) = some k)
    (entry : d.entry = false) (gen : d.gen = (s.ctx d.ctx).gen) (owned : (s.ctx d.ctx).state = .owned)
    (freezing : (s.ctx d.ctx).freezing = false) (copy : k.hostCopy = true) (clear : s.memoryClear) :
    ∃ t, exec (.hostDmaCompletion tag) s = .next t ∧
      (bit (k.at 0x28) 1 = false → t.bytes (k.at 0x18 + k.moved) d.len = s.hostBytes d.addr d.len ∧
        s.bytesBut t (k.at 0x18 + k.moved) d.len ∧ t.host = s.host) ∧
      (bit (k.at 0x28) 1 = true → t.hostBytes (k.at 0x18 + k.moved) d.len = s.hostBytes d.addr d.len ∧ t.mem = s.mem) := by
  have len : (s.hostBytes d.addr d.len).length = d.len := Memory.length_readBytes ..
  have pump := ((s.readEnded tag).copyPiece d k).asks_pumpReads
  have mem := pump.mem
  have host := pump.host
  refine ⟨_, hostDmaCompletion_copies found cmd entry gen owned freezing copy, fun dir => ?_, fun dir => ?_⟩
  · obtain ⟨wrote, kept⟩ := State.copyPiece_local (s := s.readEnded tag) clear d k dir
    have wrote' := mem.trans wrote
    refine ⟨bytes_of_written wrote' len, fun j hj => ?_, host.trans kept⟩
    rw [State.byte, wrote']
    exact Memory.read_writeBytes_out _ _ _ _ (by rw [show ((s.readEnded tag).hostBytes d.addr d.len).length = d.len from len]; exact hj)
  · obtain ⟨wrote, kept⟩ := (s.readEnded tag).copyPiece_host d k dir
    exact ⟨bytes_of_written (host.trans wrote) len, mem.trans kept⟩

theorem hostDmaCompletion_drops {s : State} {tag : Nat} {d : DmaRead} (found : s.pci.reads.find? (fun d => d.tag = tag) = some d)
    (stale : d.gen ≠ (s.ctx d.ctx).gen) :
    ∃ t, exec (.hostDmaCompletion tag) s = .next t ∧ t.mem = s.mem ∧ t.host = s.host ∧ t.cores = s.cores := by
  have pump := (s.readEnded tag).asks_pumpReads
  exact ⟨_, hostDmaCompletion_stale found stale, pump.mem, pump.host, pump.cores⟩

theorem msixVectorUnmask_spec {s : State} {func vec : Nat} (service : s.inService = true) (hv : vec < vectorsOf func)
    (hf : func = 0 ∨ (s.vfExists func = true ∧ s.flrBusy func = false)) :
    exec (.msixVectorUnmask func vec) s = .next (s.msixWord func vec 3 0) := by
  have runs : (s.inService && decide (vec < vectorsOf func) && (decide (func = 0) || (s.vfExists func && !s.flrBusy func))) = true := by
    rcases hf with rfl | ⟨ex, busy⟩
    · simp [service, hv]
    · simp [service, hv, ex, busy]
  show execMsixVectorUnmask func vec s = _
  rw [execMsixVectorUnmask, if_pos runs]

/-- What the host programs in Device Control and Device Control 2 holds. -/
theorem devCtl_holds {s : State} (hmain : s.mainRuns = true) (hperst : s.pins.perst = false) (ident : s.pci.identity = true)
    {v : Nat} (hv : v < 2 ^ 32) :
    (∃ t, exec (.regWrite .host (cfgBase + cfgDevCtl) 4 true v) s = .next t ∧ t = { s with pci := { s.pci with cfg := t.pci.cfg } } ∧
      t.maxPayload = min 512 (128 * 2 ^ bits v 7 5) ∧ t.maxRead = min 4096 (128 * 2 ^ bits v 14 12) ∧ t.relaxedOn 0 = bit v 4) ∧
    (∃ t, exec (.regWrite .host (cfgBase + cfgDevCtl2) 4 true v) s = .next t ∧ t = { s with pci := { s.pci with cfg := t.pci.cfg } } ∧
      t.readLimit = (if bit v 12 = true then 768 else 256) ∧ t.timeoutOn = !bit v 4 ∧ (bits v 3 0 = 0 → t.timeoutUs = 50000)) := by
  refine ⟨⟨_, regWrite_cfg hmain hperst ident (by decide) (by decide) hv, ?_, ?_, ?_, ?_⟩,
    ⟨_, regWrite_cfg hmain hperst ident (by decide) (by decide) hv, ?_, ?_, ?_, fun code => ?_⟩⟩
  · rw [s.cfgPut_plain (.inl rfl)]
  · rw [State.maxPayload, s.cfgHeld_cfgPut (.inl rfl), bits_maskPut _ _ _ _ _ (by decide)]
  · rw [State.maxRead, s.cfgHeld_cfgPut (.inl rfl), bits_maskPut _ _ _ _ _ (by decide)]
  · rw [State.relaxedOn, s.cfgHeld_cfgPut (.inl rfl), bit_maskPut _ _ _ _ (by decide)]
  · rw [s.cfgPut_plain (.inr rfl)]
  · rw [State.readLimit, s.cfgHeld_cfgPut (.inr rfl), bit_maskPut _ _ _ _ (by decide)]
  · rw [State.timeoutOn, s.cfgHeld_cfgPut (.inr rfl), bit_maskPut _ _ _ _ (by decide)]
  · rw [State.timeoutUs, s.cfgHeld_cfgPut (.inr rfl), bits_maskPut _ _ _ _ _ (by decide), code]
    rfl

/-- Settles O50: the link's registers, the tokens of its errors, the ends of host reads, an unmasked vector and configuration space, each
by the lemma about its instruction. -/
theorem hostTransactions : Obligations.HostTransactions := by
  unfold Obligations.HostTransactions
  intro s up
  obtain ⟨errors, down⟩ := linkErrors_raise up
  refine ⟨fun width rate flit hmain hperst _ _ => ?_, errors, down, fun func off hf ho => poisonedWrite_raises up hf ho,
    fun tag d found => ⟨fun first => ?_, fun again => ?_, fun on late => ?_, completionTimeout_off found,
      fun _ stale => hostDmaCompletion_drops found stale,
      fun k cmd entry gen owned freezing copy clear => hostDmaCompletion_data found cmd entry gen owned freezing copy clear⟩,
    fun func vec service hv hf => ⟨_, msixVectorUnmask_spec service hv hf, s.msixWord_unmask_spec func vec⟩,
    fun hmain hperst => ⟨rcRead_cfg_early hmain hperst, fun ident => ⟨fun e he => ?_, fun v hv => (devCtl_holds hmain hperst ident hv).1,
      fun v hv => (devCtl_holds hmain hperst ident hv).2⟩⟩⟩
  · exact pcieLinkL0_spec hmain hperst width rate flit
  · exact ⟨_, poisonedCompletion_first found first, rfl⟩
  · exact ⟨_, poisonedCompletion_second found again, State.readFails_spec _ d up (by decide)⟩
  · exact ⟨_, completionTimeout_fails found on late, State.readFails_spec _ d up (by decide)⟩
  · obtain ⟨inside, aligned⟩ := s.identityWords_aligned e he
    rw [rcRead_cfg hmain hperst ident inside aligned, s.cfgRead_identity e he]

end Sys2Proof.Machine
end

section
/-! The stages of bring-up (O47). -/
namespace Sys2Proof.Machine

theorem State.rd_of_regs {s t : State} (h : t.regs = s.regs) (r : Row) (k i : Nat) : t.rd r k i = s.rd r k i := by
  rw [State.rd, State.rd, h]

/-! ### POWER and IDENT (R48, R56, R57, R63) -/

theorem tripHot_iff (diodes : List Int) : tripHot diodes = true ↔ ∃ d ∈ diodes, 864 ≤ d := by
  rw [tripHot, List.any_eq_true]
  exact ⟨fun ⟨d, hd, h⟩ => ⟨d, hd, of_decide_eq_true h⟩, fun ⟨d, hd, h⟩ => ⟨d, hd, decide_eq_true h⟩⟩

theorem tripHot_of_cool {diodes : List Int} (h : ∀ d ∈ diodes, d < 864) : tripHot diodes = false := by
  rw [Bool.eq_false_iff, ne_eq, tripHot_iff]
  exact fun ⟨d, hd, hot⟩ => absurd (h d hd) (by omega)

theorem Sec.state_lt (x : Sec) : x.state < 4 := by
  unfold Sec.state
  split_ifs <;> omega

/-- The fields of SEC that POWER writes. -/
def secPowerKeys : List Nat :=
  [SEC.SEC_STAT_LC.bit 0 0, SEC.SEC_STAT_FUSE_N.bit 0 0, SEC.SEC_STAT_SCRAP_BIT.bit 0 0, SEC.SEC_STAT_DEBUG.bit 0 0]

theorem State.secPower_frame (s : State) : ∃ regs sec, s.secPower = { s with regs := regs, sec := sec } := ⟨_, _, rfl⟩

theorem State.secPower_regsBut (s : State) : s.regsBut s.secPower secPowerKeys := by
  unfold State.secPower
  extract_lets sec u lc v
  have counted : u.regsBut v secPowerKeys := ((State.regsBut_wr _ (by decide)).trans (State.regsBut_wr _ (by decide))).trans
    (State.regsBut_wr _ (by decide))
  exact counted.trans (State.regsBut_wr _ (by decide))

theorem State.secPower_lc (s : State) : s.secPower.rd SEC.SEC_STAT_LC = s.secPower.sec.state := by
  unfold State.secPower
  extract_lets sec u lc v
  rw [State.rd_wr_ne _ _ _ _ _ _ _ _ (by decide), State.rd_wr_ne _ _ _ _ _ _ _ _ (by decide),
    State.rd_wr_ne _ _ _ _ _ _ _ _ (by decide), State.rd_wr_self]
  exact Nat.mod_eq_of_lt (Sec.state_lt _)

/-- The PLLs have locked, and the release ALIGN pulse has gone out. -/
def State.locked (s : State) : State :=
  ((((((s.wr CLKRST.CLK_STAT_REFCLK_OK 1).wr CLKRST.CLK_STAT_HOST_LOCK 1).wr CLKRST.CLK_STAT_HBM_LOCK 1).wr
    CLKRST.CLK_STAT_FAB_LOCK 1).wr CLKRST.CLK_STAT_CHANTER_LOCK 1).wr CLKRST.CLK_STAT_QPLL_LOCK 0xF).wr CLKRST.ALIGN_ALIGN_GEN 1

theorem State.locked_align (s : State) : s.locked.rd CLKRST.ALIGN_ALIGN_GEN = 1 := by
  rw [State.locked, State.rd_wr_self]
  rfl

theorem State.locked_qpll (s : State) : s.locked.rd CLKRST.CLK_STAT_QPLL_LOCK = 15 := by
  rw [State.locked, State.rd_wr_ne _ _ _ _ _ _ _ _ (by decide), State.rd_wr_self]
  rfl

theorem State.locked_plls (s : State) : ∀ r ∈ [CLKRST.CLK_STAT_REFCLK_OK, CLKRST.CLK_STAT_HOST_LOCK, CLKRST.CLK_STAT_HBM_LOCK,
    CLKRST.CLK_STAT_FAB_LOCK, CLKRST.CLK_STAT_CHANTER_LOCK], s.locked.rd r = 1 := by
  have fresh : ∀ (u : State) (r : Row), r.width = 1 → (u.wr r 1).rd r = 1 := fun u r h => by rw [State.rd_wr_self, h]; rfl
  have past : ∀ (u : State) (r r' : Row) (v : Nat), r.bit 0 0 ≠ r'.bit 0 0 → u.rd r' = 1 → (u.wr r v).rd r' = 1 :=
    fun u r r' v h hu => (State.rd_wr_ne _ _ _ _ _ _ _ _ h).trans hu
  simp only [List.forall_mem_cons]
  refine ⟨?_, ?_, ?_, ?_, ?_, fun _ h => absurd h List.not_mem_nil⟩
  · exact past _ _ _ _ (by decide) (past _ _ _ _ (by decide) (past _ _ _ _ (by decide) (past _ _ _ _ (by decide)
      (past _ _ _ _ (by decide) (past _ _ _ _ (by decide) (fresh _ _ rfl))))))
  · exact past _ _ _ _ (by decide) (past _ _ _ _ (by decide) (past _ _ _ _ (by decide) (past _ _ _ _ (by decide)
      (past _ _ _ _ (by decide) (fresh _ _ rfl)))))
  · exact past _ _ _ _ (by decide) (past _ _ _ _ (by decide) (past _ _ _ _ (by decide) (past _ _ _ _ (by decide) (fresh _ _ rfl))))
  · exact past _ _ _ _ (by decide) (past _ _ _ _ (by decide) (past _ _ _ _ (by decide) (fresh _ _ rfl)))
  · exact past _ _ _ _ (by decide) (past _ _ _ _ (by decide) (fresh _ _ rfl))

theorem State.locked_regsBut (s : State) {keys : List Nat} (h : ∀ r ∈ [CLKRST.CLK_STAT_REFCLK_OK, CLKRST.CLK_STAT_HOST_LOCK,
    CLKRST.CLK_STAT_HBM_LOCK, CLKRST.CLK_STAT_FAB_LOCK, CLKRST.CLK_STAT_CHANTER_LOCK, CLKRST.CLK_STAT_QPLL_LOCK,
    CLKRST.ALIGN_ALIGN_GEN], r.bit 0 0 ∈ keys) : s.regsBut s.locked keys :=
  ((((((s.regsBut_wr (h _ (by decide))).trans (State.regsBut_wr _ (h _ (by decide)))).trans (State.regsBut_wr _ (h _ (by decide)))).trans
    (State.regsBut_wr _ (h _ (by decide)))).trans (State.regsBut_wr _ (h _ (by decide)))).trans
    (State.regsBut_wr _ (h _ (by decide)))).trans (State.regsBut_wr _ (h _ (by decide)))

/-- The fields of CLKRST that the locks write. -/
def lockKeys : List Nat :=
  [CLKRST.CLK_STAT_REFCLK_OK, CLKRST.CLK_STAT_HOST_LOCK, CLKRST.CLK_STAT_HBM_LOCK, CLKRST.CLK_STAT_FAB_LOCK,
    CLKRST.CLK_STAT_CHANTER_LOCK, CLKRST.CLK_STAT_QPLL_LOCK, CLKRST.ALIGN_ALIGN_GEN].map (fun r => r.bit 0 0)

section
variable {s : State} (hmain : s.mainRuns = true) (diodes : List Int)
include hmain

theorem pllLockAlign_cool (h0 : s.stage = 0) (aligned : s.boot.aligned = false) (perst : s.pins.perst = false)
    (clock : s.pins.droneOk = true) (cool : ∀ d ∈ diodes, d < 864) : ∃ t, exec (.pllLockAlign diodes) s = .next t ∧
      t = { s with regs := t.regs, sec := t.sec, boot := { s.boot with aligned := true } } ∧
      t.rd CLKRST.ALIGN_ALIGN_GEN = 1 ∧ t.rd CLKRST.CLK_STAT_QPLL_LOCK = 15 ∧ t.rd SEC.SEC_STAT_LC = t.sec.state ∧
      ∀ r ∈ [CLKRST.CLK_STAT_REFCLK_OK, CLKRST.CLK_STAT_HOST_LOCK, CLKRST.CLK_STAT_HBM_LOCK, CLKRST.CLK_STAT_FAB_LOCK,
        CLKRST.CLK_STAT_CHANTER_LOCK], t.rd r = 1 := by
  have goes : (!s.mainRuns || s.pins.perst || !s.pins.droneOk || s.stage != 0 || s.boot.aligned || tripHot diodes) = false := by
    rw [hmain, perst, clock, h0, aligned, tripHot_of_cool cool]
    rfl
  have lc : s.secPower.locked.rd SEC.SEC_STAT_LC = s.secPower.sec.state :=
    ((State.locked_regsBut s.secPower (keys := lockKeys) (fun r hr => List.mem_map_of_mem hr)).rd (by decide)).trans s.secPower_lc
  have rd : ∀ r : Row, State.rd { s.secPower.locked with boot := { s.secPower.boot with aligned := true } } r = s.secPower.locked.rd r :=
    fun r => State.rd_of_regs rfl r 0 0
  have run : exec (.pllLockAlign diodes) s = .next { s.secPower.locked with boot := { s.secPower.boot with aligned := true } } := by
    show execPllLockAlign diodes s = _
    rw [execPllLockAlign, goes, if_neg (by decide)]
    rfl
  refine ⟨_, run, ?_, (rd _).trans s.secPower.locked_align, (rd _).trans s.secPower.locked_qpll, (rd _).trans lc,
    fun r hr => (rd r).trans (s.secPower.locked_plls r hr)⟩
  obtain ⟨regs, sec, frame⟩ := s.secPower_frame
  rw [frame]
  rfl

omit hmain in
theorem pllLockAlign_hot (hot : ∃ d ∈ diodes, 864 ≤ d) : exec (.pllLockAlign diodes) s = .next s := by
  show execPllLockAlign diodes s = _
  rw [execPllLockAlign, (tripHot_iff diodes).mpr hot, if_pos (Bool.or_true _)]

theorem ident_spec (h0 : s.stage = 0) (aligned : s.boot.aligned = true) : ∃ t, exec .ident s = .next t ∧
    t = { s with regs := t.regs, pci := { s.pci with identity := true } } ∧ t.stage = 1 ∧ s.regsBut t [CHIP.BOOT_STAGE.bit 0 0] := by
  refine ⟨{ s.wr CHIP.BOOT_STAGE 1 with pci := { s.pci with identity := true } }, ?_, rfl, ?_, s.regsBut_wr (List.mem_singleton_self _)⟩
  · show execIdent s = _
    rw [execIdent, if_pos (by rw [hmain, h0, aligned]; rfl)]
  · exact s.rd_wr_self CHIP.BOOT_STAGE 1 0 0

end

end Sys2Proof.Machine
end

section
namespace Sys2Proof.Machine

/-! ### The entry to SERVICE (R60, R62, R115, R517, R579) -/

/-- What the entry to SERVICE writes besides BOOT_STAGE: page headers, the service level and PROV_EPOCH. -/
def entryKey (b : Nat) : Prop := b % 32768 < 512 ∨ levelKey b ∨ b = CHIP.PROV_EPOCH_EPOCH.bit 0 0

theorem entryKey_header (r : Row) (p : Nat) (h : (r.page * 4096 + r.off) * 8 + r.lo < 512) (hs : r.pstep = 1) : entryKey (r.bit p 0) :=
  .inl (by rw [Row.bit, hs, Nat.mul_zero]; omega)

theorem not_entryKey {b : Nat} (h : 512 ≤ b % 32768) (hl : b < 576 ∨ 608 ≤ b) (he : b ≠ CHIP.PROV_EPOCH_EPOCH.bit 0 0) : ¬ entryKey b := by
  rintro (header | (level | err) | epoch) <;> omega

theorem State.pageStates_reports (s : State) (fw : Bool) : s.Reports entryKey (s.pageStates fw) :=
  State.Reports.each _ (fun t p _ => State.Reports.wr t _ (entryKey_header HDR.STAT_STATE p (by decide) rfl)) s

/-- Every page with its state, and after a chip reset its new generation. -/
def State.pagesEntered (s : State) (fw reset : Bool) : State :=
  let s := s.pageStates fw
  if reset then
    (s.each (allPages.filter (fun p => p != pgDRONE && p != pgCAL)) (fun s p => s.bump HDR.BLK_GEN p)).epoch
  else s

theorem State.pagesEntered_reports (s : State) (fw reset : Bool) : s.Reports entryKey (s.pagesEntered fw reset) := by
  have states := s.pageStates_reports fw
  unfold State.pagesEntered
  dsimp only
  split
  · exact (states.trans (State.Reports.each _ (fun t p _ => State.Reports.wr t _ (entryKey_header HDR.BLK_GEN p (by decide) rfl)) _)).trans
      (State.Reports.wr _ _ (.inr (.inr rfl)))
  · exact states

/-- A change of the debug level since `old` is reported (R579). -/
def State.debugReported (s : State) (old : Option Nat) : State :=
  match old with
  | some old => if old != s.rd SEC.SEC_STAT_DEBUG then s.raise pgSEC kDEBUG_LEVEL 0 (old * 4096 + s.rd SEC.SEC_STAT_DEBUG * 256 + 3) else s
  | none => s

theorem State.debugReported_reports (s : State) (old : Option Nat) : s.Reports entryKey (s.debugReported old) := by
  unfold State.debugReported
  split
  · split
    · exact State.Reports.raise s (.inr (by decide)) (.inl (by decide))
    · exact State.Reports.refl s
  · exact State.Reports.refl s

/-- The state as SERVICE is entered, before the boot vector. -/
def State.serviceReached (s : State) (fw : Bool) : State :=
  let u := (s.wr CHIP.BOOT_STAGE 6).pagesEntered fw (s.ladder.running.any (fun r => r.level = 4))
  let v := { u with sec := { u.sec with lcLast := some u.lc } }.setLevel
  let w := v.debugReported v.boot.lvlFrom
  { w with boot := { w.boot with lvlFrom := none } }

theorem State.enterService_eq (s : State) (fw : Bool) : s.enterService fw = (s.serviceReached fw).bootVector := by
  unfold State.enterService State.serviceReached State.debugReported
  rfl

/-- From s the part entered SERVICE in t. -/
structure State.Enters (s t : State) : Prop where
  rest : t = { s with
    regs := t.regs, pci := { s.pci with msix := t.pci.msix }, fltIn := t.fltIn, out := t.out, nl := t.nl
    sec := { s.sec with lcLast := some s.lc }, boot := { s.boot with deferred := t.boot.deferred, lvlFrom := none } }
  regs : ∀ b, ¬ entryKey b → b ≠ CHIP.BOOT_STAGE.bit 0 0 → SMap.find t.regs b = SMap.find s.regs b
  stage : t.stage = 6
  out : s.out <+: t.out

theorem State.serviceReached_enters (s : State) (fw : Bool) : s.Enters (s.serviceReached fw) ∧
    ∀ j, j ≠ 2 → j ≠ 3 → SMap.find (s.serviceReached fw).pci.msix j = SMap.find s.pci.msix j := by
  unfold State.serviceReached
  extract_lets u sec v w boot
  have pages : (s.wr CHIP.BOOT_STAGE 6).Reports entryKey u := State.pagesEntered_reports _ fw _
  have level : State.Reports entryKey { u with sec := { u.sec with lcLast := some u.lc } } v :=
    State.Reports.setLevel _ (fun b h => .inr (.inl h))
  have told : State.Reports entryKey v w := v.debugReported_reports v.boot.lvlFrom
  have both := level.trans told
  have lc : u.lc = s.lc := (pages.rd (not_entryKey (by decide) (by decide) (by decide))).trans (State.rd_wr_ne _ _ _ _ _ _ _ _ (by decide))
  refine ⟨⟨?_, fun b hb hs => ?_, ?_, ?_⟩, fun j h2 h3 => ?_⟩
  · have reached : w = { s with
        regs := w.regs, pci := { s.pci with msix := w.pci.msix }, fltIn := w.fltIn, out := w.out, nl := w.nl
        sec := { s.sec with lcLast := some s.lc }, boot := { s.boot with deferred := w.boot.deferred } } := by
      rw [both.rest, lc, pages.rest]
      rfl
    exact congrArg (fun w : State => { w with boot := { w.boot with lvlFrom := none } }) reached
  · exact ((both.regs b hb).trans (pages.regs b hb)).trans (s.find_wr_ne (Ne.symm hs))
  · have stage : ¬ entryKey (CHIP.BOOT_STAGE.bit 0 0) := not_entryKey (by decide) (by decide) (by decide)
    exact ((both.rd stage).trans (pages.rd stage)).trans (s.rd_wr_self CHIP.BOOT_STAGE 6 0 0)
  · exact pages.out.trans both.out
  · exact (both.msix j h2 h3).trans (pages.msix j h2 h3)

theorem State.bootVector_enters {s t : State} (h : s.Enters t) : s.Enters t.bootVector := by
  unfold State.bootVector
  split
  · exact h
  · rw [t.sendVector_rest 0 0]
    exact ⟨by rw [h.rest], h.regs, h.stage, h.out.trans (t.sendVector_out 0 0)⟩

theorem State.enterService_enters (s : State) (fw : Bool) : s.Enters (s.enterService fw) := by
  rw [State.enterService_eq]
  exact State.bootVector_enters (s.serviceReached_enters fw).1

/-- The boot vector goes out where PF0's vector 0 is enabled and not masked (R62). -/
theorem State.enterService_vector (s : State) (fw : Bool) (mask : (SMap.get s.pci.msix (msiKey 0 0) {}).mask = false)
    (masked : s.msixMasked 0 = false) (enabled : s.msixEnabled 0 = true) : ∃ l, (s.enterService fw).out = s.out ++ l ∧
    .msix 0 0 (SMap.get s.pci.msix (msiKey 0 0) {}).addr (SMap.get s.pci.msix (msiKey 0 0) {}).data ∈ l := by
  obtain ⟨reached, msix⟩ := s.serviceReached_enters fw
  obtain ⟨l, hl⟩ := reached.out
  have vector : SMap.get (s.serviceReached fw).pci.msix (msiKey 0 0) {} = SMap.get s.pci.msix (msiKey 0 0) {} := by
    rw [SMap.get, SMap.get, msix (msiKey 0 0) (by decide) (by decide)]
  have cfg : (s.serviceReached fw).pci.cfg = s.pci.cfg := by rw [reached.rest]
  have masked' : (s.serviceReached fw).msixMasked 0 = false := by rw [State.msixMasked, State.cfgHeld, cfg]; exact masked
  have enabled' : (s.serviceReached fw).msixEnabled 0 = true := by rw [State.msixEnabled, State.cfgHeld, cfg]; exact enabled
  have sent : ((s.serviceReached fw).bootVector).out = (s.serviceReached fw).out ++
      [.msix 0 0 (SMap.get s.pci.msix (msiKey 0 0) {}).addr (SMap.get s.pci.msix (msiKey 0 0) {}).data] := by
    unfold State.bootVector State.sendVector
    dsimp only
    rw [vector, mask, masked', enabled', if_neg (by decide), if_neg (by decide), if_neg (by decide)]
    rfl
  refine ⟨l ++ [_], ?_, List.mem_append_right _ (List.mem_singleton_self _)⟩
  rw [State.enterService_eq, sent, ← hl, List.append_assoc]

end Sys2Proof.Machine
end

section
namespace Sys2Proof.Machine

/-! ### FIRMWARE (R58 to R60, R558) -/

theorem State.failService_spec (s : State) {n : Nat} (hn : n < 256) : (s.failService n).stage = 6 ∧ (s.failService n).rd CHIP.BOOT_FAIL = n ∧
    (s.failService n).rd CHIP.BOOT_FW_RELOAD = (if n = 4 then 0 else 1) ∧
    (s.failService n).pins.alert = (decide (n ≠ 4) || s.pins.alert) ∧ (s.failService n).mem = s.mem ∧
    (s.failService n).boot.avsUp = s.boot.avsUp := by
  unfold State.failService
  extract_lets u
  have enters := State.enterService_enters (if n = 4 then u else { u with pins := { u.pins with alert := true } }) false
  have kept : ∀ r : Row, ¬ entryKey (r.bit 0 0) → r.bit 0 0 ≠ CHIP.BOOT_STAGE.bit 0 0 →
      (State.enterService (if n = 4 then u else { u with pins := { u.pins with alert := true } }) false).rd r = u.rd r :=
    fun r h hs => (State.rd_of_find (enters.regs _ h hs)).trans (by split <;> rfl)
  refine ⟨enters.stage, ?_, ?_, ?_, ?_, ?_⟩
  · rw [kept _ (not_entryKey (by decide) (by decide) (by decide)) (by decide), State.rd_wr_ne _ _ _ _ _ _ _ _ (by decide), State.rd_wr_self]
    exact Nat.mod_eq_of_lt hn
  · rw [kept _ (not_entryKey (by decide) (by decide) (by decide)) (by decide), State.rd_wr_self]
    split
    · next h => rw [h]; rfl
    · next h => rw [bne_iff_ne.mpr h]; rfl
  · rw [enters.rest]
    split
    · next h => simp [h, u]
    · next h => simp [h]
  · rw [enters.rest]
    split <;> rfl
  · rw [enters.rest]
    split <;> rfl

/-- What the start of the firmware writes besides the stage and the level: BLK_ERR of CAL's page, targets, PROV_EPOCH and POWER_ID. -/
def readyKey (b : Nat) : Prop :=
  b % 32768 < 512 ∨ (∃ q, b = AVS.TARGET_CODE.bit 0 q) ∨ b = CHIP.PROV_EPOCH_EPOCH.bit 0 0 ∨ b = AVS.AVS_STAT_POWER_ID.bit 0 0

/-- The firmware brings up what it runs on: neither memory nor the contexts change. -/
structure State.Readies (s t : State) : Prop where
  mem : t.mem = s.mem
  ctxs : t.ctxs = s.ctxs
  boot : t.boot = { s.boot with deferred := t.boot.deferred, calOk := t.boot.calOk }
  regs : ∀ b, ¬ readyKey b → SMap.find t.regs b = SMap.find s.regs b

namespace State.Readies
variable {s t u : State}

theorem refl (s : State) : s.Readies s := ⟨rfl, rfl, rfl, fun _ _ => rfl⟩

theorem trans (h : s.Readies t) (h' : t.Readies u) : s.Readies u where
  mem := h'.mem.trans h.mem
  ctxs := h'.ctxs.trans h.ctxs
  boot := by rw [h'.boot, h.boot]
  regs b hb := (h'.regs b hb).trans (h.regs b hb)

theorem each {α : Type} {f : State → α → State} (hf : ∀ (t : State) x, t.Readies (f t x)) (s : State) (l : List α) :
    s.Readies (s.each l f) :=
  State.each_inv s.Readies (fun t x h => h.trans (hf t x)) l s (refl s)

theorem rd (h : s.Readies t) {r : Row} {k i : Nat} (hb : ¬ readyKey (r.bit k i)) : t.rd r k i = s.rd r k i :=
  State.rd_of_find (h.regs _ hb)

theorem of_reports (h : s.Reports readyKey t) : s.Readies t :=
  ⟨by rw [h.rest], by rw [h.rest], by rw [h.rest], h.regs⟩

theorem wr (s : State) {r : Row} {k i : Nat} (v : Nat) (h : readyKey (r.bit k i)) : s.Readies (s.wr r v k i) := of_reports (.wr s v h)

theorem calRead (s : State) : s.Readies s.calRead := by
  unfold State.calRead
  extract_lets u boot
  have read : s.Readies u := by
    refine each (fun t k => ?_) s calTypes
    have adopted : t.Readies (t.calAdopt k) := ⟨rfl, rfl, rfl, fun _ _ => rfl⟩
    dsimp only
    split
    · exact adopted
    · exact adopted.trans (of_reports (Reports.raiseLater _ (by decide) (.inl (by decide))))
  exact read.trans ⟨rfl, rfl, rfl, fun _ _ => rfl⟩

theorem avsSend (s : State) (q v : Nat) : s.Readies (s.avsSend q v) := by
  unfold State.avsSend
  split
  · exact ⟨rfl, rfl, rfl, fun _ _ => rfl⟩
  · exact (wr s v (.inr (.inl ⟨q, rfl⟩))).trans ⟨rfl, rfl, rfl, fun _ _ => rfl⟩

end State.Readies

/-- The nonce of a cold boot is drawn (R50). -/
def State.nonceDrawn (s : State) : State :=
  if s.boot.coldDue then { s.drew with boot := { s.boot with nonce := s.drawn (2 ^ 64), coldDue := false } } else s

theorem State.nonceDrawn_frame (s : State) : ∃ draws nonce,
    s.nonceDrawn = { s with draws := draws, boot := { s.boot with nonce := nonce, coldDue := false } } := by
  unfold State.nonceDrawn
  split
  · exact ⟨_, _, rfl⟩
  · next h => exact ⟨s.draws, s.boot.nonce, by rw [← Bool.eq_false_iff.mpr h]⟩

/-- The firmware runs: the stage FLT, with AVS and the thermal block up. -/
def State.firmwareRuns (s : State) : State :=
  { s.wr CHIP.BOOT_STAGE 2 with boot := { s.boot with avsUp := true, thermUp := true } }

theorem State.firmwareUp_eq (s : State) : ∃ u, (s.wr CHIP.BOOT_FW_SLOT s.sec.runSlot).nonceDrawn.Readies u ∧
    s.firmwareUp = u.firmwareRuns.setLevel := by
  unfold State.firmwareUp
  extract_lets slotted drew boot drawn cal sent tabled
  have send : drawn.Readies sent := (State.Readies.calRead drawn).trans (State.Readies.each (fun t q => State.Readies.avsSend t q _) cal _)
  refine ⟨tabled, send.trans (State.Readies.trans (t := if sent.tableId != 0 then sent.epoch else sent) ?_
    (.wr _ _ (.inr (.inr (.inr rfl))))), rfl⟩
  split
  · exact .wr _ _ (.inr (.inr (.inl rfl)))
  · exact .refl sent

theorem not_readyKey {b : Nat} (h : 512 ≤ b % 32768) (hb : b < 640) : ¬ readyKey b := by
  rintro (header | ⟨q, target⟩ | epoch | power)
  · omega
  · simp only [Row.bit, AVS.TARGET_CODE] at target
    omega
  · exact absurd hb (by rw [epoch]; decide)
  · exact absurd hb (by rw [power]; decide)

theorem not_levelKey {b : Nat} (h : 608 ≤ b) : ¬ levelKey b := by
  rintro (level | err) <;> omega

theorem State.firmwareUp_spec (s : State) : s.firmwareUp.stage = 2 ∧ s.firmwareUp.boot.avsUp = true ∧ s.firmwareUp.boot.thermUp = true ∧
    s.firmwareUp.boot.coldDue = false ∧ s.firmwareUp.mem = s.mem ∧ s.firmwareUp.ctxs = s.ctxs ∧
    s.firmwareUp.boot.resident = s.boot.resident ∧ s.firmwareUp.boot.imgDig = s.boot.imgDig ∧
    s.firmwareUp.rd CHIP.BOOT_FW_RELOAD = s.rd CHIP.BOOT_FW_RELOAD ∧ s.firmwareUp.rd CHIP.BOOT_FW_SLOT = s.sec.runSlot % 2 := by
  obtain ⟨u, readies, up⟩ := s.firmwareUp_eq
  obtain ⟨draws, nonce, cold⟩ := (s.wr CHIP.BOOT_FW_SLOT s.sec.runSlot).nonceDrawn_frame
  rw [cold] at readies
  have level : u.firmwareRuns.Reports levelKey s.firmwareUp := up ▸ State.Reports.setLevel _ (fun _ h => h)
  have boot : s.firmwareUp.boot = { u.firmwareRuns.boot with deferred := s.firmwareUp.boot.deferred } := by rw [level.rest]
  have field : ∀ r : Row, ¬ levelKey (r.bit 0 0) → r.bit 0 0 ≠ CHIP.BOOT_STAGE.bit 0 0 → ¬ readyKey (r.bit 0 0) →
      s.firmwareUp.rd r = (s.wr CHIP.BOOT_FW_SLOT s.sec.runSlot).rd r := fun r hl hs hr =>
    (level.rd hl).trans ((State.rd_wr_ne u _ _ _ _ _ _ _ (Ne.symm hs)).trans (readies.rd hr))
  refine ⟨?_, ?_, ?_, ?_, ?_, ?_, ?_, ?_, ?_, ?_⟩
  · exact (level.rd (not_levelKey (by decide))).trans (u.rd_wr_self CHIP.BOOT_STAGE 2 0 0)
  · rw [boot]; rfl
  · rw [boot]; rfl
  · rw [boot]
    show u.boot.coldDue = false
    rw [readies.boot]
  · rw [level.rest]
    exact readies.mem
  · rw [level.rest]
    exact readies.ctxs
  · rw [boot]
    show u.boot.resident = _
    rw [readies.boot]
    rfl
  · rw [boot]
    show u.boot.imgDig = _
    rw [readies.boot]
    rfl
  · exact (field _ (not_levelKey (by decide)) (by decide) (not_readyKey (by decide) (by decide))).trans
      (State.rd_wr_ne _ _ _ _ _ _ _ _ (by decide))
  · exact (field _ (not_levelKey (by decide)) (by decide) (not_readyKey (by decide) (by decide))).trans (State.rd_wr_self ..)

theorem State.fwSelect_lt {s : State} {i : Nat} (h : s.fwSelect = some i) : i < 2 := by
  have mem := List.mem_of_find?_eq_some h
  split at mem <;> simp at mem <;> omega

theorem firmwareStage_fails {s : State} {readable : Bool} {n : Nat} (hn : n < 256)
    (fails : exec (.firmwareStage readable) s = .next (s.failService n)) :
    ∃ t, exec (.firmwareStage readable) s = .next t ∧ t.stage = 6 ∧ t.rd CHIP.BOOT_FAIL = n ∧
      t.rd CHIP.BOOT_FW_RELOAD = (if n = 4 then 0 else 1) ∧ t.pins.alert = (decide (n ≠ 4) || s.pins.alert) ∧ t.mem = s.mem := by
  obtain ⟨stage, fail, reload, alert, mem, -⟩ := s.failService_spec hn
  exact ⟨_, fails, stage, fail, reload, alert, mem⟩

/-! #### The stage by what the ROM finds -/

section
variable {s : State} (hmain : s.mainRuns = true) (h1 : s.stage = 1) (readable : Bool)
include hmain h1

theorem firmwareStage_scrapped (lc : s.lc = 3) : exec (.firmwareStage readable) s = .next (s.failService 4) := by
  show execFirmwareStage readable s = _
  rw [execFirmwareStage, hmain, h1, if_neg (by decide), if_pos lc]

variable (lc : s.lc ≠ 3)
include lc

theorem firmwareStage_kept (kept : s.fwKept = true) :
    exec (.firmwareStage readable) s = .next (s.wr CHIP.BOOT_FW_RELOAD 0).firmwareUp := by
  show execFirmwareStage readable s = _
  rw [execFirmwareStage, hmain, h1, if_neg (by decide), if_neg lc, if_pos kept]

variable (reload : s.fwKept = false)
include reload

theorem firmwareStage_unreadable (h : readable = false ∨ s.sec.flashOk = false) :
    exec (.firmwareStage readable) s = .next (s.failService 1) := by
  show execFirmwareStage readable s = _
  rw [execFirmwareStage, hmain, h1, if_neg (by decide), if_neg lc, if_neg (by rw [reload]; decide), if_pos]
  rcases h with h | h <;> simp [h]

theorem firmwareStage_invalid (read : readable = true) (ok : s.sec.flashOk = true) (none : s.fwSelect = none) :
    exec (.firmwareStage readable) s = .next (s.failService 2) := by
  show execFirmwareStage readable s = _
  rw [execFirmwareStage, hmain, h1, if_neg (by decide), if_neg lc, if_neg (by rw [reload]; decide), if_neg (by simp [read, ok]), none]

theorem firmwareStage_loads {i : Nat} (read : readable = true) (ok : s.sec.flashOk = true) (some : s.fwSelect = some i) :
    exec (.firmwareStage readable) s = .next (s.fwLoad i).firmwareUp := by
  show execFirmwareStage readable s = _
  rw [execFirmwareStage, hmain, h1, if_neg (by decide), if_neg lc, if_neg (by rw [reload]; decide), if_neg (by simp [read, ok]), some]

end

/-- FIRMWARE: an image that is kept or loaded runs; without one the part goes straight to SERVICE with the reason in FAIL. -/
theorem firmwareStage_spec {s : State} (hmain : s.mainRuns = true) (h1 : s.stage = 1) (readable : Bool) :
    let fails := fun (n : Nat) => ∃ t, exec (.firmwareStage readable) s = .next t ∧ t.stage = 6 ∧ t.rd CHIP.BOOT_FAIL = n ∧
      t.rd CHIP.BOOT_FW_RELOAD = (if n = 4 then 0 else 1) ∧ t.pins.alert = (decide (n ≠ 4) || s.pins.alert) ∧ t.mem = s.mem
    let runs := fun (more : State → Prop) => ∃ t, exec (.firmwareStage readable) s = .next t ∧ t.stage = 2 ∧ t.boot.avsUp = true ∧
      t.boot.thermUp = true ∧ t.boot.coldDue = false ∧ t.mem = s.mem ∧ t.ctxs = s.ctxs ∧ more t
    (s.lc = 3 → fails 4) ∧
    (s.lc ≠ 3 → s.fwKept = true → runs (fun t => t.rd CHIP.BOOT_FW_RELOAD = 0 ∧ t.boot.resident = s.boot.resident)) ∧
    (s.lc ≠ 3 → s.fwKept = false →
      (readable = false ∨ s.sec.flashOk = false → fails 1) ∧
      (readable = true → s.sec.flashOk = true → s.fwSelect = none → fails 2) ∧
      (∀ i, s.fwSelect = some i → readable = true → s.sec.flashOk = true → runs (fun t => t.rd CHIP.BOOT_FW_RELOAD = 1 ∧
        t.rd CHIP.BOOT_FW_SLOT = i ∧ t.boot.resident = some (s.fwSlot i).2 ∧ t.boot.imgDig = some (sha256 (s.fwSlot i).2)))) := by
  refine ⟨fun lc => firmwareStage_fails (by decide) (firmwareStage_scrapped hmain h1 readable lc), fun lc kept => ?_, fun lc reload =>
    ⟨fun h => firmwareStage_fails (by decide) (firmwareStage_unreadable hmain h1 readable lc reload h),
      fun read ok none => firmwareStage_fails (by decide) (firmwareStage_invalid hmain h1 readable lc reload read ok none),
      fun i sel read ok => ?_⟩⟩
  · obtain ⟨stage, avs, therm, cold, mem, ctxs, resident, -, flag, -⟩ := (s.wr CHIP.BOOT_FW_RELOAD 0).firmwareUp_spec
    exact ⟨_, firmwareStage_kept hmain h1 readable lc kept, stage, avs, therm, cold, mem, ctxs, flag.trans (State.rd_wr_self ..), resident⟩
  · obtain ⟨stage, avs, therm, cold, mem, ctxs, resident, dig, flag, slot⟩ := (s.fwLoad i).firmwareUp_spec
    exact ⟨_, firmwareStage_loads hmain h1 readable lc reload read ok sel, stage, avs, therm, cold, mem, ctxs,
      flag.trans (s.rd_wr_self CHIP.BOOT_FW_RELOAD 1 0 0), slot.trans (Nat.mod_eq_of_lt (State.fwSelect_lt sel)), resident, dig⟩

end Sys2Proof.Machine
end

section
namespace Sys2Proof.Machine

/-! ### Records and their interrupts (R256, R259, R281, R282, R368) -/

/-- From s to t the part posted: records went to the host, contexts, vectors and Moraine moved on, and of the registers none of CHIP.BOOT
changed. -/
structure State.Posts (s t : State) : Prop where
  rest : t = { s with
    regs := t.regs, pci := { s.pci with msix := t.pci.msix }, host := t.host, ctxs := t.ctxs, mor := t.mor, rate := t.rate, out := t.out
    boot := { s.boot with parity := t.boot.parity } }
  regs : ∀ b, 608 ≤ b → b < 640 → SMap.find t.regs b = SMap.find s.regs b
  out : s.out <+: t.out

namespace State.Posts
variable {s t u : State}

theorem refl (s : State) : s.Posts s := ⟨rfl, fun _ _ _ => rfl, List.prefix_rfl⟩

theorem trans (h : s.Posts t) (h' : t.Posts u) : s.Posts u where
  rest := by rw [h'.rest, h.rest]
  regs b lo hi := (h'.regs b lo hi).trans (h.regs b lo hi)
  out := h.out.trans h'.out

theorem each {α : Type} {f : State → α → State} (hf : ∀ (t : State) x, t.Posts (f t x)) (s : State) (l : List α) : s.Posts (s.each l f) :=
  State.each_inv s.Posts (fun t x h => h.trans (hf t x)) l s (refl s)

theorem wr (s : State) {r : Row} {k i : Nat} (v : Nat) (h : 640 ≤ r.bit k i) : s.Posts (s.wr r v k i) :=
  ⟨rfl, fun _ _ hi => s.find_wr_ne (by omega), List.prefix_rfl⟩

theorem setCtx (s : State) (x : Nat) (c : Ctx) : s.Posts (s.setCtx x c) := ⟨rfl, fun _ _ _ => rfl, List.prefix_rfl⟩

theorem sendVector (s : State) (func vec : Nat) : s.Posts (s.sendVector func vec) :=
  ⟨by rw [s.sendVector_rest], fun _ _ _ => by rw [s.sendVector_rest], s.sendVector_out func vec⟩

theorem signalNow (s : State) (x : Nat) : s.Posts (s.signalNow x) := (sendVector s _ _).trans (setCtx _ _ _)

theorem signal (s : State) (x : Nat) (now : Bool) : s.Posts (s.signal x now) := by
  unfold State.signal
  dsimp only
  split
  · exact refl s
  · split
    · exact signalNow s x
    · exact setCtx s _ _

theorem hostStore (s : State) (func : Nat) (bulk : Bool) (a : Nat) (bs : List Byte) : s.Posts (s.hostStore func bulk a bs) := by
  refine ⟨rfl, fun b _ hi => ?_, List.prefix_append _ _⟩
  exact State.find_wr_ne { s with host := Memory.writeBytes s.host a bs } (r := HDR.BLK_PROG) (k := pgHOSTIF) (i := 0)
    (fun e => absurd (e ▸ hi) (by decide))

theorem handRecord (s : State) (x : Nat) (isCq : Bool) (bs : List Byte) : s.Posts (s.handRecord x isCq bs) := by
  unfold State.handRecord
  extract_lets c r next
  split
  · exact setCtx s _ _
  · exact (hostStore s _ _ _ _).trans (setCtx _ _ _)

theorem postEvent (s : State) (x recKind w2 w3 q2 q3 : Nat) (now : Bool) : s.Posts (s.postEvent x recKind w2 w3 q2 q3 now) := by
  unfold State.postEvent
  dsimp only
  split
  · exact refl s
  · split
    · exact (handRecord s x false _).trans (signal _ x now)
    · exact setCtx s _ _

theorem postToken (s : State) (x word0 word1 : Nat) : s.Posts (s.postToken x word0 word1) := by
  unfold State.postToken
  split
  · exact refl s
  · exact postEvent s ..

theorem postCoreMap (s : State) (changed : Nat) : s.Posts (s.postCoreMap changed) := by
  refine each (fun t x => ?_) s _
  dsimp only
  split
  · exact refl t
  · exact postEvent t ..

/-! #### What FLT logs (R360 to R369) -/

theorem stick (s : State) (src : Nat) : s.Posts (s.stick src) :=
  wr s _ (by simp only [Row.bit, FLT.STICKY]; omega)

theorem dropTok (s : State) (e : MorEntry) : s.Posts (s.dropTok e) := ⟨rfl, fun _ _ _ => rfl, List.prefix_rfl⟩

theorem morPut (s : State) (e : MorEntry) : s.Posts (s.morPut e) := by
  unfold State.morPut
  dsimp only
  split
  · exact dropTok s e
  · exact ⟨rfl, fun _ _ _ => rfl, List.prefix_rfl⟩

theorem copyTok (s : State) (t : Tok) : s.Posts (s.copyTok t) := by
  unfold State.copyTok
  dsimp only
  split
  · exact refl s
  · split
    · exact postToken s ..
    · exact refl s
  · split
    · exact postToken s ..
    · exact refl s

theorem limited (s : State) (t : Tok) : s.Posts (s.limited t).1 := by
  unfold State.limited
  dsimp only
  split
  · exact refl s
  · split <;> exact ⟨rfl, fun _ _ _ => rfl, List.prefix_rfl⟩

theorem fltLog (s : State) (e : MorEntry) (copy : Bool) : s.Posts (s.fltLog e copy) := by
  unfold State.fltLog
  extract_lets counted marked r
  have count : s.Posts counted := (stick s _).trans (wr _ _ (by decide))
  have mark : s.Posts marked := count.trans (by
    unfold marked State.when
    split
    · exact ⟨rfl, fun _ _ _ => rfl, List.prefix_rfl⟩
    · exact refl counted)
  have passed : s.Posts r.1 := mark.trans (limited marked e.tok)
  split
  · have put := passed.trans (morPut r.1 e)
    unfold State.when
    split
    · exact put.trans (copyTok _ e.tok)
    · exact put
  · exact passed

end State.Posts
/-! ### FLT enters service (R66, R362) -/

/-- Fields below the word of CHIP.BOOT: page headers and the service level. -/
def belowBoot (b : Nat) : Prop := b % 32768 < 608

theorem belowBoot_level : ∀ b, levelKey b → belowBoot b := by
  rintro b (level | err) <;> unfold belowBoot <;> omega

theorem belowBoot_err (p : Nat) : belowBoot (HDR.BLK_ERR.bit p 0) := by
  simp only [belowBoot, Row.bit, HDR.BLK_ERR]
  omega

/-- FLT in service takes in tokens and logs some: neither memory, nor time, nor what waited for it changes, nor CHIP.BOOT. -/
structure State.Tells (s t : State) : Prop where
  mem : t.mem = s.mem
  ftime : t.ftime = s.ftime
  droneToks : t.droneToks = s.droneToks
  boot : t.boot = { s.boot with parity := t.boot.parity }
  regs : ∀ b, 608 ≤ b → b < 640 → SMap.find t.regs b = SMap.find s.regs b
  fltIn : s.fltIn <+: t.fltIn

namespace State.Tells
variable {s t u : State}

theorem refl (s : State) : s.Tells s := ⟨rfl, rfl, rfl, rfl, fun _ _ _ => rfl, List.prefix_rfl⟩

theorem trans (h : s.Tells t) (h' : t.Tells u) : s.Tells u where
  mem := h'.mem.trans h.mem
  ftime := h'.ftime.trans h.ftime
  droneToks := h'.droneToks.trans h.droneToks
  boot := by rw [h'.boot, h.boot]
  regs b lo hi := (h'.regs b lo hi).trans (h.regs b lo hi)
  fltIn := h.fltIn.trans h'.fltIn

theorem fltUp (h : s.Tells t) : t.boot.fltUp = s.boot.fltUp := by rw [h.boot]

theorem rising (h : s.Tells t) (k : Tok) : t.rising k = s.rising k := by rw [State.rising, State.rising, h.ftime]

theorem of_posts (h : s.Posts t) : s.Tells t :=
  ⟨by rw [h.rest], by rw [h.rest], by rw [h.rest], by rw [h.rest], h.regs, by rw [h.rest]⟩

theorem of_reports (h : s.Reports belowBoot t) (up : s.boot.fltUp = true) : s.Tells t :=
  ⟨by rw [h.rest], by rw [h.rest], by rw [h.rest], by rw [h.boot up],
    fun b lo hi => h.regs b (by unfold belowBoot; omega), h.fltIn⟩

theorem raiseTok (up : s.boot.fltUp = true) (k : Tok) : s.Tells (s.raiseTok k) :=
  of_reports (Reports.raiseTok s (.inl up) (belowBoot_err k.src)) up

/-- Tokens raised one after another all go to FLT. -/
theorem each_raiseTok (up : s.boot.fltUp = true) (l : List Tok) :
    s.Tells (s.each l State.raiseTok) ∧ s.raised (s.each l State.raiseTok) l := by
  induction l generalizing s with
  | nil => exact ⟨refl s, (List.append_nil _).symm⟩
  | cons k ks ih =>
    have one := raiseTok up k
    obtain ⟨rest, raised⟩ := ih (s := s.raiseTok k) (one.fltUp.trans up)
    refine ⟨one.trans rest, ?_⟩
    have rising : (s.raiseTok k).rising = s.rising := funext one.rising
    show ((s.raiseTok k).each ks State.raiseTok).fltIn = _
    rw [raised, s.raiseTok_raised up k, rising, List.append_assoc]
    rfl

end State.Tells

theorem State.told_of_prefix {s t : State} {k : Tok} {l : List Tok} (h : s.fltIn ++ l <+: t.fltIn) (hk : s.rising k ∈ l) : s.told t k := by
  obtain ⟨r, hr⟩ := h
  exact ⟨l ++ r, by rw [← hr, List.append_assoc], List.mem_append_left _ hk⟩

/-- FLT is in service, and what waited for it has yet to be taken in. -/
def State.fltEntered (s : State) : State :=
  { s with droneToks := [], boot := { s.boot with fltUp := true, qengUp := true, deferred := [] } }

/-- The tokens the Drone domain kept are logged, and those that waited are raised (R66, R362). -/
def State.waitedTold (s : State) : State :=
  (s.fltEntered.setLevel.each s.droneToks (fun s e =>
    s.fltLog { e with tok := { e.tok with cls := s.withDomain e.tok (s.overridden e.tok) } } true)).each s.boot.deferred State.raiseTok

theorem State.waitedTold_tells (s : State) : s.fltEntered.Tells s.waitedTold ∧ ∃ before,
    s.waitedTold.fltIn = s.fltIn ++ before ++ s.boot.deferred.map s.rising := by
  have level : s.fltEntered.Tells s.fltEntered.setLevel := State.Tells.of_reports (State.Reports.setLevel _ belowBoot_level) rfl
  unfold State.waitedTold
  generalize hl : s.fltEntered.setLevel.each s.droneToks _ = logged
  have log : s.fltEntered.setLevel.Tells logged := hl ▸ State.Tells.of_posts (State.Posts.each (fun t e => State.Posts.fltLog t _ true) _ _)
  have both := level.trans log
  obtain ⟨before, hb⟩ := both.fltIn
  obtain ⟨raise, raised⟩ := State.Tells.each_raiseTok (s := logged) (both.fltUp.trans rfl) s.boot.deferred
  refine ⟨both.trans raise, before, ?_⟩
  have rising : logged.rising = s.rising := funext both.rising
  rw [raised, rising, ← hb]
  rfl

theorem fltEnterService_eq {s : State} (hmain : s.mainRuns = true) (h2 : s.stage = 2) (down : s.boot.fltUp = false)
    (avs : s.boot.avsUp = true) : exec .fltEnterService s = .next
      ((if s.waitedTold.rd CHIP.BOOT_EARLY_WR = 0 then s.waitedTold
        else (s.waitedTold.raise pgHOSTIF kEARLY_WRITE s.waitedTold.boot.earlyFirst (s.waitedTold.rd CHIP.BOOT_EARLY_WR)).wr
          CHIP.BOOT_EARLY_WR 0).wr CHIP.BOOT_STAGE 3) := by
  have run : (!s.mainRuns || s.stage != 2 || s.boot.fltUp || !s.boot.avsUp) = false := by rw [hmain, h2, down, avs]; rfl
  show execFltEnterService s = _
  rw [execFltEnterService, run, if_neg (by decide)]
  rfl

theorem fltEnterService_spec {s : State} (hmain : s.mainRuns = true) (h2 : s.stage = 2) (down : s.boot.fltUp = false)
    (avs : s.boot.avsUp = true) : ∃ t, exec .fltEnterService s = .next t ∧ t.stage = 3 ∧
      t.boot.fltUp = true ∧ t.boot.qengUp = true ∧ t.droneToks = [] ∧ t.boot.deferred = [] ∧ t.mem = s.mem ∧
      (∀ k ∈ s.boot.deferred, s.told t k) ∧ t.rd CHIP.BOOT_EARLY_WR = 0 ∧
      (s.rd CHIP.BOOT_EARLY_WR ≠ 0 → s.told t (tokOf pgHOSTIF kEARLY_WRITE s.boot.earlyFirst (s.rd CHIP.BOOT_EARLY_WR))) := by
  refine ⟨_, fltEnterService_eq hmain h2 down avs, State.rd_wr_self .., ?_⟩
  obtain ⟨told, before, raised⟩ := s.waitedTold_tells
  have up : s.waitedTold.boot.fltUp = true := told.fltUp
  have early : s.waitedTold.rd CHIP.BOOT_EARLY_WR = s.rd CHIP.BOOT_EARLY_WR := State.rd_of_find (told.regs _ (by decide) (by decide))
  have first : s.waitedTold.boot.earlyFirst = s.boot.earlyFirst := by rw [told.boot]; rfl
  have entered : ∀ {v : State}, s.fltEntered.Tells v → v.boot.fltUp = true ∧ v.boot.qengUp = true ∧ v.boot.deferred = [] :=
    fun h => by rw [h.boot]; exact ⟨rfl, rfl, rfl⟩
  have waited : ∀ {v : State}, s.waitedTold.fltIn <+: v.fltIn → ∀ k ∈ s.boot.deferred, s.told v k := fun h k hk =>
    State.told_of_prefix (l := before ++ s.boot.deferred.map s.rising) (by rwa [← List.append_assoc, ← raised])
      (List.mem_append_right _ (List.mem_map_of_mem hk))
  rw [early, first]
  split
  · next none =>
    obtain ⟨flt, qeng, none'⟩ := entered told
    exact ⟨flt, qeng, told.droneToks, none', told.mem, waited (v := s.waitedTold.wr CHIP.BOOT_STAGE 3) List.prefix_rfl,
      (State.rd_wr_ne _ _ _ _ _ _ _ _ (by decide)).trans (early.trans none), fun some => absurd none some⟩
  · next some =>
    have last := State.Tells.raiseTok up (tokOf pgHOSTIF kEARLY_WRITE s.boot.earlyFirst (s.rd CHIP.BOOT_EARLY_WR))
    have reached := told.trans last
    obtain ⟨flt, qeng, none'⟩ := entered reached
    refine ⟨flt, qeng, reached.droneToks, none', reached.mem, waited (v := State.wr _ CHIP.BOOT_STAGE 3) last.fltIn,
      (State.rd_wr_ne _ _ _ _ _ _ _ _ (by decide)).trans (State.rd_wr_self ..), fun _ => ?_⟩
    refine State.told_of_prefix (l := before ++ s.boot.deferred.map s.rising ++
      [s.rising (tokOf pgHOSTIF kEARLY_WRITE s.boot.earlyFirst (s.rd CHIP.BOOT_EARLY_WR))]) ?_
      (List.mem_append_right _ (List.mem_singleton_self _))
    rw [← List.append_assoc, ← List.append_assoc, ← raised, show s.rising _ = s.waitedTold.rising _ from (told.rising _).symm]
    exact ⟨[], (List.append_nil _).trans (s.waitedTold.raiseTok_raised up _).symm⟩

end Sys2Proof.Machine
end

section
namespace Sys2Proof.Machine

/-! ### MEMORY: the stacks (R59, R61, R226) -/

/-- What a step over every element of a list brings about at one of them, and the others keep, holds at the end. -/
theorem State.each_reaches {α : Type} {f : State → α → State} {I Q : State → Prop} {x : α} {l : List α}
    (inv : ∀ t, ∀ y ∈ l, I t → I (f t y)) (keeps : ∀ t, ∀ y ∈ l, y ≠ x → I t → Q t → Q (f t y)) (sets : ∀ t, I t → Q (f t x))
    {s : State} (hs : I s) (hx : x ∈ l ∨ Q s) : Q (s.each l f) := by
  classical
  induction l generalizing s with
  | nil => exact hx.resolve_left List.not_mem_nil
  | cons y ys ih =>
    have head : y ∈ y :: ys := List.mem_cons_self ..
    refine ih (fun t z hz => inv t z (List.mem_cons_of_mem _ hz)) (fun t z hz => keeps t z (List.mem_cons_of_mem _ hz)) (inv s y head hs) ?_
    by_cases hy : y = x
    · rw [hy]
      exact .inr (sets s hs)
    · rcases hx with mem | reached
      · exact .inl ((List.mem_cons.mp mem).resolve_left (Ne.symm hy))
      · exact .inr (keeps s y head hy hs reached)

theorem State.each_sets {α β : Type} {f : State → α → State} (g : State → β) {x : α} {v : β} (keeps : ∀ t y, y ≠ x → g (f t y) = g t)
    (sets : ∀ t, g (f t x) = v) (s : State) {l : List α} (hx : x ∈ l) : g (s.each l f) = v :=
  State.each_reaches (I := fun _ => True) (Q := fun t => g t = v) (fun _ _ _ _ => trivial)
    (fun t y _ hy _ h => (keeps t y hy).trans h) (fun t _ => sets t) trivial (.inl hx)

/-- Neither memory nor contexts change, nor the registers of P; of the boot record only what waits for FLT and the training. -/
structure State.Steady (P : Nat → Prop) (s t : State) : Prop where
  mem : t.mem = s.mem
  ctxs : t.ctxs = s.ctxs
  sec : t.sec = s.sec
  boot : t.boot = { s.boot with deferred := t.boot.deferred, train := t.boot.train }
  regs : ∀ b, P b → SMap.find t.regs b = SMap.find s.regs b

namespace State.Steady
variable {P : Nat → Prop} {s t u : State}

theorem refl (s : State) : s.Steady P s := ⟨rfl, rfl, rfl, rfl, fun _ _ => rfl⟩

theorem trans (h : s.Steady P t) (h' : t.Steady P u) : s.Steady P u where
  mem := h'.mem.trans h.mem
  ctxs := h'.ctxs.trans h.ctxs
  sec := h'.sec.trans h.sec
  boot := by rw [h'.boot, h.boot]
  regs b hb := (h'.regs b hb).trans (h.regs b hb)

theorem each {α : Type} {f : State → α → State} (hf : ∀ (t : State) x, t.Steady P (f t x)) (s : State) (l : List α) :
    s.Steady P (s.each l f) :=
  State.each_inv (s.Steady P) (fun t x h => h.trans (hf t x)) l s (refl s)

theorem rd (h : s.Steady P t) {r : Row} {k i : Nat} (hb : P (r.bit k i)) : t.rd r k i = s.rd r k i := State.rd_of_find (h.regs _ hb)

theorem wr (s : State) {r : Row} {k i : Nat} (v : Nat) (h : ¬ P (r.bit k i)) : s.Steady P (s.wr r v k i) :=
  ⟨rfl, rfl, rfl, rfl, fun _ hb => s.find_wr_ne (fun e => h (e ▸ hb))⟩

theorem of_reports {K : Nat → Prop} (h : s.Reports K t) (hK : ∀ b, K b → ¬ P b) : s.Steady P t :=
  ⟨by rw [h.rest], by rw [h.rest], by rw [h.rest], by rw [h.rest], fun b hb => h.regs b (fun hk => hK b hk hb)⟩

end State.Steady

/-- BLK_ERR of a page. -/
def errKey (b : Nat) : Prop := b % 32768 = 192

theorem errKey_err (p : Nat) : errKey (HDR.BLK_ERR.bit p 0) := by
  simp only [errKey, Row.bit, HDR.BLK_ERR]
  omega

/-- HBM_STAT.IN_SERVICE of the stacks, and BOOT_STAGE. -/
def standKey (b : Nat) : Prop := b = 608 ∨ (b % 32768 = 512 ∧ b / 32768 % 16 = 0)

/-- BOOT_STAGE and the lifecycle state. -/
def lifeKey (b : Nat) : Prop := b = 608 ∨ b = SEC.SEC_STAT_LC.bit 0 0

theorem standKey_inService (k : Nat) : standKey (HBM.HBM_STAT_IN_SERVICE.bit k 0) :=
  .inr (by simp only [Row.bit, HBM.HBM_STAT_IN_SERVICE]; omega)

theorem errKey_not_standKey {b : Nat} (h : errKey b) : ¬ standKey b := by
  rintro (stage | ⟨low, -⟩) <;> unfold errKey at h <;> omega

theorem errKey_not_lifeKey {b : Nat} (h : errKey b) : ¬ lifeKey b := by
  rintro (stage | lc) <;> unfold errKey at h
  · omega
  · exact absurd h (by rw [lc]; decide)

theorem State.stackLeaves_reports (s : State) (k : Nat) :
    ((s.wr HBM.HBM_STAT_IN_SERVICE 0 k).wr HDR.STAT_STATE stFAILED (pgSTACK k)).Reports errKey (s.stackLeaves k) := by
  unfold State.stackLeaves
  extract_lets u v
  have lost : u.Reports errKey v := State.Reports.each _ (fun t e _ => State.Reports.raiseLater t (by decide) (errKey_err _)) u
  exact lost.trans (State.Reports.raiseLater v (by decide) (errKey_err _))

/-- What the stack of a result loses where it had been in service. -/
def State.stackGone (s : State) (k : Nat) : State := if bit s.boot.hadStacks k then s.stackLeaves k else s

/-- A stack is in service with its training, kept or new. -/
def State.stackServes (s : State) (r : StackResult) (k : Nat) : State :=
  let reuse := s.reusable r
  let s := if reuse then s else { s with boot := { s.boot with train := SMap.put s.boot.train k ⟨true, r.serial, r.temp⟩ } }
  (s.wr HBM.HBM_STAT_IN_SERVICE 1 k).wr HBM.HBM_STAT_REUSED (b2n reuse) k

section
variable (s : State) (rs : List StackResult) (k : Nat)

theorem State.memoryStack_none (h : rs.find? (fun r => r.stack = k) = none) :
    s.memoryStack rs k = (s.wr HBM.HBM_STAT_SELF_REFRESH 0 k).stackGone k := by
  unfold State.memoryStack
  dsimp only
  rw [h]
  rfl

theorem State.memoryStack_trained {r : StackResult} (h : rs.find? (fun r => r.stack = k) = some r) (ht : r.trained = true) :
    s.memoryStack rs k = (s.wr HBM.HBM_STAT_SELF_REFRESH 0 k).stackServes r k := by
  unfold State.memoryStack
  dsimp only
  rw [h]
  dsimp only
  rw [if_pos ht]
  rfl

theorem State.memoryStack_untrained {r : StackResult} (h : rs.find? (fun r => r.stack = k) = some r) (ht : r.trained = false) :
    s.memoryStack rs k = ((s.wr HBM.HBM_STAT_SELF_REFRESH 0 k).stackGone k).raiseLater (pgSTACK k) kHBM_TRAIN_FAIL := by
  unfold State.memoryStack
  dsimp only
  rw [h]
  dsimp only
  rw [if_neg (by simp [ht])]
  rfl

/-- The end of a stack's training: it serves, or what served of it goes. -/
theorem State.memoryStack_cases (I : State → State → Prop) (serves : ∀ t r, I t (t.stackServes r k)) (gone : ∀ t, I t (t.stackGone k))
    (fails : ∀ t : State, I t (t.raiseLater (pgSTACK k) kHBM_TRAIN_FAIL)) (wakes : ∀ t : State, I t (t.wr HBM.HBM_STAT_SELF_REFRESH 0 k))
    (trans : ∀ t u v, I t u → I u v → I t v) : I s (s.memoryStack rs k) := by
  have woken := wakes s
  cases h : rs.find? (fun r => r.stack = k) with
  | none =>
    rw [s.memoryStack_none rs k h]
    exact trans _ _ _ woken (gone _)
  | some r =>
    cases ht : r.trained with
    | true =>
      rw [s.memoryStack_trained rs k h ht]
      exact trans _ _ _ woken (serves _ r)
    | false =>
      rw [s.memoryStack_untrained rs k h ht]
      exact trans _ _ _ (trans _ _ _ woken (gone _)) (fails _)

end

theorem State.Steady.stackGone {P : Nat → Prop} (s : State) (k : Nat) (hin : ¬ P (HBM.HBM_STAT_IN_SERVICE.bit k 0))
    (hst : ¬ P (HDR.STAT_STATE.bit (pgSTACK k) 0)) (herr : ∀ b, errKey b → ¬ P b) : s.Steady P (s.stackGone k) := by
  unfold State.stackGone
  split
  · exact ((wr s 0 hin).trans (wr _ stFAILED hst)).trans (of_reports (s.stackLeaves_reports k) herr)
  · exact refl s

theorem State.Steady.stackServes {P : Nat → Prop} (s : State) (r : StackResult) (k : Nat) (hin : ¬ P (HBM.HBM_STAT_IN_SERVICE.bit k 0))
    (hre : ¬ P (HBM.HBM_STAT_REUSED.bit k 0)) : s.Steady P (s.stackServes r k) := by
  unfold State.stackServes
  extract_lets reuse boot u
  have trained : s.Steady P u := by
    unfold u
    split
    · exact refl s
    · exact ⟨rfl, rfl, rfl, rfl, fun _ _ => rfl⟩
  exact (trained.trans (wr u 1 hin)).trans (wr _ _ hre)

/-- The training of a stack leaves a register field of P alone where none of its own is in P. -/
theorem State.Steady.memoryStack {P : Nat → Prop} (s : State) (rs : List StackResult) (k : Nat)
    (hin : ¬ P (HBM.HBM_STAT_IN_SERVICE.bit k 0)) (hre : ¬ P (HBM.HBM_STAT_REUSED.bit k 0))
    (hsr : ¬ P (HBM.HBM_STAT_SELF_REFRESH.bit k 0)) (hst : ¬ P (HDR.STAT_STATE.bit (pgSTACK k) 0)) (herr : ∀ b, errKey b → ¬ P b) :
    s.Steady P (s.memoryStack rs k) :=
  s.memoryStack_cases rs k (State.Steady P) (fun t r => .stackServes t r k hin hre) (fun t => .stackGone t k hin hst herr)
    (fun t => .of_reports (State.Reports.raiseLater t (by decide) (errKey_err _)) herr) (fun t => .wr t 0 hsr) (fun _ _ _ => .trans)

/-! #### The loop over the stacks -/

theorem State.Steady.memoryStack_life (s : State) (rs : List StackResult) (k : Nat) : s.Steady lifeKey (s.memoryStack rs k) := by
  have apart : ∀ {b : Nat}, 16777216 ≤ b → ¬ lifeKey b := by
    rintro b h (stage | lc)
    · omega
    · exact absurd h (by rw [lc]; decide)
  refine State.Steady.memoryStack s rs k (apart ?_) (apart ?_) (apart ?_) (apart ?_) (fun _ => errKey_not_lifeKey)
  · simp only [Row.bit, HBM.HBM_STAT_IN_SERVICE]; omega
  · simp only [Row.bit, HBM.HBM_STAT_REUSED]; omega
  · simp only [Row.bit, HBM.HBM_STAT_SELF_REFRESH]; omega
  · simp only [Row.bit, HDR.STAT_STATE, pgSTACK]; omega

/-- The stacks at the end of their training. -/
def State.stacksTrained (s : State) (rs : List StackResult) : State := s.each (List.range 4) (fun s k => s.memoryStack rs k)

theorem State.stacksTrained_steady (s : State) (rs : List StackResult) : s.Steady lifeKey (s.stacksTrained rs) :=
  State.Steady.each (fun t k => State.Steady.memoryStack_life t rs k) s _

theorem State.stackServes_on (s : State) (r : StackResult) (k : Nat) : (s.stackServes r k).on HBM.HBM_STAT_IN_SERVICE k = true := by
  unfold State.stackServes
  extract_lets reuse boot u
  rw [State.on, State.rd_wr_ne _ _ _ _ _ _ _ _ (by simp only [Row.bit, HBM.HBM_STAT_REUSED, HBM.HBM_STAT_IN_SERVICE]; omega),
    State.rd_wr_self]
  rfl

/-- The training of one stack leaves IN_SERVICE of another as it was. -/
theorem State.memoryStack_other (s : State) (rs : List StackResult) {j k : Nat} (h : j ≠ k) :
    (s.memoryStack rs j).on HBM.HBM_STAT_IN_SERVICE k = s.on HBM.HBM_STAT_IN_SERVICE k := by
  have kept : s.Steady (fun b => b = HBM.HBM_STAT_IN_SERVICE.bit k 0) (s.memoryStack rs j) := by
    refine State.Steady.memoryStack s rs j ?_ ?_ ?_ ?_ (fun b err => ?_)
    · simp only [Row.bit, HBM.HBM_STAT_IN_SERVICE]; omega
    · simp only [Row.bit, HBM.HBM_STAT_IN_SERVICE, HBM.HBM_STAT_REUSED]; omega
    · simp only [Row.bit, HBM.HBM_STAT_IN_SERVICE, HBM.HBM_STAT_SELF_REFRESH]; omega
    · simp only [Row.bit, HBM.HBM_STAT_IN_SERVICE, HDR.STAT_STATE]; omega
    · unfold errKey at err
      simp only [Row.bit, HBM.HBM_STAT_IN_SERVICE]
      omega
  rw [State.on, State.on, kept.rd rfl]

/-- A trained stack is in service. -/
theorem State.stacksTrained_on (s : State) (rs : List StackResult) {k : Nat} (hk : k < 4) {r : StackResult}
    (found : rs.find? (fun r => r.stack = k) = some r) (trained : r.trained = true) :
    (s.stacksTrained rs).on HBM.HBM_STAT_IN_SERVICE k = true := by
  refine State.each_sets (fun t => t.on HBM.HBM_STAT_IN_SERVICE k) (fun t j hj => t.memoryStack_other rs hj) (fun t => ?_) s
    (List.mem_range.mpr hk)
  rw [t.memoryStack_trained rs k found trained]
  exact State.stackServes_on _ r k

/-- Stack 0 stays in service where no reset had it out. -/
theorem State.memoryStack_zero_on {s : State} (rs : List StackResult) (had : bit s.boot.hadStacks 0 = false)
    (on : s.on HBM.HBM_STAT_IN_SERVICE 0 = true) : (s.memoryStack rs 0).on HBM.HBM_STAT_IN_SERVICE 0 = true := by
  have woken : (s.wr HBM.HBM_STAT_SELF_REFRESH 0 0).on HBM.HBM_STAT_IN_SERVICE 0 = true :=
    (congrArg (fun v => decide (v = 1)) (State.rd_wr_ne _ _ _ _ _ _ _ _ (by decide))).trans on
  have gone : (s.wr HBM.HBM_STAT_SELF_REFRESH 0 0).stackGone 0 = s.wr HBM.HBM_STAT_SELF_REFRESH 0 0 := by
    rw [State.stackGone, State.wr_boot, had]
    rfl
  cases h : rs.find? (fun r => r.stack = 0) with
  | none => rw [s.memoryStack_none rs 0 h, gone]; exact woken
  | some r =>
    cases ht : r.trained with
    | true =>
      rw [s.memoryStack_trained rs 0 h ht]
      exact State.stackServes_on _ r 0
    | false =>
      rw [s.memoryStack_untrained rs 0 h ht, gone, (State.Reports.raiseLater (K := errKey) _ (by decide) (errKey_err _)).on (by unfold errKey; decide)]
      exact woken

theorem State.stacksTrained_zero_on {s : State} (rs : List StackResult) (had : bit s.boot.hadStacks 0 = false)
    (on : s.on HBM.HBM_STAT_IN_SERVICE 0 = true) :
    (s.stacksTrained rs).on HBM.HBM_STAT_IN_SERVICE 0 = true := by
  have both := State.each_inv (fun t => s.Steady lifeKey t ∧ t.on HBM.HBM_STAT_IN_SERVICE 0 = true)
    (f := fun s k => s.memoryStack rs k) (fun t k ⟨steady, stands⟩ => ⟨steady.trans (State.Steady.memoryStack_life t rs k), ?_⟩)
    (List.range 4) s ⟨.refl s, on⟩
  · exact both.2
  · have had' : bit t.boot.hadStacks 0 = false := by rw [steady.boot]; exact had
    by_cases hk : k = 0
    · rw [hk]
      exact State.memoryStack_zero_on rs had' stands
    · exact (t.memoryStack_other rs hk).trans stands

end Sys2Proof.Machine
end

section
namespace Sys2Proof.Machine

/-! ### MEMORY: the banks, the contexts and the contents (R72, R220, R227, R243, R573, R611) -/

/-- The registers of P are as they were. -/
def State.keeps (P : Nat → Prop) (s t : State) : Prop := ∀ b, P b → SMap.find t.regs b = SMap.find s.regs b

theorem State.keeps.trans {P : Nat → Prop} {s t u : State} (h : s.keeps P t) (h' : t.keeps P u) : s.keeps P u :=
  fun b hb => (h' b hb).trans (h b hb)

theorem State.keeps_wr (s : State) {P : Nat → Prop} {r : Row} {k i : Nat} (v : Nat) (h : ¬ P (r.bit k i)) : s.keeps P (s.wr r v k i) :=
  fun _ hb => s.find_wr_ne (fun e => h (e ▸ hb))

theorem State.keeps_each {P : Nat → Prop} {α : Type} {f : State → α → State} (hf : ∀ (t : State) x, t.keeps P (f t x)) (s : State)
    (l : List α) : s.keeps P (s.each l f) :=
  State.each_inv (s.keeps P) (fun t x h => h.trans (hf t x)) l s (fun _ _ => rfl)

theorem State.Reports.keeps {K P : Nat → Prop} {s t : State} (h : s.Reports K t) (hK : ∀ b, K b → ¬ P b) : s.keeps P t :=
  fun b hb => h.regs b (fun hk => hK b hk hb)

/-- A context lost: the record, and its token. -/
theorem State.loseContexts_spec (s : State) : s.loseContexts.mem = s.mem ∧ s.loseContexts.boot.ueLogs = s.boot.ueLogs ∧
    s.keeps standKey s.loseContexts := by
  refine State.each_inv (fun t => t.mem = s.mem ∧ t.boot.ueLogs = s.boot.ueLogs ∧ s.keeps standKey t) (fun t x ⟨mem, logs, regs⟩ => ?_) _ s
    ⟨rfl, rfl, fun _ _ => rfl⟩
  extract_lets owner cfg lost
  have told : lost.Reports errKey _ := State.Reports.raiseTok lost (k := { src := pgQENG, kind := kCTX_LOST, cls := cINFO, ctx := x, gen := 0, detail := owner })
    (.inr rfl) (errKey_err _)
  refine ⟨?_, ?_, regs.trans (State.keeps.trans (t := lost) (fun _ _ => rfl) (told.keeps (fun _ => errKey_not_standKey)))⟩
  · rw [told.rest]; exact mem
  · rw [told.rest]; exact logs

theorem State.zeroLogged_keeps (s : State) : s.keeps standKey s.zeroLogged := by
  refine State.keeps_each (fun t a => ?_) s _
  extract_lets k zeroed logged
  have log : t.keeps standKey logged := by
    refine ((State.keeps_wr zeroed 1 ?_).trans (State.keeps_wr _ 1 ?_)).trans (State.keeps_wr _ _ ?_)
    all_goals
      rintro (stage | ⟨low, -⟩)
      all_goals
        simp only [Row.bit, HBM.HBM_UE_LOG_VALID, HBM.HBM_UE_LOG_ZEROED, HBM.HBM_UE_LOG_SECTOR] at *
        omega
  exact log.trans ((State.Reports.raise logged (.inr (by decide)) (errKey_err _)).keeps (fun _ => errKey_not_standKey))

theorem State.zeroLogged_none {s : State} (h : s.boot.ueLogs = []) : s.zeroLogged = s := by
  rw [State.zeroLogged, h]
  rfl

theorem State.zeroLogged_ctxs (s : State) : s.zeroLogged.ctxs = s.ctxs := by
  refine State.each_inv (fun t => t.ctxs = s.ctxs) (fun t a h => ?_) _ s rfl
  extract_lets k zeroed logged
  have told := State.Reports.raise (K := errKey) logged (src := pgSTACK k) (kind := kUE_ZEROED) (addr := a) (detail := 0) (.inr (by decide))
    (errKey_err _)
  rw [told.rest]
  exact h

theorem State.lifeScrub_keeps (s : State) : s.keeps standKey s.lifeScrub := by
  intro b hb
  refine (SMap.find_filter (fun k => k / 0x8000 != pgFIRN || decide (k % 0x8000 < 0x200)) s.regs b).trans (if_pos ?_)
  rcases hb with rfl | ⟨-, page⟩
  · rfl
  · have apart : b / 0x8000 ≠ pgFIRN := by intro e; rw [show b / 32768 = pgFIRN from e] at page; exact absurd page (by decide)
    rw [bne_iff_ne.mpr apart]
    rfl

theorem State.setBankFence_steady {s : State} (h : s.stage ≠ 6) (c b : Nat) : s.Steady standKey (s.setBankFence c b) := by
  unfold State.setBankFence
  extract_lets f u
  have fenced : s.Steady standKey u := by
    refine (State.Steady.wr s _ ?_).trans (State.Steady.wr _ _ ?_)
    all_goals
      rintro (stage | ⟨low, page⟩)
      all_goals
        simp only [Row.bit, SPAD.SPAD_FENCED_BANKS, SPAD.SPAD_STAT_IN_SERVICE] at *
        omega
  have stage : u.stage = s.stage := fenced.rd (.inl rfl)
  rw [if_neg (by rw [stage]; exact h)]
  exact fenced

theorem State.memoryBank_steady {s : State} (h : s.stage ≠ 6) (c b : Nat) : s.Steady standKey (s.memoryBank c b) := by
  unfold State.memoryBank
  split
  · exact .refl s
  · exact (State.setBankFence_steady h c b).trans
      (.of_reports (State.Reports.raiseLater _ (by decide) (errKey_err _)) (fun _ => errKey_not_standKey))

theorem State.Steady.wr_valid (s : State) (v c j : Nat) : s.Steady standKey (s.wr SPAD.SPAD_BANKMAP_VALID v c j) := by
  refine .wr s v ?_
  rintro (stage | ⟨low, page⟩)
  all_goals
    simp only [Row.bit, SPAD.SPAD_BANKMAP_VALID] at *
    omega

theorem State.Steady.wr_phys (s : State) (v c : Nat) {j : Nat} (hj : j < 64) : s.Steady standKey (s.wr SPAD.SPAD_BANKMAP_PHYS v c j) := by
  refine .wr s v ?_
  rintro (stage | ⟨low, page⟩)
  all_goals
    simp only [Row.bit, SPAD.SPAD_BANKMAP_PHYS] at *
    omega

theorem State.remapBank_steady (s : State) (c : Nat) {j : Nat} (hj : j < 64) : s.Steady standKey (s.remapBank c j) := by
  unfold State.remapBank
  split
  · exact .refl s
  · split
    · split
      · exact (State.Steady.wr_valid s 0 c _).trans (State.Steady.wr_phys _ _ c hj)
      · exact State.Steady.wr_phys s _ c hj
    · exact (State.Steady.wr_valid s 0 c j).trans ⟨rfl, rfl, rfl, rfl, fun _ _ => rfl⟩

theorem State.Steady.each_mem {P : Nat → Prop} {α : Type} {f : State → α → State} (l : List α)
    (hf : ∀ (t : State), ∀ x ∈ l, t.Steady P (f t x)) (s : State) : s.Steady P (s.each l f) := by
  induction l generalizing s with
  | nil => exact .refl s
  | cons x xs ih =>
    exact (hf s x (List.mem_cons_self ..)).trans (ih (fun t y hy => hf t y (List.mem_cons_of_mem _ hy)) _)

theorem State.runClocks_steady (s : State) : s.Steady standKey s.runClocks := by
  have clock : ∀ {b : Nat}, b / 32768 = 10 → ¬ standKey b := by
    rintro b page (stage | ⟨-, zero⟩) <;> omega
  refine State.Steady.each_mem _ (fun t c hc => ?_) s
  have lt : c < 16 := List.mem_range.mp (List.mem_filter.mp hc).1
  refine (State.Steady.wr t _ (clock ?_)).trans (State.Steady.wr _ _ (clock ?_))
  · simp only [Row.bit, CLKRST.CORE_FREQ_F25]; omega
  · simp only [Row.bit, CLKRST.CORE_FREQ_THROTTLED]; omega

/-- The banks that failed are fenced, and what was mapped to fenced banks is mapped elsewhere. -/
def State.banksMapped (s : State) (banks : List (Nat × Nat)) : State :=
  (s.each banks (fun s b => s.memoryBank b.1 b.2)).each (List.range 16) (fun s c => s.each (List.range 64) (fun s j => s.remapBank c j))

theorem State.banksMapped_steady {s : State} (h : s.stage ≠ 6) (banks : List (Nat × Nat)) : s.Steady standKey (s.banksMapped banks) := by
  have fenced : s.Steady standKey (s.each banks (fun s b => s.memoryBank b.1 b.2)) :=
    State.each_inv (s.Steady standKey) (fun t b steady => steady.trans (State.memoryBank_steady
      (fun e => h ((steady.rd (r := CHIP.BOOT_STAGE) (k := 0) (i := 0) (.inl rfl)).symm.trans e)) b.1 b.2)) banks s (.refl s)
  exact fenced.trans (.each (fun t c => .each_mem _ (fun u j hj => u.remapBank_steady c (List.mem_range.mp hj)) t) _ _)

/-- The contents that a lifecycle transition, a lost record or a logged error takes go. -/
def State.contentsKept (s : State) (warm : Bool) : State :=
  let scrub := decide (s.sec.lcLast ≠ some s.lc)
  let kept := !scrub && s.boot.restoreOk && s.on HBM.HBM_STAT_IN_SERVICE 0
  let s := if kept then s else s.loseContexts
  let s := if warm && s.on HBM.HBM_STAT_IN_SERVICE 0 then s.zeroLogged else s
  if scrub then s.lifeScrub else s

theorem State.contentsKept_keeps (s : State) (warm : Bool) : s.keeps standKey (s.contentsKept warm) := by
  unfold State.contentsKept
  extract_lets scrub kept u v
  have lost : s.keeps standKey u := by
    unfold u
    split
    · exact fun _ _ => rfl
    · exact s.loseContexts_spec.2.2
  have zeroed : u.keeps standKey v := by
    unfold v
    split
    · exact u.zeroLogged_keeps
    · exact fun _ _ => rfl
  split
  · exact (lost.trans zeroed).trans v.lifeScrub_keeps
  · exact lost.trans zeroed

theorem State.contentsKept_mem {s : State} (warm : Bool) (logs : s.boot.ueLogs = []) (life : s.sec.lcLast = some s.lc) :
    (s.contentsKept warm).mem = s.mem := by
  unfold State.contentsKept
  extract_lets scrub kept u v
  have lost : u.mem = s.mem ∧ u.boot.ueLogs = [] := by
    obtain ⟨mem, same, -⟩ := s.loseContexts_spec
    unfold u
    split
    · exact ⟨rfl, logs⟩
    · exact ⟨mem, same.trans logs⟩
  have zeroed : v = u := by
    unfold v
    split
    · exact State.zeroLogged_none lost.2
    · rfl
  rw [if_neg (by simp [scrub, life]), zeroed, lost.1]

theorem State.contentsKept_ctxs {s : State} (warm : Bool) (life : s.sec.lcLast = some s.lc) (restore : s.boot.restoreOk = true)
    (on : s.on HBM.HBM_STAT_IN_SERVICE 0 = true) : (s.contentsKept warm).ctxs = s.ctxs := by
  unfold State.contentsKept
  extract_lets scrub kept u v
  have kept' : u = s := if_pos (by simp [kept, scrub, life, restore, on])
  have zeroed : v.ctxs = u.ctxs := by
    unfold v
    split
    · exact u.zeroLogged_ctxs
    · rfl
  rw [if_neg (by simp [scrub, life]), zeroed, kept']

/-- The logs of uncorrectable errors have been dealt with. -/
def State.logsCleared (s : State) : State := { s with boot := { s.boot with ueLogs := [] } }

theorem State.logsCleared_mem (s : State) : s.logsCleared.mem = s.mem := rfl
theorem State.logsCleared_regs (s : State) : s.logsCleared.regs = s.regs := rfl
theorem State.logsCleared_ctxs (s : State) : s.logsCleared.ctxs = s.ctxs := rfl
theorem State.zero_mem (s : State) (lo hi : Nat) : (s.zero lo hi).mem = Memory.clear s.mem lo hi := rfl

/-- MEMORY: what is in service, what is zero, and what is as it was. -/
theorem State.memoryStage_spec {s : State} (h3 : s.stage = 3) (rs : List StackResult) (banks : List (Nat × Nat)) :
    (s.memoryStage rs banks).stage = 4 ∧
    (∀ a, spadBase ≤ a → a < spadBase + 16 * sliceSize → (s.memoryStage rs banks).byte a = 0#8) ∧
    (∀ k, k < 4 → ∀ r, rs.find? (fun r => r.stack = k) = some r → r.trained = true →
      (s.memoryStage rs banks).on HBM.HBM_STAT_IN_SERVICE k = true) ∧
    (s.boot.ueLogs = [] → s.sec.lcLast = some s.lc → ∀ a, a < 4 * hbmSize → (s.memoryStage rs banks).byte a = s.byte a) ∧
    (s.sec.lcLast = some s.lc → s.boot.restoreOk = true → s.on HBM.HBM_STAT_IN_SERVICE 0 = true → bit s.boot.hadStacks 0 = false →
      (s.memoryStage rs banks).ctxs = s.ctxs) := by
  unfold State.memoryStage
  extract_lets warm trained all reused scrub kept lost zeroed scrubbed fenced mapped spads boot final
  have train : s.Steady lifeKey reused := (s.stacksTrained_steady rs).trans (.wr _ _ (by
    rintro (stage | lc)
    · exact absurd stage (by decide)
    · exact absurd lc (by decide)))
  have contents : reused.keeps standKey scrubbed := reused.contentsKept_keeps warm
  have running : scrubbed.stage ≠ 6 := by
    have same : scrubbed.stage = s.stage := (State.rd_of_find (contents _ (.inl rfl))).trans (train.rd (.inl rfl))
    rw [same, h3]
    decide
  have map : scrubbed.Steady standKey mapped := State.banksMapped_steady running banks
  have clocks := (final.wr CHIP.BOOT_STAGE 4).runClocks_steady
  have mem : (final.wr CHIP.BOOT_STAGE 4).runClocks.mem = Memory.clear mapped.mem spadBase (spadBase + 16 * sliceSize) :=
    clocks.mem.trans ((State.wr_mem final ..).trans ((State.logsCleared_mem spads).trans (State.zero_mem mapped ..)))
  have ctxs : (final.wr CHIP.BOOT_STAGE 4).runClocks.ctxs = mapped.ctxs :=
    clocks.ctxs.trans ((State.wr_ctxs final ..).trans ((State.logsCleared_ctxs spads).trans (State.zero_ctxs mapped ..)))
  have regs : final.regs = mapped.regs := (State.logsCleared_regs spads).trans (State.zero_regs mapped ..)
  have service : ∀ k, (final.wr CHIP.BOOT_STAGE 4).runClocks.rd HBM.HBM_STAT_IN_SERVICE k = reused.rd HBM.HBM_STAT_IN_SERVICE k := fun k => by
    have next : (final.wr CHIP.BOOT_STAGE 4).rd HBM.HBM_STAT_IN_SERVICE k = final.rd HBM.HBM_STAT_IN_SERVICE k :=
      State.rd_wr_ne _ _ _ _ _ _ _ _ (by simp only [Row.bit, CHIP.BOOT_STAGE, HBM.HBM_STAT_IN_SERVICE]; omega)
    exact (((clocks.rd (standKey_inService k)).trans next).trans (State.rd_of_regs regs _ _ _)).trans
      ((map.rd (standKey_inService k)).trans (State.rd_of_find (contents _ (standKey_inService k))))
  have on : ∀ k, reused.on HBM.HBM_STAT_IN_SERVICE k = trained.on HBM.HBM_STAT_IN_SERVICE k := fun k => by
    rw [State.on, State.on]
    exact congrArg (fun v => decide (v = 1)) (State.rd_wr_ne trained _ _ _ _ _ _ _
      (by simp only [Row.bit, CHIP.BOOT_TRAIN_REUSED, HBM.HBM_STAT_IN_SERVICE]; omega))
  have life : s.sec.lcLast = some s.lc → reused.sec.lcLast = some reused.lc := fun h => by
    have same : reused.lc = s.lc := train.rd (.inr rfl)
    rw [train.sec, same]
    exact h
  refine ⟨?_, fun a lo hi => ?_, fun k hk r found ht => ?_, fun logs lc a ha => ?_, fun lc restore stands had => ?_⟩
  · exact (clocks.rd (.inl rfl)).trans (State.rd_wr_self ..)
  · rw [State.byte, mem, Memory.read_clear, if_pos ⟨lo, hi⟩]
    rfl
  · have set : trained.on HBM.HBM_STAT_IN_SERVICE k = true := s.stacksTrained_on rs hk found ht
    rw [State.on, service k]
    exact (on k).trans set
  · have logs' : reused.boot.ueLogs = [] := by rw [train.boot]; exact logs
    have kept : scrubbed.mem = reused.mem := State.contentsKept_mem warm logs' (life lc)
    rw [State.byte, mem, Memory.read_clear, if_neg (fun h => absurd (ha.trans_le (by decide)) (Nat.not_lt.mpr h.1)), map.mem, kept, train.mem]
    rfl
  · have set : trained.on HBM.HBM_STAT_IN_SERVICE 0 = true := State.stacksTrained_zero_on rs had stands
    have kept : scrubbed.ctxs = reused.ctxs := State.contentsKept_ctxs warm (life lc) (by rw [train.boot]; exact restore) ((on 0).trans set)
    rw [ctxs, map.ctxs, kept, train.ctxs]

end Sys2Proof.Machine
end

section
namespace Sys2Proof.Machine

/-! ### Bits of a number set and cleared -/

theorem bit_eq_testBit (x k : Nat) : bit x k = x.testBit k := by rw [bit, Nat.testBit_eq_decide_div_mod_eq]

theorem add_two_pow_div {x k : Nat} (h : bit x k = false) : (x + 2 ^ k) / 2 ^ (k + 1) = x / 2 ^ (k + 1) := by
  have pos : 0 < 2 ^ k := Nat.two_pow_pos k
  have even : x / 2 ^ k % 2 = 0 := by
    rw [bit, decide_eq_false_iff_not] at h
    omega
  rw [Nat.pow_succ, ← Nat.div_div_eq_div_mul, ← Nat.div_div_eq_div_mul, Nat.add_div_right _ pos]
  omega

theorem bit_setBit_self (x k : Nat) : bit (setBit x k) k = true := by
  unfold setBit
  split
  · assumption
  · next h =>
    rw [bit_eq_testBit] at h ⊢
    rw [Nat.add_comm, Nat.testBit_two_pow_add_eq, Bool.eq_false_iff.mpr h]
    rfl

theorem bit_setBit_ne (x : Nat) {k j : Nat} (h : k ≠ j) : bit (setBit x k) j = bit x j := by
  unfold setBit
  split
  · rfl
  · next clear =>
    rcases Nat.lt_or_gt_of_ne h with lt | gt
    · obtain ⟨d, rfl⟩ := Nat.exists_eq_add_of_lt lt
      have high : ∀ y : Nat, y / 2 ^ (k + d + 1) = y / 2 ^ (k + 1) / 2 ^ d := fun y => by
        rw [Nat.div_div_eq_div_mul, ← Nat.pow_add]
        congr 2
        omega
      rw [bit, bit, high, high, add_two_pow_div (Bool.eq_false_iff.mpr clear)]
    · rw [bit_eq_testBit, bit_eq_testBit, Nat.add_comm, Nat.testBit_two_pow_add_gt gt]

theorem two_pow_le_of_bit {x k : Nat} (h : bit x k = true) : 2 ^ k ≤ x := by
  rw [bit_eq_testBit] at h
  exact Nat.ge_two_pow_of_testBit h

theorem bit_clearBit_self (x k : Nat) : bit (clearBit x k) k = false := by
  unfold clearBit
  split
  · next h =>
    have le := two_pow_le_of_bit h
    rw [bit_eq_testBit] at h ⊢
    have flip := Nat.testBit_two_pow_add_eq (x - 2 ^ k) k
    rw [Nat.add_sub_cancel' le, h] at flip
    exact (Bool.not_eq_true' _).mp flip.symm
  · next h => exact Bool.eq_false_iff.mpr h

theorem bit_clearBit_ne (x : Nat) {k j : Nat} (h : k ≠ j) : bit (clearBit x k) j = bit x j := by
  by_cases hb : bit x k = true
  · have back : setBit (clearBit x k) k = x := by
      rw [setBit, if_neg (by rw [bit_clearBit_self]; decide), clearBit, if_pos hb]
      exact Nat.sub_add_cancel (two_pow_le_of_bit hb)
    rw [← bit_setBit_ne (clearBit x k) h, back]
  · rw [clearBit, if_neg hb]

theorem setBit_lt {x k n : Nat} (h : x < 2 ^ n) (hk : k < n) : setBit x k < 2 ^ n := by
  refine Nat.lt_pow_two_of_testBit _ (fun j hj => ?_)
  rw [← bit_eq_testBit, bit_setBit_ne x (by omega), bit_eq_testBit]
  exact Nat.testBit_lt_two_pow (h.trans_le (Nat.pow_le_pow_right (by decide) hj))

/-- A mask gathered over the numbers below n has n bits. -/
theorem foldl_setBit_lt (p : Nat → Bool) (n : Nat) : (List.range n).foldl (fun m c => if p c then setBit m c else m) 0 < 2 ^ n := by
  induction n with
  | zero => exact Nat.one_pos
  | succ n ih =>
    have wider := ih.trans (Nat.pow_lt_pow_right (by decide) (Nat.lt_succ_self n))
    rw [List.range_succ, List.foldl_concat]
    split
    · exact setBit_lt wider (Nat.lt_succ_self n)
    · exact wider

/-! ### The core map (R19, R21) -/

theorem State.liveNow_lt (s : State) : s.liveNow < 2 ^ 16 := by
  unfold State.liveNow
  split
  · decide
  · exact foldl_setBit_lt s.meetsLive 16

/-- The live map follows from the stage, the fuses, admission, the fences, the stacks and the banks. -/
theorem State.liveNow_congr {s t : State} (boot : t.boot = { s.boot with deferred := t.boot.deferred }) (stage : t.stage = s.stage)
    (fused : t.rd CHIP.CORE_MAP_FUSED = s.rd CHIP.CORE_MAP_FUSED)
    (served : ∀ k, t.rd HBM.HBM_STAT_IN_SERVICE k = s.rd HBM.HBM_STAT_IN_SERVICE k)
    (banks : ∀ c, t.rd SPAD.SPAD_FENCED_BANKS c = s.rd SPAD.SPAD_FENCED_BANKS c) : t.liveNow = s.liveNow := by
  have meets : t.meetsLive = s.meetsLive := by
    funext c
    simp only [State.meetsLive, State.fused, State.coreFenced, State.on, fused, served, banks]
    rw [boot]
  rw [State.liveNow, State.liveNow, stage, meets]

/-- What a change of the live map writes: the map, its count and generation, PROV_EPOCH, the level, and BLK_ERR. -/
def mapKey (b : Nat) : Prop := levelKey b ∨ errKey b ∨ b = CHIP.CORE_MAP_LIVE.bit 0 0 ∨ b = CHIP.CORE_MAP_LIVE_COUNT.bit 0 0 ∨
  b = CHIP.CORE_MAP_MAP_GEN.bit 0 0 ∨ b = CHIP.PROV_EPOCH_EPOCH.bit 0 0

theorem State.setLive_same {s : State} (h : s.rd CHIP.CORE_MAP_LIVE = s.liveNow) : s.setLive = s.setLevel := by
  unfold State.setLive
  dsimp only
  rw [if_pos h]

theorem not_mapKey {b : Nat} (err : b % 32768 ≠ 192) (far : b = 528 ∨ b = 608 ∨ 32768 ≤ b) : ¬ mapKey b := by
  have live : CHIP.CORE_MAP_LIVE.bit 0 0 = 512 := rfl
  have count : CHIP.CORE_MAP_LIVE_COUNT.bit 0 0 = 556 := rfl
  have gen : CHIP.CORE_MAP_MAP_GEN.bit 0 0 = 568 := rfl
  have epoch : CHIP.PROV_EPOCH_EPOCH.bit 0 0 = 1056 := rfl
  unfold mapKey levelKey errKey
  omega

theorem mapKey_not_stage : ¬ mapKey (CHIP.BOOT_STAGE.bit 0 0) := not_mapKey (by decide) (by decide)

theorem State.not_inService {s : State} (h : s.stage ≠ 6) : s.inService = false := by
  rw [State.inService, decide_eq_false h]
  rfl

/-- Out of service, setLive writes the map and reports it. -/
theorem State.setLive_reports {s : State} (h : s.stage ≠ 6) : s.Reports mapKey s.setLive ∧
    s.setLive.rd CHIP.CORE_MAP_LIVE = s.liveNow := by
  have leveled : ∀ t : State, t.Reports mapKey t.setLevel := fun t => State.Reports.setLevel t (fun _ => .inl)
  have kept : ∀ t : State, t.setLevel.rd CHIP.CORE_MAP_LIVE = t.rd CHIP.CORE_MAP_LIVE := fun t =>
    (State.Reports.setLevel t (K := levelKey) (fun _ h => h)).rd (by rintro (⟨lo, -⟩ | err); exacts [absurd lo (by decide), absurd err (by decide)])
  by_cases same : s.rd CHIP.CORE_MAP_LIVE = s.liveNow
  · rw [State.setLive_same same]
    exact ⟨leveled s, (kept s).trans same⟩
  · unfold State.setLive
    extract_lets old live gen mapped told screened posted
    rw [if_neg same]
    have map : s.Reports mapKey mapped := ((State.Reports.wr s live (.inr (.inr (.inl rfl)))).trans
      (State.Reports.wr _ _ (.inr (.inr (.inr (.inl rfl)))))).trans (State.Reports.wr _ _ (.inr (.inr (.inr (.inr (.inl rfl))))))
    have raised : mapped.epoch.Reports errKey told := State.Reports.raise _ (.inr (by decide)) (errKey_err _)
    have tell : s.Reports mapKey told := (map.trans (State.Reports.wr _ _ (.inr (.inr (.inr (.inr (.inr rfl))))))).trans
      (raised.mono (fun _ => fun e => .inr (.inl e)))
    have out : told.inService = false := State.not_inService (fun e => h ((tell.rd mapKey_not_stage).symm.trans e))
    have quiet : screened = told := by
      unfold screened State.when
      rw [out]
      rfl
    have quiet' : posted = told := by
      unfold posted State.when
      rw [quiet, out]
      rfl
    have written : told.rd CHIP.CORE_MAP_LIVE = s.liveNow := by
      rw [raised.rd (by unfold errKey; decide), State.epoch, State.rd_wr_ne _ _ _ _ _ _ _ _ (by decide),
        State.rd_wr_ne _ _ _ _ _ _ _ _ (by decide), State.rd_wr_ne _ _ _ _ _ _ _ _ (by decide), State.rd_wr_self]
      exact Nat.mod_eq_of_lt s.liveNow_lt
    rw [quiet']
    exact ⟨tell.trans (leveled told), (kept told).trans written⟩

/-- Out of service the live map follows R19 once it is brought up to date. -/
theorem State.setLive_live {s : State} (h : s.stage ≠ 6) : s.setLive.rd CHIP.CORE_MAP_LIVE = s.setLive.liveNow := by
  obtain ⟨reports, live⟩ := State.setLive_reports h
  rw [live]
  refine (State.liveNow_congr (by rw [reports.rest]) (reports.rd mapKey_not_stage) (reports.rd ?_) (fun k => reports.rd ?_)
    (fun c => reports.rd ?_)).symm
  · exact not_mapKey (by decide) (by decide)
  · refine not_mapKey ?_ (.inr (.inr ?_)) <;> simp only [Row.bit, HBM.HBM_STAT_IN_SERVICE] <;> omega
  · refine not_mapKey ?_ (.inr (.inr ?_)) <;> simp only [Row.bit, SPAD.SPAD_FENCED_BANKS] <;> omega

/-! ### ADMIT (R69 to R74) -/

/-- Memory, and every boot field but those of admission and what waits for FLT, are as before. -/
structure State.Admits (s t : State) : Prop where
  mem : t.mem = s.mem
  boot : t.boot = { s.boot with deferred := t.boot.deferred, admitted := t.boot.admitted, fenceCores := t.boot.fenceCores }

theorem State.Admits.refl (s : State) : s.Admits s := ⟨rfl, rfl⟩

theorem State.Admits.trans {s t u : State} (h : s.Admits t) (h' : t.Admits u) : s.Admits u where
  mem := h'.mem.trans h.mem
  boot := by rw [h'.boot, h.boot]

theorem State.mapSpare_frame (s : State) (c : Nat) (row : Bool) (l : Nat) : (s.mapSpare c row l).1 = { s with regs := (s.mapSpare c row l).1.regs } := by
  unfold State.mapSpare
  extract_lets valid logical used
  split <;> rfl

theorem State.mapSpares_frame (s : State) (c : Nat) (row : Bool) (ls : List Nat) :
    ∃ regs, s.each ls (fun s l => (s.mapSpare c row l).1) = { s with regs := regs } :=
  State.each_inv (fun t => ∃ regs, t = { s with regs := regs })
    (fun t l ⟨regs, h⟩ => ⟨(t.mapSpare c row l).1.regs, by rw [t.mapSpare_frame, h]⟩) ls s ⟨s.regs, rfl⟩

/-- A core passes its patterns, or it is fenced. -/
theorem State.admitCore_cases (s : State) (r : AdmitResult) :
    (∃ regs, s.admitCore r = { s with regs := regs, boot := { s.boot with admitted := setBit s.boot.admitted r.core } } ∧
      (r.firstRun = none ∨ r.secondRun = none)) ∨
    (∃ t : State, t.Reports errKey (s.admitCore r) ∧ t = { s with boot := { s.boot with
      fenceCores := setBit s.boot.fenceCores r.core, admitted := clearBit s.boot.admitted r.core } } ∧
      ¬ (r.badRows = [] ∧ r.badCols = [] ∧ r.firstRun = none)) := by
  unfold State.admitCore
  extract_lets c lines rows cols boot boot' fenced
  split
  · next passes =>
    left
    obtain ⟨-, runs⟩ := Bool.and_eq_true_iff.mp passes
    obtain ⟨regs, hrows⟩ := s.mapSpares_frame c true r.badRows
    obtain ⟨regs', hcols⟩ := rows.mapSpares_frame c false r.badCols
    have mapped : cols = { s with regs := regs' } := by
      rw [show cols = _ from hcols, show rows = _ from hrows]
    refine ⟨regs', ?_, ?_⟩
    · show ({ cols with boot := { cols.boot with admitted := setBit cols.boot.admitted c } } : State) = _
      rw [mapped]
    · simpa using runs
  · next fails =>
    right
    refine ⟨_, State.Reports.raiseLater fenced (by decide) (errKey_err _), rfl, fun ⟨hrows, hcols, first⟩ => fails ?_⟩
    simp [lines, hrows, hcols, first]

theorem State.admitCore_admits (s : State) (r : AdmitResult) : s.Admits (s.admitCore r) := by
  rcases s.admitCore_cases r with ⟨regs, h, -⟩ | ⟨t, reports, h, -⟩
  · rw [h]
    exact ⟨rfl, rfl⟩
  · rw [reports.rest, h]
    exact ⟨rfl, rfl⟩

/-- The patterns of a core decide about that core alone. -/
theorem State.admitCore_other (s : State) (r : AdmitResult) {c : Nat} (h : r.core ≠ c) :
    bit (s.admitCore r).boot.admitted c = bit s.boot.admitted c ∧ bit (s.admitCore r).boot.fenceCores c = bit s.boot.fenceCores c := by
  rcases s.admitCore_cases r with ⟨regs, eq, -⟩ | ⟨t, reports, eq, -⟩
  · rw [eq]
    exact ⟨bit_setBit_ne _ h, rfl⟩
  · rw [reports.rest, eq]
    exact ⟨bit_clearBit_ne _ h, bit_setBit_ne _ h⟩

theorem State.admitCore_good (s : State) {r : AdmitResult} (hrows : r.badRows = []) (hcols : r.badCols = []) (first : r.firstRun = none) :
    bit (s.admitCore r).boot.admitted r.core = true ∧ (s.admitCore r).boot.fenceCores = s.boot.fenceCores := by
  rcases s.admitCore_cases r with ⟨regs, eq, -⟩ | ⟨t, -, -, bad⟩
  · rw [eq]
    exact ⟨bit_setBit_self _ _, rfl⟩
  · exact absurd ⟨hrows, hcols, first⟩ bad

theorem State.admitCore_bad (s : State) {r : AdmitResult} (first : r.firstRun.isSome = true) (second : r.secondRun.isSome = true) :
    bit (s.admitCore r).boot.fenceCores r.core = true ∧ bit (s.admitCore r).boot.admitted r.core = false := by
  rcases s.admitCore_cases r with ⟨regs, -, none⟩ | ⟨t, reports, eq, -⟩
  · rcases none with h | h <;> simp [h] at first second
  · rw [reports.rest, eq]
    exact ⟨bit_setBit_self _ _, bit_clearBit_self _ _⟩

theorem AdmitResult.core_of_find {rs : List AdmitResult} {c : Nat} {r : AdmitResult} (h : rs.find? (fun r => r.core = c) = some r) :
    r.core = c := by
  have p := List.find?_some h
  exact of_decide_eq_true p

/-- Core c takes the result that names it. -/
def State.admitOne (s : State) (rs : List AdmitResult) (c : Nat) : State :=
  match rs.find? (fun r => r.core = c) with
  | some r => s.admitCore r
  | none => s

theorem State.admitOne_admits (s : State) (rs : List AdmitResult) (c : Nat) : s.Admits (s.admitOne rs c) := by
  unfold State.admitOne
  split
  · exact s.admitCore_admits _
  · exact .refl s

theorem State.admitOne_other (s : State) (rs : List AdmitResult) {d c : Nat} (h : d ≠ c) :
    bit (s.admitOne rs d).boot.admitted c = bit s.boot.admitted c ∧ bit (s.admitOne rs d).boot.fenceCores c = bit s.boot.fenceCores c := by
  unfold State.admitOne
  split
  · next r found =>
    have core : r.core = d := AdmitResult.core_of_find found
    exact s.admitCore_other r (core ▸ h)
  · exact ⟨rfl, rfl⟩

/-- The cores whose patterns run have taken their results. -/
def State.coresAdmitted (s : State) (rs : List AdmitResult) : State :=
  s.each ((List.range 16).filter (fun c => s.fused c && !s.coreFenced c)) (fun s c => s.admitOne rs c)

theorem State.coresAdmitted_admits (s : State) (rs : List AdmitResult) : s.Admits (s.coresAdmitted rs) :=
  State.each_inv s.Admits (fun t c h => h.trans (t.admitOne_admits rs c)) _ s (.refl s)

section
variable {s : State} {rs : List AdmitResult} {c : Nat} {r : AdmitResult} (hc : c < 16) (fused : s.fused c = true)
  (free : s.coreFenced c = false) (found : rs.find? (fun r => r.core = c) = some r)
include hc fused free found

theorem State.coresAdmitted_good (hrows : r.badRows = []) (hcols : r.badCols = []) (first : r.firstRun = none) :
    bit (s.coresAdmitted rs).boot.admitted c = true ∧ (s.coresAdmitted rs).coreFenced c = false := by
  have core : r.core = c := AdmitResult.core_of_find found
  have one : ∀ t : State, t.admitOne rs c = t.admitCore r := fun t => by rw [State.admitOne, found]
  have mem : c ∈ (List.range 16).filter (fun c => s.fused c && !s.coreFenced c) :=
    List.mem_filter.mpr ⟨List.mem_range.mpr hc, by rw [fused, free]; rfl⟩
  have fence : bit (s.coresAdmitted rs).boot.fenceCores c = bit s.boot.fenceCores c := by
    refine State.each_inv (fun t => bit t.boot.fenceCores c = bit s.boot.fenceCores c) (fun t d h => ?_) _ s rfl
    by_cases hd : d = c
    · rw [hd, one, (t.admitCore_good hrows hcols first).2, h]
    · rw [(t.admitOne_other rs hd).2, h]
  refine ⟨State.each_sets (fun t => bit t.boot.admitted c) (fun t d hd => (t.admitOne_other rs hd).1) (fun t => ?_) s mem, ?_⟩
  · rw [one, ← core]
    exact (t.admitCore_good hrows hcols first).1
  · rw [State.coreFenced, fence, show (s.coresAdmitted rs).boot.softFence = s.boot.softFence by rw [(s.coresAdmitted_admits rs).boot]]
    exact free

theorem State.coresAdmitted_bad (first : r.firstRun.isSome = true) (second : r.secondRun.isSome = true) :
    bit (s.coresAdmitted rs).boot.fenceCores c = true ∧ bit (s.coresAdmitted rs).boot.admitted c = false := by
  have core : r.core = c := AdmitResult.core_of_find found
  have one : ∀ t : State, t.admitOne rs c = t.admitCore r := fun t => by rw [State.admitOne, found]
  have mem : c ∈ (List.range 16).filter (fun c => s.fused c && !s.coreFenced c) :=
    List.mem_filter.mpr ⟨List.mem_range.mpr hc, by rw [fused, free]; rfl⟩
  refine ⟨State.each_sets (fun t => bit t.boot.fenceCores c) (fun t d hd => (t.admitOne_other rs hd).2) (fun t => ?_) s mem,
    State.each_sets (fun t => bit t.boot.admitted c) (fun t d hd => (t.admitOne_other rs hd).1) (fun t => ?_) s mem⟩
  · rw [one, ← core]
    exact (t.admitCore_bad first second).1
  · rw [one, ← core]
    exact (t.admitCore_bad first second).2

end

/-- The stage: the results, the clocks of fenced cores stopped, and the map. -/
theorem State.admitStage_eq (s : State) (rs : List AdmitResult) : ∃ regs, s.admitStage rs =
    (State.wr { s.coresAdmitted rs with regs := regs } CHIP.BOOT_STAGE 5).setLive := by
  unfold State.admitStage
  extract_lets admitted stopped
  have cores : admitted = s.coresAdmitted rs := by
    unfold State.coresAdmitted State.admitOne
    rfl
  obtain ⟨regs, hregs⟩ : ∃ regs, stopped = { admitted with regs := regs } :=
    State.each_inv (fun t => ∃ regs, t = { admitted with regs := regs })
      (fun t c ⟨regs, h⟩ => ⟨(t.wr CLKRST.CORE_FREQ_F25 0 0 c).regs, by rw [h]; rfl⟩) _ admitted ⟨admitted.regs, rfl⟩
  exact ⟨regs, by rw [hregs, cores]⟩

theorem State.admitStage_spec (s : State) (rs : List AdmitResult) : (s.admitStage rs).stage = 5 ∧ (s.admitStage rs).mem = s.mem ∧
    (s.admitStage rs).rd CHIP.CORE_MAP_LIVE = (s.admitStage rs).liveNow ∧
    ∀ c, c < 16 → s.fused c = true → s.coreFenced c = false → ∀ r, rs.find? (fun r => r.core = c) = some r →
      (r.badRows = [] → r.badCols = [] → r.firstRun = none →
        bit (s.admitStage rs).boot.admitted c = true ∧ (s.admitStage rs).coreFenced c = false) ∧
      (r.firstRun.isSome = true → r.secondRun.isSome = true →
        bit (s.admitStage rs).boot.fenceCores c = true ∧ bit (s.admitStage rs).boot.admitted c = false) := by
  obtain ⟨regs, stage⟩ := s.admitStage_eq rs
  rw [stage]
  generalize hv : State.wr { s.coresAdmitted rs with regs := regs } CHIP.BOOT_STAGE 5 = v
  have five : v.stage = 5 := by rw [← hv]; exact State.rd_wr_self ..
  have mem : v.mem = s.mem := by rw [← hv]; exact (s.coresAdmitted_admits rs).mem
  have boot : v.boot = (s.coresAdmitted rs).boot := by rw [← hv]; rfl
  have running : v.stage ≠ 6 := by rw [five]; decide
  obtain ⟨reports, -⟩ := State.setLive_reports running
  have boot' : v.setLive.boot.admitted = (s.coresAdmitted rs).boot.admitted ∧
      v.setLive.boot.fenceCores = (s.coresAdmitted rs).boot.fenceCores ∧
      v.setLive.boot.softFence = (s.coresAdmitted rs).boot.softFence := by
    rw [reports.rest, boot]
    exact ⟨rfl, rfl, rfl⟩
  obtain ⟨admitted, fences, soft⟩ := boot'
  refine ⟨(reports.rd mapKey_not_stage).trans five, ?_, State.setLive_live running, fun c hc fused free r found => ⟨fun hrows hcols first => ?_,
    fun first second => ?_⟩⟩
  · rw [reports.rest]
    exact mem
  · rw [admitted, State.coreFenced, fences, soft]
    exact State.coresAdmitted_good hc fused free found hrows hcols first
  · rw [admitted, fences]
    exact State.coresAdmitted_bad hc fused free found first second

end Sys2Proof.Machine
end

section
namespace Sys2Proof.Machine

/-! ### CALIB (R48, R433, R434, R543) -/

/-- Neither memory, nor the boot record, the pins, time or the calibration in use change, nor the registers of P. -/
structure State.Tunes (P : Nat → Prop) (s t : State) : Prop where
  mem : t.mem = s.mem
  boot : t.boot = s.boot
  pins : t.pins = s.pins
  ftime : t.ftime = s.ftime
  cal : t.cal = s.cal
  regs : ∀ b, P b → SMap.find t.regs b = SMap.find s.regs b

namespace State.Tunes
variable {P : Nat → Prop} {s t u : State}

theorem refl (s : State) : s.Tunes P s := ⟨rfl, rfl, rfl, rfl, rfl, fun _ _ => rfl⟩

theorem trans (h : s.Tunes P t) (h' : t.Tunes P u) : s.Tunes P u :=
  ⟨h'.mem.trans h.mem, h'.boot.trans h.boot, h'.pins.trans h.pins, h'.ftime.trans h.ftime, h'.cal.trans h.cal,
    fun b hb => (h'.regs b hb).trans (h.regs b hb)⟩

theorem each_mem {α : Type} {f : State → α → State} (l : List α) (hf : ∀ (t : State), ∀ x ∈ l, t.Tunes P (f t x)) (s : State) :
    s.Tunes P (s.each l f) := by
  induction l generalizing s with
  | nil => exact refl s
  | cons x xs ih => exact (hf s x (List.mem_cons_self ..)).trans (ih (fun t y hy => hf t y (List.mem_cons_of_mem _ hy)) _)

theorem wr (s : State) {r : Row} {k i : Nat} (v : Nat) (h : ¬ P (r.bit k i)) : s.Tunes P (s.wr r v k i) :=
  ⟨rfl, rfl, rfl, rfl, rfl, fun _ hb => s.find_wr_ne (fun e => h (e ▸ hb))⟩

theorem rd (h : s.Tunes P t) {r : Row} {k i : Nat} (hb : P (r.bit k i)) : t.rd r k i = s.rd r k i := State.rd_of_find (h.regs _ hb)

theorem volts (h : s.Tunes P t) (q profile : Nat) : t.volts q profile = s.volts q profile := by
  rw [State.volts, State.volts, State.calUse, State.calUse, h.cal]

end State.Tunes

/-! #### The alarm thresholds -/

/-- A field of AVS. -/
def avsKey (b : Nat) : Prop := b / 32768 = 11

theorem avsKey_low {q : Nat} (h : q < 4) : avsKey (AVS.VALARM_LO.bit 0 q) := by
  simp only [avsKey, Row.bit, AVS.VALARM_LO]
  omega

theorem avsKey_high {q : Nat} (h : q < 4) : avsKey (AVS.VALARM_HI.bit 0 q) := by
  simp only [avsKey, Row.bit, AVS.VALARM_HI]
  omega

theorem State.Tunes.setAlarm (s : State) {q : Nat} (h : q < 4) (profile : Nat) : s.Tunes (fun b => ¬ avsKey b) (s.setAlarm q profile) :=
  (State.Tunes.wr s _ (not_not_intro (avsKey_low h))).trans (State.Tunes.wr _ _ (not_not_intro (avsKey_high h)))

/-- The thresholds of every quadrant are those of the profile. -/
def State.alarmsSet (s : State) : State := s.each (List.range 4) (fun s q => s.setAlarm q (s.rd CLKRST.PROFILE_ACTIVE))

theorem State.alarmsSet_tunes (s : State) : s.Tunes (fun b => ¬ avsKey b) s.alarmsSet :=
  State.Tunes.each_mem _ (fun t _ hq => State.Tunes.setAlarm t (List.mem_range.mp hq) _) s

theorem State.setAlarm_low (s : State) (q profile : Nat) :
    (s.setAlarm q profile).rd AVS.VALARM_LO 0 q = (s.volts q profile).1 * 90 / 100 % 2 ^ 16 := by
  unfold State.setAlarm
  dsimp only
  rw [State.rd_wr_ne _ _ _ _ _ _ _ _ (by simp only [Row.bit, AVS.VALARM_LO, AVS.VALARM_HI]; omega), State.rd_wr_self]
  rfl

theorem State.setAlarm_high (s : State) (q profile : Nat) :
    (s.setAlarm q profile).rd AVS.VALARM_HI 0 q = (s.volts q profile).1 * 106 / 100 % 2 ^ 16 := by
  unfold State.setAlarm
  dsimp only
  rw [State.rd_wr_self]
  rfl

theorem State.setAlarm_other (s : State) {p q : Nat} (h : p ≠ q) (profile : Nat) :
    (s.setAlarm p profile).rd AVS.VALARM_LO 0 q = s.rd AVS.VALARM_LO 0 q ∧ (s.setAlarm p profile).rd AVS.VALARM_HI 0 q = s.rd AVS.VALARM_HI 0 q := by
  unfold State.setAlarm
  dsimp only
  constructor <;>
  · rw [State.rd_wr_ne _ _ _ _ _ _ _ _ (by simp only [Row.bit, AVS.VALARM_LO, AVS.VALARM_HI]; omega),
      State.rd_wr_ne _ _ _ _ _ _ _ _ (by simp only [Row.bit, AVS.VALARM_LO, AVS.VALARM_HI]; omega)]

theorem State.alarmsSet_values (s : State) {q : Nat} (hq : q < 4) (bound : (s.volts q (s.rd CLKRST.PROFILE_ACTIVE)).1 ≤ 7600) :
    s.alarmsSet.rd AVS.VALARM_LO 0 q = (s.volts q (s.rd CLKRST.PROFILE_ACTIVE)).1 * 90 / 100 ∧
    s.alarmsSet.rd AVS.VALARM_HI 0 q = (s.volts q (s.rd CLKRST.PROFILE_ACTIVE)).1 * 106 / 100 := by
  refine State.each_reaches (I := s.Tunes (fun b => ¬ avsKey b)) (Q := fun t =>
    t.rd AVS.VALARM_LO 0 q = (s.volts q (s.rd CLKRST.PROFILE_ACTIVE)).1 * 90 / 100 ∧
    t.rd AVS.VALARM_HI 0 q = (s.volts q (s.rd CLKRST.PROFILE_ACTIVE)).1 * 106 / 100) (x := q)
    (fun t p hp h => h.trans (State.Tunes.setAlarm t (List.mem_range.mp hp) _)) (fun t p _ ne _ ⟨low, high⟩ => ?_) (fun t h => ?_)
    (.refl s) (.inl (List.mem_range.mpr hq))
  · obtain ⟨low', high'⟩ := t.setAlarm_other ne (t.rd CLKRST.PROFILE_ACTIVE)
    exact ⟨low'.trans low, high'.trans high⟩
  · have active : t.rd CLKRST.PROFILE_ACTIVE = s.rd CLKRST.PROFILE_ACTIVE := h.rd (by unfold avsKey; decide)
    rw [t.setAlarm_low, t.setAlarm_high, active, h.volts]
    exact ⟨Nat.mod_eq_of_lt (by omega), Nat.mod_eq_of_lt (by omega)⟩

/-! #### The clocks and the first reference windows -/

theorem State.Tunes.mono {P P' : Nat → Prop} {s t : State} (h : s.Tunes P t) (hP : ∀ b, P' b → P b) : s.Tunes P' t :=
  { h with regs := fun b hb => h.regs b (hP b hb) }

/-- The registers outside CLKRST. -/
def offClocks (b : Nat) : Prop := b / 32768 ≠ 10

/-- The registers outside CLKRST and the TEST page of core c. -/
def offWindow (c b : Nat) : Prop := offClocks b ∧ b / 32768 ≠ 263 + 16 * c

/-- The registers of CHIP and AVS, which neither clocks nor reference windows touch. -/
def calmKey (b : Nat) : Prop := b < 32768 ∨ avsKey b

theorem offWindow_of_calm {b : Nat} (h : calmKey b) (c : Nat) : offWindow c b := by
  unfold calmKey avsKey at h
  unfold offWindow offClocks
  omega

theorem State.Tunes.wr_clock (s : State) {r : Row} {i : Nat} (v : Nat) (page : r.bit 0 i / 32768 = 10) : s.Tunes offClocks (s.wr r v 0 i) :=
  .wr s v (not_not_intro page)

theorem State.runClocks_tunes (s : State) : s.Tunes offClocks s.runClocks := by
  refine State.Tunes.each_mem _ (fun t c hc => ?_) s
  have lt : c < 16 := List.mem_range.mp (List.mem_filter.mp hc).1
  refine (State.Tunes.wr_clock t _ ?_).trans (State.Tunes.wr_clock _ _ ?_)
  · simp only [Row.bit, CLKRST.CORE_FREQ_F25]; omega
  · simp only [Row.bit, CLKRST.CORE_FREQ_THROTTLED]; omega

theorem State.startClocks_tunes (s : State) : s.Tunes offClocks s.startClocks :=
  s.runClocks_tunes.trans (State.Tunes.wr_clock _ _ (by decide))

theorem State.applyFreq_tunes (s : State) {c : Nat} (lt : c < 16) : s.Tunes offClocks (s.applyFreq c) := by
  unfold State.applyFreq
  extract_lets held f
  have flag : s.Tunes offClocks held := State.Tunes.wr_clock s _ (by simp only [Row.bit, CLKRST.CORE_FREQ_THROTTLED]; omega)
  split
  · exact flag
  · exact (flag.trans (State.Tunes.wr_clock held f (by simp only [Row.bit, CLKRST.CORE_FREQ_F25]; omega))).trans
      (State.Tunes.wr_clock _ _ (by decide))

theorem State.applyFreq_test (s : State) (c : Nat) : (s.applyFreq c).test = s.test := by
  unfold State.applyFreq
  extract_lets held f
  split <;> rfl

/-- The records of a core at a valid reference window. -/
def State.windowTaken (s : State) (c : Nat) : State :=
  s.modTcore c (fun t => { t with
    lastRef := s.ftime, due := false
    gb := match s.calUse 5 with | some p => leAt p (4 * c) 1 | none => 50
    safe := s.calUse 6 })

/-- AGE is 0, and the core is no longer STALE. -/
def State.ageCleared (s : State) (c : Nat) : State := (s.wr TEST.REF_AGE_AGE 0 c).wr TEST.TST_STAT_STALE 0 c

/-- The limit of a stale core ends. -/
def State.staleOver (s : State) (c : Nat) : State :=
  ((s.modLimit c (fun l => { l with margin := none })).wr TEST.TST_STAT_CAPPED 0 c).applyFreq c

theorem State.validWindow_eq (s : State) (c : Nat) : s.validWindow c =
    if (s.windowTaken c).on TEST.TST_STAT_STALE c then ((s.windowTaken c).ageCleared c).staleOver c
    else (s.windowTaken c).ageCleared c := rfl

theorem State.Tunes.wr_window (s : State) {r : Row} {c : Nat} (v : Nat) (page : r.bit c 0 / 32768 = 263 + 16 * c) :
    s.Tunes (offWindow c) (s.wr r v c) :=
  .wr s v (fun h => h.2 page)

theorem State.windowTaken_tunes (s : State) (c : Nat) : s.Tunes (offWindow c) (s.windowTaken c) := ⟨rfl, rfl, rfl, rfl, rfl, fun _ _ => rfl⟩

theorem State.ageCleared_tunes (s : State) (c : Nat) : s.Tunes (offWindow c) (s.ageCleared c) := by
  refine (State.Tunes.wr_window s 0 ?_).trans (State.Tunes.wr_window _ 0 ?_)
  · simp only [Row.bit, TEST.REF_AGE_AGE]; omega
  · simp only [Row.bit, TEST.TST_STAT_STALE]; omega

theorem State.Tunes.modLimit {P : Nat → Prop} (s : State) (c : Nat) (f : Limits → Limits) : s.Tunes P (s.modLimit c f) :=
  ⟨rfl, rfl, rfl, rfl, rfl, fun _ _ => rfl⟩

theorem State.staleOver_tunes (s : State) {c : Nat} (lt : c < 16) : s.Tunes (offWindow c) (s.staleOver c) := by
  have capped : s.Tunes (offWindow c) ((s.modLimit c (fun l => { l with margin := none })).wr TEST.TST_STAT_CAPPED 0 c) :=
    (State.Tunes.modLimit s c _).trans (State.Tunes.wr_window _ 0 (by simp only [Row.bit, TEST.TST_STAT_CAPPED]; omega))
  exact capped.trans ((State.applyFreq_tunes _ lt).mono (fun _ h => h.1))

theorem State.validWindow_tunes (s : State) {c : Nat} (lt : c < 16) : s.Tunes (offWindow c) (s.validWindow c) := by
  have taken := (s.windowTaken_tunes c).trans (State.ageCleared_tunes _ c)
  rw [State.validWindow_eq]
  split
  · exact taken.trans (State.staleOver_tunes _ lt)
  · exact taken

theorem State.validWindow_test (s : State) (c : Nat) : (s.validWindow c).test = (s.windowTaken c).test := by
  rw [State.validWindow_eq]
  split
  · exact State.applyFreq_test _ c
  · rfl

theorem State.validWindow_tcore (s : State) (c : Nat) : ((s.validWindow c).tcore c).lastRef = s.ftime := by
  rw [State.tcore, State.validWindow_test]
  exact congrArg TestCore.lastRef (SMap.get_put_self ..)

theorem State.validWindow_tcore_other (s : State) {c d : Nat} (h : d ≠ c) : (s.validWindow d).tcore c = s.tcore c := by
  rw [State.tcore, State.validWindow_test]
  exact (SMap.get_put ..).trans (if_neg h)

theorem State.validWindow_age (s : State) {c : Nat} (lt : c < 16) : (s.validWindow c).rd TEST.REF_AGE_AGE c = 0 := by
  have age : ((s.windowTaken c).ageCleared c).rd TEST.REF_AGE_AGE c = 0 := by
    rw [State.ageCleared, State.rd_wr_ne _ _ _ _ _ _ _ _ (by simp only [Row.bit, TEST.REF_AGE_AGE, TEST.TST_STAT_STALE]; omega),
      State.rd_wr_self]
    rfl
  rw [State.validWindow_eq]
  split
  · refine Eq.trans ?_ age
    have capped : ((((s.windowTaken c).ageCleared c).modLimit c (fun l => { l with margin := none })).wr TEST.TST_STAT_CAPPED 0 c).rd
        TEST.REF_AGE_AGE c = ((s.windowTaken c).ageCleared c).rd TEST.REF_AGE_AGE c := 
      State.rd_wr_ne _ _ _ _ _ _ _ _ (by simp only [Row.bit, TEST.REF_AGE_AGE, TEST.TST_STAT_CAPPED]; omega)
    exact ((State.applyFreq_tunes _ lt).rd (by simp only [offClocks, Row.bit, TEST.REF_AGE_AGE]; omega)).trans capped
  · exact age

theorem State.validWindow_age_other (s : State) {c d : Nat} (lt : d < 16) (h : d ≠ c) :
    (s.validWindow d).rd TEST.REF_AGE_AGE c = s.rd TEST.REF_AGE_AGE c :=
  (s.validWindow_tunes lt).rd (by simp only [offWindow, offClocks, Row.bit, TEST.REF_AGE_AGE]; omega)

/-- The clocks are up, and the cores of a list have taken their windows. -/
def State.windowsTaken (s : State) (cores : List Nat) : State := s.startClocks.each cores (fun s c => s.validWindow c)

theorem State.windowsTaken_tunes (s : State) {cores : List Nat} (lt : ∀ c ∈ cores, c < 16) : s.Tunes calmKey (s.windowsTaken cores) :=
  (s.startClocks_tunes.mono (fun _ h => (offWindow_of_calm h 0).1)).trans
    (State.Tunes.each_mem _ (fun t c hc => (t.validWindow_tunes (lt c hc)).mono (fun _ h => offWindow_of_calm h c)) _)

theorem State.windowsTaken_fresh (s : State) {cores : List Nat} (lt : ∀ c ∈ cores, c < 16) {c : Nat} (hc : c ∈ cores) :
    (s.windowsTaken cores).rd TEST.REF_AGE_AGE c = 0 ∧ ((s.windowsTaken cores).tcore c).lastRef = s.ftime := by
  refine State.each_reaches (I := s.Tunes calmKey) (Q := fun t => t.rd TEST.REF_AGE_AGE c = 0 ∧ (t.tcore c).lastRef = s.ftime) (x := c)
    (fun t d hd h => h.trans ((t.validWindow_tunes (lt d hd)).mono (fun _ k => offWindow_of_calm k d))) (fun t d hd ne _ ⟨age, ref⟩ => ⟨?_, ?_⟩)
    (fun t h => ⟨t.validWindow_age (lt c hc), (t.validWindow_tcore c).trans h.ftime⟩)
    (s.startClocks_tunes.mono (fun _ h => (offWindow_of_calm h 0).1)) (.inl hc)
  · exact (t.validWindow_age_other (lt d hd) ne).trans age
  · rw [t.validWindow_tcore_other ne]
    exact ref

/-- The clocks run, and the NL transmitters are driven where they are calibrated. -/
def State.clocksRun (s : State) (serdes : Bool) : State :=
  { s with boot := { s.boot with clocks := true }, pins := { s.pins with nlDriven := serdes } }

theorem State.calibStage_eq (s : State) (serdes : Bool) (windows : Nat → Bool) : s.calibStage serdes windows =
    (s.alarmsSet.clocksRun serdes).windowsTaken ((List.range 16).filter (fun c => (s.alarmsSet.clocksRun serdes).live c && windows c)) := rfl

/-- CALIB: thresholds, clocks, transmitters and windows. -/
theorem State.calibStage_spec (s : State) (serdes : Bool) (windows : Nat → Bool) :
    (s.calibStage serdes windows).boot = { s.boot with clocks := true } ∧
    (s.calibStage serdes windows).pins = { s.pins with nlDriven := serdes } ∧ (s.calibStage serdes windows).mem = s.mem ∧
    (s.calibStage serdes windows).rd CHIP.BOOT_FAIL = s.rd CHIP.BOOT_FAIL ∧
    (∀ c, c < 16 → s.live c = true → windows c = true →
      (s.calibStage serdes windows).rd TEST.REF_AGE_AGE c = 0 ∧ ((s.calibStage serdes windows).tcore c).lastRef = s.ftime) ∧
    ∀ q, q < 4 → (s.volts q (s.rd CLKRST.PROFILE_ACTIVE)).1 ≤ 7600 →
      (s.calibStage serdes windows).rd AVS.VALARM_LO 0 q = (s.volts q (s.rd CLKRST.PROFILE_ACTIVE)).1 * 90 / 100 ∧
      (s.calibStage serdes windows).rd AVS.VALARM_HI 0 q = (s.volts q (s.rd CLKRST.PROFILE_ACTIVE)).1 * 106 / 100 := by
  rw [State.calibStage_eq]
  have alarms := s.alarmsSet_tunes
  generalize hcores : (List.range 16).filter (fun c => (s.alarmsSet.clocksRun serdes).live c && windows c) = cores
  have lt : ∀ c ∈ cores, c < 16 := by
    subst hcores
    exact fun c hc => List.mem_range.mp (List.mem_filter.mp hc).1
  have taken := State.windowsTaken_tunes (s.alarmsSet.clocksRun serdes) lt
  have below : ∀ r : Row, r.bit 0 0 < 32768 → ((s.alarmsSet.clocksRun serdes).windowsTaken cores).rd r = s.rd r := fun r h =>
    (taken.rd (.inl h)).trans (alarms.rd (by unfold avsKey; omega))
  refine ⟨?_, ?_, taken.mem.trans alarms.mem, below _ (by decide), fun c hc live window => ?_, fun q hq bound => ?_⟩
  · rw [taken.boot]
    exact congrArg (fun b : Boot => { b with clocks := true }) alarms.boot
  · rw [taken.pins]
    exact congrArg (fun p : Pins => { p with nlDriven := serdes }) alarms.pins
  · have named : c ∈ cores := by
      subst hcores
      have live' : (s.alarmsSet.clocksRun serdes).live c = s.live c := by
        rw [State.live, State.live]
        exact congrArg (fun v => bit v c) (alarms.rd (by unfold avsKey; decide))
      exact List.mem_filter.mpr ⟨List.mem_range.mpr hc, by rw [live', live, window]; rfl⟩
    obtain ⟨age, ref⟩ := State.windowsTaken_fresh (s.alarmsSet.clocksRun serdes) lt named
    exact ⟨age, ref.trans alarms.ftime⟩
  · obtain ⟨low, high⟩ := s.alarmsSet_values hq bound
    exact ⟨(taken.rd (.inr (avsKey_low hq))).trans low, (taken.rd (.inr (avsKey_high hq))).trans high⟩

end Sys2Proof.Machine
end

section
namespace Sys2Proof.Machine

/-! ### What the entry to SERVICE sets off (R263, R301, R329, R448, R483, R611) -/

/-- From s to t the stage, LC_LAST and the level a report waits for stay, and what was sent stays sent. -/
structure State.Onward (s t : State) : Prop where
  stage : SMap.find t.regs 608 = SMap.find s.regs 608
  last : t.sec.lcLast = s.sec.lcLast
  level : t.boot.lvlFrom = s.boot.lvlFrom
  out : s.out <+: t.out

theorem Row.bit_far {r : Row} (h : 0 < r.page) (k i : Nat) : r.bit k i ≠ 608 := by
  unfold Row.bit
  generalize r.pstep * k = m
  generalize r.stride * i = n
  omega

namespace State.Onward
variable {s t u : State}

theorem refl (s : State) : s.Onward s := ⟨rfl, rfl, rfl, List.prefix_rfl⟩

theorem trans (h : s.Onward t) (h' : t.Onward u) : s.Onward u :=
  ⟨h'.stage.trans h.stage, h'.last.trans h.last, h'.level.trans h.level, h.out.trans h'.out⟩

theorem stands (h : s.Onward t) : t.stage = s.stage := State.rd_of_find (r := CHIP.BOOT_STAGE) (k := 0) (i := 0) h.stage

theorem each {α : Type} {f : State → α → State} (hf : ∀ (t : State) x, t.Onward (f t x)) (s : State) (l : List α) : s.Onward (s.each l f) :=
  State.each_inv s.Onward (fun t x h => h.trans (hf t x)) l s (refl s)

theorem when {f : State → State} (c : Bool) (hf : s.Onward (f s)) : s.Onward (s.when c f) := by
  unfold State.when
  split
  · exact hf
  · exact refl s

theorem of_posts (h : s.Posts t) : s.Onward t :=
  ⟨h.regs 608 (by decide) (by decide), by rw [h.rest], by rw [h.rest], h.out⟩

theorem of_reports {K : Nat → Prop} (h : s.Reports K t) (hK : ¬ K 608) : s.Onward t :=
  ⟨h.regs 608 hK, by rw [h.rest], by rw [h.rest], h.out⟩

theorem wr (s : State) {r : Row} {k i : Nat} (v : Nat) (h : r.bit k i ≠ 608) : s.Onward (s.wr r v k i) :=
  ⟨s.find_wr_ne h, rfl, rfl, List.prefix_rfl⟩

/-- A register of another page than CHIP's. -/
theorem wr_far (s : State) {r : Row} (v k i : Nat) (h : 0 < r.page) : s.Onward (s.wr r v k i) := wr s v (Row.bit_far h k i)

theorem setCtx (s : State) (x : Nat) (c : Ctx) : s.Onward (s.setCtx x c) := ⟨rfl, rfl, rfl, List.prefix_rfl⟩

theorem modCtx (s : State) (x : Nat) (f : Ctx → Ctx) : s.Onward (s.modCtx x f) := setCtx s x _

theorem modCore (s : State) (c : Nat) (f : Core → Core) : s.Onward (s.modCore c f) := ⟨rfl, rfl, rfl, List.prefix_rfl⟩

theorem modHbm (s : State) (k : Nat) (f : HbmStack → HbmStack) : s.Onward (s.modHbm k f) := ⟨rfl, rfl, rfl, List.prefix_rfl⟩

theorem modPort (s : State) (p : Nat) (f : NlPort → NlPort) : s.Onward (s.modPort p f) := ⟨rfl, rfl, rfl, List.prefix_rfl⟩

theorem modLadder (s : State) (f : Ladder → Ladder) : s.Onward (s.modLadder f) := ⟨rfl, rfl, rfl, List.prefix_rfl⟩

theorem withFabric (s : State) (f : Fabric) : s.Onward { s with fabric := f } := ⟨rfl, rfl, rfl, List.prefix_rfl⟩

theorem withMarks (s : State) (corrected uncorrectable : List Nat) :
    s.Onward { s with marksC := corrected, marksU := uncorrectable } := ⟨rfl, rfl, rfl, List.prefix_rfl⟩

theorem err_ne (p : Nat) : HDR.BLK_ERR.bit p 0 ≠ 608 := by
  simp only [Row.bit, HDR.BLK_ERR]
  omega

theorem raiseTok (s : State) (k : Tok) : s.Onward (s.raiseTok k) := by
  have mark : s.Onward ((s.wr HDR.BLK_ERR (setBit (s.rd HDR.BLK_ERR k.src) (k.kind % 32)) k.src).errVector s.errAny) :=
    (wr s _ (err_ne _)).trans (of_reports (State.Reports.errVector (K := fun _ => False) _ _) not_false)
  unfold State.raiseTok
  extract_lets marked stuck
  split
  · exact ⟨mark.stage, mark.last, mark.level, mark.out⟩
  · split
    · have stick : s.Onward (stuck.stick k.src) := mark.trans (of_posts (State.Posts.stick stuck k.src))
      split
      · exact ⟨stick.stage, stick.last, stick.level, stick.out⟩
      · exact stick.trans (of_posts (State.Posts.dropTok _ _))
    · exact refl s

theorem raise (s : State) (src kind addr detail : Nat) : s.Onward (s.raise src kind addr detail) := raiseTok s _

theorem raiseCtx (s : State) (src kind x addr detail : Nat) : s.Onward (s.raiseCtx src kind x addr detail) := raiseTok s _

theorem setLevel (s : State) : s.Onward s.setLevel :=
  of_reports (State.Reports.setLevel s (K := levelKey) (fun _ h => h)) (by unfold levelKey; omega)

/-! #### Memory (R220, R222, R225) -/

theorem logUe (s : State) (k off : Nat) : s.Onward (s.logUe k off) := by
  unfold State.logUe
  split
  · exact refl s
  · exact ((wr_far s _ _ _ (by decide)).trans (wr_far _ _ _ _ (by decide))).trans (wr_far _ _ _ _ (by decide))

theorem memUe (s : State) (a : Nat) : s.Onward (s.memUe a) := by
  unfold State.memUe
  split
  · exact raise s ..
  · exact (logUe s ..).trans (raise ..)
  · exact refl s

theorem spadCe (s : State) (c a : Nat) : s.Onward (s.spadCe c a) := by
  unfold State.spadCe
  extract_lets repeated unmarked counted seen
  exact (((withMarks s _ s.marksU).trans (wr_far unmarked _ _ _ (by decide))).trans (modCore counted _ _)).trans (raise seen ..)

theorem hbmCe (s : State) (k a : Nat) : s.Onward (s.hbmCe k a) := by
  unfold State.hbmCe
  extract_lets repeated unmarked counted seen
  exact (((withMarks s _ s.marksU).trans (wr_far unmarked _ _ _ (by decide))).trans (modHbm counted _ _)).trans (raise seen ..)

theorem mend (s : State) (ms : List Nat) : s.Onward (s.mend ms) := by
  refine each (fun t m => ?_) s ms
  split
  · exact spadCe ..
  · exact hbmCe ..
  · exact refl t

theorem served (s : State) (a n : Nat) : s.Onward (s.served a n) := by
  have prog : ∀ p v, s.Onward (s.wr HDR.BLK_PROG v p) := fun p v => wr s v (by simp only [Row.bit, HDR.BLK_PROG]; omega)
  unfold State.served
  dsimp only
  split
  · exact prog ..
  · exact prog ..
  · exact refl s

theorem readMem (s : State) (a n : Nat) : s.Onward (s.readMem a n).1 := by
  have check : s.Onward (s.readCheck a n).1 := by
    unfold State.readCheck
    split
    · exact refl s
    · split
      · exact memUe ..
      · exact (mend ..).trans (served ..)
  unfold State.readMem
  split <;> next h => rw [h] at check; exact check

theorem store (s : State) (a : Nat) (bs : List Byte) : s.Onward (s.store a bs) := ⟨rfl, rfl, rfl, List.prefix_rfl⟩

theorem writeMem (s : State) (a : Nat) (bs : List Byte) : s.Onward (s.writeMem a bs).1 := by
  unfold State.writeMem
  extract_lets n
  split
  · exact refl s
  · split
    · exact memUe ..
    · exact ((((mend s _).trans (withMarks _ _ _)).trans (store ..)).trans (served ..))

theorem chargeStack (s : State) (x a n : Nat) : s.Onward (s.chargeStack x a n) := by
  unfold State.chargeStack
  split
  · exact modHbm ..
  · exact refl s

theorem writeSector (s : State) (a be : Nat) (body : List Byte) : s.Onward (s.writeSector a be body).1 := by
  unfold State.writeSector
  generalize beRuns be = l
  have fold : ∀ (l : List (Nat × Nat)) (st : State × Bool), s.Onward st.1 → s.Onward (l.foldl (fun (st : State × Bool) r =>
      if st.2 then st.1.writeMem (a + r.1) ((body.drop r.1).take r.2) else st) st).1 := by
    intro l
    induction l with
    | nil => exact fun _ h => h
    | cons r rs ih =>
      refine fun st h => ih _ ?_
      dsimp only
      split
      · exact h.trans (writeMem ..)
      · exact h
  exact fold l (s, true) (refl s)

/-! #### Flits and what losing them ends (R321 to R327, R330, R337) -/

theorem reopen (s : State) (dst : Nat) : s.Onward (s.reopen dst) := withFabric s _

theorem endDispatch (s : State) (c d status detail : Nat) : s.Onward (s.endDispatch c d status detail) := ⟨rfl, rfl, rfl, List.prefix_rfl⟩

theorem remoteLost (s : State) (r : Remote) : s.Onward (s.remoteLost r) := by
  unfold State.remoteLost
  extract_lets fabric dropped counted told
  have count : s.Onward counted := ((withFabric s _).trans (when (s := dropped) _ (reopen dropped _))).trans
    (wr_far _ _ _ _ (r := FABRIC.FAB_CNT_LOST) (by decide))
  have tell : s.Onward told := count.trans (raiseTok ..)
  split
  · exact tell.trans (endDispatch ..)
  · exact tell

theorem collWrite (s : State) (c : Coll) {f : State → State} (hf : ∀ t : State, t.Onward (f t)) : s.Onward (s.collWrite c f) := by
  unfold State.collWrite State.reading
  have charge := chargeStack s c.ctx c.dst c.outLen
  have read := charge.trans (readMem (s.chargeStack c.ctx c.dst c.outLen) c.stage c.outLen)
  split
  · next t bs h =>
    rw [h] at read
    refine read.trans ?_
    dsimp only
    unfold State.writing
    have write := writeMem t c.dst bs
    split
    · next h' => rw [h'] at write; exact write.trans (hf _)
    · next h' => rw [h'] at write; exact write
  · next h => rw [h] at read; exact read

theorem finish (s : State) (x qn ssn status detail : Nat) : s.Onward (s.finish x qn ssn status detail) := modCtx ..

theorem collFail (s : State) (c : Coll) : s.Onward (s.collFail c) := by
  unfold State.collFail
  extract_lets committed written fabric dropped ended
  have write : s.Onward written := by
    unfold written
    split
    · exact collWrite s c refl
    · exact refl s
  exact ((write.trans (withFabric ..)).trans (finish dropped ..)).trans (raiseCtx ended ..)

theorem oweCredit (s : State) (p cls : Nat) : s.Onward (s.oweCredit p cls) := by
  unfold State.oweCredit
  split
  · exact modPort ..
  · exact refl s

theorem launch (s : State) (f : DataFlit) (port : Nat) : s.Onward (s.launch f port).1 := by
  unfold State.launch
  split
  · exact (modPort ..).trans (oweCredit ..)
  · exact withFabric ..
  · exact oweCredit ..

theorem sessioned (s : State) (f : DataFlit) : s.Onward (s.sessioned f).1 := by
  unfold State.sessioned
  extract_lets d fresh drew fabric drawn counter
  have draw : s.Onward drawn := by
    unfold drawn
    split
    · exact ⟨rfl, rfl, rfl, List.prefix_rfl⟩
    · exact refl s
  exact draw.trans (withFabric ..)

theorem ownLostBy (s : State) (f : DataFlit) {tell : State → List DataFlit → State} (ht : ∀ (t : State) fs, t.Onward (tell t fs)) :
    s.Onward (s.ownLostBy f tell) := by
  unfold State.ownLostBy
  split
  · exact remoteLost ..
  · split
    · exact ((when _ (reopen s _)).trans (collFail ..)).trans (ht ..)
    · exact refl s

theorem sendAll (s : State) (n : Nat) (fs : List DataFlit) : s.Onward (s.sendAll n fs) := by
  induction n generalizing s fs with
  | zero => exact refl s
  | succ n ih =>
    refine each (fun t f => ?_) s fs
    extract_lets own r l dropped
    have named : t.Onward r.1 := by
      unfold r
      split
      · exact sessioned ..
      · exact refl t
    have sent : t.Onward l.1 := named.trans (launch ..)
    split
    · exact sent
    · have drop : t.Onward dropped := sent.trans (wr_far _ _ _ _ (by decide))
      split
      · exact drop.trans (ownLostBy dropped f (fun u fs => ih u fs))
      · exact drop.trans (ih ..)

theorem reply (s : State) (f : DataFlit) (op cls status len : Nat) (body : List Byte) : s.Onward (s.reply f op cls status len body) :=
  sendAll ..

/-! #### Requests held for a context (R329) -/

theorem serve (s : State) (p : Nat) (f : DataFlit) : s.Onward (s.serve p f) := by
  unfold State.serve
  extract_lets a get rop fabric charged written
  split
  · exact withFabric ..
  · split
    · exact (raise ..).trans (reply ..)
    · have charge : s.Onward charged := chargeStack ..
      split
      · have read := charge.trans (readMem charged a 64)
        split
        · next h => rw [h] at read; exact read
        · next h => rw [h] at read; exact read.trans (reply ..)
      · have write : s.Onward written.1 := charge.trans (writeSector ..)
        split
        · exact write.trans (reply ..)
        · exact write

theorem serveHeld (s : State) : s.Onward s.serveHeld := by
  unfold State.serveHeld
  refine trans ?_ (each (fun t e => ?_) _ _)
  · exact withFabric s _
  · exact serve t e.1 e.2

/-! #### The records of a reset (R263) -/

theorem handRecord (s : State) (x : Nat) (isCq : Bool) (bs : List Byte) : s.Onward (s.handRecord x isCq bs) := of_posts (.handRecord ..)

theorem postCq (s : State) (x recKind gen status queue ssn count detail user time : Nat) :
    s.Onward (s.postCq x recKind gen status queue ssn count detail user time) := handRecord ..

theorem signal (s : State) (x : Nat) (now : Bool) : s.Onward (s.signal x now) := of_posts (.signal ..)

theorem postEvent (s : State) (x recKind w2 w3 q2 q3 : Nat) (now : Bool) : s.Onward (s.postEvent x recKind w2 w3 q2 q3 now) :=
  of_posts (.postEvent ..)

theorem postDone (s : State) (x qn : Nat) (cmd : Cmd) (status detail time : Nat) : s.Onward (s.postDone x qn cmd status detail time) :=
  ((postCq ..).trans (modCtx ..)).trans (signal ..)

theorem postHead (s : State) (x qn : Nat) : s.Onward (s.postHead x qn) := by
  unfold State.postHead
  extract_lets c q
  split
  · split
    · split
      · exact postDone ..
      · exact refl s
    · exact setCtx ..
  · split
    · split
      · split
        · exact ((postCq ..).trans (modCtx ..)).trans (signal ..)
        · exact setCtx ..
      · exact refl s
    · exact refl s

theorem postHeads (s : State) (x qn n : Nat) : s.Onward (s.postHeads x qn n) := by
  induction n generalizing s with
  | zero => exact refl s
  | succ n ih =>
    unfold State.postHeads
    split
    · exact (postHead ..).trans (ih _)
    · exact refl s

theorem postHeld (s : State) (x qn : Nat) : s.Onward (s.postHeld x qn) := postHeads ..

theorem postUnposted (s : State) (x : Nat) : s.Onward (s.postUnposted x) :=
  (modCtx ..).trans (each (fun t _ => postEvent t ..) _ _)

theorem abortQueue (s : State) (x qn : Nat) : s.Onward (s.abortQueue x qn) := by
  unfold State.abortQueue
  extract_lets c q user posted moved
  split
  · exact setCtx ..
  · split
    · exact setCtx ..
    · exact ((postCq ..).trans (modCtx ..)).trans (signal ..)

theorem resetRecords (s : State) (x : Nat) : s.Onward (s.resetRecords x) := by
  unfold State.resetRecords
  split
  · exact refl s
  · split
    · exact refl s
    · extract_lets qs held aborted c old moved
      have hold : s.Onward held := each (fun t q => postHeld t x q) s _
      have abort : s.Onward aborted := (hold.trans (postUnposted ..)).trans (each (fun t q => abortQueue t x q) _ _)
      split
      · exact hold.trans (modCtx ..)
      · split
        · exact abort
        · exact (abort.trans (setCtx ..)).trans (postEvent ..)

theorem tryRecords (s : State) (x : Nat) : s.Onward (s.tryRecords x) := by
  unfold State.tryRecords
  split
  · exact resetRecords ..
  · exact refl s

theorem resetEnd (s : State) (x : Nat) : s.Onward (s.resetEnd x) := by
  unfold State.resetEnd
  split
  · exact refl s
  · split
    · exact refl s
    · exact ((postEvent ..).trans (modCtx ..)).trans (when _ (raiseCtx ..))

theorem resetOver (s : State) (level domain window : Nat) : s.Onward (s.resetOver level domain window) := by
  unfold State.resetOver
  exact modLadder ..

theorem tryRecovered (s : State) (x : Nat) : s.Onward (s.tryRecovered x) := by
  unfold State.tryRecovered
  split
  · exact refl s
  · split
    · exact ((resetEnd ..).trans (serveHeld _)).trans (resetOver ..)
    · exact refl s

theorem surviveThaw (s : State) (level : Nat) : s.Onward (s.surviveThaw level) := by
  refine each (fun t x => ?_) s _
  extract_lets m kept chk
  have keep : t.Onward kept := ⟨rfl, rfl, rfl, List.prefix_rfl⟩
  split
  · exact keep.trans ⟨rfl, rfl, rfl, List.prefix_rfl⟩
  · exact keep.trans (raiseCtx ..)

theorem loseBank (s : State) (c j : Nat) : s.Onward (s.loseBank c j) :=
  (wr_far _ _ _ _ (by decide)).trans (each (fun t x => (modCtx t x _).trans (raiseCtx ..)) _ _)

theorem lostBanks (s : State) : s.Onward s.lostBanks := by
  refine each (fun t c => ?_) s _
  extract_lets js lost
  have lose : t.Onward lost := each (fun u j => loseBank u c j) t _
  split
  · exact lose
  · exact lose.trans (modCore ..)

theorem setNl (s : State) (p v : Nat) : s.Onward (s.setNl p v) :=
  ((wr_far _ _ _ _ (by decide)).trans (wr _ _ (by decide))).trans (setLevel _)

end State.Onward

theorem State.setLevel_pw (s : State) : s.setLevel.pw = s.pw := by
  rw [(State.Reports.setLevel s (K := levelKey) (fun _ h => h)).rest]

theorem State.setNl_pw (s : State) (p v : Nat) : (s.setNl p v).pw = s.pw := State.setLevel_pw _

/-- The Drone domain's wake is told once FLT hears it. -/
def State.wakeTold (s : State) : State :=
  match s.pw.droneWake with
  | some code => { s.raise pgDRONE kDRONE_WAKE 0 code with pw := { s.pw with droneWake := none } }
  | none => s

theorem State.wakeTold_onward (s : State) : s.Onward s.wakeTold := by
  unfold State.wakeTold
  split
  · next code _ =>
    have told := State.Onward.raise s pgDRONE kDRONE_WAKE 0 code
    exact ⟨told.stage, told.last, told.level, told.out⟩
  · exact .refl s

theorem State.wakeTold_none (s : State) : s.wakeTold.pw.droneWake = none := by
  unfold State.wakeTold
  split
  · rfl
  · assumption

/-- The records, the frozen contexts and the lost banks of a reset, in SERVICE. -/
def State.resetSettled (s : State) (xs : List Nat) : State :=
  let changed := Nat.xor s.boot.oldLive (s.rd CHIP.CORE_MAP_LIVE)
  let s := if changed = 0 then s else s.postCoreMap changed
  (((s.each xs State.tryRecords).each xs State.tryRecovered).resetOver 4 0 0 |>.surviveThaw 4).lostBanks

theorem State.resetSettled_onward (s : State) (xs : List Nat) : s.Onward (s.resetSettled xs) := by
  unfold State.resetSettled
  extract_lets changed mapped
  have map : s.Onward mapped := by
    unfold mapped
    split
    · exact .refl s
    · exact .of_posts (.postCoreMap ..)
  exact ((((map.trans (.each .tryRecords _ _)).trans (.each .tryRecovered _ _)).trans (.resetOver ..)).trans
    (.surviveThaw ..)).trans (.lostBanks _)

/-- Negotiation begins on the enabled ports. -/
def State.portsDetect (s : State) : State := s.each (List.range 16) (fun s p => if s.nlEnabled p then s.setNl p nlDETECT else s)

theorem State.portsDetect_onward (s : State) : s.Onward s.portsDetect := by
  refine .each (fun t p => ?_) s _
  split
  · exact .setNl ..
  · exact .refl t

theorem State.portsDetect_pw (s : State) : s.portsDetect.pw = s.pw := by
  refine State.each_inv (fun t => t.pw = s.pw) (fun t p h => ?_) _ s rfl
  split
  · exact (t.setNl_pw p _).trans h
  · exact h

theorem serviceEntry_eq {s : State} (hmain : s.mainRuns = true) (h5 : s.stage = 5) (clocks : s.boot.clocks = true) :
    exec .serviceEntry s = .next (((s.enterService true).resetSettled
      ((s.ctxs.filter (fun e => e.2.reset.isSome)).map (·.1))).wakeTold.portsDetect) := by
  have run : (!s.mainRuns || s.stage != 5 || !s.boot.clocks) = false := by rw [hmain, h5, clocks]; rfl
  show execServiceEntry s = _
  rw [execServiceEntry, run, if_neg (by decide)]
  extract_lets xs u changed mapped recovered settled pw told
  have settles : u.resetSettled xs = settled := rfl
  clear_value settled
  have tells : settled.wakeTold = told := rfl
  rw [settles, tells, State.portsDetect]

theorem serviceEntry_spec {s : State} (hmain : s.mainRuns = true) (h5 : s.stage = 5) (clocks : s.boot.clocks = true) :
    let v := SMap.get s.pci.msix (msiKey 0 0) {}
    ∃ t, exec .serviceEntry s = .next t ∧ t.stage = 6 ∧ t.sec.lcLast = some s.lc ∧ t.boot.lvlFrom = none ∧ t.pw.droneWake = none ∧
      (v.mask = false → s.msixMasked 0 = false → s.msixEnabled 0 = true → ∃ l, t.out = s.out ++ l ∧ .msix 0 0 v.addr v.data ∈ l) := by
  refine ⟨_, serviceEntry_eq hmain h5 clocks, ?_⟩
  generalize (s.ctxs.filter (fun e => e.2.reset.isSome)).map (·.1) = xs
  have enters := s.enterService_enters true
  have on := (((s.enterService true).resetSettled_onward xs).trans (State.wakeTold_onward _)).trans (State.portsDetect_onward _)
  refine ⟨?_, ?_, ?_, ?_, fun mask masked enabled => ?_⟩
  · exact on.stands.trans enters.stage
  · exact on.last.trans (by rw [enters.rest])
  · exact on.level.trans (by rw [enters.rest])
  · rw [State.portsDetect_pw]
    exact State.wakeTold_none _
  · obtain ⟨l, hl, mem⟩ := s.enterService_vector true mask masked enabled
    obtain ⟨m, hm⟩ := on.out
    exact ⟨l ++ m, by rw [← hm, hl, List.append_assoc], List.mem_append_left _ mem⟩

end Sys2Proof.Machine
end

section
namespace Sys2Proof.Machine

/-! ### The stages' rows, and their overrun (R61) -/

theorem State.overruns {s : State} (hmain : s.mainRuns = true) (h : s.stage < 6) (perst : s.pins.perst = false)
    (clocks : s.stage = 5 → s.boot.clocks = false) :
    (!s.mainRuns || s.pins.perst || (decide (s.stage = 5) && s.boot.clocks) || decide (6 ≤ s.stage)) = false := by
  have early : decide (6 ≤ s.stage) = false := decide_eq_false (by omega)
  have stopped : (decide (s.stage = 5) && s.boot.clocks) = false := by
    by_cases h5 : s.stage = 5
    · rw [clocks h5, Bool.and_false]
    · rw [decide_eq_false h5, Bool.false_and]
  rw [hmain, perst, stopped, early]
  rfl

section
variable {s : State} (hmain : s.mainRuns = true)
include hmain

theorem memoryStage_run (h3 : s.stage = 3) (results : List StackResult) (bad : List (Nat × Nat)) :
    exec (.memoryStage results bad) s = .next (s.memoryStage results bad) := by
  show execMemoryStage results bad s = _
  rw [execMemoryStage, if_pos (by rw [hmain, h3]; rfl)]

theorem admitStage_run (h4 : s.stage = 4) (results : List AdmitResult) : exec (.admitStage results) s = .next (s.admitStage results) := by
  show execAdmitStage results s = _
  rw [execAdmitStage, if_pos (by rw [hmain, h4]; rfl)]

theorem calibStage_run (h5 : s.stage = 5) (stopped : s.boot.clocks = false) :
    exec .calibStage s = .next (s.calibStage true (fun _ => true)) := by
  show execCalibStage s = _
  rw [execCalibStage, if_pos (by rw [hmain, h5, stopped]; rfl)]

end

/-- A stage overran: FAIL says so. -/
def State.overran (s : State) : State := s.wr CHIP.BOOT_FAIL 3

theorem State.overran_fail (s : State) : s.overran.rd CHIP.BOOT_FAIL = 3 := s.rd_wr_self CHIP.BOOT_FAIL 3 0 0

theorem State.overran_rd (s : State) {r : Row} {k i : Nat} (h : CHIP.BOOT_FAIL.bit 0 0 ≠ r.bit k i) : s.overran.rd r k i = s.rd r k i :=
  State.rd_wr_ne _ _ _ _ _ _ _ _ h

theorem State.overran_mainRuns (s : State) : s.overran.mainRuns = s.mainRuns := by
  rw [State.mainRuns, State.mainRuns, s.overran_rd (by decide)]
  rfl

theorem State.overran_stage (s : State) : s.overran.stage = s.stage := s.overran_rd (by decide)

/-- The next stage follows at once. -/
theorem State.overran_next (s : State) {n : Nat} (hn : n < 16) : (s.overran.wr CHIP.BOOT_STAGE n).rd CHIP.BOOT_FAIL = 3 ∧
    (s.overran.wr CHIP.BOOT_STAGE n).stage = n ∧
    s.regsBut (s.overran.wr CHIP.BOOT_STAGE n) [CHIP.BOOT_FAIL.bit 0 0, CHIP.BOOT_STAGE.bit 0 0] :=
  ⟨(State.rd_wr_ne _ _ _ _ _ _ _ _ (by decide)).trans s.overran_fail,
    (s.overran.rd_wr_self CHIP.BOOT_STAGE n 0 0).trans (Nat.mod_eq_of_lt hn),
    (s.regsBut_wr (List.mem_cons_self ..)).trans (State.regsBut_wr _ (List.mem_cons_of_mem _ (List.mem_singleton_self _)))⟩

section
variable {s : State} (trained : List StackResult) (banks : List (Nat × Nat)) (cores : List AdmitResult) (serdes : Bool) (windows : List Nat)

/-- What a stage that overruns gives. -/
theorem stageOverrun_eq (hmain : s.mainRuns = true) (h : s.stage < 6) (perst : s.pins.perst = false)
    (clocks : s.stage = 5 → s.boot.clocks = false) : exec (.stageOverrun trained banks cores serdes windows) s = .next (
      if s.stage = 0 then
        (if s.boot.aligned then s.overran.wr CHIP.BOOT_STAGE 1
          else { s.overran.secPower with boot := { s.boot with aligned := true } })
      else if s.stage = 1 then s.overran.failService 3
      else if s.stage = 2 then s.overran.wr CHIP.BOOT_STAGE 3
      else if s.stage = 3 then s.overran.memoryStage trained banks
      else if s.stage = 4 then s.overran.admitStage cores
      else s.overran.calibStage serdes windows.contains) := by
  show execStageOverrun trained banks cores serdes windows s = _
  rw [execStageOverrun, State.overruns hmain h perst clocks, if_neg (by decide)]
  have stage : (s.wr CHIP.BOOT_FAIL 3).stage = s.stage := s.overran_stage
  dsimp only
  rw [stage]
  rfl

variable (hmain : s.mainRuns = true) (perst : s.pins.perst = false)
include hmain perst

theorem stageOverrun_ident (h0 : s.stage = 0) (aligned : s.boot.aligned = true) :
    ∃ t, exec (.stageOverrun trained banks cores serdes windows) s = .next t ∧ t = { s with regs := t.regs } ∧ t.rd CHIP.BOOT_FAIL = 3 ∧
      t.stage = 1 ∧ s.regsBut t [CHIP.BOOT_FAIL.bit 0 0, CHIP.BOOT_STAGE.bit 0 0] := by
  have run := stageOverrun_eq trained banks cores serdes windows hmain (by omega) perst (by omega)
  rw [if_pos h0, if_pos aligned] at run
  exact ⟨_, run, rfl, s.overran_next (by decide)⟩

/-- POWER leaves its PLLs unlocked. -/
theorem stageOverrun_power (h0 : s.stage = 0) (unaligned : s.boot.aligned = false) :
    ∃ t, exec (.stageOverrun trained banks cores serdes windows) s = .next t ∧ t.rd CHIP.BOOT_FAIL = 3 ∧ t.stage = 0 ∧
      t = { s with regs := t.regs, sec := t.sec, boot := { s.boot with aligned := true } } ∧
      t.rd CLKRST.CLK_STAT_HOST_LOCK = s.rd CLKRST.CLK_STAT_HOST_LOCK := by
  have run := stageOverrun_eq trained banks cores serdes windows hmain (by omega) perst (by omega)
  rw [if_pos h0, if_neg (by simp [unaligned])] at run
  refine ⟨_, run, ?_⟩
  have kept : ∀ r : Row, r.bit 0 0 ∉ secPowerKeys →
      State.rd { s.overran.secPower with boot := { s.boot with aligned := true } } r = s.overran.rd r := fun r h =>
    (State.rd_of_regs rfl r 0 0).trans (s.overran.secPower_regsBut.rd h)
  refine ⟨(kept _ (by decide)).trans s.overran_fail, ?_, ?_, (kept _ (by decide)).trans (s.overran_rd (by decide))⟩
  · exact (kept CHIP.BOOT_STAGE (by decide)).trans (s.overran_stage.trans h0)
  · obtain ⟨regs, sec, frame⟩ := s.overran.secPower_frame
    rw [frame]
    rfl

/-- Without an image SERVICE follows at level I. -/
theorem stageOverrun_firmware (h1 : s.stage = 1) :
    ∃ t, exec (.stageOverrun trained banks cores serdes windows) s = .next t ∧ t.stage = 6 ∧ t.rd CHIP.BOOT_FAIL = 3 ∧
      t.boot.avsUp = s.boot.avsUp ∧ t.pins.alert = true ∧ t.mem = s.mem := by
  have run := stageOverrun_eq trained banks cores serdes windows hmain (by omega) perst (by omega)
  rw [if_neg (by omega), if_pos h1] at run
  obtain ⟨stage, fail, -, alert, mem, avs⟩ := s.overran.failService_spec (n := 3) (by decide)
  exact ⟨_, run, stage, fail, avs, alert, mem⟩

theorem stageOverrun_flt (h2 : s.stage = 2) :
    ∃ t, exec (.stageOverrun trained banks cores serdes windows) s = .next t ∧ t = { s with regs := t.regs } ∧ t.rd CHIP.BOOT_FAIL = 3 ∧
      t.stage = 3 ∧ s.regsBut t [CHIP.BOOT_FAIL.bit 0 0, CHIP.BOOT_STAGE.bit 0 0] := by
  have run := stageOverrun_eq trained banks cores serdes windows hmain (by omega) perst (by omega)
  rw [if_neg (by omega), if_neg (by omega), if_pos h2] at run
  exact ⟨_, run, rfl, s.overran_next (by decide)⟩

theorem stageOverrun_memory (h3 : s.stage = 3) :
    exec (.stageOverrun trained banks cores serdes windows) s = exec (.memoryStage trained banks) s.overran := by
  have run := stageOverrun_eq trained banks cores serdes windows hmain (by omega) perst (by omega)
  rw [if_neg (by omega), if_neg (by omega), if_neg (by omega), if_pos h3] at run
  rw [run, memoryStage_run (s.overran_mainRuns.trans hmain) (s.overran_stage.trans h3)]

theorem stageOverrun_admit (h4 : s.stage = 4) :
    exec (.stageOverrun trained banks cores serdes windows) s = exec (.admitStage cores) s.overran := by
  have run := stageOverrun_eq trained banks cores serdes windows hmain (by omega) perst (by omega)
  rw [if_neg (by omega), if_neg (by omega), if_neg (by omega), if_neg (by omega), if_pos h4] at run
  rw [run, admitStage_run (s.overran_mainRuns.trans hmain) (s.overran_stage.trans h4)]

/-- The SerDes that are calibrated drive the links, and the cores with a window have it. -/
theorem stageOverrun_calib (h5 : s.stage = 5) (stopped : s.boot.clocks = false) :
    ∃ t, exec (.stageOverrun trained banks cores serdes windows) s = .next t ∧ t.rd CHIP.BOOT_FAIL = 3 ∧
      t.boot = { s.boot with clocks := true } ∧ t.pins = { s.pins with nlDriven := serdes } ∧ t.mem = s.mem ∧
      ∀ c, c < 16 → s.live c = true → c ∈ windows → t.rd TEST.REF_AGE_AGE c = 0 ∧ (t.tcore c).lastRef = s.ftime := by
  have run := stageOverrun_eq trained banks cores serdes windows hmain (by omega) perst (fun _ => stopped)
  rw [if_neg (by omega), if_neg (by omega), if_neg (by omega), if_neg (by omega), if_neg (by omega)] at run
  obtain ⟨boot, pins, mem, fail, fresh, -⟩ := s.overran.calibStage_spec serdes windows.contains
  refine ⟨_, run, fail.trans s.overran_fail, boot, pins, mem, fun c hc live window => fresh c hc ?_ (List.contains_iff_mem.mpr window)⟩
  rw [State.live, s.overran_rd (by decide)]
  exact live

end

/-- Settles O47, stage by stage: each clause is the lemma of its row. -/
theorem bootStages : Obligations.BootStages := by
  intro s hmain
  refine ⟨fun diodes h0 aligned perst clock => ⟨pllLockAlign_cool hmain diodes h0 aligned perst clock, pllLockAlign_hot diodes⟩,
    ident_spec hmain, fun readable h1 => firmwareStage_spec hmain h1 readable, fltEnterService_spec hmain,
    fun results bad h3 => ⟨_, memoryStage_run hmain h3 results bad, State.memoryStage_spec h3 results bad⟩,
    fun results h4 => ⟨_, admitStage_run hmain h4 results, s.admitStage_spec results⟩, fun h5 stopped => ?_, serviceEntry_spec hmain,
    fun trained banks cores serdes windows perst => ?_⟩
  · obtain ⟨boot, pins, mem, -, fresh, alarms⟩ := s.calibStage_spec true (fun _ => true)
    exact ⟨_, calibStage_run hmain h5 stopped, boot, pins, mem, fun c hc live => fresh c hc live rfl, alarms⟩
  · exact ⟨stageOverrun_ident trained banks cores serdes windows hmain perst, stageOverrun_power trained banks cores serdes windows hmain perst,
      stageOverrun_firmware trained banks cores serdes windows hmain perst, stageOverrun_flt trained banks cores serdes windows hmain perst,
      stageOverrun_memory trained banks cores serdes windows hmain perst, stageOverrun_admit trained banks cores serdes windows hmain perst,
      stageOverrun_calib trained banks cores serdes windows hmain perst⟩

end Sys2Proof.Machine
end

section
/-! The common page header (O48): what a write of BLK_CTL, BLK_ERRINJ or BLK_TOKCFG does that is let through (Tables 3-6 and 3-13). -/
namespace Sys2Proof.Machine

/-! ### Writes that are let through -/

theorem State.gated_of_lets {s : State} {a : Authority} {off len : Nat} {r : Row} (h : s.lets a off len r) (f : State → State) :
    s.gated a off len (fun s => if s.mayWrite a r then f s else s) = f s := by
  obtain ⟨ok, may, awake⟩ := h
  unfold State.gated
  rw [ok]
  dsimp only
  rw [awake, if_pos may]

theorem State.headerWrite_of_lets {s : State} {a : Authority} {p o : Nat} {r : Row} (h : s.lets a (p * 4096 + o) 4 r)
    (f : State → State) : s.headerWrite a p o r f = f s :=
  State.gated_of_lets h f

/-- Fields of the header that lie apart on one page lie apart on every page. -/
theorem Row.bit_header_ne {r r' : Row} (h : r.pstep = 1) (h' : r'.pstep = 1) (ne : r.bit 0 0 ≠ r'.bit 0 0) (p : Nat) :
    r.bit p 0 ≠ r'.bit p 0 := by
  have shift : ∀ r : Row, r.pstep = 1 → r.bit p 0 = r.bit 0 0 + p * 32768 := fun r h => by
    simp only [Row.bit, h]
    ring
  rw [shift r h, shift r' h']
  exact fun e => ne (Nat.add_right_cancel e)

theorem State.rd_wr_b2n (s : State) {r : Row} (h : r.width = 1) (on : Bool) (k i : Nat) :
    (s.wr r (b2n on) k i).rd r k i = if on = true then 1 else 0 := by
  rw [State.rd_wr_self, h]
  cases on <;> rfl

theorem State.rd_wr_bits (s : State) {r : Row} {v hi lo : Nat} (h : r.width = hi + 1 - lo) (k i : Nat) :
    (s.wr r (bits v hi lo) k i).rd r k i = bits v hi lo := by
  rw [State.rd_wr_self, h, bits, Nat.mod_mod]

/-! ### TEST_HOLD (Table 3-6) -/

theorem State.coreState_lt (s : State) (c : Nat) : s.coreState c < 16 := by
  unfold State.coreState
  split
  · decide
  · split
    · decide
    · split <;> decide

theorem State.freeState_lt (s : State) (p : Nat) : s.freeState p < 16 := by
  unfold State.freeState
  split
  · split
    · decide
    · exact s.coreState_lt _
  · decide

/-- The fuses, the fences and admission give the state of a core's pages. -/
theorem State.coreState_congr {s t : State} (fused : t.rd CHIP.CORE_MAP_FUSED = s.rd CHIP.CORE_MAP_FUSED)
    (fences : t.boot.fenceCores = s.boot.fenceCores) (soft : t.boot.softFence = s.boot.softFence)
    (admitted : t.boot.admitted = s.boot.admitted) (c : Nat) : t.coreState c = s.coreState c := by
  rw [State.coreState, State.coreState, State.fused, State.fused, State.coreFenced, State.coreFenced, fused, fences, soft, admitted]

theorem State.freeState_wr_hold (s : State) (v p q : Nat) : (s.wr HDR.CTL_TEST_HOLD v p).freeState q = s.freeState q := by
  have apart : HDR.CTL_TEST_HOLD.bit p 0 ≠ CHIP.CORE_MAP_FUSED.bit 0 0 := by
    simp only [Row.bit, HDR.CTL_TEST_HOLD, CHIP.CORE_MAP_FUSED]
    omega
  have core : (s.wr HDR.CTL_TEST_HOLD v p).coreState = s.coreState :=
    funext (State.coreState_congr (s.rd_wr_ne _ _ _ _ _ _ _ apart) rfl rfl rfl)
  unfold State.freeState
  rw [core]
  rfl

/-- What STATE of a page reads once TEST_HOLD of it was written. -/
def State.heldState (s : State) (p : Nat) (on : Bool) : Nat :=
  let st := s.rd HDR.STAT_STATE p
  if on = true then (if st = stREADY then stTEST else st) else if st = stTEST then s.freeState p else st

/-- TEST_HOLD takes the write, and STATE follows where it has to. -/
theorem State.setTestHold_eq (s : State) (p : Nat) (on : Bool) :
    (s.setTestHold p on = s.wr HDR.CTL_TEST_HOLD (b2n on) p ∧ s.heldState p on = s.rd HDR.STAT_STATE p) ∨
    (s.setTestHold p on = (s.wr HDR.CTL_TEST_HOLD (b2n on) p).wr HDR.STAT_STATE (s.heldState p on) p ∧ s.heldState p on < 16) := by
  have st : (s.wr HDR.CTL_TEST_HOLD (b2n on) p).rd HDR.STAT_STATE p = s.rd HDR.STAT_STATE p :=
    s.rd_wr_ne _ _ _ _ _ _ _ (Row.bit_header_ne rfl rfl (by decide) p)
  unfold State.setTestHold State.heldState
  dsimp only
  rw [st, State.freeState_wr_hold]
  cases on with
  | true =>
    by_cases ready : s.rd HDR.STAT_STATE p = stREADY
    · exact .inr (by simp only [if_pos ready, if_true]; decide)
    · exact .inl (by simp only [if_neg ready, if_true, and_self])
  | false =>
    by_cases test : s.rd HDR.STAT_STATE p = stTEST
    · exact .inr (by simp only [if_pos test, Bool.false_eq_true, if_false]; exact ⟨trivial, s.freeState_lt p⟩)
    · exact .inl (by simp only [if_neg test, Bool.false_eq_true, if_false, and_self])

theorem State.setTestHold_spec (s : State) (p : Nat) (on : Bool) : s.setTestHold p on = { s with regs := (s.setTestHold p on).regs } ∧
    (s.setTestHold p on).rd HDR.CTL_TEST_HOLD p = (if on = true then 1 else 0) ∧
    (s.setTestHold p on).rd HDR.STAT_STATE p = s.heldState p on ∧
    s.regsBut (s.setTestHold p on) [HDR.CTL_TEST_HOLD.bit p 0, HDR.STAT_STATE.bit p 0] := by
  have held := s.rd_wr_b2n (r := HDR.CTL_TEST_HOLD) rfl on p 0
  have wrote : s.regsBut (s.wr HDR.CTL_TEST_HOLD (b2n on) p) [HDR.CTL_TEST_HOLD.bit p 0, HDR.STAT_STATE.bit p 0] :=
    s.regsBut_wr (List.mem_cons_self ..)
  rcases s.setTestHold_eq p on with ⟨eq, same⟩ | ⟨eq, lt⟩
  · rw [eq, same]
    exact ⟨rfl, held, s.rd_wr_ne _ _ _ _ _ _ _ (Row.bit_header_ne rfl rfl (by decide) p), wrote⟩
  · rw [eq]
    refine ⟨rfl, ?_, ?_, wrote.trans (State.regsBut_wr _ (by simp))⟩
    · rw [State.rd_wr_ne _ _ _ _ _ _ _ _ (Row.bit_header_ne rfl rfl (by decide) p), held]
    · rw [State.rd_wr_self]
      exact Nat.mod_eq_of_lt lt

/-! ### The map brought up to date: what it leaves (R21, R33) -/

theorem State.signal_regs (s : State) (x : Nat) (now : Bool) : (s.signal x now).regs = s.regs := by
  have sent : (s.signalNow x).regs = s.regs := (congrArg State.regs (s.sendVector_rest (s.ctx x).owner (s.ctx x).cfg.vector) :)
  unfold State.signal
  dsimp only
  split
  · rfl
  · split
    · exact sent
    · rfl

/-- A write of host memory counts in the progress of HOSTIF, and touches no other register. -/
theorem State.hostStore_regsBut (s : State) (func : Nat) (bulk : Bool) (a : Nat) (bs : List Byte) :
    s.regsBut (s.hostStore func bulk a bs) [HDR.BLK_PROG.bit pgHOSTIF 0] := fun _ hb =>
  State.find_wr_ne { s with host := Memory.writeBytes s.host a bs } (r := HDR.BLK_PROG) (k := pgHOSTIF) (i := 0)
    (fun e => hb (List.mem_singleton.mpr e.symm))

theorem State.handRecord_regsBut (s : State) (x : Nat) (isCq : Bool) (bs : List Byte) :
    s.regsBut (s.handRecord x isCq bs) [HDR.BLK_PROG.bit pgHOSTIF 0] := by
  unfold State.handRecord
  extract_lets c r next
  split
  · exact s.regsBut_refl _
  · exact s.hostStore_regsBut c.owner false r.slot bs

theorem State.postEvent_regsBut (s : State) (x recKind w2 w3 q2 q3 : Nat) (now : Bool) :
    s.regsBut (s.postEvent x recKind w2 w3 q2 q3 now) [HDR.BLK_PROG.bit pgHOSTIF 0] := by
  unfold State.postEvent
  dsimp only
  split
  · exact s.regsBut_refl _
  · split
    · intro b hb
      rw [State.signal_regs]
      exact s.handRecord_regsBut x false _ b hb
    · exact s.regsBut_refl _

theorem State.postCoreMap_regsBut (s : State) (changed : Nat) : s.regsBut (s.postCoreMap changed) [HDR.BLK_PROG.bit pgHOSTIF 0] := by
  refine State.each_inv (fun t => s.regsBut t _) (fun t x h => ?_) _ s (s.regsBut_refl _)
  dsimp only
  split
  · exact h
  · exact State.regsBut.trans h (t.postEvent_regsBut x 0x14 _ 0 0 0 false)

/-- BLK_STAT.STATE of a page but CHIP's, and the fuses of the cores. -/
def stateKey (b : Nat) : Prop := (32768 ≤ b ∧ b % 32768 = 160) ∨ b = CHIP.CORE_MAP_FUSED.bit 0 0

theorem stateKey_state {p : Nat} (h : 0 < p) : stateKey (HDR.STAT_STATE.bit p 0) := by
  simp only [stateKey, Row.bit, HDR.STAT_STATE]
  omega

theorem stateKey_fused : stateKey (CHIP.CORE_MAP_FUSED.bit 0 0) := .inr rfl

theorem stateKey_not_mapKey {b : Nat} (h : stateKey b) : ¬ mapKey b := by
  have fused : CHIP.CORE_MAP_FUSED.bit 0 0 = 528 := rfl
  unfold stateKey at h
  exact not_mapKey (by omega) (by omega)

/-- From s to t the map and the level were brought up to date and told: neither memory nor Serac's state changed, nor what fences and
admits cores, nor the registers of `stateKey`. -/
structure State.Charts (s t : State) : Prop where
  mem : t.mem = s.mem
  serac : t.serac = s.serac
  boot : t.boot = { s.boot with deferred := t.boot.deferred, parity := t.boot.parity }
  regs : ∀ b, stateKey b → SMap.find t.regs b = SMap.find s.regs b

namespace State.Charts
variable {s t u : State}

theorem refl (s : State) : s.Charts s := ⟨rfl, rfl, rfl, fun _ _ => rfl⟩

theorem trans (h : s.Charts t) (h' : t.Charts u) : s.Charts u :=
  ⟨h'.mem.trans h.mem, h'.serac.trans h.serac, by rw [h'.boot, h.boot], fun b hb => (h'.regs b hb).trans (h.regs b hb)⟩

theorem when {f : State → State} (c : Bool) (h : s.Charts (f s)) : s.Charts (s.when c f) := by
  unfold State.when
  split
  · exact h
  · exact refl s

theorem of_reports (h : s.Reports mapKey t) : s.Charts t :=
  ⟨by rw [h.rest], by rw [h.rest], by rw [h.rest], fun b hb => h.regs b (stateKey_not_mapKey hb)⟩

theorem wr (s : State) {r : Row} {k i : Nat} (v : Nat) (h : mapKey (r.bit k i)) : s.Charts (s.wr r v k i) := of_reports (.wr s v h)

theorem raise (s : State) {src kind : Nat} (addr detail : Nat) (h : droneKind kind = false) : s.Charts (s.raise src kind addr detail) :=
  of_reports (.raise s (.inr h) (.inr (.inl (errKey_err src))))

theorem setLevel (s : State) : s.Charts s.setLevel := of_reports (.setLevel s (fun _ => .inl))

theorem postCoreMap (s : State) (changed : Nat) : s.Charts (s.postCoreMap changed) := by
  have posts := Posts.postCoreMap s changed
  refine ⟨by rw [posts.rest], by rw [posts.rest], by rw [posts.rest], fun b hb => s.postCoreMap_regsBut changed b (fun mem => ?_)⟩
  have prog : b = 426304 := List.mem_singleton.mp mem
  have fused : CHIP.CORE_MAP_FUSED.bit 0 0 = 528 := rfl
  unfold stateKey at hb
  omega

theorem setLive (s : State) : s.Charts s.setLive := by
  by_cases same : s.rd CHIP.CORE_MAP_LIVE = s.liveNow
  · rw [State.setLive_same same]
    exact setLevel s
  · unfold State.setLive
    extract_lets old live gen mapped told screened posted
    rw [if_neg same]
    have map : s.Charts mapped := ((wr s live (.inr (.inr (.inl rfl)))).trans (wr _ _ (.inr (.inr (.inr (.inl rfl)))))).trans
      (wr _ _ (.inr (.inr (.inr (.inr (.inl rfl))))))
    have tell : s.Charts told := (map.trans (wr _ _ (.inr (.inr (.inr (.inr (.inr rfl))))))).trans (raise _ live gen (by decide))
    exact ((tell.trans (when _ (raise told 0 4 (by decide)))).trans (when (s := screened) _ (postCoreMap screened _))).trans
      (setLevel posted)

theorem coreState (h : s.Charts t) (c : Nat) : t.coreState c = s.coreState c :=
  State.coreState_congr (State.rd_of_find (h.regs _ stateKey_fused)) (by rw [h.boot]) (by rw [h.boot]) (by rw [h.boot]) c

theorem state (h : s.Charts t) {p : Nat} (hp : 0 < p) : t.rd HDR.STAT_STATE p = s.rd HDR.STAT_STATE p :=
  State.rd_of_find (h.regs _ (stateKey_state hp))

end State.Charts

/-! ### FENCE of a core (R120, R401, R609) -/

theorem mem_corePages {c p : Nat} : p ∈ corePages c ↔ pgFE c ≤ p ∧ p < pgFE c + 8 := by
  simp only [corePages, List.mem_map, List.mem_range]
  exact ⟨by rintro ⟨j, hj, rfl⟩; omega, fun ⟨lo, hi⟩ => ⟨p - pgFE c, by omega, by omega⟩⟩

theorem coreOfPage_of_mem {c p : Nat} (hc : c < 16) (h : p ∈ corePages c) : coreOfPage p = some c := by
  rw [mem_corePages, pgFE] at h
  rw [coreOfPage, if_pos (by simp; omega)]
  exact congrArg some (by omega)

theorem fenceable_of_mem {c p : Nat} (hc : c < 16) (h : p ∈ corePages c) : fenceable p = true := by
  rw [mem_corePages, pgFE] at h
  simp only [fenceable, Bool.or_eq_true, Bool.and_eq_true, decide_eq_true_eq]
  exact .inl (by omega)

/-- A page that can be fenced is the comparator's or one of a core. -/
theorem fenceable_cases {p : Nat} (h : fenceable p = true) : p = pgSERAC ∨ ∃ c, c < 16 ∧ p ∈ corePages c := by
  simp only [fenceable, Bool.or_eq_true, Bool.and_eq_true, decide_eq_true_eq] at h
  refine h.symm.imp id (fun core => ⟨(p - 0x100) / 16, by omega, ?_⟩)
  rw [mem_corePages, pgFE]
  omega

section
variable {s : State} {c p : Nat}

theorem State.setFence_core (hc : c < 16) (h : p ∈ corePages c) (on : Bool) :
    s.setFence p on = if on then s.askSoftFence c else s.liftSoftFence c := by
  rw [State.setFence, fenceable_of_mem hc h, coreOfPage_of_mem hc h]
  rfl

theorem State.setFence_serac (on : Bool) : s.setFence pgSERAC on = s.softComparator on := rfl

theorem State.setFence_other (serac : p ≠ pgSERAC) (core : ∀ c, c < 16 → p ∉ corePages c) (on : Bool) : s.setFence p on = s := by
  have none : fenceable p = false := Bool.eq_false_iff.mpr (fun h => (fenceable_cases h).elim serac (fun ⟨c, hc, mem⟩ => core c hc mem))
  rw [State.setFence, none]
  rfl

end

theorem State.askSoftFence_new {s : State} {c : Nat} (soft : bit s.boot.softFence c = false) (hard : bit s.boot.fenceCores c = false)
    (new : s.serac.softFencing.any (fun e => e.1 = c) = false) : s.askSoftFence c = { s with serac := { s.serac with
      softFencing := s.serac.softFencing ++ [(c, s.ftime + max 1 (min 4000 (s.rd SERAC.DRAIN_MS)) * 100000)] } } := by
  rw [State.askSoftFence, if_neg (by simp [soft, new]), if_neg (by simp [hard])]
  rfl

/-- The pages of a list read the state they were set to. -/
theorem State.setStates_rd (s : State) {v : Nat} (hv : v < 16) {ps : List Nat} {p : Nat} (hp : p ∈ ps) :
    (s.setStates ps v).rd HDR.STAT_STATE p = v := by
  refine State.each_sets (fun t => t.rd HDR.STAT_STATE p) (fun t q hq => t.rd_wr_ne _ _ _ _ _ _ _ ?_) (fun t => ?_) s hp
  · simp only [Row.bit, HDR.STAT_STATE]
    omega
  · rw [State.rd_wr_self]
    exact Nat.mod_eq_of_lt hv

theorem State.setStates_frame (s : State) (ps : List Nat) (v : Nat) : s.setStates ps v = { s with regs := (s.setStates ps v).regs } :=
  State.each_inv (fun t => t = { s with regs := t.regs }) (fun t p h => by rw [h]; rfl) ps s rfl

theorem State.setStates_fused (s : State) (ps : List Nat) (v : Nat) :
    (s.setStates ps v).rd CHIP.CORE_MAP_FUSED = s.rd CHIP.CORE_MAP_FUSED :=
  State.each_inv (fun t => t.rd CHIP.CORE_MAP_FUSED = s.rd CHIP.CORE_MAP_FUSED)
    (fun t p h => (t.rd_wr_ne _ _ _ _ _ _ _ (by simp only [Row.bit, HDR.STAT_STATE, CHIP.CORE_MAP_FUSED]; omega)).trans h) ps s rfl

/-- The software fence of core c is gone, in force or pending; its pages have yet to say so. -/
def State.softLifted (s : State) (c : Nat) : State :=
  { s with serac := { s.serac with softFencing := s.serac.softFencing.filter (fun e => e.1 != c) }
           boot := { s.boot with softFence := clearBit s.boot.softFence c } }

theorem State.liftSoftFence_eq {s : State} {c : Nat} (soft : bit s.boot.softFence c = true)
    (up : s.rd HDR.STAT_STATE (pgFE c) ≠ stRESET) :
    s.liftSoftFence c = ((s.softLifted c).setStates (corePages c) ((s.softLifted c).coreState c)).setLive := by
  unfold State.liftSoftFence
  dsimp only
  rw [if_neg (by simp [State.modSerac, soft])]
  exact if_neg up

theorem State.liftSoftFence_spec {s : State} {c : Nat} (soft : bit s.boot.softFence c = true)
    (up : s.rd HDR.STAT_STATE (pgFE c) ≠ stRESET) : bit (s.liftSoftFence c).boot.softFence c = false ∧
    (s.liftSoftFence c).boot.fenceCores = s.boot.fenceCores ∧
    (s.liftSoftFence c).serac = { s.serac with softFencing := s.serac.softFencing.filter (fun e => e.1 != c) } ∧
    (s.liftSoftFence c).mem = s.mem ∧ ∀ q ∈ corePages c, (s.liftSoftFence c).rd HDR.STAT_STATE q = (s.liftSoftFence c).coreState c := by
  rw [State.liftSoftFence_eq soft up]
  generalize hu : s.softLifted c = u
  have set := u.setStates_frame (corePages c) (u.coreState c)
  have core := State.coreState_congr (u.setStates_fused (corePages c) (u.coreState c)) (by rw [set]) (by rw [set]) (by rw [set]) c
  have rd : ∀ q ∈ corePages c, _ := fun q hq => u.setStates_rd (u.coreState_lt c) hq
  generalize u.setStates (corePages c) (u.coreState c) = v at set core rd ⊢
  have charts := State.Charts.setLive v
  refine ⟨?_, ?_, ?_, ?_, fun q hq => ?_⟩
  · rw [charts.boot, set, ← hu]
    exact bit_clearBit_self _ _
  · rw [charts.boot, set, ← hu]
    rfl
  · rw [charts.serac, set, ← hu]
    rfl
  · rw [charts.mem, set, ← hu]
    rfl
  · have far : 0 < q := by
      rw [mem_corePages, pgFE] at hq
      omega
    rw [charts.state far, rd q hq, charts.coreState, core]

/-! ### FENCE of SERAC (R390, R609) -/

/-- Software fences the comparator: the samples that wait are abandoned. -/
def State.compStopped (s : State) : State := State.abandon { s with boot := { s.boot with softComp := true } } (fun _ => true)

theorem State.compStopped_serac (s : State) : s.compStopped.serac = { s.serac with samples := [] } := by
  have none : s.serac.samples.filter (fun _ => !true) = [] := List.filter_eq_nil_iff.mpr (fun _ _ => by decide)
  show { s.serac with samples := s.serac.samples.filter (fun _ => !true) } = _
  rw [none]

theorem State.softComparator_stops {s : State} (free : s.compFenced = false) :
    s.softComparator true = s.compStopped.raise pgSERAC kSCREEN_DEGRADED 0 1 := by
  unfold State.softComparator
  rw [free]
  rfl

theorem State.softComparator_spec {s : State} (free : s.compFenced = false) (up : s.boot.fltUp = true) :
    (s.softComparator true).boot = { s.boot with softComp := true } ∧
    (s.softComparator true).serac = { s.serac with samples := [] } ∧
    s.raised (s.softComparator true) [tokOf pgSERAC kSCREEN_DEGRADED 0 1] := by
  have running : s.compStopped.boot.fltUp = true := up
  obtain ⟨frame, -⟩ := State.raiseTok_frame running (tokOf pgSERAC kSCREEN_DEGRADED 0 1)
  rw [State.softComparator_stops free]
  refine ⟨(congrArg State.boot frame :), ?_, State.raiseTok_raised running (tokOf pgSERAC kSCREEN_DEGRADED 0 1)⟩
  exact (congrArg State.serac frame :).trans s.compStopped_serac

theorem State.softComparator_false (s : State) : s.softComparator false = { s with boot := { s.boot with softComp := false } } := rfl

/-! ### ENABLE (Table 3-6) -/

theorem State.setEnable_spec (s : State) (p : Nat) (on : Bool) :
    s.setEnable p on = { s with regs := (s.setEnable p on).regs, ladder := (s.setEnable p on).ladder } ∧
    (s.setEnable p on).rd HDR.CTL_ENABLE p = (if on = true then 1 else 0) ∧
    (s.setEnable p on).ladder = (if on = true then s.ladder else { s.ladder with timers := SMap.drop s.ladder.timers p }) ∧
    s.regsBut (s.setEnable p on) [HDR.CTL_ENABLE.bit p 0] := by
  have enable := s.rd_wr_b2n (r := HDR.CTL_ENABLE) rfl on p 0
  have regs : s.regsBut (s.wr HDR.CTL_ENABLE (b2n on) p) [HDR.CTL_ENABLE.bit p 0] := s.regsBut_wr (List.mem_singleton_self _)
  cases on <;> exact ⟨rfl, enable, rfl, regs⟩

/-! ### BLK_ERRINJ (R118, R370) -/

/-- What bit k of a write to BLK_ERRINJ brings: the token it stands for, where it stands for one. -/
def State.injectBit (s : State) (p k : Nat) : State :=
  match kindAt p k with
  | some kind => s.inject p kind
  | none => s

/-- Tokens of these kinds, with INJ, went from page p to FLT, one after the other; BLK_ERR of the page took them. -/
structure State.Injects (p : Nat) (s t : State) (kinds : List Nat) : Prop where
  rest : t = { s with regs := t.regs, fltIn := t.fltIn, pci := t.pci, out := t.out }
  regs : s.regsBut t [HDR.BLK_ERR.bit p 0]
  toks : ∃ l, t.fltIn = s.fltIn ++ l ∧ l.map (·.kind) = kinds ∧ ∀ k ∈ l, k.src = p ∧ k.inj = true

namespace State.Injects
variable {p : Nat} {s t u : State} {ks ks' : List Nat}

theorem refl (s : State) : s.Injects p s [] :=
  ⟨rfl, s.regsBut_refl _, [], (List.append_nil _).symm, rfl, fun _ h => absurd h List.not_mem_nil⟩

theorem trans (h : s.Injects p t ks) (h' : t.Injects p u ks') : s.Injects p u (ks ++ ks') := by
  obtain ⟨l, hl, kinds, marked⟩ := h.toks
  obtain ⟨l', hl', kinds', marked'⟩ := h'.toks
  exact ⟨by rw [h'.rest, h.rest], h.regs.trans h'.regs, l ++ l', by rw [hl', hl, List.append_assoc],
    by rw [List.map_append, kinds, kinds'], fun k hk => (List.mem_append.mp hk).elim (marked k) (marked' k)⟩

theorem raiseTok (up : s.boot.fltUp = true) (k : Tok) {kind : Nat} (src : k.src = p) (inj : k.inj = true) (hk : k.kind = kind) :
    s.Injects p (s.raiseTok k) [kind] := by
  obtain ⟨frame, regs⟩ := State.raiseTok_frame up k
  refine ⟨by rw [frame], src ▸ regs, [s.rising k], State.raiseTok_raised up k, congrArg (fun n => [n]) hk, fun j hj => ?_⟩
  rw [List.mem_singleton.mp hj]
  exact ⟨src, inj⟩

theorem inject (up : s.boot.fltUp = true) (kind : Nat) : s.Injects p (s.inject p kind) [kind] := by
  unfold State.inject
  extract_lets k x
  split
  · exact raiseTok up { k with ctx := x, gen := (s.ctx x).gen } rfl rfl rfl
  · exact raiseTok up k rfl rfl rfl

theorem injectBit (up : s.boot.fltUp = true) (k : Nat) : s.Injects p (s.injectBit p k) (kindAt p k).toList := by
  unfold State.injectBit
  split
  · next kind h => rw [h]; exact inject up kind
  · next h => rw [h]; exact refl s

/-- The bits of a write inject the kinds they stand for, in their order. -/
theorem each (up : s.boot.fltUp = true) (l : List Nat) :
    s.Injects p (s.each l (fun s k => s.injectBit p k)) (l.filterMap (kindAt p)) := by
  induction l generalizing s with
  | nil => exact refl s
  | cons k ks ih =>
    have one := injectBit (p := p) up k
    have kinds : (k :: ks).filterMap (kindAt p) = (kindAt p k).toList ++ ks.filterMap (kindAt p) := by
      cases h : kindAt p k <;> simp [h]
    rw [kinds]
    exact one.trans (ih (by rw [one.rest]; exact up))

end State.Injects

theorem State.errInj_locked {s : State} {p : Nat} (lock : s.on HDR.CTL_LOCK p = true) (v : Nat) : s.errInj p v = s := if_pos lock

theorem State.errInj_unlocked {s : State} {p : Nat} (lock : s.on HDR.CTL_LOCK p = false) (v : Nat) :
    s.errInj p v = s.each ((List.range 32).filter (bit v)) (fun s k => s.injectBit p k) := if_neg (by rw [lock]; decide)

/-! ### BLK_TOKCFG (R358) -/

/-- The fields of BLK_TOKCFG of page p. -/
def tokcfgKeys (p : Nat) : List Nat :=
  [HDR.TOKCFG_OVR_EN.bit p 0, HDR.TOKCFG_OVR_CLASS.bit p 0, HDR.TOKCFG_OVR_KIND.bit p 0, HDR.TOKCFG_RATE.bit p 0]

theorem State.tokCfg_taken {a : Authority} {p v : Nat} (ok : overrideForbidden p v = false) (s : State) :
    s.tokCfg a p v = { s with regs := (s.tokCfg a p v).regs } ∧
    (s.tokCfg a p v).rd HDR.TOKCFG_OVR_EN p = bits v 31 31 ∧ (s.tokCfg a p v).rd HDR.TOKCFG_OVR_CLASS p = bits v 30 28 ∧
    (s.tokCfg a p v).rd HDR.TOKCFG_OVR_KIND p = bits v 23 16 ∧ (s.tokCfg a p v).rd HDR.TOKCFG_RATE p = bits v 15 0 ∧
    s.regsBut (s.tokCfg a p v) (tokcfgKeys p) := by
  have skip : ∀ (t : State) {r r' : Row} (w : Nat), r.pstep = 1 → r'.pstep = 1 → r.bit 0 0 ≠ r'.bit 0 0 →
      (t.wr r w p).rd r' p = t.rd r' p := fun t _ _ w h h' ne => t.rd_wr_ne _ _ _ _ _ _ _ (Row.bit_header_ne h h' ne p)
  rw [State.tokCfg, if_neg (by rw [ok]; decide)]
  refine ⟨rfl, ?_, ?_, ?_, ?_, ?_⟩
  · rw [skip _ _ rfl rfl (by decide), skip _ _ rfl rfl (by decide), skip _ _ rfl rfl (by decide), State.rd_wr_bits _ rfl]
  · rw [skip _ _ rfl rfl (by decide), skip _ _ rfl rfl (by decide), State.rd_wr_bits _ rfl]
  · rw [skip _ _ rfl rfl (by decide), State.rd_wr_bits _ rfl]
  · rw [State.rd_wr_bits _ rfl]
  · exact (((s.regsBut_wr (by simp [tokcfgKeys])).trans (State.regsBut_wr _ (by simp [tokcfgKeys]))).trans
      (State.regsBut_wr _ (by simp [tokcfgKeys]))).trans (State.regsBut_wr _ (by simp [tokcfgKeys]))

/-- A register write that is denied changes no register but BLK_ERR of HOSTIF, which raises CFG_DENIED. -/
theorem State.cfgDenied_spec {s : State} (up : s.boot.fltUp = true) (a : Authority) (off : Nat) :
    s.cfgDenied a off = { s with
      regs := (s.cfgDenied a off).regs, fltIn := (s.cfgDenied a off).fltIn
      pci := (s.cfgDenied a off).pci, out := (s.cfgDenied a off).out } ∧
    s.raised (s.cfgDenied a off) [tokOf pgHOSTIF kCFG_DENIED (accessAddr a off) 4] ∧
    s.regsBut (s.cfgDenied a off) [HDR.BLK_ERR.bit pgHOSTIF 0] := by
  obtain ⟨frame, raised, -, -, regs⟩ := State.hostifRaised_raiseTok up (k := tokOf pgHOSTIF kCFG_DENIED (accessAddr a off) 4) rfl
  exact ⟨frame, raised, regs⟩

theorem State.tokCfg_denied {s : State} {p v : Nat} (bad : overrideForbidden p v = true) (a : Authority) :
    s.tokCfg a p v = s.cfgDenied a (p * 4096 + 0x24) := if_pos bad

/-! ### The rows of the table -/

section
variable {s : State} {a : Authority} {p : Nat}

theorem blkLockSet_run (h : s.lets a (p * 4096 + 0x10) 4 HDR.CTL_LOCK) :
    exec (.blkLockSet a p) s = .next (s.wr HDR.CTL_LOCK 1 p) := congrArg Host.Outcome.next (State.headerWrite_of_lets h _)

theorem blkQuiesceWrite_run (on : Bool) (h : s.lets a (p * 4096 + 0x10) 4 HDR.CTL_QUIESCE) :
    exec (.blkQuiesceWrite a p on) s = .next (s.wr HDR.CTL_QUIESCE (b2n on) p) :=
  congrArg Host.Outcome.next (State.headerWrite_of_lets h _)

theorem blkTestHoldWrite_run (on : Bool) (h : s.lets a (p * 4096 + 0x10) 4 HDR.CTL_TEST_HOLD) :
    exec (.blkTestHoldWrite a p on) s = .next (s.setTestHold p on) := congrArg Host.Outcome.next (State.headerWrite_of_lets h _)

theorem blkFenceWrite_run (on : Bool) (h : s.lets a (p * 4096 + 0x10) 4 HDR.CTL_FENCE) :
    exec (.blkFenceWrite a p on) s = .next (s.setFence p on) := congrArg Host.Outcome.next (State.headerWrite_of_lets h _)

theorem blkEnableWrite_run (on : Bool) (h : s.lets a (p * 4096 + 0x10) 4 HDR.CTL_ENABLE) :
    exec (.blkEnableWrite a p on) s = .next (s.setEnable p on) := congrArg Host.Outcome.next (State.headerWrite_of_lets h _)

theorem blkErrinjWrite_run (v : Nat) (h : s.lets a (p * 4096 + 0x20) 4 HDR.BLK_ERRINJ) :
    exec (.blkErrinjWrite a p v) s = .next (s.errInj p v) := congrArg Host.Outcome.next (State.headerWrite_of_lets h _)

theorem blkTokcfgWrite_run (v : Nat) (h : s.lets a (p * 4096 + 0x24) 4 HDR.TOKCFG_OVR_EN) :
    exec (.blkTokcfgWrite a p v) s = .next (s.tokCfg a p v) := congrArg Host.Outcome.next (State.headerWrite_of_lets h _)

theorem blkFenceWrite_asks {c : Nat} (h : s.lets a (p * 4096 + 0x10) 4 HDR.CTL_FENCE) (hc : c < 16) (mem : p ∈ corePages c)
    (soft : bit s.boot.softFence c = false) (hard : bit s.boot.fenceCores c = false)
    (new : s.serac.softFencing.any (fun e => e.1 = c) = false) :
    exec (.blkFenceWrite a p true) s = .next { s with serac := { s.serac with
      softFencing := s.serac.softFencing ++ [(c, s.ftime + max 1 (min 4000 (s.rd SERAC.DRAIN_MS)) * 100000)] } } := by
  rw [blkFenceWrite_run true h, State.setFence_core hc mem, if_pos rfl, State.askSoftFence_new soft hard new]

theorem blkFenceWrite_lifts {c : Nat} (h : s.lets a (p * 4096 + 0x10) 4 HDR.CTL_FENCE) (hc : c < 16) (mem : p ∈ corePages c)
    (soft : bit s.boot.softFence c = true) (up : s.rd HDR.STAT_STATE (pgFE c) ≠ stRESET) :
    ∃ t, exec (.blkFenceWrite a p false) s = .next t ∧ bit t.boot.softFence c = false ∧ t.boot.fenceCores = s.boot.fenceCores ∧
      t.serac = { s.serac with softFencing := s.serac.softFencing.filter (fun e => e.1 != c) } ∧ t.mem = s.mem ∧
      ∀ q ∈ corePages c, t.rd HDR.STAT_STATE q = t.coreState c := by
  refine ⟨_, ?_, State.liftSoftFence_spec soft up⟩
  rw [blkFenceWrite_run false h, State.setFence_core hc mem]
  rfl

theorem blkFenceWrite_serac (h : s.lets a (pgSERAC * 4096 + 0x10) 4 HDR.CTL_FENCE) (free : s.compFenced = false)
    (up : s.boot.fltUp = true) : ∃ t, exec (.blkFenceWrite a pgSERAC true) s = .next t ∧ t.boot = { s.boot with softComp := true } ∧
      t.serac = { s.serac with samples := [] } ∧ s.raised t [tokOf pgSERAC kSCREEN_DEGRADED 0 1] :=
  ⟨_, (blkFenceWrite_run true h).trans (by rw [State.setFence_serac]), State.softComparator_spec free up⟩

theorem blkErrinjWrite_spec (v : Nat) (h : s.lets a (p * 4096 + 0x20) 4 HDR.BLK_ERRINJ) :
    (s.on HDR.CTL_LOCK p = true → exec (.blkErrinjWrite a p v) s = .next s) ∧
    (s.on HDR.CTL_LOCK p = false → s.boot.fltUp = true → ∃ t, exec (.blkErrinjWrite a p v) s = .next t ∧
      t = { s with regs := t.regs, fltIn := t.fltIn, pci := t.pci, out := t.out } ∧ s.regsBut t [HDR.BLK_ERR.bit p 0] ∧
      ∃ l, t.fltIn = s.fltIn ++ l ∧ l.map (·.kind) = ((List.range 32).filter (bit v)).filterMap (kindAt p) ∧
        ∀ k ∈ l, k.src = p ∧ k.inj = true) := by
  rw [blkErrinjWrite_run v h]
  refine ⟨fun lock => by rw [State.errInj_locked lock], fun lock up => ?_⟩
  rw [State.errInj_unlocked lock]
  have injects := State.Injects.each (p := p) up ((List.range 32).filter (bit v))
  exact ⟨_, rfl, injects.rest, injects.regs, injects.toks⟩

theorem blkTokcfgWrite_spec (v : Nat) (h : s.lets a (p * 4096 + 0x24) 4 HDR.TOKCFG_OVR_EN) :
    (overrideForbidden p v = false → ∃ t, exec (.blkTokcfgWrite a p v) s = .next t ∧ t = { s with regs := t.regs } ∧
      t.rd HDR.TOKCFG_OVR_EN p = bits v 31 31 ∧ t.rd HDR.TOKCFG_OVR_CLASS p = bits v 30 28 ∧
      t.rd HDR.TOKCFG_OVR_KIND p = bits v 23 16 ∧ t.rd HDR.TOKCFG_RATE p = bits v 15 0 ∧ s.regsBut t (tokcfgKeys p)) ∧
    (overrideForbidden p v = true → s.boot.fltUp = true → ∃ t, exec (.blkTokcfgWrite a p v) s = .next t ∧
      t = { s with regs := t.regs, fltIn := t.fltIn, pci := t.pci, out := t.out } ∧
      s.raised t [tokOf pgHOSTIF kCFG_DENIED (accessAddr a (p * 4096 + 0x24)) 4] ∧ s.regsBut t [HDR.BLK_ERR.bit pgHOSTIF 0]) := by
  rw [blkTokcfgWrite_run v h]
  refine ⟨fun ok => ⟨_, rfl, s.tokCfg_taken ok⟩, fun bad up => ⟨_, rfl, ?_⟩⟩
  rw [State.tokCfg_denied bad]
  exact State.cfgDenied_spec up a _

end

/-- Settles O48: each clause is the lemma of its row. -/
theorem pageHeaders : Obligations.PageHeaders := by
  intro s a p _
  have alone : ∀ (r : Row) (v : Nat), s.regsBut (s.wr r v p) [r.bit p 0] := fun _ _ => s.regsBut_wr (List.mem_singleton_self _)
  refine ⟨fun h => ⟨_, blkLockSet_run h, rfl, s.rd_wr_self .., alone _ _⟩,
    fun on h => ⟨_, blkQuiesceWrite_run on h, rfl, s.rd_wr_b2n rfl .., alone _ _⟩,
    fun on h => ⟨_, blkTestHoldWrite_run on h, s.setTestHold_spec p on⟩,
    fun h => ⟨fun c hc mem => ⟨blkFenceWrite_asks h hc mem, blkFenceWrite_lifts h hc mem⟩, ?_, ?_, fun on serac core => ?_⟩,
    fun on h => ⟨_, blkEnableWrite_run on h, s.setEnable_spec p on⟩, blkErrinjWrite_spec, blkTokcfgWrite_spec⟩
  · rintro rfl
    exact blkFenceWrite_serac h
  · rintro rfl
    rw [blkFenceWrite_run false h, State.setFence_serac, State.softComparator_false]
  · rw [blkFenceWrite_run on h, State.setFence_other serac core]

end Sys2Proof.Machine
end

section
/-! What the end of a context's work leaves as it was: HOSTIF's own registers, the functions, and the other contexts' place in Table 7-1
(Table 14-4). -/
namespace Sys2Proof.Machine

/-- A field of HOSTIF's own registers, past its header. -/
def hostifKey (b : Nat) : Prop := b / 32768 = 13 ∧ 512 ≤ b % 32768

/-- Where a context stands: its state, the reset that reached it, and whether its release zeroes. -/
def Ctx.standing (c : Ctx) : CtxState × Option CtxReset × Bool := (c.state, c.reset, c.zeroing)

/-- From s to t no register of HOSTIF's own changed, nor which functions exist, nor where a context outside X stands. -/
structure State.Spares (X : Nat → Prop) (s t : State) : Prop where
  regs : ∀ b, hostifKey b → SMap.find t.regs b = SMap.find s.regs b
  pci : t.pci = { s.pci with msix := t.pci.msix }
  ctx : ∀ x, ¬ X x → (t.ctx x).standing = (s.ctx x).standing

namespace State.Spares
variable {X Y : Nat → Prop} {s t u : State}

theorem refl (s : State) : s.Spares X s := ⟨fun _ _ => rfl, rfl, fun _ _ => rfl⟩

theorem trans (h : s.Spares X t) (h' : t.Spares X u) : s.Spares X u :=
  ⟨fun b hb => (h'.regs b hb).trans (h.regs b hb), by rw [h'.pci, h.pci], fun x hx => (h'.ctx x hx).trans (h.ctx x hx)⟩

theorem mono (h : s.Spares X t) (hX : ∀ x, X x → Y x) : s.Spares Y t :=
  ⟨h.regs, h.pci, fun x hx => h.ctx x (fun hx' => hx (hX x hx'))⟩

theorem each {α : Type} {f : State → α → State} (hf : ∀ (t : State) x, t.Spares X (f t x)) (s : State) (l : List α) :
    s.Spares X (s.each l f) :=
  State.each_inv (s.Spares X) (fun t x h => h.trans (hf t x)) l s (refl s)

theorem when {f : State → State} (c : Bool) (hf : s.Spares X (f s)) : s.Spares X (s.when c f) := by
  unfold State.when
  split
  · exact hf
  · exact refl s

/-- A change of neither registers, functions nor contexts. -/
theorem still (regs : t.regs = s.regs) (pci : t.pci = s.pci) (ctxs : t.ctxs = s.ctxs) : s.Spares X t :=
  ⟨fun _ _ => by rw [regs], by rw [pci], fun x _ => by rw [State.ctx, State.ctx, ctxs]⟩

theorem wr (s : State) {r : Row} (v k i : Nat) (h : ¬ hostifKey (r.bit k i)) : s.Spares X (s.wr r v k i) :=
  ⟨fun _ hb => s.find_wr_ne (fun e => h (e ▸ hb)), rfl, fun _ _ => rfl⟩

/-- A register of a page past HOSTIF's. -/
theorem wr_far (s : State) {r : Row} (v k i : Nat) (h : 13 < r.page) : s.Spares X (s.wr r v k i) := by
  refine wr s v k i (fun own => ?_)
  unfold hostifKey Row.bit at own
  generalize r.pstep * k = m at own
  generalize r.stride * i = n at own
  omega

/-- A register of the page header. -/
theorem wr_header (s : State) {r : Row} (v k : Nat) (h : r.bit 0 0 < 512) (step : r.pstep = 1) : s.Spares X (s.wr r v k) := by
  refine wr s v k 0 (fun own => ?_)
  simp only [hostifKey, Row.bit, step] at own h
  omega

theorem of_reports {K : Nat → Prop} (h : s.Reports K t) (hK : ∀ b, K b → ¬ hostifKey b) : s.Spares X t :=
  ⟨fun b hb => h.regs b (fun hk => hK b hk hb), by rw [h.rest], fun x _ => by rw [h.rest]; rfl⟩

theorem setCtx (s : State) (x : Nat) (c : Ctx) (h : c.standing = (s.ctx x).standing) : s.Spares X (s.setCtx x c) := by
  refine ⟨fun _ _ => rfl, rfl, fun y _ => ?_⟩
  rw [State.ctx_setCtx]
  split
  · next e => rw [h, e]
  · rfl

theorem finish (s : State) (x qn ssn status detail : Nat) : s.Spares X (s.finish x qn ssn status detail) := setCtx s x _ rfl

theorem modCore (s : State) (c : Nat) (f : Core → Core) : s.Spares X (s.modCore c f) := still rfl rfl rfl

theorem modHbm (s : State) (k : Nat) (f : HbmStack → HbmStack) : s.Spares X (s.modHbm k f) := still rfl rfl rfl

theorem modPort (s : State) (p : Nat) (f : NlPort → NlPort) : s.Spares X (s.modPort p f) := still rfl rfl rfl

theorem modLadder (s : State) (f : Ladder → Ladder) : s.Spares X (s.modLadder f) := still rfl rfl rfl

theorem modSerac (s : State) (f : Serac → Serac) : s.Spares X (s.modSerac f) := still rfl rfl rfl

theorem modBarrier (s : State) (f : Barrier → Barrier) : s.Spares X (s.modBarrier f) := still rfl rfl rfl

theorem modFirn (s : State) (f : Firn → Firn) : s.Spares X (s.modFirn f) := still rfl rfl rfl

theorem withFabric (s : State) (f : Fabric) : s.Spares X { s with fabric := f } := still rfl rfl rfl

theorem withMarks (s : State) (corrected uncorrectable : List Nat) :
    s.Spares X { s with marksC := corrected, marksU := uncorrectable } := still rfl rfl rfl

theorem store (s : State) (a : Nat) (bs : List Byte) : s.Spares X (s.store a bs) := still rfl rfl rfl

/-! ### Tokens and memory (R116, R211 to R222, R460, R610) -/

theorem raiseTok (s : State) {k : Tok} (h : droneKind k.kind = false) : s.Spares X (s.raiseTok k) :=
  of_reports (State.Reports.raiseTok s (.inr h) (errKey_err k.src)) (fun b err own => by
    unfold errKey at err
    unfold hostifKey at own
    omega)

theorem raise (s : State) {src kind : Nat} (addr detail : Nat) (h : droneKind kind = false) :
    s.Spares X (s.raise src kind addr detail) := raiseTok s h

theorem raiseCtx (s : State) {src kind : Nat} (x addr detail : Nat) (h : droneKind kind = false) :
    s.Spares X (s.raiseCtx src kind x addr detail) := raiseTok s h

theorem logUe (s : State) (k off : Nat) : s.Spares X (s.logUe k off) := by
  unfold State.logUe
  split
  · exact refl s
  · exact ((wr_far s _ _ _ (by decide)).trans (wr_far _ _ _ _ (by decide))).trans (wr_far _ _ _ _ (by decide))

theorem memUe (s : State) (a : Nat) : s.Spares X (s.memUe a) := by
  unfold State.memUe
  split
  · exact raise _ _ _ (by decide)
  · exact (logUe ..).trans (raise _ _ _ (by decide))
  · exact refl s

theorem spadCe (s : State) (c a : Nat) : s.Spares X (s.spadCe c a) := by
  unfold State.spadCe
  extract_lets repeated unmarked counted seen
  have count : s.Spares X counted := (withMarks s _ s.marksU).trans (wr_far unmarked _ _ _ (by decide))
  exact (count.trans (modCore counted _ _)).trans (raise seen _ _ (by split <;> decide))

theorem hbmCe (s : State) (k a : Nat) : s.Spares X (s.hbmCe k a) := by
  unfold State.hbmCe
  extract_lets repeated unmarked counted seen
  have count : s.Spares X counted := (withMarks s _ s.marksU).trans (wr_far unmarked _ _ _ (by decide))
  exact (count.trans (modHbm counted _ _)).trans (raise seen _ _ (by split <;> decide))

theorem mend (s : State) (ms : List Nat) : s.Spares X (s.mend ms) := by
  refine each (fun t m => ?_) s ms
  split
  · exact spadCe ..
  · exact hbmCe ..
  · exact refl t

theorem served (s : State) (a n : Nat) : s.Spares X (s.served a n) := by
  unfold State.served
  dsimp only
  split
  · exact wr_header _ _ _ (by decide) rfl
  · exact wr_header _ _ _ (by decide) rfl
  · exact refl s

theorem readMem (s : State) (a n : Nat) : s.Spares X (s.readMem a n).1 := by
  have check : s.Spares X (s.readCheck a n).1 := by
    unfold State.readCheck
    split
    · exact refl s
    · split
      · exact memUe ..
      · exact (mend ..).trans (served ..)
  unfold State.readMem
  split <;> next h => rw [h] at check; exact check

theorem writeMem (s : State) (a : Nat) (bs : List Byte) : s.Spares X (s.writeMem a bs).1 := by
  unfold State.writeMem
  extract_lets n
  split
  · exact refl s
  · split
    · exact memUe ..
    · exact (((mend s _).trans (withMarks _ _ _)).trans (store ..)).trans (served ..)

/-- The capture record of a reset goes to memory. -/
theorem capture (s : State) (level domain : Nat) (cause : Option Tok) (xs cores : List Nat) :
    s.Spares X (s.capture level domain cause xs cores) := by
  unfold State.capture
  extract_lets read bs off written noted
  split
  · exact refl s
  · have samples : s.Spares X read := each (fun t _ => mend t _) s _
    have write : s.Spares X written := samples.trans (writeMem ..)
    have note : s.Spares X noted := write.trans (modLadder ..)
    exact (note.trans (wr _ _ _ _ (by unfold hostifKey; decide))).trans (wr _ _ _ _ (by unfold hostifKey; decide))

/-! ### Flits, collectives and the barrier (R325 to R327, R337, R342) -/

theorem reopen (s : State) (dst : Nat) : s.Spares X (s.reopen dst) := withFabric s _

theorem endDispatch (s : State) (c d status detail : Nat) : s.Spares X (s.endDispatch c d status detail) := still rfl rfl rfl

theorem remoteLost (s : State) (r : Remote) : s.Spares X (s.remoteLost r) := by
  unfold State.remoteLost
  extract_lets fabric dropped counted told
  have count : s.Spares X counted := ((withFabric s _).trans (when (s := dropped) _ (reopen dropped _))).trans
    (wr_far _ _ _ _ (r := FABRIC.FAB_CNT_LOST) (by decide))
  have tell : s.Spares X told := count.trans (raiseTok _ (show droneKind kPEER_LOST = false by decide))
  split
  · exact tell.trans (endDispatch ..)
  · exact tell

theorem chargeStack (s : State) (x a n : Nat) : s.Spares X (s.chargeStack x a n) := by
  unfold State.chargeStack
  split
  · exact modHbm ..
  · exact refl s

theorem collWrite (s : State) (c : Coll) {f : State → State} (hf : ∀ t : State, t.Spares X (f t)) : s.Spares X (s.collWrite c f) := by
  unfold State.collWrite State.reading
  have read : s.Spares X ((s.chargeStack c.ctx c.dst c.outLen).readMem c.stage c.outLen).1 := (chargeStack ..).trans (readMem ..)
  split
  · next t bs h =>
    rw [h] at read
    refine read.trans ?_
    dsimp only
    unfold State.writing
    have write : t.Spares X (t.writeMem c.dst bs).1 := writeMem ..
    split
    · next h' => rw [h'] at write; exact write.trans (hf _)
    · next h' => rw [h'] at write; exact write
  · next h => rw [h] at read; exact read

theorem collFail (s : State) (c : Coll) : s.Spares X (s.collFail c) := by
  unfold State.collFail
  extract_lets committed written fabric dropped ended
  have write : s.Spares X written := by
    unfold written
    split
    · exact collWrite s c refl
    · exact refl s
  exact ((write.trans (withFabric ..)).trans (finish dropped ..)).trans (raiseCtx ended _ _ _ (by decide))

theorem oweCredit (s : State) (p cls : Nat) : s.Spares X (s.oweCredit p cls) := by
  unfold State.oweCredit
  split
  · exact modPort ..
  · exact refl s

theorem launch (s : State) (f : DataFlit) (port : Nat) : s.Spares X (s.launch f port).1 := by
  unfold State.launch
  split
  · exact (modPort ..).trans (oweCredit ..)
  · exact withFabric ..
  · exact oweCredit ..

theorem sessioned (s : State) (f : DataFlit) : s.Spares X (s.sessioned f).1 := by
  unfold State.sessioned
  extract_lets d fresh drew fabric drawn counter
  have draw : s.Spares X drawn := by
    unfold drawn
    split
    · exact still rfl rfl rfl
    · exact refl s
  exact draw.trans (withFabric ..)

theorem ownLostBy (s : State) (f : DataFlit) {tell : State → List DataFlit → State} (ht : ∀ (t : State) fs, t.Spares X (tell t fs)) :
    s.Spares X (s.ownLostBy f tell) := by
  unfold State.ownLostBy
  split
  · exact remoteLost ..
  · split
    · exact ((when _ (reopen s _)).trans (collFail ..)).trans (ht ..)
    · exact refl s

theorem sendAll (s : State) (n : Nat) (fs : List DataFlit) : s.Spares X (s.sendAll n fs) := by
  induction n generalizing s fs with
  | zero => exact refl s
  | succ n ih =>
    refine each (fun t f => ?_) s fs
    extract_lets own r l dropped
    have named : t.Spares X r.1 := by
      unfold r
      split
      · exact sessioned ..
      · exact refl t
    have sent : t.Spares X l.1 := named.trans (launch ..)
    have drop : t.Spares X dropped := sent.trans (wr_far _ _ _ _ (by decide))
    split
    · exact sent
    · split
      · exact drop.trans (ownLostBy dropped f ih)
      · exact drop.trans (ih ..)

theorem collAbort (s : State) (c : Coll) : s.Spares X (s.collAbort c) := (collFail s c).trans (sendAll ..)

theorem sendOn (s : State) (p op bgen aux hops : Nat) (body : List Byte) : s.Spares X (s.sendOn p op bgen aux hops body) := by
  unfold State.sendOn
  extract_lets f r
  exact (sessioned s _).trans (modPort r.1 ..)

theorem nextBarrier (s : State) : s.Spares X s.nextBarrier := by
  unfold State.nextBarrier
  extract_lets now emptied
  exact (modBarrier s _).trans (wr_far emptied _ _ _ (by decide))

theorem barAbort (s : State) (port : Option Nat) : s.Spares X (s.barAbort port) := by
  unfold State.barAbort
  extract_lets g x ports ended told sent
  have stop : s.Spares X ended := each (fun t b => finish t ..) s _
  have tell : s.Spares X told := (stop.trans (wr_far ended _ _ _ (by decide))).trans (raiseCtx _ _ _ _ (by decide))
  have send : s.Spares X sent := tell.trans (each (fun t p => sendOn t ..) told _)
  exact (send.trans (wr_far sent _ _ _ (by decide))).trans (nextBarrier _)

/-! ### A context's own work (R442, R480, Tables 14-4 and 15-1) -/

theorem answerOp (s : State) (op : FirnOp) (status detail : Nat) : s.Spares X (s.answerOp op status detail) := by
  unfold State.answerOp
  split
  · exact finish ..
  · exact refl s

theorem cutFirn (s : State) (x : Nat) : s.Spares X (s.cutFirn x) := by
  unfold State.cutFirn
  extract_lets fs ts cut again
  have refetch : cut.Spares X again := by
    refine each (fun t o => ?_) cut fs
    split
    · exact setCtx t _ _ rfl
    · exact refl t
  exact (((modFirn s _).trans refetch).trans (each (fun t o => answerOp t ..) again ts)).trans (modFirn _ _)

theorem stopCtx (s : State) (x : Nat) : s.Spares X (s.stopCtx x) := by
  unfold State.stopCtx
  extract_lets stopped
  have stop : s.Spares X stopped := each (fun t c => modCore t c _) s _
  exact stop.trans (still rfl rfl rfl)

theorem abandon (s : State) (p : Sample → Bool) : s.Spares X (s.abandon p) := by
  unfold State.abandon
  extract_lets gone dropped
  exact (modSerac s _).trans (wr dropped _ _ _ (by unfold hostifKey; decide))

theorem recordLast (s : State) (r : Start) : s.Spares X (s.recordLast r) := by
  have last : ∀ (t : State) (r : Row) (v : Nat), r.bit 0 0 / 32768 = 10 → t.Spares X (t.wr r v) :=
    fun t r v page => wr t v 0 0 (fun own => absurd (page.symm.trans own.1) (by decide))
  unfold State.recordLast
  extract_lets u v w
  have levelSrc : s.Spares X u := (last s _ _ (by decide)).trans (last _ _ _ (by decide))
  have kindHost : s.Spares X v := (levelSrc.trans (last _ _ _ (by decide))).trans (last _ _ _ (by decide))
  have ovrCasc : s.Spares X w := (kindHost.trans (last _ _ _ (by decide))).trans (last _ _ _ (by decide))
  exact ovrCasc.trans (last _ _ _ (by decide))

end State.Spares

/-! ### A context reset (R442, R452, Table 14-4) -/

/-- A context that a reset may take: it is owned, none reaches it yet, and its release does not zero. -/
def Ctx.takeable (c : Ctx) : Prop := c.standing = (.owned, none, false)

/-- A reset has the context. -/
def Ctx.taken (c : Ctx) : Prop := c.state = .recovering ∧ c.reset.isSome = true

theorem Ctx.taken_congr {c d : Ctx} (h : c.standing = d.standing) : c.taken ↔ d.taken := by
  obtain ⟨state, reset, -⟩ : c.state = d.state ∧ c.reset = d.reset ∧ c.zeroing = d.zeroing := by simpa [Ctx.standing] using h
  rw [Ctx.taken, Ctx.taken, state, reset]

/-- Everything of a context that a reset took stops: its work on the cores, its samples, its collectives and its barrier. -/
def State.worksStopped (s : State) (x : Nat) : State :=
  let s := (s.stopCtx x).abandon (fun p => p.pass.ctx = x)
  let s := s.each (s.fabric.colls.filter (fun k => k.ctx = x)) State.collAbort
  if s.barrier.cmds.any (fun b => b.ctx = x) then s.barAbort none else s

theorem State.worksStopped_spares {X : Nat → Prop} (s : State) (x : Nat) : s.Spares X (s.worksStopped x) := by
  unfold State.worksStopped
  extract_lets stopped aborted
  have stop : s.Spares X stopped := (State.Spares.stopCtx ..).trans (.abandon ..)
  have abort : s.Spares X aborted := stop.trans (.each .collAbort stopped _)
  split
  · exact abort.trans (.barAbort ..)
  · exact abort

/-- The context is RECOVERING, its pending interrupts dropped, with a reset of this level. -/
def State.recovering (s : State) (x level : Nat) (failed release : Bool) : State :=
  s.modCtx x (fun c => { c with state := .recovering, freezing := false, evicted := false, pending := 0, firstPending := none, deficit := 0
                                reset := some { level := level, failed := failed, release := release } })

section
variable (s : State) (x level : Nat) (failed release : Bool)

theorem State.ctxResetStart_first (h : (s.ctx x).takeable) : s.ctxResetStart x level failed release =
    ((s.cutFirn x).recovering x level failed release).worksStopped x := by
  obtain ⟨state, reset, zeroing⟩ : (s.ctx x).state = .owned ∧ (s.ctx x).reset = none ∧ (s.ctx x).zeroing = false := by
    simpa [Ctx.takeable, Ctx.standing] using h
  unfold State.ctxResetStart
  dsimp only
  rw [if_neg (by simp [state, zeroing]), reset]
  rfl

/-- A context reset takes no other context, and changes neither the functions nor a register of HOSTIF's own. -/
theorem State.ctxResetStart_spares : s.Spares (· = x) (s.ctxResetStart x level failed release) := by
  have own : ∀ (t : State) (c : Ctx), t.Spares (· = x) (t.setCtx x c) := fun t c =>
    ⟨fun _ _ => rfl, rfl, fun y hy => by rw [State.ctx_setCtx, if_neg (Ne.symm hy)]⟩
  unfold State.ctxResetStart
  extract_lets c cut taken stopped aborted
  split
  · exact .refl s
  · split
    · exact own ..
    · exact (((State.Spares.cutFirn s x).trans (own ..)).trans (State.worksStopped_spares _ x))

/-- A context that a reset may take is taken, and one that is taken stays so. -/
theorem State.ctxResetStart_takes (h : (s.ctx x).takeable ∨ (s.ctx x).taken) :
    ((s.ctxResetStart x level failed release).ctx x).taken := by
  rcases h with takeable | taken
  · have stops := State.worksStopped_spares (X := fun _ => False) ((s.cutFirn x).recovering x level failed release) x
    rw [State.ctxResetStart_first _ _ _ _ _ takeable, Ctx.taken_congr (stops.ctx x not_false)]
    rw [State.recovering, State.modCtx, State.ctx_setCtx_self]
    exact ⟨rfl, rfl⟩
  · obtain ⟨state, some⟩ := taken
    obtain ⟨r, reset⟩ := Option.isSome_iff_exists.mp some
    unfold State.ctxResetStart
    dsimp only
    split
    · exact ⟨state, some⟩
    · rw [reset]
      dsimp only
      rw [State.ctx_setCtx_self]
      exact ⟨state, rfl⟩

end

/-- The reset of a context by itself is noted and its capture record written. -/
def State.resetNoted (s : State) (r : Start) : State :=
  (if r.cause.isSome then s.recordLast r else s).capture 1 r.domain r.cause [r.domain] []

theorem State.resetNoted_spares {X : Nat → Prop} (s : State) (r : Start) : s.Spares X (s.resetNoted r) := by
  unfold State.resetNoted
  split
  · exact (State.Spares.recordLast s r).trans (.capture ..)
  · exact .capture ..

/-- A context that is not owned or is lost is left alone; another is reset, within a reset that runs or with a record of its own. -/
theorem State.resetContext_cases (s : State) (r : Start) (release : Bool) (level : Nat) :
    ((!(s.ctx r.domain).owned || (s.ctx r.domain).state = .lost) = true ∧ s.resetContext r release level = s) ∨
    s.resetContext r release level = s.ctxResetStart r.domain level false release ∨
    ∃ f, s.resetContext r release level = ((s.resetNoted r).ctxResetStart r.domain level false release).modLadder f := by
  unfold State.resetContext
  dsimp only
  split
  · next none => exact .inl ⟨none, rfl⟩
  · split
    · exact .inr (.inl rfl)
    · exact .inr (.inr ⟨_, rfl⟩)

theorem State.resetContext_spares (s : State) (r : Start) (release : Bool) (level : Nat) :
    s.Spares (· = r.domain) (s.resetContext r release level) := by
  rcases s.resetContext_cases r release level with ⟨-, same⟩ | begun | ⟨f, noted⟩
  · rw [same]
    exact .refl s
  · rw [begun]
    exact s.ctxResetStart_spares ..
  · rw [noted]
    exact ((s.resetNoted_spares r).trans (State.ctxResetStart_spares ..)).trans (.modLadder ..)

theorem State.resetContext_takes (s : State) (r : Start) (release : Bool) (level : Nat)
    (h : (s.ctx r.domain).takeable ∨ (s.ctx r.domain).taken) : ((s.resetContext r release level).ctx r.domain).taken := by
  rcases s.resetContext_cases r release level with ⟨none, -⟩ | begun | ⟨f, noted⟩
  · have present : (s.ctx r.domain).state = .owned ∨ (s.ctx r.domain).state = .recovering := h.imp (congrArg Prod.fst) And.left
    rcases present with state | state <;> simp [Ctx.owned, state] at none
  · rw [begun]
    exact s.ctxResetStart_takes _ _ _ _ h
  · have same := (s.resetNoted_spares (X := fun _ => False) r).ctx r.domain not_false
    rw [noted]
    refine State.ctxResetStart_takes _ _ _ _ _ (h.imp (fun takeable => same.trans takeable) (Ctx.taken_congr same).mpr)

/-- Resets of a list of contexts take each of them that can be taken. -/
theorem State.resetContexts_takes {s : State} {xs : List Nat} {x : Nat} (hx : x ∈ xs) (h : (s.ctx x).takeable) :
    ((s.each xs (fun s x => s.resetContext { level := 1, domain := x } false 5)).ctx x).taken := by
  have others : ∀ (t : State) (y : Nat), y ≠ x →
      ((t.resetContext { level := 1, domain := y } false 5).ctx x).standing = (t.ctx x).standing :=
    fun t y hy => (t.resetContext_spares _ _ _).ctx x (Ne.symm hy)
  have takes : ∀ t : State, (t.ctx x).takeable ∨ (t.ctx x).taken →
      ((t.resetContext { level := 1, domain := x } false 5).ctx x).taken :=
    fun t => t.resetContext_takes { level := 1, domain := x } false 5
  refine State.each_reaches (I := fun t => (t.ctx x).takeable ∨ (t.ctx x).taken) (Q := fun t => (t.ctx x).taken) (fun t y _ ready => ?_)
    (fun t y _ hy _ => (Ctx.taken_congr (others t y hy)).mpr) takes (.inl h) (.inl hx)
  by_cases hy : y = x
  · rw [hy]
    exact .inr (takes t ready)
  · exact ready.imp (fun takeable => (others t y hy).trans takeable) (Ctx.taken_congr (others t y hy)).mpr

theorem State.resetContexts_spares (s : State) (xs : List Nat) :
    s.Spares (fun _ => True) (s.each xs (fun s x => s.resetContext { level := 1, domain := x } false 5)) :=
  State.Spares.each (fun t _ => (t.resetContext_spares _ _ _).mono (fun _ _ => trivial)) s xs

end Sys2Proof.Machine
end

section
/-! Virtual functions: Function Level Reset, NumVFs, VF Enable and the ranges of contexts (O49). -/
namespace Sys2Proof.Machine

/-! ### Function Level Reset (R103, R104) -/

theorem hostifKey_busy : hostifKey (HOSTIF.FLR_STAT_BUSY.bit 0 0) := by unfold hostifKey; decide

/-- Bit k of a field keeps through a write of the field that keeps it. -/
theorem State.bit_rd_wr (s : State) {r : Row} {v k i j : Nat} (h : j < r.width) : bit ((s.wr r v k i).rd r k i) j = bit v j := by
  rw [State.rd_wr_self, bit_eq_testBit, bit_eq_testBit, Nat.testBit_mod_two_pow, decide_eq_true h, Bool.true_and]

/-- The reset of VF v is in progress. -/
def State.flrMarked (s : State) (v : Nat) : State := s.wr HOSTIF.FLR_STAT_BUSY (setBit (s.rd HOSTIF.FLR_STAT_BUSY) (v - 1))

theorem State.flrMarked_busy (s : State) {v : Nat} (hv : v < 64) : bit ((s.flrMarked v).rd HOSTIF.FLR_STAT_BUSY) (v - 1) = true := by
  rw [State.flrMarked, State.bit_rd_wr _ (show v - 1 < 63 by omega)]
  exact bit_setBit_self ..

theorem State.flrMarked_keeps (s : State) (v : Nat) {j : Nat} (hj : j < 63) (h : bit (s.rd HOSTIF.FLR_STAT_BUSY) j = true) :
    bit ((s.flrMarked v).rd HOSTIF.FLR_STAT_BUSY) j = true := by
  rw [State.flrMarked, State.bit_rd_wr _ (show j < 63 from hj)]
  by_cases hv : v - 1 = j
  · rw [hv]
    exact bit_setBit_self ..
  · rw [bit_setBit_ne _ hv, h]

theorem State.rangeCtxs_flrMarked (s : State) (v w : Nat) : (s.flrMarked v).rangeCtxs w = s.rangeCtxs w := by
  have base : (s.flrMarked v).rd HOSTIF.VF_CTX_BASE 0 w = s.rd HOSTIF.VF_CTX_BASE 0 w :=
    s.rd_wr_ne _ _ _ _ _ _ _ (by simp only [Row.bit, HOSTIF.FLR_STAT_BUSY, HOSTIF.VF_CTX_BASE]; omega)
  have count : (s.flrMarked v).rd HOSTIF.VF_CTX_COUNT 0 w = s.rd HOSTIF.VF_CTX_COUNT 0 w :=
    s.rd_wr_ne _ _ _ _ _ _ _ (by simp only [Row.bit, HOSTIF.FLR_STAT_BUSY, HOSTIF.VF_CTX_COUNT]; omega)
  have range : (s.flrMarked v).inRange w = s.inRange w := by
    funext x
    rw [State.inRange, State.inRange, base, count]
  rw [State.rangeCtxs, State.rangeCtxs, range]
  rfl

/-- The contexts of a VF's range are reset one after the other. -/
def State.rangeReset (s : State) (v : Nat) : State :=
  (s.flrMarked v).each (s.rangeCtxs v) (fun s x => s.resetContext { level := 1, domain := x } false 5)

theorem State.rangeReset_busy (s : State) (v : Nat) :
    (s.rangeReset v).rd HOSTIF.FLR_STAT_BUSY = (s.flrMarked v).rd HOSTIF.FLR_STAT_BUSY :=
  State.rd_of_find ((State.resetContexts_spares (s.flrMarked v) _).regs _ hostifKey_busy)

theorem State.flrStart_eq {s : State} {v : Nat} (exist : s.vfExists v = true) (idle : s.flrBusy v = false) :
    s.flrStart v = s.rangeReset v := by
  unfold State.flrStart
  dsimp only
  rw [if_neg (by simp [exist, idle])]
  show (s.flrMarked v).each ((s.flrMarked v).rangeCtxs v) _ = _
  rw [State.rangeCtxs_flrMarked]
  rfl

/-- The contexts of the range are reset, or nothing changes: the VF does not exist, or its reset is in progress. -/
theorem State.flrStart_cases (s : State) (v : Nat) : s.flrStart v = s.rangeReset v ∨ s.flrStart v = s := by
  by_cases start : s.vfExists v = true ∧ s.flrBusy v = false
  · exact .inl (State.flrStart_eq start.1 start.2)
  · refine .inr (if_pos ?_)
    rw [Bool.or_eq_true, Bool.not_eq_true']
    by_contra none
    exact start (by simpa using none)

theorem State.vfExists_iff (s : State) (v : Nat) : s.vfExists v = true ↔ 1 ≤ v ∧ v ≤ s.pci.numVfs ∧ s.pci.vfEnable = true := by
  simp only [State.vfExists, Bool.and_eq_true, decide_eq_true_eq]
  exact ⟨fun ⟨⟨on, lo⟩, hi⟩ => ⟨lo, hi, on⟩, fun ⟨lo, hi, on⟩ => ⟨⟨on, lo⟩, hi⟩⟩

/-- The functions stay as they are while their resets begin. -/
theorem State.flrStart_pci (s : State) (v : Nat) : (s.flrStart v).pci = { s.pci with msix := (s.flrStart v).pci.msix } := by
  rcases s.flrStart_cases v with starts | same
  · rw [starts]
    exact (State.resetContexts_spares (s.flrMarked v) _).pci
  · rw [same]

theorem State.flrStart_begun {s : State} {v : Nat} (exist : s.vfExists v = true) (hv : v < 64) :
    bit ((s.flrStart v).rd HOSTIF.FLR_STAT_BUSY) (v - 1) = true := by
  cases idle : s.flrBusy v with
  | false =>
    rw [State.flrStart_eq exist idle, State.rangeReset_busy]
    exact s.flrMarked_busy hv
  | true =>
    have same : s.flrStart v = s := if_pos (by rw [idle, Bool.or_true])
    rw [State.flrBusy, Bool.and_eq_true] at idle
    rw [same]
    exact idle.2

/-- The reset of a VF leaves another's in progress. -/
theorem State.flrStart_keeps (s : State) (v : Nat) {j : Nat} (hj : j < 63) (h : bit (s.rd HOSTIF.FLR_STAT_BUSY) j = true) :
    bit ((s.flrStart v).rd HOSTIF.FLR_STAT_BUSY) j = true := by
  rcases s.flrStart_cases v with starts | same
  · rw [starts, State.rangeReset_busy]
    exact s.flrMarked_keeps v hj h
  · rw [same]
    exact h

theorem flrStart_spec {s : State} {v : Nat} (exist : s.vfExists v = true) (hv : v < 64) (idle : s.flrBusy v = false) :
    ∃ t, exec (.flrStart v) s = .next t ∧ bit (t.rd HOSTIF.FLR_STAT_BUSY) (v - 1) = true ∧
      (s.rangeCtxs v = [] → t = { s with regs := t.regs } ∧ s.regsBut t [HOSTIF.FLR_STAT_BUSY.bit 0 0]) ∧
      ∀ x ∈ s.rangeCtxs v, (s.ctx x).state = .owned → (s.ctx x).reset = none → (s.ctx x).zeroing = false →
        (t.ctx x).state = .recovering := by
  refine ⟨s.flrStart v, rfl, State.flrStart_begun exist hv, ?_⟩
  rw [State.flrStart_eq exist idle, State.rangeReset]
  refine ⟨fun none => ?_, fun x hx state reset zeroing => ?_⟩
  · rw [none]
    exact ⟨rfl, s.regsBut_wr (List.mem_singleton_self _)⟩
  · have takeable : ((s.flrMarked v).ctx x).takeable := congrArg₂ Prod.mk state (congrArg₂ Prod.mk reset zeroing)
    exact (State.resetContexts_takes hx takeable).1

/-- The VF's vectors and configuration space are as at reset, and its reset is over. -/
def State.flrOver (s : State) (v : Nat) : State :=
  (s.flrFinish v).wr HOSTIF.FLR_STAT_BUSY (clearBit (s.rd HOSTIF.FLR_STAT_BUSY) (v - 1))

theorem State.vfGone_regs (s : State) : s.vfGone.regs = s.regs := by
  unfold State.vfGone
  split <;> rfl

theorem State.vfGone_busy {s : State} (h : s.rd HOSTIF.FLR_STAT_BUSY ≠ 0) : s.vfGone = s :=
  if_neg (by rw [decide_eq_false h, Bool.and_false]; decide)

theorem State.vfGone_idle {s : State} (clearing : s.pci.vfClearing = true) (h : s.rd HOSTIF.FLR_STAT_BUSY = 0) :
    s.vfGone = { s with pci := { s.pci with vfEnable := false, vfClearing := false } } :=
  if_pos (by rw [clearing, decide_eq_true h]; rfl)

theorem State.vfGone_eq (s : State) : s.vfGone = { s with pci := { s.pci with
    vfEnable := s.pci.vfEnable && !(s.pci.vfClearing && decide (s.rd HOSTIF.FLR_STAT_BUSY = 0))
    vfClearing := s.pci.vfClearing && decide (s.rd HOSTIF.FLR_STAT_BUSY ≠ 0) } } := by
  by_cases busy : s.rd HOSTIF.FLR_STAT_BUSY = 0
  · cases clearing : s.pci.vfClearing with
    | true =>
      rw [State.vfGone_idle clearing busy]
      simp [busy]
    | false =>
      have stays : s.vfGone = s := if_neg (by rw [clearing, Bool.false_and]; decide)
      rw [stays, Bool.false_and, Bool.false_and, Bool.not_false, Bool.and_true, ← clearing]
  · rw [State.vfGone_busy busy]
    simp [busy]

/-- FLR_DONE, where no context of the range is being reset any more. -/
theorem flrDone_eq {s : State} {v : Nat} (busy : s.flrBusy v = true) (complete : ∀ x ∈ s.rangeCtxs v, (s.ctx x).reset = none) :
    exec (.flrDone v) s = .next (s.flrOver v).vfGone := by
  have none : (s.rangeCtxs v).any (fun x => (s.ctx x).reset.isSome && !(s.ctx x).zeroing) = false :=
    List.any_eq_false.mpr (fun x hx => by simp [complete x hx])
  show execFlrDone v s = _
  rw [execFlrDone, busy, none]
  rfl

theorem flrDone_spec {s : State} {v : Nat} (lo : 1 ≤ v) (hv : v < 64) (busy : s.flrBusy v = true)
    (complete : ∀ x ∈ s.rangeCtxs v, (s.ctx x).reset = none) :
    ∃ t, exec (.flrDone v) s = .next t ∧ t = { s with regs := t.regs, pci := t.pci } ∧
      bit (t.rd HOSTIF.FLR_STAT_BUSY) (v - 1) = false ∧ s.regsBut t [HOSTIF.FLR_STAT_BUSY.bit 0 0] ∧
      t.pci = { s.pci with
        reads := s.pci.reads.filter (fun d => !(s.inRange v d.ctx && decide (d.gen ≠ (s.ctx d.ctx).gen))),
        msix := s.pci.msix.filter (fun e => decide (e.1 / 4096 ≠ v)), cfg := s.pci.cfg.filter (fun e => decide (e.1 / 4096 ≠ v)),
        vfEnable := s.pci.vfEnable && !(s.pci.vfClearing && decide (t.rd HOSTIF.FLR_STAT_BUSY = 0)),
        vfClearing := s.pci.vfClearing && decide (t.rd HOSTIF.FLR_STAT_BUSY ≠ 0) } := by
  have ne : ∀ a b : Nat, (a != b) = decide (a ≠ b) := fun a b => by simp [bne, decide_not, beq_eq_decide]
  have regs := (s.flrOver v).vfGone_regs
  have same : (s.flrOver v).vfGone.rd HOSTIF.FLR_STAT_BUSY = (s.flrOver v).rd HOSTIF.FLR_STAT_BUSY := State.rd_of_find (by rw [regs])
  refine ⟨_, flrDone_eq busy complete, ?_, ?_, ?_, ?_⟩
  · rw [State.vfGone_eq]
    rfl
  · rw [same, State.flrOver, State.bit_rd_wr _ (show v - 1 < 63 by omega)]
    exact bit_clearBit_self ..
  · intro b hb
    rw [regs]
    exact State.regsBut_wr (s.flrFinish v) (List.mem_singleton_self _) b hb
  · rw [same, State.vfGone_eq]
    simp only [State.flrOver, State.flrFinish, ne]
    rfl

/-! ### NumVFs and VF Enable (R100 to R102) -/

theorem numvfsWrite_spec {s : State} (ident : s.pci.identity = true) (n : Nat) :
    if s.pci.vfEnable = false ∧ n ≤ 63 then exec (.numvfsWrite n) s = .next { s with pci := { s.pci with numVfs := n } }
      else exec (.numvfsWrite n) s = .next s := by
  have may : (s.pci.identity && !s.pci.vfEnable && decide (n ≤ totalVfs)) = true ↔ s.pci.vfEnable = false ∧ n ≤ 63 := by
    rw [ident, Bool.true_and, Bool.and_eq_true, Bool.not_eq_true', decide_eq_true_eq]
    rfl
  split
  · next ok => exact congrArg Host.Outcome.next (if_pos (may.mpr ok))
  · next bad => exact congrArg Host.Outcome.next (if_neg (mt may.mp bad))

theorem vfEnableSet_spec {s : State} (ident : s.pci.identity = true) :
    exec .vfEnableSet s = .next { s with pci := { s.pci with vfEnable := true } } := by
  show Host.Outcome.next (if s.pci.identity then _ else s) = _
  rw [if_pos ident]

/-- Clearing VF Enable starts the reset of every VF. -/
def State.vfsResetting (s : State) : State := s.each ((List.range 64).filter s.vfExists) State.flrStart

/-- VF Enable clears once those resets are over. -/
def State.vfsClearing (s : State) : State := { s.vfsResetting with pci := { s.vfsResetting.pci with vfClearing := true } }

theorem vfEnableClear_eq {s : State} (enabled : s.pci.vfEnable = true) : exec .vfEnableClear s = .next s.vfsClearing.vfGone := by
  show Host.Outcome.next (s.setVfEnable false) = _
  rw [State.setVfEnable, if_neg (by decide), if_neg (by rw [enabled]; decide)]
  rfl

theorem State.vfsResetting_pci (s : State) : s.vfsResetting.pci = { s.pci with msix := s.vfsResetting.pci.msix } :=
  State.each_inv (fun t => t.pci = { s.pci with msix := t.pci.msix }) (fun t v h => by rw [t.flrStart_pci v, h]) _ s rfl

theorem State.vfsResetting_busy {s : State} {v : Nat} (exist : s.vfExists v = true) (hv : v < 64) :
    bit (s.vfsResetting.rd HOSTIF.FLR_STAT_BUSY) (v - 1) = true := by
  refine State.each_reaches (I := fun t => t.pci = { s.pci with msix := t.pci.msix })
    (Q := fun t => bit (t.rd HOSTIF.FLR_STAT_BUSY) (v - 1) = true) (fun t w _ h => by rw [t.flrStart_pci w, h])
    (fun t w _ _ _ h => t.flrStart_keeps w (by omega) h) (fun t h => State.flrStart_begun ?_ hv) rfl
    (.inl (List.mem_filter.mpr ⟨List.mem_range.mpr hv, exist⟩))
  rw [State.vfExists, h]
  exact exist

theorem vfEnableClear_spec {s : State} (enabled : s.pci.vfEnable = true) : ∃ t, exec .vfEnableClear s = .next t ∧
    (∀ v, s.vfExists v = true → v < 64 → bit (t.rd HOSTIF.FLR_STAT_BUSY) (v - 1) = true ∧ t.pci.vfEnable = true ∧
      t.pci.vfClearing = true) ∧
    (s.pci.numVfs = 0 → s.rd HOSTIF.FLR_STAT_BUSY = 0 →
      t = { s with pci := { s.pci with vfEnable := false, vfClearing := false } }) := by
  refine ⟨_, vfEnableClear_eq enabled, fun v exist hv => ?_, fun none idle => ?_⟩
  · have busy := State.vfsResetting_busy exist hv
    have some : s.vfsClearing.rd HOSTIF.FLR_STAT_BUSY ≠ 0 := fun zero => by
      rw [show s.vfsResetting.rd HOSTIF.FLR_STAT_BUSY = 0 from zero, bit, Nat.zero_div] at busy
      exact absurd busy (by decide)
    rw [State.vfGone_busy some]
    exact ⟨busy, (congrArg Pci.vfEnable s.vfsResetting_pci).trans enabled, rfl⟩
  · have empty : (List.range 64).filter s.vfExists = [] := List.filter_eq_nil_iff.mpr (fun v _ exist => by
      have := (s.vfExists_iff v).mp exist
      omega)
    rw [State.vfsClearing, State.vfsResetting, empty]
    exact State.vfGone_idle rfl idle

/-! ### The ranges of contexts (R271) -/

theorem vfCtxWrite_run {s : State} {a : Authority} {v : Nat} (lo : 1 ≤ v) (hv : v < 64)
    (h : s.lets a (pgHOSTIF * 4096 + 0x100 + 4 * v) 4 HOSTIF.VF_CTX_BASE) (value : Nat) :
    exec (.vfCtxWrite a v value) s = .next (s.vfCtxWrite a v value) := by
  have exist : ¬ ((decide (v = 0) || decide (64 ≤ v)) = true) := by
    rw [Bool.or_eq_true, decide_eq_true_eq, decide_eq_true_eq]
    omega
  exact congrArg Host.Outcome.next ((if_neg exist).trans (State.gated_of_lets h _))

theorem State.vfCtxWrite_eq (s : State) (a : Authority) {v : Nat} (lo : 1 ≤ v) (hv : v < 64) (value : Nat) :
    s.vfCtxWrite a v value = if s.vfCtxOk v (bits value 28 16) (bits value 10 0)
      then (s.wr HOSTIF.VF_CTX_BASE (bits value 28 16) 0 v).wr HOSTIF.VF_CTX_COUNT (bits value 10 0) 0 v
      else s.cfgDenied a (pgHOSTIF * 4096 + 0x100 + 4 * v) := by
  refine if_neg ?_
  rw [Bool.or_eq_true, decide_eq_true_eq, decide_eq_true_eq]
  omega

theorem vfCtxWrite_spec {s : State} {a : Authority} {v : Nat} (value : Nat) (lo : 1 ≤ v) (hv : v < 64)
    (h : s.lets a (pgHOSTIF * 4096 + 0x100 + 4 * v) 4 HOSTIF.VF_CTX_BASE) :
    (s.vfCtxOk v (bits value 28 16) (bits value 10 0) = true → ∃ t, exec (.vfCtxWrite a v value) s = .next t ∧
      t = { s with regs := t.regs } ∧ t.rd HOSTIF.VF_CTX_BASE 0 v = bits value 28 16 ∧ t.rd HOSTIF.VF_CTX_COUNT 0 v = bits value 10 0 ∧
      s.regsBut t [HOSTIF.VF_CTX_BASE.bit 0 v, HOSTIF.VF_CTX_COUNT.bit 0 v]) ∧
    (s.vfCtxOk v (bits value 28 16) (bits value 10 0) = false → s.boot.fltUp = true → ∃ t, exec (.vfCtxWrite a v value) s = .next t ∧
      t = { s with regs := t.regs, fltIn := t.fltIn, pci := t.pci, out := t.out } ∧
      s.raised t [tokOf pgHOSTIF kCFG_DENIED (accessAddr a (pgHOSTIF * 4096 + 0x100 + 4 * v)) 4] ∧
      s.regsBut t [HDR.BLK_ERR.bit pgHOSTIF 0]) := by
  rw [vfCtxWrite_run lo hv h, State.vfCtxWrite_eq s a lo hv]
  refine ⟨fun ok => ⟨_, rfl, ?_⟩, fun bad up => ⟨_, rfl, ?_⟩⟩
  · have apart : HOSTIF.VF_CTX_COUNT.bit 0 v ≠ HOSTIF.VF_CTX_BASE.bit 0 v := by
      simp only [Row.bit, HOSTIF.VF_CTX_COUNT, HOSTIF.VF_CTX_BASE]
      omega
    rw [if_pos ok]
    refine ⟨rfl, ?_, State.rd_wr_bits _ rfl .., (s.regsBut_wr (by simp)).trans (State.regsBut_wr _ (by simp))⟩
    rw [State.rd_wr_ne _ _ _ _ _ _ _ _ apart, State.rd_wr_bits _ rfl]
  · rw [if_neg (by rw [bad]; decide)]
    exact State.cfgDenied_spec up a _

/-- Settles O49: each clause is the lemma of its row. -/
theorem virtualFunctions : Obligations.VirtualFunctions := fun s =>
  ⟨fun _ exist hv idle => flrStart_spec exist hv idle, fun _ lo hv busy complete => flrDone_spec lo hv busy complete,
    fun n ident => numvfsWrite_spec ident n, s.vfExists_iff, vfEnableSet_spec, vfEnableClear_spec,
    fun _ _ value lo hv h => vfCtxWrite_spec value lo hv h⟩

end Sys2Proof.Machine
end

section
/-! The correction table (O31): COMMIT, DEFAULT and the end of the copy (R142–R146), and the writes of DSA_CTL (R171). -/
namespace Sys2Proof.Machine

/-- A write that Table 3-3 lets through has its effect, on a part that it wakes from nothing. -/
theorem State.gated_eq_of_lets {s : State} {a : Authority} {off len : Nat} {r : Row} (h : s.lets a off len r) (f : State → State) :
    s.gated a off len f = f s := by
  obtain ⟨ok, -, awake⟩ := h
  unfold State.gated
  rw [ok]
  dsimp only
  rw [awake]

/-! ### A change of one core's record -/

theorem State.core_modCore_self (s : State) (c : Nat) (f : Core → Core) : (s.modCore c f).core c = f (s.core c) :=
  State.core_setCore_self ..

theorem State.core_modCore_ne (s : State) {c e : Nat} (h : e ≠ c) (f : Core → Core) : (s.modCore c f).core e = s.core e := by
  rw [State.modCore, State.core_setCore, if_neg h.symm]

theorem State.modCore_regs (s : State) (c : Nat) (f : Core → Core) : (s.modCore c f).regs = s.regs := rfl

/-! ### LOG_CTL (R142–R145) -/

/-- The check of a staged table answers 0, NOT_MONOTONIC or OUT_OF_RANGE. -/
theorem Core.stageCheck_lt (k : Core) : k.stageCheck < 16 := by
  unfold Core.stageCheck
  dsimp only
  split
  · decide
  · split <;> decide

/-- What a write to LOG_CTL may leave: the record of the core and the RESULT that it names, and nothing else. -/
structure State.LogAnswers (s t : State) (c : Nat) (k : Core) (result : Nat) : Prop where
  rest : t = { s with cores := t.cores, regs := t.regs }
  others : ∀ e, e ≠ c → t.core e = s.core e
  core : t.core c = k
  result : t.rd LOG.LOG_STAT_RESULT c = result
  regs : s.regsBut t [LOG.LOG_STAT_RESULT.bit c 0]

section
variable {s : State} {c : Nat}

/-- A RESULT written alone. -/
theorem State.logAnswers_refused (s : State) (c : Nat) {r : Nat} (h : r < 16) :
    s.LogAnswers (s.wr LOG.LOG_STAT_RESULT r c) c (s.core c) r where
  rest := rfl
  others _ _ := rfl
  core := rfl
  result := (s.rd_wr_self ..).trans (Nat.mod_eq_of_lt h)
  regs := s.regsBut_wr (List.mem_singleton_self _)

/-- A copy that starts: RESULT reads BUSY. -/
theorem State.logAnswers_starts (s : State) (c : Nat) (f : Core → Core) :
    s.LogAnswers ((s.modCore c f).wr LOG.LOG_STAT_RESULT rBUSY c) c (f (s.core c)) rBUSY where
  rest := rfl
  others _ h := s.core_modCore_ne h f
  core := s.core_modCore_self c f
  result := State.rd_wr_self ..
  regs := (s.modCore c f).regsBut_wr (List.mem_singleton_self _)

/-- COMMIT, no copy being under way: refused while the pages are not quiesced, else what the check of the staged table says (R142–R144). -/
theorem State.logCtl_commit (idle : (s.core c).logBusy = none) :
    let r := if s.logFree c = false then rNOT_QUIESCED else (s.core c).stageCheck
    s.LogAnswers (s.logCtl c false) c (if r = 0 then { s.core c with
      logBusy := some false, logCopyP := (s.core c).logStageP, logCopyM := (s.core c).logStageM } else s.core c)
      (if r = 0 then rBUSY else r) := by
  unfold State.logCtl
  dsimp only
  rw [idle]
  cases free : s.logFree c with
  | false => exact s.logAnswers_refused c (by decide)
  | true =>
    simp only [Option.isSome_none, Bool.false_eq_true, Bool.not_true, if_false, Bool.true_eq_false]
    split
    · exact s.logAnswers_starts c _
    · exact s.logAnswers_refused c (s.core c).stageCheck_lt

/-- DEFAULT with both pages quiesced starts the copy of the ROM table (R145). -/
theorem State.logCtl_default (idle : (s.core c).logBusy = none) (free : s.logFree c = true) :
    s.LogAnswers (s.logCtl c true) c { s.core c with logBusy := some true } rBUSY := by
  unfold State.logCtl
  dsimp only
  rw [idle, free]
  exact s.logAnswers_starts c _

/-! ### The end of a copy (R144–R146) -/

/-- The registers that the end of a copy may change: those of LOG_STAT, and PROV_EPOCH. -/
def logDoneKeys (c : Nat) : List Nat :=
  [LOG.LOG_STAT_RESULT.bit c 0, LOG.LOG_STAT_IS_DEFAULT.bit c 0, LOG.LOG_STAT_CT_GEN.bit c 0, CHIP.PROV_EPOCH_EPOCH.bit 0 0]

/-- The state at the end of a copy, but for LOG_STAT: the copy is over, PROV_EPOCH has moved where the table may have (R517), and the
record of the core is what f makes of it. -/
def State.logCopied (s : State) (c : Nat) (rom : Bool) (f : Core → Core) : State :=
  let t := s.modCore c (fun k => { k with logBusy := none })
  State.modCore (if (rom && t.on LOG.LOG_STAT_IS_DEFAULT c) = true then t else t.epoch) c f

theorem State.logCopied_spec (s : State) (c : Nat) (rom : Bool) (f : Core → Core) :
    s.logCopied c rom f = { s with cores := (s.logCopied c rom f).cores, regs := (s.logCopied c rom f).regs } ∧
    (∀ e, e ≠ c → (s.logCopied c rom f).core e = s.core e) ∧
    (s.logCopied c rom f).core c = f { s.core c with logBusy := none } ∧
    s.regsBut (s.logCopied c rom f) [CHIP.PROV_EPOCH_EPOCH.bit 0 0] := by
  unfold State.logCopied
  extract_lets t
  have others : ∀ e, e ≠ c → t.core e = s.core e := fun e h => s.core_modCore_ne h _
  have self : t.core c = { s.core c with logBusy := none } := s.core_modCore_self c _
  split
  · exact ⟨rfl, fun e h => (t.core_modCore_ne h f).trans (others e h), by rw [t.core_modCore_self, self], s.regsBut_refl _⟩
  · exact ⟨rfl, fun e h => (t.epoch.core_modCore_ne h f).trans (others e h),
      (t.epoch.core_modCore_self c f).trans (congrArg f self), t.regsBut_wr (List.mem_singleton_self _)⟩

/-- The ROM table is active and staged. -/
def Core.romTable (k : Core) : Core := { k with logStageP := [], logStageM := [], logActP := [], logActM := [] }

/-- The table copied from the staged one is active. -/
def Core.copiedTable (k : Core) : Core := { k with logActP := k.logCopyP, logActM := k.logCopyM, logCopyP := [], logCopyM := [] }

theorem logCopyDone_rom (h : (s.core c).logBusy = some true) : exec (.logCopyDone c) s =
    .next (((s.logCopied c true Core.romTable).wr LOG.LOG_STAT_IS_DEFAULT 1 c).wr LOG.LOG_STAT_RESULT 0 c) := by
  show execLogCopyDone c s = _
  unfold execLogCopyDone
  rw [h]
  rfl

theorem logCopyDone_staged (h : (s.core c).logBusy = some false) : exec (.logCopyDone c) s =
    .next ((((s.logCopied c false Core.copiedTable).bump LOG.LOG_STAT_CT_GEN c).wr LOG.LOG_STAT_IS_DEFAULT 0 c).wr
      LOG.LOG_STAT_RESULT 0 c) := by
  show execLogCopyDone c s = _
  unfold execLogCopyDone
  rw [h]
  rfl

/-! The fields of LOG_STAT that the end of a copy writes lie apart, and apart from PROV_EPOCH. -/

theorem LOG.result_ne_isDefault (c : Nat) : LOG.LOG_STAT_RESULT.bit c 0 ≠ LOG.LOG_STAT_IS_DEFAULT.bit c 0 := by
  simp only [Row.bit, LOG.LOG_STAT_RESULT, LOG.LOG_STAT_IS_DEFAULT]
  omega

theorem LOG.result_ne_ctGen (c : Nat) : LOG.LOG_STAT_RESULT.bit c 0 ≠ LOG.LOG_STAT_CT_GEN.bit c 0 := by
  simp only [Row.bit, LOG.LOG_STAT_RESULT, LOG.LOG_STAT_CT_GEN]
  omega

theorem LOG.isDefault_ne_ctGen (c : Nat) : LOG.LOG_STAT_IS_DEFAULT.bit c 0 ≠ LOG.LOG_STAT_CT_GEN.bit c 0 := by
  simp only [Row.bit, LOG.LOG_STAT_IS_DEFAULT, LOG.LOG_STAT_CT_GEN]
  omega

theorem LOG.ctGen_ne_epoch (c : Nat) : LOG.LOG_STAT_CT_GEN.bit c 0 ≠ CHIP.PROV_EPOCH_EPOCH.bit 0 0 := by
  simp only [Row.bit, LOG.LOG_STAT_CT_GEN, CHIP.PROV_EPOCH_EPOCH]
  omega

/-- The end of a copy makes it the active table, and of a staged one counts it in CT_GEN. -/
theorem logCopyDone_spec {rom : Bool} (h : (s.core c).logBusy = some rom) : ∃ t, exec (.logCopyDone c) s = .next t ∧
    t = { s with cores := t.cores, regs := t.regs } ∧ (∀ e, e ≠ c → t.core e = s.core e) ∧
    t.core c = (if rom = true then Core.romTable { s.core c with logBusy := none }
      else Core.copiedTable { s.core c with logBusy := none }) ∧
    t.rd LOG.LOG_STAT_RESULT c = 0 ∧ t.rd LOG.LOG_STAT_IS_DEFAULT c = (if rom = true then 1 else 0) ∧
    (rom = false → t.rd LOG.LOG_STAT_CT_GEN c = (s.rd LOG.LOG_STAT_CT_GEN c + 1) % 256) ∧ s.regsBut t (logDoneKeys c) := by
  have keys : ∀ u : State, s.regsBut u [CHIP.PROV_EPOCH_EPOCH.bit 0 0] → s.regsBut u (logDoneKeys c) :=
    fun u h b hb => h b (fun mem => hb (by rw [List.mem_singleton.mp mem]; simp [logDoneKeys]))
  cases rom with
  | true =>
    obtain ⟨rest, others, self, epoch⟩ := s.logCopied_spec c true Core.romTable
    refine ⟨_, logCopyDone_rom h, ?_, others, self, State.rd_wr_self .., ?_, fun e => Bool.noConfusion e, ?_⟩
    · rw [rest]; rfl
    · rw [State.rd_wr_ne _ _ _ _ _ _ _ _ (LOG.result_ne_isDefault c), State.rd_wr_self]; rfl
    · exact ((keys _ epoch).trans (State.regsBut_wr _ (by simp [logDoneKeys]))).trans (State.regsBut_wr _ (by simp [logDoneKeys]))
  | false =>
    obtain ⟨rest, others, self, epoch⟩ := s.logCopied_spec c false Core.copiedTable
    refine ⟨_, logCopyDone_staged h, ?_, others, self, State.rd_wr_self .., ?_, fun _ => ?_, ?_⟩
    · rw [rest]; rfl
    · rw [State.rd_wr_ne _ _ _ _ _ _ _ _ (LOG.result_ne_isDefault c), State.rd_wr_self]; rfl
    · rw [State.rd_wr_ne _ _ _ _ _ _ _ _ (LOG.result_ne_ctGen c), State.rd_wr_ne _ _ _ _ _ _ _ _ (LOG.isDefault_ne_ctGen c),
        State.bump, State.rd_wr_self, epoch.rd (fun mem => LOG.ctGen_ne_epoch c (List.mem_singleton.mp mem))]
      rfl
    · exact (((keys _ epoch).trans (State.regsBut_wr _ (by simp [logDoneKeys]))).trans
        (State.regsBut_wr _ (by simp [logDoneKeys]))).trans (State.regsBut_wr _ (by simp [logDoneKeys]))

end

/-! ### DSA_CTL (R171, Table 4-10) -/

theorem DSA.cksumEn_ne_blkErr (c : Nat) : DSA.DSA_CTL_CKSUM_EN.bit c 0 ≠ HDR.BLK_ERR.bit (pgDSA c) 0 := by
  simp only [Row.bit, DSA.DSA_CTL_CKSUM_EN, HDR.BLK_ERR]
  omega

/-- CKSUM_EN takes the write; comparisons turned off raise CKSUM_DISABLED, and nothing else changes but what a token does. -/
theorem State.setCksumEn_spec {s : State} (up : s.boot.fltUp = true) (c : Nat) (on : Bool) :
    let t := s.setCksumEn c on
    t = { s with regs := t.regs, fltIn := t.fltIn, pci := t.pci, out := t.out } ∧
    t.rd DSA.DSA_CTL_CKSUM_EN c = (if on = true then 1 else 0) ∧
    s.raised t (if (s.on DSA.DSA_CTL_CKSUM_EN c && !on) = true then [tokOf (pgDSA c) kCKSUM_DISABLED 0 0] else []) ∧
    s.regsBut t [DSA.DSA_CTL_CKSUM_EN.bit c 0, HDR.BLK_ERR.bit (pgDSA c) 0] := by
  unfold State.setCksumEn
  extract_lets was w t
  have wrote : w.rd DSA.DSA_CTL_CKSUM_EN c = (if on = true then 1 else 0) := s.rd_wr_b2n rfl on c 0
  have regs : s.regsBut w [DSA.DSA_CTL_CKSUM_EN.bit c 0, HDR.BLK_ERR.bit (pgDSA c) 0] := s.regsBut_wr (List.mem_cons_self ..)
  subst t
  split
  · have token : w.raise (pgDSA c) kCKSUM_DISABLED = w.raiseTok (tokOf (pgDSA c) kCKSUM_DISABLED 0 0) := rfl
    have raised := State.raiseTok_raised (s := w) up (tokOf (pgDSA c) kCKSUM_DISABLED 0 0)
    obtain ⟨frame, err⟩ := State.raiseTok_frame (s := w) up (tokOf (pgDSA c) kCKSUM_DISABLED 0 0)
    rw [token]
    refine ⟨by rw [frame]; rfl, ?_, raised, regs.trans (fun b hb => err b (fun mem => hb (List.mem_cons_of_mem _ mem)))⟩
    exact (err.rd (fun mem => DSA.cksumEn_ne_blkErr c (List.mem_singleton.mp mem))).trans wrote
  · exact ⟨rfl, wrote, (List.append_nil _).symm, regs⟩

/-- Settles O31: each clause is the lemma of its write or of the end of the copy. -/
theorem correctionTable : Obligations.CorrectionTable := by
  unfold Obligations.CorrectionTable
  intro s a c _
  refine ⟨fun lets idle => ⟨?_, fun free => ?_⟩, fun rom busy => logCopyDone_spec busy, fun on lets up => ?_, fun on lets => ?_⟩
  · have answers := State.logCtl_commit idle
    exact ⟨_, congrArg Host.Outcome.next (State.gated_eq_of_lets lets _), answers.rest, answers.others, answers.core, answers.result,
      answers.regs⟩
  · have answers := State.logCtl_default idle free
    exact ⟨_, congrArg Host.Outcome.next (State.gated_eq_of_lets lets _), answers.rest, answers.others, answers.core, answers.result,
      answers.regs⟩
  · exact ⟨_, congrArg Host.Outcome.next (State.gated_of_lets lets _), State.setCksumEn_spec up c on⟩
  · exact ⟨_, congrArg Host.Outcome.next (State.gated_of_lets lets _), rfl, s.rd_wr_b2n rfl on c 0,
      s.regsBut_wr (List.mem_singleton_self _)⟩

end Sys2Proof.Machine
end

section
/-! Accesses to memories that nothing keeps from being read and written: what one leaves, and what one lane after another leaves
(R185–R188; the order is log 10's). -/
namespace Sys2Proof.Machine

/-! ### Little-endian bytes (R7) -/

@[simp] theorem length_toLE (x n : Nat) : (toLE x n).length = n := by
  induction n generalizing x with
  | zero => rfl
  | succ n ih => rw [toLE, List.length_cons, ih]

theorem ofLE_toLE (x n : Nat) : ofLE (toLE x n) = x % 2 ^ (8 * n) := by
  induction n generalizing x with
  | zero => rw [Nat.mul_zero, Nat.pow_zero, Nat.mod_one]; rfl
  | succ n ih =>
    rw [toLE, ofLE, ih, BitVec.toNat_ofNat, Nat.mul_succ, Nat.add_comm (8 * n) 8, Nat.pow_add, Nat.mod_mul]

theorem ofLE_lt (bs : List Byte) : ofLE bs < 2 ^ (8 * bs.length) := by
  induction bs with
  | nil => exact Nat.one_pos
  | cons b bs ih =>
    have low := b.isLt
    rw [ofLE, List.length_cons, Nat.mul_succ, Nat.pow_add]
    omega

/-! ### The value of an operand -/

theorem State.load_lt (s : State) (a n : Nat) : s.load a n < 2 ^ (8 * n) := by
  have h := ofLE_lt (s.bytes a n)
  rwa [State.bytes, Memory.length_readBytes] at h

theorem State.load_congr {s t : State} {a n : Nat} (h : ∀ j, a ≤ j → j < a + n → t.byte j = s.byte j) : t.load a n = s.load a n :=
  congrArg ofLE (Memory.readBytes_congr a n h)

theorem State.load_of_mem {s t : State} (h : t.mem = s.mem) (a n : Nat) : t.load a n = s.load a n := by
  rw [State.load, State.load, State.bytes, State.bytes, h]

theorem State.load_store (s : State) (a v n : Nat) : (s.store a (toLE v n)).load a n = v % 2 ^ (8 * n) := by
  have h := s.bytes_store a (toLE v n)
  rw [length_toLE] at h
  rw [State.load, h, ofLE_toLE]

/-- Two operands aligned to their size are one or lie apart. -/
theorem aligned_apart {n a b : Nat} (ha : n ∣ a) (hb : n ∣ b) (h : a ≠ b) : a + n ≤ b ∨ b + n ≤ a := by
  obtain ⟨j, rfl⟩ := ha
  obtain ⟨k, rfl⟩ := hb
  rcases Nat.lt_trichotomy j k with lt | eq | gt
  · exact .inl (Nat.mul_le_mul_left n lt)
  · exact absurd (congrArg (n * ·) eq) h
  · exact .inr (Nat.mul_le_mul_left n gt)

/-! ### What accesses leave -/

theorem localPlace_spad_lt {a c o : Nat} (h : localPlace a = .spad c o) : c < 16 := by
  unfold localPlace at h
  split at h
  · cases h
  · split at h
    · next inside =>
      obtain ⟨rfl, -⟩ := Place.spad.inj h
      obtain ⟨-, below⟩ := Bool.and_eq_true_iff.mp inside
      have below := of_decide_eq_true below
      unfold sliceSize spadBase at *
      omega
    · cases h

/-- From s to t the memories were accessed: they may hold other bytes, they counted what they served, the stacks what they are charged
with, and lanes were put in an order. -/
structure State.Serves (s t : State) : Prop where
  rest : t = { s with regs := t.regs, hbms := t.hbms, draws := t.draws, mem := t.mem }
  regs : s.regsBut t servedKeys

namespace State.Serves
variable {s t u : State}

theorem refl (s : State) : s.Serves s := ⟨rfl, s.regsBut_refl _⟩

theorem trans (h : s.Serves t) (h' : t.Serves u) : s.Serves u := ⟨by rw [h'.rest, h.rest], h.regs.trans h'.regs⟩

theorem core (h : s.Serves t) (c : Nat) : t.core c = s.core c := by rw [h.rest]; rfl

/-- Accesses leave nothing in the memories that would keep them from the next. -/
theorem memoryClear (h : s.Serves t) (clear : s.memoryClear) : t.memoryClear := by
  obtain ⟨corrected, uncorrected, lost, awake⟩ := clear
  have apart : ∀ k, k < 4 → HBM.HBM_STAT_SELF_REFRESH.bit k 0 ∉ servedKeys := by decide
  refine ⟨by rw [h.rest]; exact corrected, by rw [h.rest]; exact uncorrected, by rw [h.rest]; exact lost, fun k hk => ?_⟩
  have same := awake k hk
  rw [State.asleep, State.on] at same ⊢
  rw [h.regs.rd (apart k hk)]
  exact same

theorem chargeStack (s : State) (x a n : Nat) : s.Serves (s.chargeStack x a n) := by
  rw [State.chargeStack_eq]
  exact ⟨rfl, s.regsBut_refl _⟩

theorem store (s : State) (a : Nat) (bs : List Byte) : s.Serves (s.store a bs) := ⟨rfl, s.regsBut_refl _⟩

theorem served (s : State) (a n : Nat) : s.Serves (s.served a n) := by
  have count : ∀ p v, HDR.BLK_PROG.bit p 0 ∈ servedKeys → s.Serves (s.wr HDR.BLK_PROG v p) :=
    fun p v h => ⟨rfl, s.regsBut_wr h⟩
  unfold State.served
  dsimp only
  split
  · next c o place =>
    exact count _ _ (List.mem_append_left _ (List.mem_map_of_mem (f := fun c => HDR.BLK_PROG.bit (pgSPAD c) 0)
      (List.mem_range.mpr (localPlace_spad_lt place))))
  · next k o place =>
    exact count _ _ (List.mem_append_right _ (List.mem_map_of_mem (f := fun k => HDR.BLK_PROG.bit (pgSTACK k) 0)
      (List.mem_range.mpr (localPlace_hbm_lt place))))
  · exact refl s

end State.Serves

theorem State.readMem_of_clear {s : State} (h : s.memoryClear) (a n : Nat) : s.readMem a n = (s.served a n, some (s.bytes a n)) := by
  obtain ⟨corrected, uncorrected, -, -⟩ := id h
  have noneC : touched s.marksC a n = [] := by rw [corrected]; rfl
  have noneU : touched s.marksU a n = [] := by rw [uncorrected]; rfl
  have bytes : (s.served a n).bytes a n = s.bytes a n := by rw [State.bytes, State.served_mem, State.bytes]
  have check : s.readCheck a n = (s.served a n, true) := by
    rw [State.readCheck, s.pathLost_of_clear h, s.memAsleep_of_clear h, if_neg (by decide), noneU, noneC]
    rfl
  rw [State.readMem, check, ← bytes]

/-! ### One access -/

/-- From s to t the n bytes at o were accessed: w is the value they were given, where they were given one. -/
structure State.Accesses (s t : State) (o n : Nat) (w : Option Nat) : Prop extends s.Serves t where
  mem : t.mem = w.elim s.mem (fun v => Memory.writeBytes s.mem o (toLE v n))

namespace State.Accesses
variable {s t : State} {o n : Nat} {w : Option Nat}

theorem byte (h : s.Accesses t o n w) {j : Nat} (out : j < o ∨ o + n ≤ j) : t.byte j = s.byte j := by
  rw [State.byte, h.mem]
  cases w with
  | none => rfl
  | some v => exact s.byte_store_out o (toLE v n) j (by rwa [length_toLE])

theorem load (h : s.Accesses t o n w) : t.load o n = w.getD (s.load o n) % 2 ^ (8 * n) := by
  cases w with
  | none => rw [State.load_of_mem h.mem, Option.getD_none, Nat.mod_eq_of_lt (s.load_lt o n)]
  | some v => rw [State.load_of_mem (s := s.store o (toLE v n)) h.mem, State.load_store, Option.getD_some]

/-- An access that writes nothing, or of another operand, leaves what an operand holds. -/
theorem load_other (h : s.Accesses t o n w) {a : Nat} (ho : n ∣ o) (ha : n ∣ a) (quiet : o = a → w = none) :
    t.load a n = s.load a n := by
  by_cases same : o = a
  · refine State.load_of_mem ?_ a n
    rw [h.mem, quiet same, Option.elim_none]
  · have apart := aligned_apart ho ha same
    exact State.load_congr (fun j lo hi => h.byte (by omega))

end State.Accesses

theorem State.served_accesses {s t : State} (o n : Nat) (serves : s.Serves t) {w : Option Nat}
    (mem : t.mem = w.elim s.mem (fun v => Memory.writeBytes s.mem o (toLE v n))) : s.Accesses (t.served o n) o n w where
  toServes := serves.trans (.served t o n)
  mem := (t.served_mem o n).trans mem

theorem State.read_accesses (s : State) (o n : Nat) : s.Accesses (s.served o n) o n none := State.served_accesses o n (.refl s) rfl

theorem State.write_accesses {s t : State} (serves : s.Serves t) (mem : t.mem = s.mem) (o v n : Nat) :
    s.Accesses ((t.store o (toLE v n)).served o n) o n (some v) :=
  State.served_accesses o n (serves.trans (.store t o _)) (by rw [State.store_mem, mem, Option.elim_some])

/-- Read, change and write: the operand takes the value where there is one, and what was read goes back. -/
theorem State.rmw_of_clear {s : State} (clear : s.memoryClear) (o n : Nat) (new : Nat → Option Nat) (back : Nat → Group) :
    ∃ t, s.rmw o n new back = (t, some (back (s.load o n))) ∧ s.Accesses t o n (new (s.load o n)) := by
  have read : s.Serves (s.served o n) := .served s o n
  unfold State.rmw
  rw [State.readMem_of_clear clear]
  dsimp only
  rw [← State.load]
  cases new (s.load o n) with
  | none => exact ⟨_, rfl, s.read_accesses o n⟩
  | some v =>
    dsimp only
    rw [State.writeMem_of_clear (read.memoryClear clear), length_toLE]
    exact ⟨_, rfl, State.write_accesses read (s.served_mem o n) o v n⟩

/-! ### One access after another -/

/-- No other of the accesses to the operand of e writes. -/
def Undisturbed (write : Nat → Nat → Option Nat) (acc : List (Nat × Nat)) (e : Nat × Nat) : Prop :=
  ∀ d ∈ acc, d.1 ≠ e.1 → d.2 = e.2 → ∀ v, write d.1 v = none

/-- From s to t the lanes of `acc` accessed the n bytes at the offset listed with each, one after the other: `write` is what a lane
writes over an old value, and `seen` the old value it met. -/
structure State.Lanes (s t : State) (n : Nat) (write : Nat → Nat → Option Nat) (acc : List (Nat × Nat)) (seen : Nat → Nat) : Prop
    extends s.Serves t where
  mem : (∀ e ∈ acc, ∀ v, write e.1 v = none) → t.mem = s.mem
  byte : ∀ j, (∀ e ∈ acc, j < e.2 ∨ e.2 + n ≤ j) → t.byte j = s.byte j
  load : ∀ a, n ∣ a → (∀ e ∈ acc, e.2 = a → ∀ v, write e.1 v = none) → t.load a n = s.load a n
  seen : ∀ e ∈ acc, Undisturbed write acc e →
    seen e.1 = s.load e.2 n ∧ t.load e.2 n = (write e.1 (s.load e.2 n)).getD (s.load e.2 n) % 2 ^ (8 * n)

namespace State.Lanes
variable {s t u : State} {n : Nat} {write : Nat → Nat → Option Nat} {acc : List (Nat × Nat)} {seen : Nat → Nat}

theorem nil (s : State) : s.Lanes s n write [] seen :=
  ⟨.refl s, fun _ => rfl, fun _ _ => rfl, fun _ _ _ => rfl, fun _ h => absurd h List.not_mem_nil⟩

/-- The first lane's access and then the others'. -/
theorem cons {a : Nat × Nat} (first : s.Accesses u a.2 n (write a.1 (s.load a.2 n))) (others : u.Lanes t n write acc seen)
    (aligned : n ∣ a.2) (alignedR : ∀ e ∈ acc, n ∣ e.2) (fresh : ∀ e ∈ acc, e.1 ≠ a.1) :
    s.Lanes t n write (a :: acc) (Function.update seen a.1 (s.load a.2 n)) where
  toServes := first.toServes.trans others.toServes
  mem quiet := by
    obtain ⟨q, qs⟩ := List.forall_mem_cons.mp quiet
    rw [others.mem qs, first.mem, q, Option.elim_none]
  byte j out := by
    obtain ⟨o, os⟩ := List.forall_mem_cons.mp out
    exact (others.byte j os).trans (first.byte o)
  load b hb quiet := by
    obtain ⟨q, qs⟩ := List.forall_mem_cons.mp quiet
    exact (others.load b hb qs).trans (first.load_other aligned hb (fun e => q e _))
  seen e he quiet := by
    obtain ⟨q, qs⟩ := List.forall_mem_cons.mp quiet
    rcases List.mem_cons.mp he with rfl | tail
    · rw [Function.update_self, others.load _ aligned (fun d hd => qs d hd (fresh d hd)), first.load]
      exact ⟨rfl, rfl⟩
    · rw [Function.update_of_ne (fresh e tail),
        ← first.load_other aligned (alignedR e tail) (fun same => q (fresh e tail).symm same _)]
      exact others.seen e tail qs

theorem perm {acc' : List (Nat × Nat)} (h : s.Lanes t n write acc seen) (p : acc.Perm acc') : s.Lanes t n write acc' seen where
  toServes := h.toServes
  mem quiet := h.mem (fun e he => quiet e (p.mem_iff.mp he))
  byte j out := h.byte j (fun e he => out e (p.mem_iff.mp he))
  load a ha quiet := h.load a ha (fun e he => quiet e (p.mem_iff.mp he))
  seen e he quiet := h.seen e (p.mem_iff.mpr he) (fun d hd => quiet d (p.mem_iff.mp hd))

theorem serves {r : State} (h : s.Lanes t n write acc seen) (before : r.Serves s) (mem : s.mem = r.mem) :
    r.Lanes t n write acc seen where
  toServes := before.trans h.toServes
  mem quiet := (h.mem quiet).trans mem
  byte j out := (h.byte j out).trans (by rw [State.byte, mem, State.byte])
  load a ha quiet := (h.load a ha quiet).trans (State.load_of_mem mem a n)
  seen e he quiet := by
    rw [← State.load_of_mem mem]
    exact h.seen e he quiet

end State.Lanes

/-- The body of a memory instruction: at any operand a lane writes what `write` says, and `back` is what the old value does to the
group. -/
def LaneBody (n : Nat) (f : State → Group → Nat → Nat → State × Option Group) (write : Nat → Nat → Option Nat)
    (back : Nat → Nat → Group → Group) : Prop :=
  ∀ (s : State) (g : Group) (l o : Nat), s.memoryClear →
    ∃ t, f s g l o = (t, some (back l (s.load o n) g)) ∧ s.Accesses t o n (write l (s.load o n))

/-- The lanes' accesses in the order they take effect, with what they do to the group. -/
theorem LaneBody.fold {n x : Nat} {f : State → Group → Nat → Nat → State × Option Group} {write : Nat → Nat → Option Nat}
    {back : Nat → Nat → Group → Group} (body : LaneBody n f write back)
    {F : State × Option Group → Nat × Nat → State × Option Group} {acc : List (Nat × Nat)} {s : State} {g : Group}
    {r : State × Option Group} (run : acc.foldl F (s, some g) = r)
    (hF : ∀ s g e, F (s, some g) e = f (s.chargeStack x e.2 n) g e.1 e.2) (aligned : ∀ e ∈ acc, n ∣ e.2)
    (nodup : (acc.map Prod.fst).Nodup) (clear : s.memoryClear) :
    ∃ t seen, r = (t, some ((acc.map Prod.fst).foldl (fun g l => back l (seen l) g) g)) ∧ s.Lanes t n write acc seen := by
  subst run
  induction acc generalizing s g with
  | nil => exact ⟨s, fun _ => 0, rfl, .nil s⟩
  | cons a acc ih =>
    obtain ⟨alignedA, alignedR⟩ := List.forall_mem_cons.mp aligned
    obtain ⟨notin, nodup⟩ := List.nodup_cons.mp nodup
    have charge : s.Serves (s.chargeStack x a.2 n) := .chargeStack s x a.2 n
    have mem : (s.chargeStack x a.2 n).mem = s.mem := by rw [State.chargeStack_eq]
    obtain ⟨u, hu, charged⟩ := body (s.chargeStack x a.2 n) g a.1 a.2 (charge.memoryClear clear)
    rw [State.load_of_mem mem] at hu charged
    have first : s.Accesses u a.2 n (write a.1 (s.load a.2 n)) := ⟨charge.trans charged.toServes, by rw [charged.mem, mem]⟩
    obtain ⟨t, seen, ht, others⟩ := ih (s := u) (g := back a.1 (s.load a.2 n) g) alignedR nodup (first.memoryClear clear)
    have fresh : ∀ e ∈ acc, e.1 ≠ a.1 := fun e he same => notin (List.mem_map.mpr ⟨e, he, same⟩)
    refine ⟨t, Function.update seen a.1 (s.load a.2 n), ?_, .cons first others alignedA alignedR fresh⟩
    rw [List.foldl_cons, hF, hu, ht, List.map_cons, List.foldl_cons, Function.update_self]
    congr 2
    refine List.foldl_ext _ _ _ (fun b l hl => ?_)
    rw [Function.update_of_ne (fun same => notin (by rwa [← same]))]

end Sys2Proof.Machine
end

section
/-! Loads, stores, reductions and atomics (O4): the body of a memory instruction whose accesses all pass their checks, and each
instruction as what it writes over an operand and what goes back to the group (R185–R188, R166, R612; logs 10 and 32). -/
namespace Sys2Proof.Machine

/-! ### Sizes and registers (R612) -/

theorem insSize_cases (w : Nat) : insSize w = 1 ∨ insSize w = 2 ∨ insSize w = 4 ∨ insSize w = 8 := by
  have four : bits w 1 0 < 4 := Nat.mod_lt _ (by decide)
  unfold insSize
  interval_cases bits w 1 0
  · exact .inl rfl
  · exact .inr (.inl rfl)
  · exact .inr (.inr (.inl rfl))
  · exact .inr (.inr (.inr rfl))

/-- A value of one register: what is no pair is at most 4 bytes. -/
theorem lt_word_of_size {n v : Nat} (size : n = 1 ∨ n = 2 ∨ n = 4 ∨ n = 8) (single : n ≠ 8) (h : v < 2 ^ (8 * n)) : v < 2 ^ 32 :=
  lt_of_lt_of_le h (Nat.pow_le_pow_right (by decide) (by omega))

theorem Group.pair_lt (g : Group) (l r : Nat) : g.pair l r < 2 ^ 64 := by
  have lo := (g.reg l r).isLt
  have hi := (g.reg l (r + 1)).isLt
  unfold Group.pair
  omega

theorem Group.data_lt (g : Group) (l r n : Nat) : g.data l r n < 2 ^ (8 * n) := by
  unfold Group.data
  split
  · next eight => rw [eight]; exact g.pair_lt l r
  · exact Nat.mod_lt _ (Nat.two_pow_pos _)

theorem Group.pair_congr {g g' : Group} {l r : Nat} (lo : g'.reg l r = g.reg l r) (hi : g'.reg l (r + 1) = g.reg l (r + 1)) :
    g'.pair l r = g.pair l r := by
  rw [Group.pair, lo, hi, Group.pair]

/-- Registers of two lanes are kept apart. -/
theorem Group.reg_setReg_lane (g : Group) {l l' xd r : Nat} (v : Word) (hx : xd < 64) (hr : r < 64) (h : l ≠ l') :
    (g.setReg l xd v).reg l' r = g.reg l' r := by
  rw [Group.reg_setReg, if_neg (by omega)]

section
variable {n xd : Nat} (size : n = 1 ∨ n = 2 ∨ n = 4 ∨ n = 8) (hx : xd < 64) (pair : n = 8 → xd < 63)

/-- A value written to a register is zero-extended. -/
theorem Group.reg_setData {v : Nat} (size : n = 1 ∨ n = 2 ∨ n = 4 ∨ n = 8) (g : Group) (l : Nat) (single : n ≠ 8)
    (h : v < 2 ^ (8 * n)) : ((g.setData l xd n v).reg l xd).toNat = v := by
  rw [Group.setData, if_neg single, Group.reg_setReg, if_pos rfl, BitVec.toNat_ofNat, Nat.mod_eq_of_lt h,
    Nat.mod_eq_of_lt (lt_word_of_size size single h)]

theorem Group.pair_setData {v : Nat} (g : Group) (l : Nat) (eight : n = 8) (h : v < 2 ^ (8 * n)) :
    (g.setData l xd n v).pair l xd = v := by
  subst eight
  have below : v < 2 ^ 64 := h
  rw [Group.setData, if_pos rfl, Group.pair, Group.setPair, Group.reg_setReg, if_neg (by omega), Group.reg_setReg, if_pos rfl,
    Group.reg_setReg, if_pos rfl, BitVec.toNat_ofNat, BitVec.toNat_ofNat]
  omega

theorem Group.reg_setData_other (g : Group) {l r : Nat} (v : Nat) (h : r ≠ xd ∧ (n = 8 → r ≠ xd + 1)) :
    (g.setData l xd n v).reg l r = g.reg l r := by
  obtain ⟨ne, next⟩ := h
  unfold Group.setData
  split
  · next eight =>
    have ne' := next eight
    rw [Group.setPair, Group.reg_setReg, if_neg (by omega), Group.reg_setReg, if_neg (by omega)]
  · rw [Group.reg_setReg, if_neg (by omega)]

/-- What is written to one lane depends on that lane alone. -/
theorem Group.reg_setData_congr {g g' : Group} {l r : Nat} (v : Nat) (h : g'.reg l r = g.reg l r) :
    (g'.setData l xd n v).reg l r = (g.setData l xd n v).reg l r := by
  unfold Group.setData Group.setPair
  split
  · rw [Group.reg_setReg, Group.reg_setReg, Group.reg_setReg, Group.reg_setReg, h]
  · rw [Group.reg_setReg, Group.reg_setReg, h]

include hx pair

theorem Group.reg_setData_lane (g : Group) {l l' r : Nat} (v : Nat) (hr : r < 64) (h : l ≠ l') :
    (g.setData l xd n v).reg l' r = g.reg l' r := by
  unfold Group.setData
  split
  · next eight =>
    have hx' := pair eight
    rw [Group.setPair, Group.reg_setReg_lane _ _ (by omega) hr h, Group.reg_setReg_lane _ _ hx hr h]
  · exact g.reg_setReg_lane _ hx hr h

/-- After one lane after the other was written, a lane holds what was written to it, and the others what they held. -/
theorem foldl_setData_reg (v : Nat → Nat) {ls : List Nat} (nodup : ls.Nodup) (g : Group) (l : Nat) {r : Nat} (hr : r < 64) :
    (ls.foldl (fun g l => g.setData l xd n (v l)) g).reg l r =
      if l ∈ ls then (g.setData l xd n (v l)).reg l r else g.reg l r := by
  induction ls generalizing g with
  | nil => rfl
  | cons k ks ih =>
    obtain ⟨notin, nodup⟩ := List.nodup_cons.mp nodup
    rw [List.foldl_cons, ih nodup]
    by_cases same : k = l
    · subst same
      rw [if_neg notin, if_pos List.mem_cons_self]
    · have kept := g.reg_setData_lane hx pair (v k) hr same
      simp only [List.mem_cons, Ne.symm same, false_or, Group.reg_setData_congr (v l) kept, kept]

include size

/-- A lane that was written holds its value, in one register or a pair. -/
theorem foldl_setData_value (v : Nat → Nat) {ls : List Nat} (nodup : ls.Nodup) (g : Group) {l : Nat} (mem : l ∈ ls)
    (h : v l < 2 ^ (8 * n)) :
    let g' := ls.foldl (fun g l => g.setData l xd n (v l)) g
    (n ≠ 8 → (g'.reg l xd).toNat = v l) ∧ (n = 8 → g'.pair l xd = v l) := by
  have own : ∀ {r}, r < 64 → _ := fun hr => (foldl_setData_reg hx pair v nodup g l hr).trans (if_pos mem)
  refine ⟨fun single => ?_, fun eight => ?_⟩
  · rw [own hx, g.reg_setData size l single h]
  · have hx' := pair eight
    rw [Group.pair_congr (own hx) (own (by omega)), g.pair_setData l eight h]

end

/-! ### The accesses of an issue (R185, R186) -/

/-- An access that passes its checks is of the offset its address names, and aligned. -/
theorem State.checkAddr_ok {s : State} {x a n o : Nat} (h : s.checkAddr x a n = .ok o) : o = a % 2 ^ 52 ∧ n ∣ o := by
  have named : ∀ b, s.localOf a = some b → b = a % 2 ^ 52 := fun b e => by
    unfold State.localOf at e
    split_ifs at e
    exact (Option.some.inj e).symm
  unfold State.checkAddr at h
  cases place : s.localOf a with
  | none => rw [place] at h; cases h
  | some b =>
    rw [place] at h
    dsimp only at h
    split_ifs at h with _ _ misaligned
    obtain rfl := AddrCheck.ok.inj h
    exact ⟨named b place, Nat.dvd_of_mod_eq_zero (by simpa using misaligned)⟩

/-- The checks of an access ask the registers and the context's configuration. -/
theorem State.checkAddr_congr {s t : State} {x : Nat} (regs : t.regs = s.regs) (cfg : (t.ctx x).cfg = (s.ctx x).cfg) (a n : Nat) :
    t.checkAddr x a n = s.checkAddr x a n := by
  have part : t.localOf a = s.localOf a := by rw [State.localOf, State.localOf, State.rd, State.rd, regs]
  have extent : t.inExtent x = s.inExtent x := by
    funext b m
    rw [State.inExtent, State.inExtent, cfg]
  have present : t.bankPresent = s.bankPresent := by
    funext c b
    rw [State.bankPresent, State.bankPresent, State.on, State.on, State.rd, State.rd, regs]
  rw [State.checkAddr, State.checkAddr, part, extent, present]

/-- The offset that a lane's access names. -/
def Issue.operand (i : Issue) (l : Nat) : Nat := i.g.addr l i.word % 2 ^ 52

/-- The lanes of an issue, each with the offset of its operand. -/
def Issue.accesses (i : Issue) : List (Nat × Nat) := i.lanes.map (fun l => (l, i.operand l))

theorem Issue.accesses_lanes (i : Issue) : i.accesses.map Prod.fst = i.lanes := by
  rw [Issue.accesses, List.map_map]
  exact List.map_id _

theorem Issue.mem_accesses {i : Issue} {e : Nat × Nat} : e ∈ i.accesses ↔ e.1 ∈ i.lanes ∧ e.2 = i.operand e.1 := by
  simp only [Issue.accesses, List.mem_map]
  constructor
  · rintro ⟨l, hl, rfl⟩
    exact ⟨hl, rfl⟩
  · rintro ⟨hl, ho⟩
    exact ⟨e.1, hl, Prod.ext rfl ho.symm⟩

/-- Every access of the issue passes its checks. -/
def State.passes (s : State) (i : Issue) : Prop :=
  ∀ l ∈ i.lanes, ∃ o, s.checkAddr i.g.ctx (i.g.addr l i.word) (insSize i.word) = .ok o

theorem State.passes.check {s : State} {i : Issue} (h : s.passes i) {l : Nat} (hl : l ∈ i.lanes) :
    s.checkAddr i.g.ctx (i.g.addr l i.word) (insSize i.word) = .ok (i.operand l) := by
  obtain ⟨o, ho⟩ := h l hl
  rw [ho, (State.checkAddr_ok ho).1, Issue.operand]

/-- Where all accesses pass, what takes the offsets out of their checks lists every lane. -/
theorem State.passes.listed {s : State} {i : Issue} (h : s.passes i) {p : Nat × Nat × AddrCheck → Option (Nat × Nat)}
    (hp : ∀ (l a o : Nat), p (l, a, .ok o) = some (l, o)) : (s.checkLanes i (insSize i.word)).filterMap p = i.accesses := by
  rw [State.checkLanes, List.filterMap_map, Issue.accesses, ← List.filterMap_eq_map]
  refine List.filterMap_congr (fun l hl => ?_)
  rw [Function.comp_apply, h.check hl]
  exact hp ..

theorem State.accessible.passes {s : State} {i : Issue} (h : s.accessible i) : s.passes i := by
  obtain ⟨-, -, passes⟩ := h
  exact passes

theorem State.accessible.memoryClear {s : State} {i : Issue} (h : s.accessible i) : s.memoryClear := by
  obtain ⟨-, clear, -⟩ := h
  exact clear

theorem State.accessible.address {s : State} {i : Issue} (h : s.accessible i) : insXA i.word < 63 := by
  obtain ⟨address, -, -⟩ := h
  exact address

/-- A lane alone at its operand is disturbed by no other. -/
theorem State.passes.undisturbed {s : State} {i : Issue} (h : s.passes i) {l : Nat} (alone : s.alone i l (i.operand l))
    (write : Nat → Nat → Option Nat) : Undisturbed write i.accesses (l, i.operand l) := by
  intro d hd other same
  obtain ⟨hl, ho⟩ := Issue.mem_accesses.mp hd
  refine absurd (h.check hl) ?_
  rw [← ho, same]
  exact alone d.1 hl other

/-! ### The order of the lanes (log 10) -/

theorem orderBy_ins_perm (key : Nat → Nat) (x : Nat × Nat) (l : List (Nat × Nat)) : (orderBy.ins key x l).Perm (x :: l) := by
  induction l with
  | nil => exact .refl _
  | cons y l ih =>
    unfold orderBy.ins
    split
    · exact .refl _
    · exact (ih.cons y).trans (.swap x y l)

theorem orderBy_perm (key : Nat → Nat) (l : List (Nat × Nat)) : (orderBy key l).Perm l := by
  induction l with
  | nil => exact .refl _
  | cons x l ih => exact (orderBy_ins_perm key x _).trans (ih.cons x)

/-- Putting the lanes in an order draws, and loses none of them. -/
theorem State.laneOrder_spec (s : State) (acc : List (Nat × Nat)) :
    s.Serves (s.laneOrder acc).1 ∧ (s.laneOrder acc).1.mem = s.mem ∧ (s.laneOrder acc).2.Perm acc := by
  unfold State.laneOrder
  split
  · exact ⟨⟨rfl, s.regsBut_refl _⟩, rfl, orderBy_perm _ acc⟩
  · exact ⟨.refl s, rfl, .refl _⟩

/-! ### The body of a memory instruction -/

/-- The group once the lanes have executed in an order, each with the old value it saw. -/
def Issue.backed (i : Issue) (back : Nat → Nat → Group → Group) (seen : Nat → Nat) (order : List Nat) : Group :=
  order.foldl (fun g l => back l (seen l) g) i.g

/-- What the lanes write over an old value leaves the operand with the value that `new` gives. -/
def Issue.gives (i : Issue) (write : Nat → Nat → Option Nat) (new : Nat → Nat → Nat) : Prop :=
  ∀ l ∈ i.lanes, ∀ old, old < 2 ^ (8 * insSize i.word) → new l old = (write l old).getD old % 2 ^ (8 * insSize i.word)

/-- `post` holds of the group, whatever the order of the lanes, where each that no other disturbs saw what memory holds. -/
def State.assures (s : State) (i : Issue) (write : Nat → Nat → Option Nat) (back : Nat → Nat → Group → Group)
    (post : Group → Prop) : Prop :=
  ∀ (seen : Nat → Nat) (order : List Nat) (g : Group), order.Perm i.lanes → g.regs = (i.backed back seen order).regs →
    (∀ l ∈ i.lanes, Undisturbed write i.accesses (l, i.operand l) → seen l = s.load (i.operand l) (insSize i.word)) → post g

section
variable {s : State} {i : Issue} {f : State → Group → Nat → Nat → State × Option Group} {write : Nat → Nat → Option Nat}
  {back : Nat → Nat → Group → Group}

/-- Where every access passes its checks, the lanes access their operands in some order and the issue retires. -/
theorem State.memIns_lanes (passes : s.passes i) (nodup : i.lanes.Nodup) (clear : s.memoryClear)
    (body : LaneBody (insSize i.word) f write back) : ∃ (t : State) (seen : Nat → Nat) (order : List Nat), order.Perm i.lanes ∧
      s.memIns i (insSize i.word) f = t.retire i (fun g => { g with regs := (i.backed back seen order).regs }) ∧
      s.Lanes t (insSize i.word) write i.accesses seen := by
  unfold State.memIns
  dsimp only
  split
  · next l a k fails =>
    obtain ⟨m, hm, e⟩ := List.mem_map.mp (List.mem_of_find?_eq_some fails)
    have fault := List.find?_some fails
    obtain ⟨rfl, rest⟩ := Prod.mk.inj e
    obtain ⟨rfl, rfl⟩ := Prod.mk.inj rest
    rw [passes.check hm] at fault
    cases fault
  · rw [passes.listed (fun _ _ _ => rfl)]
    obtain ⟨drawn, mem, perm⟩ := s.laneOrder_spec i.accesses
    have lanes : ((s.laneOrder i.accesses).2.map Prod.fst).Perm i.lanes := by
      have p := perm.map Prod.fst
      rwa [i.accesses_lanes] at p
    have aligned : ∀ e ∈ (s.laneOrder i.accesses).2, insSize i.word ∣ e.2 := fun e he => by
      obtain ⟨hl, ho⟩ := Issue.mem_accesses.mp (perm.mem_iff.mp he)
      exact ho ▸ (State.checkAddr_ok (passes.check hl)).2
    generalize fold : List.foldl _ _ _ = r
    obtain ⟨t, seen, rfl, after⟩ := body.fold (x := i.g.ctx) fold (fun _ _ _ => rfl) aligned (lanes.nodup_iff.mpr nodup)
      (drawn.memoryClear clear)
    exact ⟨t, seen, _, lanes, rfl, (after.perm perm).serves drawn mem⟩

/-- An instruction whose lanes write nothing leaves memory as it is. -/
theorem State.memIns_mem (passes : s.passes i) (nodup : i.lanes.Nodup) (clear : s.memoryClear)
    (body : LaneBody (insSize i.word) f write back) (reads : ∀ l v, write l v = none) :
    (s.memIns i (insSize i.word) f).mem = s.mem := by
  obtain ⟨t, seen, order, -, run, after⟩ := State.memIns_lanes passes nodup clear body
  rw [run, (t.retire_spec i _).1]
  exact after.mem (fun e _ => reads e.1)

end

/-! ### The mark of a V-marked instruction (R199) -/

/-- The state in which the body of an instruction runs: context x is marked where the instruction bears V. -/
def State.marked (s : State) (x : Nat) (v : Bool) : State := if v then s.modCtx x (fun k => { k with vmark := true }) else s

theorem State.marked_eq (s : State) (x : Nat) (v : Bool) : s.marked x v =
    { s with ctxs := if v then (s.modCtx x (fun k => { k with vmark := true })).ctxs else s.ctxs } := by
  cases v <;> rfl

theorem State.marked_cfg (s : State) (x : Nat) (v : Bool) (y : Nat) : ((s.marked x v).ctx y).cfg = (s.ctx y).cfg := by
  cases v with
  | false => rfl
  | true =>
    show ((s.setCtx x { s.ctx x with vmark := true }).ctx y).cfg = _
    rw [State.ctx_setCtx]
    split
    · next same => rw [same]
    · rfl

theorem State.marked_passes {s : State} {i : Issue} (h : s.passes i) (x : Nat) (v : Bool) : (s.marked x v).passes i := fun l hl => by
  rw [State.checkAddr_congr (by rw [s.marked_eq]) (s.marked_cfg x v _)]
  exact h l hl

theorem State.memoryClear_marked {s : State} (h : s.memoryClear) (x : Nat) (v : Bool) : (s.marked x v).memoryClear := by
  rw [s.marked_eq]
  exact h

/-! ### A memory instruction that completes -/

/-- What accesses leave of a core, with what retiring the issue leaves. -/
theorem State.Serves.otherGroups {s t u : State} {i : Issue} (h : s.Serves t) (retired : t.otherGroups u i) :
    s.otherGroups u i servedKeys := by
  obtain ⟨cores, groups, own, regs⟩ := retired
  simp only [h.core] at cores groups own
  refine ⟨cores, groups, own, State.regsBut.trans (fun b hb => h.regs b (fun mem => hb (List.mem_append_right _ mem))) ?_⟩
  exact fun b hb => regs b (fun mem => hb (List.mem_append_left _ (by rwa [List.append_nil] at mem)))

section
variable {z : State} {c p : Nat} {i : Issue} (issue : z.issuePoint c p = some i)
  {f : State → Group → Nat → Nat → State × Option Group} {write : Nat → Nat → Option Nat} {back : Nat → Nat → Group → Group}
  (body : LaneBody (insSize i.word) f write back)
include issue body

/-- The body of a memory instruction leaves each operand that one lane alone accesses with the value it writes, and the group with
what the old values do to its registers. -/
theorem State.memIns_accessed {s : State} (access : s.accessible i) (v : Bool) {new : Nat → Nat → Nat} {post : Group → Prop}
    (value : i.gives write new) (result : s.assures i write back post) :
    s.accessed i (.next ((s.marked i.g.ctx v).memIns i (insSize i.word) f)) v new post := by
  have passes := access.passes
  obtain ⟨t, seen, order, perm, run, lanes⟩ := State.memIns_lanes (State.marked_passes passes i.g.ctx v) (Issue.lanes_nodup issue)
    (State.memoryClear_marked access.memoryClear i.g.ctx v) body
  obtain ⟨rest, others, group⟩ := t.retire_spec i (fun g => { g with regs := (i.backed back seen order).regs })
  rw [← run] at rest others group
  generalize (s.marked i.g.ctx v).memIns i (insSize i.word) f = u at rest others group ⊢
  have mem : u.mem = t.mem := by rw [rest]
  have before : ∀ a, (s.marked i.g.ctx v).load a (insSize i.word) = s.load a (insSize i.word) :=
    fun a => State.load_of_mem (by rw [s.marked_eq]) a _
  have met : ∀ l ∈ i.lanes, Undisturbed write i.accesses (l, i.operand l) → seen l = s.load (i.operand l) (insSize i.word) ∧
      u.load (i.operand l) (insSize i.word) = new l (s.load (i.operand l) (insSize i.word)) := fun l hl alone => by
    obtain ⟨saw, holds⟩ := lanes.seen (l, i.operand l) (Issue.mem_accesses.mpr ⟨hl, rfl⟩) alone
    rw [before] at saw holds
    exact ⟨saw, by rw [State.load_of_mem mem, holds, value l hl _ (s.load_lt ..)]⟩
  refine ⟨u, _, rfl, ?_, ?_, group, Issue.moved_after issue _, fun j out => ?_, fun l hl o ho alone => ?_,
    result seen order _ perm rfl (fun l hl alone => (met l hl alone).1)⟩
  · rw [rest, lanes.rest, s.marked_eq]
  · have kept := lanes.toServes.otherGroups others
    rw [s.marked_eq] at kept
    exact kept
  · rw [State.byte, mem, ← State.byte, lanes.byte j (fun e he => ?_), State.byte, s.marked_eq, State.byte]
    obtain ⟨hl, ho⟩ := Issue.mem_accesses.mp he
    exact ho ▸ out e.1 hl _ (passes.check hl)
  · obtain rfl : o = i.operand l := (State.checkAddr_ok ho).1
    exact (met l hl (passes.undisturbed alone write)).2

end

/-! ### What goes back to the group -/

section
variable {s : State} {i : Issue}

/-- A value goes to a lane's xd. -/
def Issue.toXd (i : Issue) (l v : Nat) (g : Group) : Group := g.setData l (insXD i.word) (insSize i.word) v

/-- The old value of each undisturbed lane goes to its xd. -/
theorem back_old {seen : Nat → Nat} {order : List Nat} {g : Group} (nodup : i.lanes.Nodup) (perm : order.Perm i.lanes)
    (regs : g.regs = (i.backed i.toXd seen order).regs)
    (pair : insSize i.word = 8 → insXD i.word < 63) {l o : Nat} (hl : l ∈ i.lanes) (saw : seen l = s.load o (insSize i.word)) :
    (insSize i.word ≠ 8 → (g.reg l (insXD i.word)).toNat = s.load o (insSize i.word)) ∧
    (insSize i.word = 8 → g.pair l (insXD i.word) = s.load o (insSize i.word)) := by
  have same : ∀ r, g.reg l r = (i.backed i.toXd seen order).reg l r := fun r => by rw [Group.reg, regs, Group.reg]
  obtain ⟨one, two⟩ := foldl_setData_value (insSize_cases i.word) (insXD_lt i.word) pair seen (perm.nodup_iff.mpr nodup) i.g
    (perm.mem_iff.mpr hl) (by rw [saw]; exact s.load_lt ..)
  refine ⟨fun single => ?_, fun eight => ?_⟩
  · rw [same, ← saw]
    exact one single
  · rw [Group.pair_congr (same _) (same _), ← saw]
    exact two eight

/-- Each lane's xd, or its pair, holds what it loaded, and no other register changed. -/
theorem back_loaded {seen : Nat → Nat} {order : List Nat} {g : Group} (nodup : i.lanes.Nodup) (perm : order.Perm i.lanes)
    (regs : g.regs = (i.backed i.toXd seen order).regs)
    (pair : insSize i.word = 8 → insXD i.word < 63)
    (saw : ∀ l ∈ i.lanes, seen l = s.load (i.operand l) (insSize i.word)) :
    i.loaded g (fun l => s.load (i.operand l) (insSize i.word)) := by
  refine ⟨fun l hl => back_old nodup perm regs pair hl (saw l hl), fun l r hr out => ?_⟩
  have own := foldl_setData_reg (insXD_lt i.word) pair seen (perm.nodup_iff.mpr nodup) i.g l hr
  rw [Group.reg, regs, ← Group.reg]
  refine own.trans ?_
  split
  · next mem => exact i.g.reg_setData_other _ (out.resolve_left (fun no => no (perm.mem_iff.mp mem)))
  · rfl

end

/-! ### What is legal (R612) -/

theorem runsPast_pair {r : Nat} (h : r < 63) : runsPast r 2 = false := by
  unfold runsPast
  exact decide_eq_false (by omega)

theorem memLegal_of {regs : Nat → List Nat} {w : Nat} (address : insXA w < 63) (pairs : insSize w = 8 → ∀ r ∈ regs w, r < 63) :
    memLegal regs w = true := by
  unfold memLegal
  rw [runsPast_pair address, Bool.not_false, Bool.true_and, Bool.or_eq_true_iff]
  by_cases eight : insSize w = 8
  · refine .inr (List.all_eq_true.mpr (fun r hr => ?_))
    rw [runsPast_pair (pairs eight r hr), Bool.not_false]
  · exact .inl (bne_iff_ne.mpr eight)

theorem faddLegal_of {w : Nat} (address : insXA w < 63) (size : insSize w = 4 ∨ insSize w = 2) : faddLegal w = true := by
  unfold faddLegal
  rw [runsPast_pair address]
  simpa using size

/-! ### Each instruction -/

/-- The old values of the lanes that are alone went back to their xd. -/
def State.oldBack (s : State) (i : Issue) (g : Group) : Prop :=
  ∀ l ∈ i.lanes, ∀ o, s.checkAddr i.g.ctx (i.g.addr l i.word) (insSize i.word) = .ok o → s.alone i l o →
    (insSize i.word ≠ 8 → (g.reg l (insXD i.word)).toNat = s.load o (insSize i.word)) ∧
    (insSize i.word = 8 → g.pair l (insXD i.word) = s.load o (insSize i.word))

section
variable {z : State} {c p : Nat} {i : Issue} (issue : z.issuePoint c p = some i) (inRange : i.inRange = true) (got : i.got = true)
  (access : (z.fetched i).accessible i)
include issue inRange got access

/-- A memory instruction that goes through, by what its lanes write and what goes back to the group. -/
theorem State.ins_accessed {op : Nat} {v : Bool} {legal : Nat → Bool}
    {f : Issue → State → Group → Nat → Nat → State × Option Group} (opcode : insOp i.word = op)
    (allowed : v = true → i.d.kernel.vAllow = true) (lawful : legal i.word = true) (write : Nat → Nat → Option Nat)
    (back : Nat → Nat → Group → Group) (body : LaneBody (insSize i.word) (f i) write back) {new : Nat → Nat → Nat}
    {post : Group → Prop}
    (value : i.gives write new) (result : (z.fetched i).assures i write back post) :
    (z.fetched i).accessed i (.next (z.ins c p op v legal (fun i s => s.memIns i (insSize i.word) (f i)))) v new post := by
  rw [State.ins_eq _ issue inRange got opcode allowed lawful]
  exact State.memIns_accessed issue body access v value result

/-- A memory instruction whose lanes write nothing: every lane sees what memory holds, and memory stays. -/
theorem State.ins_reads {op : Nat} {legal : Nat → Bool} {f : Issue → State → Group → Nat → Nat → State × Option Group}
    (opcode : insOp i.word = op) (lawful : legal i.word = true) (back : Nat → Nat → Group → Group)
    (body : LaneBody (insSize i.word) (f i) (fun _ _ => none) back) {post : Group → Prop}
    (result : ∀ (seen : Nat → Nat) (order : List Nat) (g : Group), order.Perm i.lanes → g.regs = (i.backed back seen order).regs →
      (∀ l ∈ i.lanes, seen l = (z.fetched i).load (i.operand l) (insSize i.word)) → post g) :
    let out : Out := .next (z.ins c p op false legal (fun i s => s.memIns i (insSize i.word) (f i)))
    (z.fetched i).accessed i out false (fun _ old => old) post ∧ ∀ t, out = .next t → t.mem = (z.fetched i).mem := by
  constructor
  · exact State.ins_accessed issue inRange got access opcode (fun v => Bool.noConfusion v) lawful _ back body
      (fun l _ old small => (Nat.mod_eq_of_lt small).symm)
      (fun seen order g perm regs saw => result seen order g perm regs (fun l hl => saw l hl (fun _ _ _ _ _ => rfl)))
  · rintro t run
    rw [← Host.Outcome.next.inj run, State.ins_eq _ issue inRange got opcode (fun v => Bool.noConfusion v) lawful]
    exact State.memIns_mem access.passes (Issue.lanes_nodup issue) access.memoryClear body (fun _ _ => rfl)

/-- LD (R185, R188): each lane's xd takes what its operand holds. -/
theorem ld_accessed (opcode : insOp i.word = 0x40) (pair : insSize i.word = 8 → insXD i.word < 63) :
    (z.fetched i).accessed i (exec (.ld c p) z) false (fun _ old => old)
        (fun g => i.loaded g (fun l => (z.fetched i).load (i.operand l) (insSize i.word))) ∧
      ∀ t, exec (.ld c p) z = .next t → t.mem = (z.fetched i).mem := by
  refine State.ins_reads issue inRange got access opcode
    (memLegal_of access.address (fun eight r hr => by rw [List.mem_singleton.mp hr]; exact pair eight))
    i.toXd (fun s g l o clear => ?_)
    (fun seen order g perm regs saw => back_loaded (Issue.lanes_nodup issue) perm regs pair saw)
  dsimp only
  rw [State.readMem_of_clear clear]
  exact ⟨_, rfl, s.read_accesses o _⟩

/-- ST (R186, R188): each lane writes the low bytes of its xb. -/
theorem st_accessed (opcode : insOp i.word = 0x41) (pair : insSize i.word = 8 → insXB i.word < 63) :
    (z.fetched i).accessed i (exec (.st c p) z) false (fun l _ => i.g.data l (insXB i.word) (insSize i.word))
      (fun g => g.regs = i.g.regs) := by
  refine State.ins_accessed issue inRange got access opcode (fun v => Bool.noConfusion v)
    (memLegal_of access.address (fun eight r hr => by rw [List.mem_singleton.mp hr]; exact pair eight))
    (fun l _ => some (i.g.data l (insXB i.word) (insSize i.word))) (fun _ _ g => g) (fun s g l o clear => ?_)
    (fun l _ old _ => (Nat.mod_eq_of_lt (i.g.data_lt ..)).symm)
    (fun seen order g _ regs _ => regs.trans (congrArg Group.regs (List.foldl_fixed order)))
  rw [State.writeMem_of_clear clear, length_toLE]
  exact ⟨_, rfl, State.write_accesses (.refl s) rfl o _ _⟩

/-- RED forms (R188): each lane reads, changes and writes its operand, and nothing goes back. -/
theorem red_accessed {op : Nat} {v : Bool} {legal : Nat → Bool} {write : Issue → Nat → Nat → Option Nat} {new : Nat → Nat → Nat}
    (opcode : insOp i.word = op) (allowed : v = true → i.d.kernel.vAllow = true) (lawful : legal i.word = true)
    (value : i.gives (write i) new) :
    (z.fetched i).accessed i (.next (z.ins c p op v legal (fun i s => s.memIns i (insSize i.word) (fun s g l o =>
      s.rmw o (insSize i.word) (write i l) (fun _ => g))))) v new (fun g => g.regs = i.g.regs) :=
  State.ins_accessed (f := fun i s g l o => s.rmw o (insSize i.word) (write i l) (fun _ => g)) issue inRange got access opcode
    allowed lawful (write i) (fun _ _ g => g) (fun _ _ l o clear => State.rmw_of_clear clear o _ (write i l) _) value
    (fun _ order _ _ regs _ => regs.trans (congrArg Group.regs (List.foldl_fixed order)))

/-- ATOM forms (R166, R199): so too, and the old value goes to xd. -/
theorem atom_accessed {op : Nat} {legal : Nat → Bool} {write : Issue → Nat → Nat → Option Nat} {new : Nat → Nat → Nat}
    (opcode : insOp i.word = op) (allowed : i.d.kernel.vAllow = true) (lawful : legal i.word = true)
    (pair : insSize i.word = 8 → insXD i.word < 63) (value : i.gives (write i) new) :
    (z.fetched i).accessed i (.next (z.ins c p op true legal (fun i s => s.memIns i (insSize i.word) (fun s g l o =>
      s.rmw o (insSize i.word) (write i l) (fun old => g.setData l (insXD i.word) (insSize i.word) old))))) true new
      ((z.fetched i).oldBack i) := by
  have passes := access.passes
  refine State.ins_accessed
    (f := fun i s g l o => s.rmw o (insSize i.word) (write i l) (fun old => g.setData l (insXD i.word) (insSize i.word) old))
    issue inRange got access opcode (fun _ => allowed) lawful (write i)
    i.toXd (fun _ g l o clear => State.rmw_of_clear clear o _ (write i l) (fun old => i.toXd l old g)) value
    (fun seen order g perm regs saw l hl o ho alone => ?_)
  obtain rfl : o = i.operand l := (State.checkAddr_ok ho).1
  exact back_old (Issue.lanes_nodup issue) perm regs pair hl (saw l hl (passes.undisturbed alone _))

end

/-- Settles O4: each clause is the lemma of its instruction, with what its lanes write over the old value. -/
theorem loadsStoresAtomics : Obligations.LoadsStoresAtomics := by
  unfold Obligations.LoadsStoresAtomics
  have sum : ∀ {n a : Nat}, a % 2 ^ n = a % 2 ^ n % 2 ^ n := fun {n a} => (Nat.mod_mod a _).symm
  constructor
  · intro z c p i issue inRange got s access
    exact ⟨ld_accessed issue inRange got access, st_accessed issue inRange got access⟩
  · intro z c p i issue inRange got s access n b old
    have address := access.address
    refine ⟨fun opcode pair => ?_, fun opcode allowed pairs => ?_, fun opcode allowed pairs => ?_, fun opcode allowed size => ?_,
      fun opcode allowed size => ?_⟩
    · exact red_accessed issue inRange got access opcode (fun v => Bool.noConfusion v)
        (memLegal_of address (by simpa using pair)) (fun l _ v _ => sum)
    · exact atom_accessed issue inRange got access opcode allowed
        (memLegal_of address (by simpa using pairs)) (fun eight => (pairs eight).2) (fun l _ v _ => sum)
    · refine atom_accessed issue inRange got access opcode allowed
        (memLegal_of address (by simpa using pairs)) (fun eight => (pairs eight).2.2) (fun l _ v small => ?_)
      split
      · exact (Nat.mod_eq_of_lt (i.g.data_lt ..)).symm
      · exact (Nat.mod_eq_of_lt small).symm
    · exact red_accessed issue inRange got access opcode (fun _ => allowed) (faddLegal_of address size) (fun l _ v _ => rfl)
    · exact atom_accessed issue inRange got access opcode allowed (faddLegal_of address size)
        (fun eight => by omega) (fun l _ v _ => rfl)

end Sys2Proof.Machine
end

section
/-! What a fetch leaves (R203, R211–R219): of the cores only instruction caches and the patrol's record of corrected errors change. -/
namespace Sys2Proof.Machine

/-- From s to t lines of memory were read: FLT's service and the work of every core stand as they did. -/
structure State.Fetches (s t : State) : Prop where
  fltUp : t.boot.fltUp = s.boot.fltUp
  core : ∀ e, t.core e = { s.core e with icache := (t.core e).icache, ceSeen := (t.core e).ceSeen }

namespace State.Fetches
variable {s t u : State}

theorem still (fltUp : t.boot.fltUp = s.boot.fltUp) (cores : t.cores = s.cores) : s.Fetches t where
  fltUp := fltUp
  core e := by
    have same : t.core e = s.core e := by rw [State.core, cores, State.core]
    rw [same]

theorem refl (s : State) : s.Fetches s := still rfl rfl

theorem trans (h : s.Fetches t) (h' : t.Fetches u) : s.Fetches u where
  fltUp := h'.fltUp.trans h.fltUp
  core e := by rw [h'.core e, h.core e]

theorem of_serves (h : s.Serves t) : s.Fetches t := still (by rw [h.rest]) (by rw [h.rest])

theorem raise (s : State) {src kind addr detail : Nat} (h : droneKind kind = false) : s.Fetches (s.raise src kind addr detail) := by
  have reports : s.Reports (fun _ => True) (s.raise src kind addr detail) := .raise s (.inr h) trivial
  exact still reports.fltUp (by rw [reports.rest])

/-- A core takes a line into its cache, or notes a corrected error. -/
theorem modCore (s : State) (c : Nat) {f : Core → Core}
    (h : ∀ k, f k = { k with icache := (f k).icache, ceSeen := (f k).ceSeen }) : s.Fetches (s.modCore c f) where
  fltUp := rfl
  core e := by
    rw [State.modCore, State.core_setCore]
    split
    · next same => rw [same]; exact h _
    · rfl

theorem logUe (s : State) (k off : Nat) : s.Fetches (s.logUe k off) := by
  unfold State.logUe
  split
  · exact refl s
  · exact still rfl rfl

theorem memUe (s : State) (a : Nat) : s.Fetches (s.memUe a) := by
  unfold State.memUe
  split
  · exact raise s rfl
  · exact (logUe ..).trans (raise _ rfl)
  · exact refl s

theorem spadCe (s : State) (c a : Nat) : s.Fetches (s.spadCe c a) := by
  unfold State.spadCe
  extract_lets repeated unmarked counted seen
  have noted : s.Fetches seen := (still rfl rfl : s.Fetches counted).trans (modCore counted c (fun _ => rfl))
  exact noted.trans (raise seen (by split <;> rfl))

theorem hbmCe (s : State) (k a : Nat) : s.Fetches (s.hbmCe k a) := by
  unfold State.hbmCe
  extract_lets repeated unmarked counted seen
  exact (still rfl rfl : s.Fetches seen).trans (raise seen (by split <;> rfl))

theorem mend (s : State) (ms : List Nat) : s.Fetches (s.mend ms) := by
  refine State.each_inv s.Fetches (fun t m h => h.trans ?_) ms s (refl s)
  split
  · exact spadCe ..
  · exact hbmCe ..
  · exact refl t

theorem readMem (s : State) (a n : Nat) : s.Fetches (s.readMem a n).1 := by
  have check : s.Fetches (s.readCheck a n).1 := by
    unfold State.readCheck
    split
    · exact refl s
    · split
      · exact memUe ..
      · exact (mend ..).trans (of_serves (.served ..))
  unfold State.readMem
  split <;> next h => rw [h] at check; exact check

theorem fetchLine (s : State) (c x n : Nat) : s.Fetches (s.fetchLine c x n).1 := by
  unfold State.fetchLine
  split
  · exact refl s
  · have read := (of_serves (State.Serves.chargeStack s x (n * 64) 64)).trans (readMem (s.chargeStack x (n * 64) 64) (n * 64) 64)
    split
    · next t l h =>
      rw [h] at read
      have cached : t.Fetches (t.modCore c (fun k => { k with icache := SMap.put k.icache n l })) := modCore t c (fun _ => rfl)
      exact (read.trans cached).trans (still rfl rfl)
    · next t h =>
      rw [h] at read
      exact read

theorem fetched (s : State) (i : Issue) : s.Fetches (s.fetched i) := by
  unfold State.fetched
  split
  · exact fetchLine ..
  · exact refl s

end State.Fetches

/-- The dispatch of an issue stands on its core when the word has been fetched. -/
theorem State.fetched_disp {z : State} {c p : Nat} {i : Issue} (issue : z.issuePoint c p = some i) :
    ((z.fetched i).core c).disp i.g.disp = some i.d := by
  obtain ⟨-, -, -, disp, -⟩ := State.issuePoint_eq issue
  rw [(State.Fetches.fetched z i).core c]
  exact disp

theorem State.fetched_group {z : State} {c p : Nat} {i : Issue} (issue : z.issuePoint c p = some i) :
    ((z.fetched i).core c).group p = some i.g := by
  obtain ⟨-, -, group, -, -⟩ := State.issuePoint_eq issue
  rw [(State.Fetches.fetched z i).core c]
  exact group

theorem State.fetched_exu (z : State) (i : Issue) (c : Nat) : ((z.fetched i).core c).exu = (z.core c).exu := by
  rw [(State.Fetches.fetched z i).core c]

/-- A participating lane is a lane of the group; its thread stands at the issue's PC and is a candidate (R177). -/
theorem Issue.mem_lanes {z : State} {c p : Nat} {i : Issue} (issue : z.issuePoint c p = some i) {l : Nat} (hl : l ∈ i.lanes) :
    l < i.g.threads.length ∧ (i.g.thread l).candidate = true ∧ (i.g.thread l).pc = i.pc := by
  obtain ⟨-, -, -, -, lanes⟩ := State.issuePoint_eq issue
  rw [lanes, List.mem_filter, Group.candidates, List.mem_filter, List.mem_range] at hl
  obtain ⟨⟨lt, candidate⟩, pc⟩ := hl
  exact ⟨lt, candidate, of_decide_eq_true pc⟩

end Sys2Proof.Machine
end


section
/-! Register-to-register instructions: integers, comparisons, shuffles and votes (R183, R207, R612), and floating point (R181, R208,
R209). -/
namespace Sys2Proof.Machine

theorem State.alu2_issued {z : State} {c p op : Nat} {i : Issue} (f : Word → Word → Word) (issue : z.issuePoint c p = some i)
    (inRange : i.inRange = true) (got : i.got = true) (opcode : insOp i.word = op) :
    (z.fetched i).issued i (.next (z.alu2 c p op f)) (fun l => f (i.g.reg l (insXA i.word)) (i.g.reg l (insXB i.word))) :=
  State.alu_issued _ _ issue inRange got opcode rfl

/-- An FP instruction goes through while no pass runs on the Exact Unit of its core (R181). -/
theorem State.fp_issued {z : State} {c p op : Nat} {i : Issue} {legal : Nat → Bool} (f : Group → Nat → Nat → Word)
    (issue : z.issuePoint c p = some i) (inRange : i.inRange = true) (got : i.got = true)
    (idle : ((z.fetched i).core c).exu.running = none) (unhosted : ((z.fetched i).core c).exu.serac = none)
    (opcode : insOp i.word = op) (lawful : legal i.word = true) :
    (z.fetched i).issued i (.next (z.fp c p op legal f)) (fun l => f i.g l i.word) := by
  rw [State.fetched_exu] at idle unhosted
  have waits : ((z.core c).exu.running.isSome || (z.core c).exu.serac.isSome) = false := by rw [idle, unhosted]; rfl
  rw [State.fp, waits, if_neg Bool.false_ne_true]
  exact State.alu_issued legal f issue inRange got opcode lawful

/-! ### Words -/

theorem sel_eq (a b x : Word) : (if (x != 0#32) = true then a else b) = if x = 0#32 then b else a := by
  by_cases zero : x = 0#32 <;> simp [zero]

theorem slt_iff (a b : Word) : a.slt b = true ↔ a.toInt < b.toInt := by rw [BitVec.slt, decide_eq_true_iff]

theorem smaller_eq (a b : Word) : (if a.toInt ≤ b.toInt then a else b) = if b.slt a = true then b else a := by
  simp only [slt_iff]
  by_cases le : a.toInt ≤ b.toInt
  · rw [if_pos le, if_neg (by omega)]
  · rw [if_neg le, if_pos (by omega)]

theorem greater_eq (a b : Word) : (if a.toInt ≤ b.toInt then b else a) = if a.slt b = true then b else a := by
  simp only [slt_iff]
  rcases Int.lt_trichotomy a.toInt b.toInt with lt | eq | gt
  · rw [if_pos (by omega), if_pos lt]
  · rw [if_pos (by omega), if_neg (by omega), BitVec.eq_of_toInt_eq eq]
  · rw [if_neg (by omega), if_neg (by omega)]

theorem ofNat_insImm (w : Nat) : BitVec.ofNat 32 (insImm w) = BitVec.ofNat 32 w := by
  apply BitVec.eq_of_toNat_eq
  rw [insImm, bits, BitVec.toNat_ofNat, BitVec.toNat_ofNat, Nat.pow_zero, Nat.div_one, Nat.mod_mod]

theorem bit_toNat (x : Word) (k : Nat) : bit x.toNat k = x.getLsbD k := bit_eq_testBit ..

theorem popcount_eq (x : Word) (n : Nat) : popcount x.toNat n = (List.range n).countP (fun k => x.getLsbD k) := by
  induction n with
  | zero => rfl
  | succ n ih =>
    rw [popcount, ih, bit_toNat, List.range_succ, List.countP_append, List.countP_singleton]
    rfl

theorem leadingZeros_eq (x : Word) : leadingZeros x.toNat = ((List.range 32).find? (fun k => x.getLsbD (31 - k))).getD 32 := by
  simp only [leadingZeros, bit_toNat]

/-! ### Integers -/

/-- Settles O1: each clause is the law of its form, with what the word it writes is. -/
theorem integerResults : Obligations.IntegerResults := by
  unfold Obligations.IntegerResults
  intro z c p i issue inRange got
  have two {op : Nat} (f : Word → Word → Word) := State.alu2_issued (op := op) f issue inRange got
  refine ⟨two _, two _, two _, two _, two _, two _, two _, two _, two _, fun h => ?_, fun h => ?_, fun h => ?_, fun h => ?_⟩
  · exact State.issued_congr (State.alu_issued _ _ issue inRange got h rfl) (fun _ _ => sel_eq ..)
  · exact State.issued_congr (two _ h) (fun _ _ => smaller_eq ..)
  · exact State.issued_congr (two _ h) (fun _ _ => greater_eq ..)
  · exact State.issued_congr (State.alu_issued _ _ issue inRange got h rfl) (fun _ _ => ofNat_insImm _)

/-! ### Comparisons -/

theorem State.icmp_issued {z : State} {c p : Nat} {i : Issue} {holds : Word → Word → Bool} (issue : z.issuePoint c p = some i)
    (inRange : i.inRange = true) (got : i.got = true) (opcode : insOp i.word = 0x0A)
    (names : ∀ a b, icmp (bits i.word 2 0) a b = some (holds a b)) :
    (z.fetched i).issued i (exec (.icmp c p) z) (fun l =>
      if holds (i.g.reg l (insXA i.word)) (i.g.reg l (insXB i.word)) then 1#32 else 0#32) := by
  refine State.issued_congr (State.alu_issued _ _ issue inRange got opcode ?_) (fun l _ => ?_)
  · rw [names]; rfl
  · rw [names]; rfl

/-! ### Votes (R183, R612) -/

theorem voteAny_lanes (ls : List Nat) (a : Nat → Word) :
    flagWord (voteAny (ls.map (fun l => (l, a l)))) = if ∃ l ∈ ls, a l ≠ 0#32 then 1#32 else 0#32 := by
  simp [flagWord, voteAny, List.any_map]

theorem voteAll_lanes (ls : List Nat) (a : Nat → Word) :
    flagWord (voteAll (ls.map (fun l => (l, a l)))) = if ∀ l ∈ ls, a l ≠ 0#32 then 1#32 else 0#32 := by
  simp [flagWord, voteAll, List.all_map]

theorem bit_setBit (x k j : Nat) : bit (setBit x k) j = (bit x j || decide (j = k)) := by
  by_cases same : k = j
  · rw [same, bit_setBit_self, decide_eq_true rfl, Bool.or_true]
  · rw [bit_setBit_ne x same, decide_eq_false (Ne.symm same), Bool.or_false]

theorem bit_voteBallot (vals : List (Nat × Word)) (k : Nat) :
    bit (voteBallot vals) k = vals.any (fun v => v.2 != 0#32 && decide (k = v.1)) := by
  have fold : ∀ (vals : List (Nat × Word)) (m : Nat), bit (vals.foldl (fun m v => if v.2 != 0#32 then setBit m v.1 else m) m) k =
      (bit m k || vals.any (fun v => v.2 != 0#32 && decide (k = v.1))) := by
    intro vals
    induction vals with
    | nil => exact fun m => (Bool.or_false _).symm
    | cons v vs ih =>
      intro m
      rw [List.foldl_cons, ih, List.any_cons, ← Bool.or_assoc]
      congr 1
      cases v.2 != 0#32
      · rw [if_neg Bool.false_ne_true, Bool.false_and, Bool.or_false]
      · rw [if_pos rfl, bit_setBit, Bool.true_and]
  rw [voteBallot, fold, show bit 0 k = false by simp [bit], Bool.false_or]

theorem bit_voteBallot_lanes (ls : List Nat) (a : Nat → Word) (k : Nat) :
    bit (voteBallot (ls.map (fun l => (l, a l)))) k = decide (k ∈ ls ∧ a k ≠ 0#32) := by
  rw [bit_voteBallot, List.any_map, Bool.eq_iff_iff, List.any_eq_true, decide_eq_true_iff]
  constructor
  · rintro ⟨l, hl, holds⟩
    obtain ⟨nonzero, same⟩ := Bool.and_eq_true_iff.mp holds
    obtain rfl : k = l := of_decide_eq_true same
    exact ⟨hl, bne_iff_ne.mp nonzero⟩
  · rintro ⟨hk, nonzero⟩
    exact ⟨k, hk, Bool.and_eq_true_iff.mpr ⟨bne_iff_ne.mpr nonzero, decide_eq_true rfl⟩⟩

theorem bit_mod_two_pow (x n k : Nat) : bit (x % 2 ^ n) k = (decide (k < n) && bit x k) := by
  rw [bit_eq_testBit, bit_eq_testBit, Nat.testBit_mod_two_pow]

/-! ### Pairs written to the participating lanes -/

/-- A pair written to one lane after the other. -/
theorem Issue.perLane_pair_fields (i : Issue) (v : Nat → Nat) (g : Group) :
    i.perLane (fun l g => g.setPair l (insXD i.word) (v l)) g =
      { g with regs := (i.perLane (fun l g => g.setPair l (insXD i.word) (v l)) g).regs } :=
  Issue.perLane_fields i (fun l g => g.setPair l (insXD i.word) (v l)) (fun _ _ => rfl) g

section
variable {z : State} {c p : Nat} {i : Issue} (issue : z.issuePoint c p = some i) (pair : insXD i.word < 63)
include issue pair

/-- The group has each participating lane's value, cut to 64 bits, in its pair from xd, and every other register as it was. -/
theorem Issue.perLane_pair (v : Nat → Nat) :
    let g := i.perLane (fun l g => g.setPair l (insXD i.word) (v l)) i.after
    (∀ l ∈ i.lanes, g.pair l (insXD i.word) = v l % 2 ^ 64) ∧
    ∀ l r, r < 64 → (l ∉ i.lanes ∨ (r ≠ insXD i.word ∧ r ≠ insXD i.word + 1)) → g.reg l r = i.g.reg l r := by
  intro g
  have nodup := Issue.lanes_nodup issue
  have data : g = i.lanes.foldl (fun g l => g.setData l (insXD i.word) 8 (v l % 2 ^ 64)) i.after := by
    refine List.foldl_ext _ _ _ (fun b l _ => ?_)
    have low : BitVec.ofNat 32 (v l % 2 ^ 64) = BitVec.ofNat 32 (v l) := by
      apply BitVec.eq_of_toNat_eq
      rw [BitVec.toNat_ofNat, BitVec.toNat_ofNat]
      omega
    have high : BitVec.ofNat 32 (v l % 2 ^ 64 / 2 ^ 32) = BitVec.ofNat 32 (v l / 2 ^ 32) := by
      apply BitVec.eq_of_toNat_eq
      rw [BitVec.toNat_ofNat, BitVec.toNat_ofNat]
      omega
    simp only [Group.setData, if_pos, Group.setPair, low, high]
  rw [data]
  refine ⟨fun l hl => ?_, fun l r hr out => ?_⟩
  · have value := foldl_setData_value (.inr (.inr (.inr rfl))) (insXD_lt i.word) (fun _ => pair) (fun l => v l % 2 ^ 64) nodup
      i.after hl (Nat.mod_lt _ (Nat.two_pow_pos _))
    exact value.2 rfl
  · refine (foldl_setData_reg (insXD_lt i.word) (fun _ => pair) (fun l => v l % 2 ^ 64) nodup i.after l hr).trans ?_
    split
    · next mem =>
      obtain ⟨ne, next⟩ := out.resolve_left (fun no => no mem)
      exact Group.reg_setData_other _ _ ⟨ne, fun _ => next⟩
    · rfl

end

/-! ### Votes of an issue -/

/-- What VOTE writes to a lane's xd, or to its pair, under a selector. -/
def Issue.voted (i : Issue) (sel l : Nat) (g : Group) : Group :=
  let vals := i.lanes.map (fun l => (l, i.g.reg l (insXA i.word)))
  match sel with
  | 0 => g.setReg l (insXD i.word) (flagWord (voteAny vals))
  | 1 => g.setReg l (insXD i.word) (flagWord (voteAll vals))
  | _ => g.setPair l (insXD i.word) (voteBallot vals)

/-- The words that VOTE takes (R612). -/
def voteLegal (w : Nat) : Bool := bits w 1 0 != 3 && !(bits w 1 0 = 2 && runsPast (insXD w) 2)

/-- A vote of one word is legal, and a ballot whose pair does not run past x63. -/
theorem voteLegal_of {w sel : Nat} (named : bits w 1 0 = sel) (lawful : sel = 0 ∨ sel = 1 ∨ sel = 2 ∧ insXD w < 63) :
    voteLegal w = true := by
  rw [voteLegal, named]
  rcases lawful with rfl | rfl | ⟨rfl, pair⟩
  · rfl
  · rfl
  · rw [runsPast_pair pair]; rfl

theorem vote_run {z : State} {c p sel : Nat} {i : Issue} (issue : z.issuePoint c p = some i) (inRange : i.inRange = true)
    (got : i.got = true) (opcode : insOp i.word = 0x76) (named : bits i.word 1 0 = sel)
    (lawful : sel = 0 ∨ sel = 1 ∨ sel = 2 ∧ insXD i.word < 63) :
    exec (.vote c p) z = .next ((z.fetched i).retire i (i.perLane (i.voted sel))) := by
  have run := State.ins_eq (v := false) (legal := voteLegal) (fun i s => s.retire i (i.perLane (i.voted (bits i.word 1 0)))) issue
    inRange got opcode (fun v => Bool.noConfusion v) (voteLegal_of named lawful)
  rw [named] at run
  exact congrArg Host.Outcome.next run

/-- Settles O2: the word that each comparison, shuffle or vote writes is the one the clause names. -/
theorem compareCountShuffleVote : Obligations.CompareCountShuffleVote := by
  unfold Obligations.CompareCountShuffleVote
  refine ⟨?_, ?_, ?_⟩
  · intro z c p i issue inRange got s opcode
    have compares {holds : Word → Word → Bool} (names : ∀ a b, icmp (bits i.word 2 0) a b = some (holds a b)) :=
      State.icmp_issued issue inRange got opcode names
    refine ⟨fun sel => compares fun a b => ?_, fun sel => compares fun a b => ?_, fun sel => compares fun a b => ?_,
      fun sel => compares fun a b => ?_, fun sel => compares fun a b => ?_, fun sel => compares fun a b => ?_⟩ <;> rw [sel] <;> rfl
  · intro z c p i issue inRange got
    exact ⟨fun h => State.issued_congr (State.alu2_issued _ issue inRange got h) (fun l _ => by rw [popcount_eq]),
      fun h => State.issued_congr (State.alu2_issued _ issue inRange got h) (fun l _ => by rw [leadingZeros_eq])⟩
  · intro z c p i issue inRange got s a
    refine ⟨fun opcode => ?_, fun opcode sel => ?_, fun opcode sel => ?_, fun opcode sel pair => ?_⟩
    · have run : exec (.shfl c p) z = .next _ := congrArg Host.Outcome.next
        (State.ins_eq _ issue inRange got opcode (fun v => Bool.noConfusion v) rfl)
      rw [run]
      refine State.issued_congr (State.retire_issued _ issue _) (fun l _ => ?_)
      simp only [List.contains_iff_mem]
      rfl
    · rw [vote_run issue inRange got opcode sel (.inl rfl)]
      exact State.issued_congr (State.retire_issued _ issue _) (fun _ _ => voteAny_lanes ..)
    · rw [vote_run issue inRange got opcode sel (.inr (.inl rfl))]
      exact State.issued_congr (State.retire_issued _ issue _) (fun _ _ => voteAll_lanes ..)
    · rw [vote_run issue inRange got opcode sel (.inr (.inr ⟨rfl, pair⟩))]
      obtain ⟨rest, others, group⟩ := s.retire_spec i (i.perLane (i.voted 2))
      obtain ⟨core, place, -, -, -⟩ := State.issuePoint_eq issue
      rw [core, place] at group
      obtain ⟨ballots, kept⟩ := Issue.perLane_pair issue pair (fun _ => voteBallot (i.lanes.map (fun l => (l, a l))))
      refine ⟨_, _, rfl, rest, others, group, ?_, fun l hl k => ?_, kept⟩
      · exact (Issue.perLane_pair_fields i _ i.after) ▸ Issue.moved_after issue _
      · refine (congrArg (bit · k) (ballots l hl)).trans ?_
        simp only [bit_mod_two_pow, bit_voteBallot_lanes, Bool.decide_and]

/-! ### Floating point (R181, R208, R209) -/

/-- Settles O3: while the Exact Unit is idle, each instruction is the law of its form. -/
theorem floatResults : Obligations.FloatResults := by
  unfold Obligations.FloatResults
  intro z c p i issue inRange got s idle unhosted a b
  have two {op : Nat} (f : Nat → Nat → Nat) (opcode : insOp i.word = op) :
      s.issued i (.next (z.fp2 c p op f)) (fun l => BitVec.ofNat 32 (f (a l) (b l))) :=
    State.fp_issued _ issue inRange got idle unhosted opcode rfl
  have one {op : Nat} (f : Group → Nat → Nat → Word) (opcode : insOp i.word = op) :
      s.issued i (.next (z.fp c p op (fun _ => true) f)) (fun l => f i.g l i.word) :=
    State.fp_issued f issue inRange got idle unhosted opcode rfl
  have judged {op : Nat} {legal : Nat → Bool} (f : Group → Nat → Nat → Word) (opcode : insOp i.word = op)
      (lawful : legal i.word = true) : s.issued i (.next (z.fp c p op legal f)) (fun l => f i.g l i.word) :=
    State.fp_issued f issue inRange got idle unhosted opcode lawful
  exact ⟨two _, two _, one _, two _, two _, fun opcode named => judged _ opcode (decide_eq_true named),
    fun opcode named => judged _ opcode (decide_eq_true named), one _, one _, one _, one _⟩

end Sys2Proof.Machine
end


section
/-! Branches, faults of an issue, and what a fetch gives (R201–R203, R612, Table 5-4). -/
namespace Sys2Proof.Machine

/-! ### Branches -/

theorem toInt_insImm (w : Nat) : toInt 32 (insImm w) = (BitVec.ofNat 32 w).toInt := by
  rw [toInt, BitVec.toInt, insImm, bits, BitVec.toNat_ofNat]
  simp only [Nat.pow_zero, Nat.div_one, Nat.mod_mod, Nat.reduceAdd, Nat.reduceSub]
  split <;> split <;> omega

theorem Issue.target_eq (i : Issue) : i.target = (((i.pc : Int) + 8 * (BitVec.ofNat 32 i.word).toInt) % 2 ^ 64).toNat := by
  rw [Issue.target, toInt_insImm]
  rfl

/-- An issue whose threads moved on and then jumped, those of `ls` to a PC: where each thread stands, and that it waits as it did. -/
theorem Issue.jump_thread {z : State} {c p : Nat} {i : Issue} (issue : z.issuePoint c p = some i) (ls : List Nat) (pc : Nat) {l : Nat}
    (hl : l < i.g.threads.length) :
    let t := (i.after.jump ls pc).thread l
    t.pc = (if l ∈ ls then pc else if l ∈ i.lanes then (i.pc + 8) % 2 ^ 64 else (i.g.thread l).pc) ∧
    t.exited = (i.g.thread l).exited ∧ t.gsync = (i.g.thread l).gsync ∧ t.waits = (i.g.thread l).waits := by
  intro t
  have jumped : t = if l ∈ ls then { i.after.thread l with pc := pc } else i.after.thread l := by
    simp only [t, Group.jump, Group.thread_mapThreads _ _ l (i.after_length.symm ▸ hl), List.contains_iff_mem]
  have stands := (Issue.moved_after issue i.after.regs).2 l hl
  have same : ({ i.after with regs := i.after.regs } : Group).thread l = i.after.thread l := rfl
  rw [same] at stands
  rw [jumped, stands]
  split
  · exact ⟨rfl, rfl, rfl, rfl⟩
  · exact ⟨rfl, rfl, rfl, rfl⟩

/-! ### Faults (R201, R202) -/

theorem State.logFault_frame (s : State) (c place lane kind off : Nat) :
    s.logFault c place lane kind off = { s with regs := (s.logFault c place lane kind off).regs } := by
  unfold State.logFault
  split <;> rfl

/-- FE_FAULT that held no fault holds this one. -/
theorem State.logFault_first {s : State} {c : Nat} (clear : s.rd FE.FE_FAULT_VALID c = 0) (place lane off : Nat) {kind : Nat}
    (byte : kind < 256) :
    (s.logFault c place lane kind off).rd FE.FE_FAULT_VALID c = 1 ∧ (s.logFault c place lane kind off).rd FE.FE_FAULT_KIND c = kind := by
  have apart {r r' : Row} (h : r.bit c 0 ≠ r'.bit c 0) (t : State) (v : Nat) : (t.wr r v c).rd r' c = t.rd r' c := t.rd_wr_ne _ _ _ _ _ _ _ h
  have keys : FE.FE_FAULT_VALID.bit c 0 = FE.FE_FAULT_PC_OFF.bit c 0 + 63 ∧ FE.FE_FAULT_SLOT_GRP.bit c 0 = FE.FE_FAULT_PC_OFF.bit c 0 + 56 ∧
      FE.FE_FAULT_LANE.bit c 0 = FE.FE_FAULT_PC_OFF.bit c 0 + 50 ∧ FE.FE_FAULT_KIND.bit c 0 = FE.FE_FAULT_PC_OFF.bit c 0 + 42 :=
    ⟨rfl, rfl, rfl, rfl⟩
  obtain ⟨valid, slot, lanes, kinds⟩ := keys
  rw [State.logFault, State.on, clear, if_neg (by decide)]
  constructor
  · rw [apart (by omega), apart (by omega), apart (by omega), apart (by omega), State.rd_wr_self]
    rfl
  · rw [apart (r := FE.FE_FAULT_PC_OFF) (by omega), State.rd_wr_self]
    exact Nat.mod_eq_of_lt byte

/-- Dispatch d has ended on core k: its groups and pending passes are gone, and it bears its status (R201). -/
structure Core.Ended (k : Core) (d : Nat) : Prop where
  groups : ∀ q g, (q, g) ∈ k.groups → g.disp ≠ d
  disps : ∀ e ∈ k.disps, e.id = d → e.fault.isSome = true
  dsa : ∀ x, k.dsa.pending = some x → x.disp ≠ d
  exu : ∀ x, k.exu.pending = some x → x.disp ≠ d

theorem MUnit.withdraw_pending (u : MUnit) {d : Nat} {x : Pass} (h : (u.withdraw (fun x => x.disp = d)).pending = some x) :
    x.disp ≠ d := by
  obtain ⟨y, -, kept⟩ := Option.bind_eq_some_iff.mp h
  split at kept
  · cases kept
  · next other =>
    obtain rfl := Option.some.inj kept
    exact of_decide_eq_false (Bool.not_eq_true _ ▸ other)

theorem State.endDispatch_ended (s : State) (c d status detail : Nat) : ((s.endDispatch c d status detail).core c).Ended d := by
  rw [State.endDispatch, State.core_modCore_self]
  constructor
  · intro q g mem
    have kept := (List.mem_filter.mp mem).2
    simpa using kept
  · intro e mem same
    obtain ⟨e', -, rfl⟩ := List.mem_map.mp mem
    split at same <;> rename_i h
    · rw [if_pos h]; rfl
    · rw [if_neg h]
      exact Option.isSome_iff_ne_none.mpr (by simpa [same] using h)
  · exact fun x pending => MUnit.withdraw_pending _ pending
  · exact fun x pending => MUnit.withdraw_pending _ pending

theorem State.endDispatch_core_ne (s : State) {c e : Nat} (h : e ≠ c) (d status detail : Nat) :
    (s.endDispatch c d status detail).core e = s.core e := State.core_modCore_ne _ h _

/-- From s to t an issue of core c faulted: the token is raised, its dispatch has ended, FE_FAULT holds this fault unless it held one,
and neither another core nor memory nor a context changed. -/
structure State.Faults (s t : State) (c d : Nat) (k : Tok) : Prop where
  raised : s.raised t [k]
  ended : (t.core c).Ended d
  logged : s.rd FE.FE_FAULT_VALID c = 0 → t.rd FE.FE_FAULT_VALID c = 1 ∧ t.rd FE.FE_FAULT_KIND c = k.kind
  others : ∀ e, e ≠ c → t.core e = s.core e
  mem : t.mem = s.mem
  ctxs : t.ctxs = s.ctxs

theorem State.fault_faults {s : State} (up : s.boot.fltUp = true) (i : Issue) (src status lane addr detail : Nat) {kind : Nat}
    (byte : kind < 256) : s.Faults (s.fault i src kind status lane addr detail) i.core i.g.disp (s.ctxTok src kind i.g.ctx addr detail) := by
  have frame := (State.raiseTok_frame up (s.ctxTok src kind i.g.ctx addr detail)).1
  have regs := (State.raiseTok_frame up (s.ctxTok src kind i.g.ctx addr detail)).2
  have raised := State.raiseTok_raised up (s.ctxTok src kind i.g.ctx addr detail)
  have told : s.raiseCtx src kind i.g.ctx addr detail = s.raiseTok (s.ctxTok src kind i.g.ctx addr detail) := rfl
  rw [State.fault, told]
  generalize s.raiseTok (s.ctxTok src kind i.g.ctx addr detail) = r at frame regs raised ⊢
  have log := r.logFault_frame i.core i.place lane kind i.off
  have valid : r.rd FE.FE_FAULT_VALID i.core = s.rd FE.FE_FAULT_VALID i.core := by
    refine regs.rd ?_
    simp only [List.mem_singleton, Row.bit, FE.FE_FAULT_VALID, HDR.BLK_ERR]
    omega
  have first := fun clear : s.rd FE.FE_FAULT_VALID i.core = 0 =>
    State.logFault_first (valid.trans clear) i.place lane i.off byte
  generalize r.logFault i.core i.place lane kind i.off = u at log first ⊢
  refine ⟨?_, u.endDispatch_ended .., first, fun e he => ?_, ?_, ?_⟩
  · exact (congrArg State.fltIn log).trans raised
  · rw [u.endDispatch_core_ne he, log, frame]; rfl
  · show u.mem = s.mem
    rw [log, frame]
  · show u.ctxs = s.ctxs
    rw [log, frame]

/-! ### What a fetch gives (R203, R213, R219) -/

/-- The word of an issue whose PC lies in the program, and the state that has it, are what its line gives. -/
theorem State.issuePoint_line {z : State} {c p : Nat} {i : Issue} (issue : z.issuePoint c p = some i) (inRange : i.inRange = true) :
    z.fetched i = (z.fetchLine c i.g.ctx (i.pc / 64)).1 ∧ i.got = (z.fetchLine c i.g.ctx (i.pc / 64)).2.isSome ∧
    i.word = leAt ((z.fetchLine c i.g.ctx (i.pc / 64)).2.getD []) (i.pc % 64) 8 := by
  obtain ⟨core, -, -, -, -⟩ := State.issuePoint_eq issue
  refine ⟨by rw [State.fetched, if_pos inRange, core], ?_⟩
  unfold State.issuePoint at issue
  split at issue
  · cases issue
  · split at issue
    · split at issue
      · cases issue
        dsimp only at inRange ⊢
        rw [inRange, if_pos rfl]
        exact ⟨rfl, rfl⟩
      · cases issue
    · cases issue

theorem State.fetchLine_held {s : State} {c n : Nat} {l : List Byte} (held : s.heldLine c n = some l) (x : Nat) :
    s.fetchLine c x n = (s, some l) := by
  rw [State.fetchLine, held]

/-- A core with a line in its instruction cache. -/
def Core.cached (k : Core) (n : Nat) (l : List Byte) : Core := { k with icache := SMap.put k.icache n l }

/-- The state once a line has gone from memory to a core's cache. -/
def State.lineRead (s : State) (c x n : Nat) : State :=
  (((s.chargeStack x (n * 64) 64).served (n * 64) 64).modCore c (fun k => k.cached n (s.bytes (n * 64) 64))).bump
    HDR.BLK_PROG (pgPROG c)

theorem State.fetchLine_unheld {s : State} {c n : Nat} (unheld : s.heldLine c n = none) (clear : s.memoryClear) (x : Nat) :
    s.fetchLine c x n = (s.lineRead c x n, some (s.bytes (n * 64) 64)) := by
  have same : (s.chargeStack x (n * 64) 64).bytes (n * 64) 64 = s.bytes (n * 64) 64 := by
    rw [State.chargeStack_eq, State.bytes, State.bytes]
  rw [State.fetchLine, unheld, State.readMem_of_clear (State.memoryClear_chargeStack clear ..), same]
  rfl

/-- No slice or stack counts what it serves where the front end of a core counts the lines it reads. -/
theorem prog_not_served (c : Nat) : HDR.BLK_PROG.bit (pgPROG c) 0 ∉ servedKeys := by
  simp only [servedKeys, List.mem_append, List.mem_map, Row.bit, HDR.BLK_PROG, pgPROG, pgSPAD, pgSTACK]
  rintro (⟨d, -, same⟩ | ⟨k, -, same⟩) <;> omega

/-- A line that comes from memory stands in the cache and PROG counts it; nothing else changes but what the memories count. -/
theorem State.lineRead_spec (s : State) (c x n : Nat) :
    let t := s.lineRead c x n
    t = { s with cores := t.cores, regs := t.regs, hbms := t.hbms } ∧ (∀ e, e ≠ c → t.core e = s.core e) ∧
    t.core c = { s.core c with icache := (t.core c).icache } ∧
    SMap.find (t.core c).icache n = some (s.bytes (n * 64) 64) ∧
    (∀ m, m ≠ n → SMap.find (t.core c).icache m = SMap.find (s.core c).icache m) ∧
    s.regsBut t (HDR.BLK_PROG.bit (pgPROG c) 0 :: servedKeys) ∧
    t.rd HDR.BLK_PROG (pgPROG c) = (s.rd HDR.BLK_PROG (pgPROG c) + 1) % 2 ^ 32 := by
  have serves : s.Serves ((s.chargeStack x (n * 64) 64).served (n * 64) 64) :=
    (State.Serves.chargeStack s x (n * 64) 64).trans (.served _ _ _)
  have mem : ((s.chargeStack x (n * 64) 64).served (n * 64) 64).mem = s.mem := by rw [State.served_mem, State.chargeStack_eq]
  have draws : ((s.chargeStack x (n * 64) 64).served (n * 64) 64).draws = s.draws := by
    rw [State.chargeStack_eq]
    unfold State.served
    dsimp only
    split <;> rfl
  unfold State.lineRead
  generalize (s.chargeStack x (n * 64) 64).served (n * 64) 64 = u at serves mem draws ⊢
  extract_lets t
  have rest : u = { s with regs := u.regs, hbms := u.hbms } := by
    have rest := serves.rest
    rwa [mem, draws] at rest
  have core : t.core c = (s.core c).cached n (s.bytes (n * 64) 64) := by
    rw [← serves.core c]
    exact u.core_modCore_self c (fun k => k.cached n (s.bytes (n * 64) 64))
  have others : ∀ e, e ≠ c → t.core e = u.core e := fun e he => u.core_modCore_ne he (fun k => k.cached n (s.bytes (n * 64) 64))
  refine ⟨?_, fun e he => (others e he).trans (serves.core e), ?_, ?_, fun m hm => ?_, ?_, ?_⟩
  · show { u with cores := t.cores, regs := t.regs } = _
    rw [rest]
    rfl
  · rw [core]; rfl
  · rw [core]; exact SMap.find_put_self ..
  · rw [core]; exact SMap.find_put_ne _ _ hm.symm
  · refine State.regsBut.trans (fun b hb => serves.regs b (fun mem => hb (List.mem_cons_of_mem _ mem))) ?_
    exact State.regsBut_wr (u.modCore c _) (List.mem_cons_self ..)
  · refine (State.rd_wr_self ..).trans ?_
    rw [← serves.regs.rd (prog_not_served c)]
    rfl

theorem State.alu2_unread {z : State} {c p op : Nat} {i : Issue} (f : Word → Word → Word) (issue : z.issuePoint c p = some i)
    (inRange : i.inRange = true) (unread : i.got = false) : z.alu2 c p op f = z.fetched i := by
  rw [State.alu2, State.alu]
  exact State.ins_unread _ issue inRange unread

/-- Settles O5: branches by where each thread stands, faults by what an issue's fault does, and the fetch by what a line is read
from. -/
theorem controlFlowAndFaults : Obligations.ControlFlowAndFaults := by
  unfold Obligations.ControlFlowAndFaults
  refine ⟨?_, ?_, ?_⟩
  · intro z c p i issue inRange got s target jumps
    obtain ⟨core, place, -, -, -⟩ := State.issuePoint_eq issue
    have jump {op : Nat} (ls : List Nat) (opcode : insOp i.word = op) {takes : Nat → Prop} (named : ∀ l, takes l ↔ l ∈ ls) :
        jumps (s.retire i (fun g => g.jump ls i.target)) takes := by
      obtain ⟨rest, others, group⟩ := s.retire_spec i (fun g => g.jump ls i.target)
      rw [core, place] at group
      refine ⟨_, rest, others, group, rfl, fun l hl => ?_⟩
      obtain ⟨pc, waits⟩ := Issue.jump_thread issue ls i.target hl
      refine ⟨fun taken => ?_, fun stays => ?_, waits⟩
      · rw [pc, if_pos ((named l).mp taken), i.target_eq]
      · rw [pc, if_neg (fun mem => stays ((named l).mpr mem))]
    refine ⟨fun opcode => ?_, fun opcode => ?_⟩
    · refine ⟨_, congrArg Host.Outcome.next (State.ins_eq _ issue inRange got opcode (fun v => Bool.noConfusion v) rfl), ?_⟩
      exact jump (i.lanes.filter (fun l => i.g.reg l (insXA i.word) != 0#32)) opcode
        (fun l => by rw [List.mem_filter, bne_iff_ne])
    · refine ⟨_, congrArg Host.Outcome.next (State.ins_eq _ issue inRange got opcode (fun v => Bool.noConfusion v) rfl), ?_⟩
      exact jump i.lanes opcode (fun l => Iff.rfl)
  · intro z c p i issue up s ends
    obtain ⟨rfl, -, -, -, -⟩ := State.issuePoint_eq issue
    have faults {t : State} {src kind addr detail : Nat} (info : defaultClass kind src = cINFO)
        (h : s.Faults t i.core i.g.disp (s.ctxTok src kind i.g.ctx addr detail)) : ends t src kind addr detail := by
      obtain ⟨raised, ⟨groups, disps, dsa, exu⟩, logged, others, mem, ctxs⟩ := h
      refine ⟨?_, groups, disps, dsa, exu, logged, others, mem, ctxs⟩
      rw [State.ctxTok, tokOf, info] at raised
      exact raised
    refine ⟨fun inRange got undefined => ?_, fun outside => ?_⟩
    · have run : exec (.undefinedOpcode i.core p) z = .next (s.illegal i) := by
        show execUndefinedOpcode i.core p z = _
        simp only [execUndefinedOpcode, issue, inRange, got, undefined, Bool.not_true, Bool.not_false, Bool.and_true, Bool.and_false,
          Bool.false_eq_true, if_false, if_true]
        rfl
      exact ⟨_, run, faults rfl (State.fault_faults ((State.Fetches.fetched z i).fltUp.trans up) i _ _ _ _ _ (by decide))⟩
    · have same : s = z := by rw [show s = z.fetched i from rfl, State.fetched, outside, if_neg Bool.false_ne_true]
      have run : exec (.fetchOutOfRange i.core p) z =
          .next (s.fault i (pgPROG i.core) kFETCH_FAULT stKERNEL_FAULT i.lane i.pc 0) := by
        show execFetchOutOfRange i.core p z = _
        simp only [execFetchOutOfRange, issue, outside, same, Bool.false_eq_true, if_false]
      exact ⟨_, run, faults rfl (State.fault_faults (same ▸ up) i _ _ _ _ _ (by decide))⟩
  · intro z c p i issue inRange n
    obtain ⟨fetched, got, word⟩ := State.issuePoint_line issue inRange
    refine ⟨fun l held => ?_, fun unheld clear => ?_, fun unread => ?_⟩
    · rw [State.fetchLine_held held] at fetched got word
      exact ⟨got, word, fetched⟩
    · rw [State.fetchLine_unheld unheld clear] at fetched got word
      rw [fetched]
      exact ⟨got, word, z.lineRead_spec c i.g.ctx n⟩
    · have reads {op : Nat} {v : Bool} {legal : Nat → Bool} {f : Issue → State → State} :
          z.ins c p op v legal f = z.fetched i := State.ins_unread f issue inRange unread
      refine ⟨?_, congrArg Host.Outcome.next reads, congrArg Host.Outcome.next reads, ?_, congrArg Host.Outcome.next reads,
        congrArg Host.Outcome.next reads, ?_⟩
      · exact congrArg Host.Outcome.next (State.alu2_unread _ issue inRange unread)
      · exact congrArg Host.Outcome.next reads
      show execUndefinedOpcode c p z = _
      simp only [execUndefinedOpcode, issue, inRange, unread, Bool.not_false, Bool.and_true, if_true]

end Sys2Proof.Machine
end


section
/-! EXIT, GSYNC and KSYNC (R175, R182, R184). -/
namespace Sys2Proof.Machine

/-! ### What may change -/

/-- From s to t the issue's group, the dispatches of its core and the counters of an issue may have changed, and nothing else. -/
structure State.Retires (s t : State) (i : Issue) : Prop where
  rest : t = { s with cores := t.cores, regs := t.regs }
  cores : ∀ e, e ≠ i.core → t.core e = s.core e
  groups : ∀ q, q ≠ i.place → (t.core i.core).group q = (s.core i.core).group q
  regs : s.regsBut t i.counters

theorem State.Retires.retire (s : State) (i : Issue) (f : Group → Group) : s.Retires (s.retire i f) i := by
  obtain ⟨rest, ⟨cores, groups, -, regs⟩, -⟩ := s.retire_spec i f
  rw [List.append_nil] at regs
  exact ⟨rest, cores, groups, regs⟩

/-- A change of the issue's core that leaves the groups at other places. -/
theorem State.Retires.modCore {s t : State} {i : Issue} (h : s.Retires t i) {f : Core → Core}
    (other : ∀ k q, q ≠ i.place → (f k).group q = k.group q) : s.Retires (t.modCore i.core f) i where
  rest := by rw [h.rest]; rfl
  cores e he := (t.core_modCore_ne he f).trans (h.cores e he)
  groups q hq := by rw [t.core_modCore_self, other _ q hq, h.groups q hq]
  regs := h.regs

/-! ### Threads after an issue -/

theorem Issue.after_mapThreads_thread (i : Issue) (f : Nat → Thread → Thread) {l : Nat} (hl : l < i.g.threads.length) :
    (i.after.mapThreads f).thread l = f l (i.after.thread l) :=
  Group.thread_mapThreads i.after f l (i.after_length.symm ▸ hl)

/-- An issue ends no thread and releases none. -/
theorem Issue.after_waits (i : Issue) {l : Nat} (hl : l < i.g.threads.length) :
    (i.after.thread l).exited = (i.g.thread l).exited ∧ (i.after.thread l).gsync = (i.g.thread l).gsync ∧
    (l ∉ i.lanes → (i.after.thread l).pc = (i.g.thread l).pc) := by
  rw [Issue.after_thread i l hl]
  exact ⟨rfl, rfl, fun out => if_neg out⟩

/-- A participating lane has not exited. -/
theorem Issue.lane_live {z : State} {c p : Nat} {i : Issue} (issue : z.issuePoint c p = some i) {l : Nat} (hl : l ∈ i.lanes) :
    l < i.g.threads.length ∧ (i.g.thread l).exited = false := by
  obtain ⟨lt, candidate, -⟩ := Issue.mem_lanes issue hl
  refine ⟨lt, ?_⟩
  rw [Thread.candidate, Bool.and_eq_true, Bool.and_eq_true] at candidate
  obtain ⟨⟨live, -⟩, -⟩ := candidate
  exact Bool.not_eq_true' _ |>.mp live

/-- Every thread of a group has exited. -/
theorem Group.all_exited_iff (g : Group) :
    g.threads.all (·.exited) = true ↔ ∀ l, l < g.threads.length → (g.thread l).exited = true := by
  rw [List.all_eq_true]
  constructor
  · intro all l hl
    rw [Group.thread, List.getD_eq_getElem _ _ hl]
    exact all _ (List.getElem_mem hl)
  · intro all t ht
    obtain ⟨l, hl, rfl⟩ := List.getElem_of_mem ht
    have exited := all l hl
    rwa [Group.thread, List.getD_eq_getElem _ _ hl] at exited

/-! ### GSYNC settled (R182) -/

/-- The lanes of a group that have not exited. -/
def Group.live (g : Group) (l : Nat) : Prop := l < g.threads.length ∧ (g.thread l).exited = false

theorem Group.mem_live (g : Group) (l : Nat) :
    l ∈ (List.range g.threads.length).filter (fun l => !(g.thread l).exited) ↔ g.live l := by
  rw [List.mem_filter, List.mem_range, Bool.not_eq_true', Group.live]

/-- A group that goes on from GSYNC: the threads that wait there stand at the next instruction. -/
def Group.released (g : Group) : Group :=
  g.mapThreads (fun _ t => if t.gsync then { t with gsync := false, pc := (t.pc + 8) % 2 ^ 64 } else t)

/-- While a live thread has not reached GSYNC, the group waits. -/
theorem Group.gsyncEnd_waits {g : Group} {l : Nat} (live : g.live l) (early : (g.thread l).gsync = false) : g.gsyncEnd = .waits := by
  have mem := (g.mem_live l).mpr live
  have missing : ((List.range g.threads.length).filter (fun l => !(g.thread l).exited)).all (fun j => (g.thread j).gsync) = false :=
    List.all_eq_false.mpr ⟨l, mem, by rw [early]; exact Bool.false_ne_true⟩
  unfold Group.gsyncEnd
  dsimp only
  split
  · rfl
  · rw [missing, Bool.not_false, if_pos rfl]

/-- When every live thread waits at GSYNC at one PC, the group goes on. -/
theorem Group.gsyncEnd_released {g : Group} {l pc : Nat} (live : g.live l)
    (met : ∀ j, g.live j → (g.thread j).gsync = true ∧ (g.thread j).pc = pc) : g.gsyncEnd = .released g.released := by
  have mem := (g.mem_live l).mpr live
  unfold Group.gsyncEnd
  dsimp only
  split
  · next none => rw [none] at mem; exact absurd mem List.not_mem_nil
  · next first rest alive =>
    have at' : ∀ j ∈ (List.range g.threads.length).filter (fun l => !(g.thread l).exited),
        (g.thread j).gsync = true ∧ (g.thread j).pc = pc := fun j hj => met j ((g.mem_live j).mp hj)
    have firstPc : (g.thread first).pc = pc := (at' first (by rw [alive]; exact List.mem_cons_self ..)).2
    have waiting : ((List.range g.threads.length).filter (fun l => !(g.thread l).exited)).all (fun j => (g.thread j).gsync) = true :=
      List.all_eq_true.mpr (fun j hj => (at' j hj).1)
    have together : ((List.range g.threads.length).filter (fun l => !(g.thread l).exited)).all
        (fun j => (g.thread j).pc = (g.thread first).pc) = true :=
      List.all_eq_true.mpr (fun j hj => decide_eq_true ((at' j hj).2.trans firstPc.symm))
    rw [waiting, together]
    rfl

/-- A released thread that waited at GSYNC stands behind it. -/
theorem Group.released_thread (g : Group) {l : Nat} (hl : l < g.threads.length) (waiting : (g.thread l).gsync = true) :
    (g.released.thread l).gsync = false ∧ (g.released.thread l).pc = ((g.thread l).pc + 8) % 2 ^ 64 := by
  rw [Group.released, Group.thread_mapThreads _ _ l hl, if_pos waiting]
  exact ⟨rfl, rfl⟩

theorem State.settleGsync_waits {s : State} {i : Issue} {g : Group} (group : (s.core i.core).group i.place = some g)
    (waits : g.gsyncEnd = .waits) : s.settleGsync i = s := by
  simp only [State.settleGsync, group, waits]

theorem State.settleGsync_released {s : State} {i : Issue} {g g' : Group} (group : (s.core i.core).group i.place = some g)
    (ends : g.gsyncEnd = .released g') : s.settleGsync i = s.modCore i.core (fun c => c.setGroup i.place g') := by
  simp only [State.settleGsync, group, ends]

/-! ### EXIT (R175) -/

/-- The group with the threads of some lanes ended. -/
def Group.exit (g : Group) (ls : List Nat) : Group := g.mapThreads (fun l t => if ls.contains l then { t with exited := true } else t)

/-- The group with the threads of some lanes waiting at GSYNC at a PC. -/
def Group.gsyncAt (g : Group) (ls : List Nat) (pc : Nat) : Group :=
  g.mapThreads (fun l t => if ls.contains l then { t with gsync := true, pc := pc } else t)

theorem Issue.exit_thread (i : Issue) {l : Nat} (hl : l < i.g.threads.length) :
    ((i.after.exit i.lanes).thread l).exited = ((i.g.thread l).exited || decide (l ∈ i.lanes)) ∧
    ((i.after.exit i.lanes).thread l).gsync = (i.g.thread l).gsync := by
  obtain ⟨exited, gsync, -⟩ := i.after_waits hl
  rw [Group.exit, i.after_mapThreads_thread _ hl, ← exited, ← gsync]
  by_cases mem : l ∈ i.lanes
  · rw [if_pos (List.contains_iff_mem.mpr mem), decide_eq_true mem, Bool.or_true]
    exact ⟨rfl, rfl⟩
  · rw [if_neg (fun h => mem (List.contains_iff_mem.mp h)), decide_eq_false mem, Bool.or_false]
    exact ⟨rfl, rfl⟩

theorem Issue.gsyncAt_thread (i : Issue) {l : Nat} (hl : l < i.g.threads.length) :
    ((i.after.gsyncAt i.lanes i.pc).thread l).exited = (i.g.thread l).exited ∧
    (l ∈ i.lanes → ((i.after.gsyncAt i.lanes i.pc).thread l).gsync = true ∧ ((i.after.gsyncAt i.lanes i.pc).thread l).pc = i.pc) ∧
    (l ∉ i.lanes → ((i.after.gsyncAt i.lanes i.pc).thread l).gsync = (i.g.thread l).gsync ∧
      ((i.after.gsyncAt i.lanes i.pc).thread l).pc = (i.g.thread l).pc) := by
  obtain ⟨exited, gsync, pc⟩ := i.after_waits hl
  rw [Group.gsyncAt, i.after_mapThreads_thread _ hl, ← exited, ← gsync]
  by_cases mem : l ∈ i.lanes
  · rw [if_pos (List.contains_iff_mem.mpr mem)]
    exact ⟨rfl, fun _ => ⟨rfl, rfl⟩, fun out => absurd mem out⟩
  · rw [if_neg (fun h => mem (List.contains_iff_mem.mp h))]
    exact ⟨rfl, fun h => absurd h mem, fun _ => ⟨rfl, pc mem⟩⟩

theorem Issue.exit_length (i : Issue) : (i.after.exit i.lanes).threads.length = i.g.threads.length := by
  rw [Group.exit, Group.mapThreads_length, i.after_length]

theorem Issue.gsyncAt_length (i : Issue) : (i.after.gsyncAt i.lanes i.pc).threads.length = i.g.threads.length := by
  rw [Group.gsyncAt, Group.mapThreads_length, i.after_length]

/-- A lane of a group that does not take part in an issue and has not exited. -/
def Issue.bystands (i : Issue) (l : Nat) : Prop := l < i.g.threads.length ∧ l ∉ i.lanes ∧ (i.g.thread l).exited = false

/-- EXIT leaves the lanes that do not take part alive, at GSYNC or not as before. -/
theorem Issue.exit_bystands {i : Issue} {l : Nat} (h : i.bystands l) :
    (i.after.exit i.lanes).live l ∧ ((i.after.exit i.lanes).thread l).gsync = (i.g.thread l).gsync := by
  obtain ⟨lt, out, alive⟩ := h
  obtain ⟨exited, gsync⟩ := i.exit_thread lt
  refine ⟨⟨i.exit_length.symm ▸ lt, ?_⟩, gsync⟩
  rw [exited, alive, decide_eq_false out, Bool.false_or]

/-- EXIT of every live thread leaves none. -/
theorem Issue.exit_all {i : Issue} (last : ∀ l, ¬ i.bystands l) : (i.after.exit i.lanes).threads.all (·.exited) = true := by
  rw [Group.all_exited_iff, i.exit_length]
  intro l lt
  rw [(i.exit_thread lt).1, Bool.or_eq_true, decide_eq_true_iff]
  by_contra alive
  obtain ⟨alive, out⟩ := not_or.mp alive
  exact last l ⟨lt, out, Bool.not_eq_true _ ▸ alive⟩

/-- GSYNC leaves the lanes that do not take part alive, at GSYNC or not as before. -/
theorem Issue.gsyncAt_bystands {i : Issue} {l : Nat} (h : i.bystands l) :
    (i.after.gsyncAt i.lanes i.pc).live l ∧ ((i.after.gsyncAt i.lanes i.pc).thread l).gsync = (i.g.thread l).gsync := by
  obtain ⟨lt, out, alive⟩ := h
  obtain ⟨exited, -, stays⟩ := i.gsyncAt_thread lt
  exact ⟨⟨i.gsyncAt_length.symm ▸ lt, exited.trans alive⟩, (stays out).1⟩

/-- Where the other live threads wait at a GSYNC at the issue's PC, every live thread does once the issue's have joined them. -/
theorem Issue.gsyncAt_met {i : Issue} (met : ∀ l, i.bystands l → (i.g.thread l).gsync = true ∧ (i.g.thread l).pc = i.pc) {l : Nat}
    (lt : l < i.g.threads.length) (alive : (i.g.thread l).exited = false) :
    ((i.after.gsyncAt i.lanes i.pc).thread l).gsync = true ∧ ((i.after.gsyncAt i.lanes i.pc).thread l).pc = i.pc := by
  obtain ⟨-, joins, stays⟩ := i.gsyncAt_thread lt
  by_cases mem : l ∈ i.lanes
  · exact joins mem
  · obtain ⟨gsync, pc⟩ := stays mem
    rw [gsync, pc]
    exact met l ⟨lt, mem, alive⟩

/-- The last threads to reach GSYNC let the group go. -/
theorem Issue.gsyncAt_released {z : State} {c p : Nat} {i : Issue} (issue : z.issuePoint c p = some i) (lanes : i.lanes ≠ [])
    (met : ∀ l, i.bystands l → (i.g.thread l).gsync = true ∧ (i.g.thread l).pc = i.pc) :
    (i.after.gsyncAt i.lanes i.pc).gsyncEnd = .released (i.after.gsyncAt i.lanes i.pc).released := by
  obtain ⟨l, mem⟩ := List.exists_mem_of_ne_nil _ lanes
  obtain ⟨lt, alive⟩ := Issue.lane_live issue mem
  refine Group.gsyncEnd_released (l := l) (pc := i.pc) ⟨i.gsyncAt_length.symm ▸ lt, (i.gsyncAt_thread lt).1.trans alive⟩ ?_
  rintro j ⟨ltj, alivej⟩
  rw [i.gsyncAt_length] at ltj
  exact Issue.gsyncAt_met met ltj ((i.gsyncAt_thread ltj).1.symm.trans alivej)

/-- A core without the group at a place, of which dispatch d counts that it ended. -/
def Core.endGroup (k : Core) (p d : Nat) : Core :=
  match (k.dropGroup p).disp d with
  | some e => (k.dropGroup p).setDisp { e with ended := e.ended + 1 }
  | none => k.dropGroup p

theorem Core.endGroup_group (k : Core) (p d q : Nat) : (k.endGroup p d).group q = if p = q then none else k.group q := by
  have groups : (k.endGroup p d).groups = SMap.drop k.groups p := by
    unfold Core.endGroup
    split <;> rfl
  rw [Core.group, groups, SMap.find_drop, Core.group]

theorem State.groupEnd_eq (s : State) (i : Issue) : s.groupEnd i = s.modCore i.core (fun k => k.endGroup i.place i.g.disp) := rfl

/-- The group of an issue ends: its place is free, and no other group changes. -/
theorem State.groupEnd_spec {s t : State} {i : Issue} (h : s.Retires t i) :
    s.Retires (t.groupEnd i) i ∧ ((t.groupEnd i).core i.core).group i.place = none := by
  rw [State.groupEnd_eq]
  refine ⟨h.modCore (fun k q hq => (k.endGroup_group _ _ q).trans (if_neg hq.symm)), ?_⟩
  rw [t.core_modCore_self, Core.endGroup_group, if_pos rfl]

/-- What EXIT does once its threads have ended. -/
def State.exitEnd (s : State) (i : Issue) : State :=
  match (s.core i.core).group i.place with
  | some g => if g.threads.all (·.exited) then s.groupEnd i else s.settleGsync i
  | none => s

theorem State.exitEnd_of {s : State} {i : Issue} {g : Group} (group : (s.core i.core).group i.place = some g) :
    s.exitEnd i = if g.threads.all (·.exited) then s.groupEnd i else s.settleGsync i := by
  rw [State.exitEnd, group]

section
variable {z : State} {c p : Nat} {i : Issue} (issue : z.issuePoint c p = some i) (inRange : i.inRange = true) (got : i.got = true)
include issue inRange got

/-- EXIT leaves the group ended with its last thread, and settles GSYNC else. -/
theorem exit_run (opcode : insOp i.word = 0x72) : exec (.exit c p) z = .next (
    let t := (z.fetched i).retire i (fun g => g.exit i.lanes)
    if (i.after.exit i.lanes).threads.all (·.exited) then t.groupEnd i else t.settleGsync i) := by
  obtain ⟨rfl, rfl, -, -, -⟩ := State.issuePoint_eq issue
  obtain ⟨-, -, group⟩ := (z.fetched i).retire_spec i (fun g => g.exit i.lanes)
  exact congrArg Host.Outcome.next ((State.ins_eq _ issue inRange got opcode (fun v => Bool.noConfusion v) rfl).trans
    (State.exitEnd_of group))

theorem gsync_run (opcode : insOp i.word = 0x73) :
    exec (.gsync c p) z = .next (((z.fetched i).retire i (fun g => g.gsyncAt i.lanes i.pc)).settleGsync i) :=
  congrArg Host.Outcome.next (State.ins_eq _ issue inRange got opcode (fun v => Bool.noConfusion v) rfl)

end

/-! ### KSYNC (R184) -/

theorem Core.disp_id {k : Core} {n : Nat} {d : Dispatch} (h : k.disp n = some d) : d.id = n :=
  of_decide_eq_true (List.find?_some (p := fun e : Dispatch => decide (e.id = n)) h)

/-- A dispatch of the core set by its number is found there. -/
theorem Core.disp_setDisp {k : Core} {n : Nat} {d d' : Dispatch} (h : k.disp n = some d) (same : d'.id = n) :
    (k.setDisp d').disp n = some d' := by
  unfold Core.disp at h
  show List.find? (fun e => e.id = n) (k.disps.map (fun e => if e.id = d'.id then d' else e)) = some d'
  generalize k.disps = l at h ⊢
  induction l with
  | nil => cases h
  | cons e es ih =>
    rw [List.map_cons, List.find?_cons]
    rw [List.find?_cons] at h
    by_cases here : e.id = n
    · rw [if_pos (here.trans same.symm), decide_eq_true same]
    · rw [if_neg (fun at' => here (at'.trans same)), decide_eq_false here]
      rw [decide_eq_false here] at h
      exact ih h

theorem SMap.find_map {α β : Type} (f : Nat × α → β) (m : List (Nat × α)) (k : Nat) :
    SMap.find (m.map (fun e => (e.1, f e))) k = (SMap.find m k).map (fun v => f (k, v)) := by
  induction m with
  | nil => rfl
  | cons e r ih =>
    obtain ⟨a, v⟩ := e
    rw [List.map_cons, SMap.find, SMap.find]
    split
    · next same =>
      obtain rfl : a = k := same
      rfl
    · exact ih

/-- A group of dispatch d let go from KSYNC. -/
def Group.freed (g : Group) (d : Nat) : Group := if g.disp = d then { g with ksync := false } else g

theorem Group.freed_regs (g : Group) (d : Nat) : (g.freed d).regs = g.regs := by
  unfold Group.freed
  split <;> rfl

theorem Group.freed_ksync (g : Group) {d : Nat} (same : (g.freed d).disp = d) : (g.freed d).ksync = false := by
  unfold Group.freed at same ⊢
  split
  · rfl
  · next other =>
    rw [if_neg other] at same
    exact absurd same other

/-- What the KSYNC of one more group does to its core: its dispatch counts it, and the last one releases all. -/
def Core.ksynced (k : Core) (n : Nat) : Core :=
  match k.disp n with
  | none => k
  | some d =>
    if d.ksynced + 1 < d.kernel.groups then k.setDisp { d with ksynced := d.ksynced + 1 }
    else { k.setDisp { d with ksynced := 0 } with groups := k.groups.map (fun e => if e.2.disp = d.id then (e.1, { e.2 with ksync := false }) else e) }

theorem Core.ksynced_more {k : Core} {n : Nat} {d : Dispatch} (h : k.disp n = some d) (more : d.ksynced + 1 < d.kernel.groups) :
    k.ksynced n = k.setDisp { d with ksynced := d.ksynced + 1 } := by
  rw [Core.ksynced, h]
  exact if_pos more

theorem Core.ksynced_last {k : Core} {n : Nat} {d : Dispatch} (h : k.disp n = some d) (last : ¬ d.ksynced + 1 < d.kernel.groups) :
    (k.ksynced n).disp n = some { d with ksynced := 0 } ∧ ∀ q, (k.ksynced n).group q = (k.group q).map (fun g => g.freed d.id) := by
  have run : k.ksynced n = { k.setDisp { d with ksynced := 0 } with
      groups := k.groups.map (fun e => (e.1, e.2.freed d.id)) } := by
    have each : (fun e : Nat × Group => if e.2.disp = d.id then (e.1, { e.2 with ksync := false }) else e) =
        fun e => (e.1, e.2.freed d.id) := funext fun e => by
      unfold Group.freed
      split <;> rfl
    rw [Core.ksynced, h, ← each]
    exact if_neg last
  have counted : (k.setDisp { d with ksynced := 0 }).disp n = some { d with ksynced := 0 } := by
    have number : d.id = n := Core.disp_id h
    exact Core.disp_setDisp h number
  rw [run]
  exact ⟨counted, SMap.find_map (fun e : Nat × Group => e.2.freed d.id) k.groups⟩

theorem ksync_run {z : State} {c p : Nat} {i : Issue} (issue : z.issuePoint c p = some i) (inRange : i.inRange = true)
    (got : i.got = true) (opcode : insOp i.word = 0x74) (allowed : i.d.kernel.ksyncOk = true) : exec (.ksync c p) z = .next (
      ((z.fetched i).retire i (fun g => { g with ksync := true })).modCore c (fun k => k.ksynced i.g.disp)) := by
  have body : ∀ s : State, (if !i.d.kernel.ksyncOk then s.illegal i
      else (s.retire i (fun g => { g with ksync := true })).modCore c (fun k => k.ksynced i.g.disp)) =
      (s.retire i (fun g => { g with ksync := true })).modCore c (fun k => k.ksynced i.g.disp) := fun s => by
    rw [allowed, Bool.not_true, if_neg Bool.false_ne_true]
  exact congrArg Host.Outcome.next ((State.ins_eq _ issue inRange got opcode (fun v => Bool.noConfusion v) rfl).trans (body _))

/-- Settles O6: EXIT and GSYNC by what stands at the issue's place when the group waits, goes on or ends, KSYNC by whether another group
of the dispatch is still to come. -/
theorem exitAndBarriers : Obligations.ExitAndBarriers := by
  unfold Obligations.ExitAndBarriers
  refine ⟨?_, ?_⟩
  · intro z c p i issue inRange got s others keeps
    have exits := exit_run issue inRange got
    have gsyncs := gsync_run issue inRange got
    obtain ⟨rfl, rfl, -, -, -⟩ := State.issuePoint_eq issue
    have kept {t : State} (h : s.Retires t i) : keeps t := ⟨h.rest, h.cores, h.groups, h.regs⟩
    have retires (f : Group → Group) : s.Retires (s.retire i f) i := .retire s i f
    have group (f : Group → Group) : ((s.retire i f).core i.core).group i.place = some (f i.after) := (s.retire_spec i f).2.2
    refine ⟨fun opcode last => ?_, fun opcode early => ?_, fun opcode early => ?_, fun opcode lanes met => ?_⟩
    · obtain ⟨rest, gone⟩ := State.groupEnd_spec (retires (fun g => g.exit i.lanes))
      exact ⟨_, (exits opcode).trans (congrArg Host.Outcome.next (if_pos (Issue.exit_all last))), kept rest, gone⟩
    · obtain ⟨l, out, ahead⟩ := early
      obtain ⟨alive, gsync⟩ := Issue.exit_bystands out
      have going : ¬ (i.after.exit i.lanes).threads.all (·.exited) = true := fun all => by
        rw [Group.all_exited_iff] at all
        obtain ⟨lt, exited⟩ := alive
        exact Bool.false_ne_true (exited.symm.trans (all l lt))
      have settles := State.settleGsync_waits (group (fun g => g.exit i.lanes)) (Group.gsyncEnd_waits alive (gsync.trans ahead))
      exact ⟨_, _, (exits opcode).trans (congrArg Host.Outcome.next ((if_neg going).trans settles)), kept (retires _), group _, rfl,
        fun l lt => (i.exit_thread lt).1⟩
    · obtain ⟨l, out, ahead⟩ := early
      obtain ⟨alive, gsync⟩ := Issue.gsyncAt_bystands out
      have settles := State.settleGsync_waits (group (fun g => g.gsyncAt i.lanes i.pc)) (Group.gsyncEnd_waits alive (gsync.trans ahead))
      refine ⟨_, _, (gsyncs opcode).trans (congrArg Host.Outcome.next settles), kept (retires _), group _, rfl, fun l mem => ?_⟩
      obtain ⟨-, joins, -⟩ := i.gsyncAt_thread (Issue.lane_live issue mem).1
      exact joins mem
    · have settles := State.settleGsync_released (group (fun g => g.gsyncAt i.lanes i.pc)) (Issue.gsyncAt_released issue lanes met)
      refine ⟨_, (i.after.gsyncAt i.lanes i.pc).released, (gsyncs opcode).trans (congrArg Host.Outcome.next settles),
        kept ((retires _).modCore (fun k q hq => (k.group_setGroup ..).trans (if_neg hq.symm))), ?_, rfl, fun l lt alive => ?_⟩
      · rw [State.core_modCore_self, Core.group_setGroup_self]
      · obtain ⟨gsync, pc⟩ := Issue.gsyncAt_met met lt alive
        have after := Group.released_thread _ (i.gsyncAt_length.symm ▸ lt) gsync
        rwa [pc] at after
  · intro z c p i issue inRange got s opcode allowed
    have run := ksync_run issue inRange got opcode allowed
    have disp := State.fetched_disp issue
    obtain ⟨rfl, rfl, -, -, -⟩ := State.issuePoint_eq issue
    obtain ⟨rest, ⟨cores, -, own, regs⟩, group⟩ := s.retire_spec i (fun g => { g with ksync := true })
    rw [List.append_nil] at regs
    change exec _ z = .next ((s.retire i (fun g => { g with ksync := true })).modCore i.core (fun k => k.ksynced i.g.disp)) at run
    generalize s.retire i (fun g => { g with ksync := true }) = u at run rest cores own regs group
    have disp' : (u.core i.core).disp i.g.disp = some i.d := by rw [own]; exact disp
    have number : i.d.id = i.g.disp := Core.disp_id disp'
    have frame : u.modCore i.core (fun k => k.ksynced i.g.disp) =
        { s with cores := (u.modCore i.core (fun k => k.ksynced i.g.disp)).cores, regs := u.regs } := by
      rw [rest]
      rfl
    by_cases more : i.d.ksynced + 1 < i.d.kernel.groups
    · have self : (u.modCore i.core (fun k => k.ksynced i.g.disp)).core i.core =
          (u.core i.core).setDisp { i.d with ksynced := i.d.ksynced + 1 } :=
        (u.core_modCore_self ..).trans (Core.ksynced_more disp' more)
      refine ⟨_, { i.after with ksync := true }, { i.d with ksynced := i.d.ksynced + 1 }, run, frame,
        fun e he => (u.core_modCore_ne he _).trans (cores e he), regs, ?_, ?_, ?_, fun _ => ⟨?_, rfl⟩,
        fun last => absurd more last⟩
      · rw [self]; exact group
      · rfl
      · rw [self]; exact Core.disp_setDisp disp' number
      · rfl
    · obtain ⟨counted, freed⟩ := Core.ksynced_last disp' more
      have self : (u.modCore i.core (fun k => k.ksynced i.g.disp)).core i.core = (u.core i.core).ksynced i.g.disp :=
        u.core_modCore_self ..
      have stands : ((u.core i.core).ksynced i.g.disp).group i.place = some (({ i.after with ksync := true } : Group).freed i.d.id) := by
        rw [freed, group]
        rfl
      refine ⟨_, ({ i.after with ksync := true } : Group).freed i.d.id, { i.d with ksynced := 0 }, run, frame,
        fun e he => (u.core_modCore_ne he _).trans (cores e he), regs, ?_, ?_, ?_, fun first => absurd first more,
        fun _ => ⟨rfl, fun q g' at' same => ?_⟩⟩
      · rw [self]; exact stands
      · exact Group.freed_regs ..
      · rw [self]; exact counted
      · rw [self, freed] at at'
        obtain ⟨g, -, rfl⟩ := Option.map_eq_some_iff.mp at'
        exact g.freed_ksync same

end Sys2Proof.Machine
end

section
/-! PASS, WAITP, FENCE, SIGNAL and WAITS (R192, R193, R195–R197, R266). -/
namespace Sys2Proof.Machine

/-! ### Waits and signals -/

/-- A group changed at the place of an issue that does not move on. -/
theorem State.otherGroups_setGroup (s : State) (i : Issue) (g : Group) :
    s.otherGroups (s.modCore i.core (fun k => k.setGroup i.place g)) i ∧
    ((s.modCore i.core (fun k => k.setGroup i.place g)).core i.core).group i.place = some g := by
  have self := s.core_modCore_self i.core (fun k => k.setGroup i.place g)
  refine ⟨⟨fun e he => s.core_modCore_ne he _, fun q hq => ?_, ?_, s.regsBut_refl _⟩, ?_⟩
  · rw [self, Core.group_setGroup, if_neg hq.symm]
  · rw [self]; rfl
  · rw [self]; exact Core.group_setGroup_self ..

/-- What SIGNAL leaves of the contexts: object j of context x rose by a, saturating, and nothing else of them changed (R266). -/
theorem State.syncAdd_ctx (s : State) (x j a : Nat) :
    (∀ y, y ≠ x → (s.syncAdd x j a).ctx y = s.ctx y) ∧
    (s.syncAdd x j a).ctx x = { s.ctx x with sync := ((s.syncAdd x j a).ctx x).sync } ∧
    ∀ k, ((s.syncAdd x j a).ctx x).syncVal k =
      if k = j then min (2 ^ 64 - 1) ((s.ctx x).syncVal j + a) else (s.ctx x).syncVal k := by
  have own : (s.syncAdd x j a).ctx x = { s.ctx x with sync := SMap.put (s.ctx x).sync j (syncSum ((s.ctx x).syncVal j) a) } :=
    s.ctx_setCtx_self x _
  refine ⟨fun y hy => (s.ctx_setCtx x y _).trans (if_neg hy.symm), by rw [own], fun k => ?_⟩
  rw [own, Ctx.syncVal, SMap.get_put]
  by_cases same : k = j
  · rw [if_pos same, if_pos same.symm]; rfl
  · rw [if_neg same, if_neg (Ne.symm same)]; rfl

theorem State.syncAdd_frame (s : State) (x j a : Nat) :
    s.syncAdd x j a = { s with cores := (s.syncAdd x j a).cores, ctxs := (s.syncAdd x j a).ctxs } := rfl

/-- The group with the threads of some lanes waiting for an object to reach a threshold. -/
def Group.waitFor (g : Group) (ls : List Nat) (j v : Nat) : Group :=
  g.mapThreads (fun l t => if ls.contains l then { t with waits := some (j, v) } else t)

theorem Issue.waitFor_thread {z : State} {c p : Nat} {i : Issue} (issue : z.issuePoint c p = some i) (j v : Nat) {l : Nat}
    (hl : l ∈ i.lanes) :
    ((i.after.waitFor i.lanes j v).thread l).waits = some (j, v) ∧
    ((i.after.waitFor i.lanes j v).thread l).pc = (i.pc + 8) % 2 ^ 64 := by
  obtain ⟨lt, -, pc⟩ := Issue.mem_lanes issue hl
  rw [Group.waitFor, i.after_mapThreads_thread _ lt, if_pos (List.contains_iff_mem.mpr hl)]
  refine ⟨rfl, ?_⟩
  rw [Issue.after_thread i l lt]
  show (if l ∈ i.lanes then ((i.g.thread l).pc + 8) % 2 ^ 64 else (i.g.thread l).pc) = _
  rw [if_pos hl, pc]

section
variable {z : State} {c p : Nat} {i : Issue} (issue : z.issuePoint c p = some i) (inRange : i.inRange = true) (got : i.got = true)
include issue inRange got

theorem waitp_run (opcode : insOp i.word = 0x79) : exec (.waitp c p) z = .next (if i.g.passes = 0 then (z.fetched i).retire i id
    else (z.fetched i).modCore c (fun k => k.setGroup p { i.g with waitp := true })) :=
  congrArg Host.Outcome.next (State.ins_eq _ issue inRange got opcode (fun v => Bool.noConfusion v) rfl)

theorem fence_run (opcode : insOp i.word = 0x7F) (done : (z.fetched i).groupWrites i.g.disp i.g.index = 0) :
    exec (.fence c p) z = .next ((z.fetched i).retire i id) := by
  refine congrArg Host.Outcome.next ((State.ins_eq _ issue inRange got opcode (fun v => Bool.noConfusion v) rfl).trans ?_)
  exact if_neg (by rw [if_neg Bool.false_ne_true, done]; exact Nat.lt_irrefl 0)

theorem signal_run (opcode : insOp i.word = 0x7A) (done : (z.fetched i).groupWrites i.g.disp i.g.index = 0) :
    exec (.signal c p) z = .next (((z.fetched i).retire i id).syncAdd i.g.ctx ((i.g.reg i.lane (insXA i.word)).toNat % 16)
      (i.g.reg i.lane (insXB i.word)).toNat) := by
  refine congrArg Host.Outcome.next ((State.ins_eq _ issue inRange got opcode (fun v => Bool.noConfusion v) rfl).trans ?_)
  exact if_neg (by rw [if_neg Bool.false_ne_true, done]; exact Nat.lt_irrefl 0)

theorem waits_run (opcode : insOp i.word = 0x7B) (pair : insXB i.word < 63) :
    let j := (i.g.reg i.lane (insXA i.word)).toNat % 16
    let v := i.g.pair i.lane (insXB i.word)
    exec (.waits c p) z = .next ((z.fetched i).retire i (fun g =>
      if v ≤ ((z.fetched i).ctx i.g.ctx).syncVal j then g else g.waitFor i.lanes j v)) :=
  congrArg Host.Outcome.next (State.ins_eq _ issue inRange got opcode (fun v => Bool.noConfusion v)
    (by rw [runsPast_pair pair]; rfl))

end

/-! ### The descriptor of a PASS (R169, R193) -/

/-- From s to t a descriptor was read for a dispatch of core c: the dispatches of that core may hold it, and registers other than
FAB_ID may have changed. -/
structure State.Describes (s t : State) (c : Nat) : Prop where
  rest : t = { s with cores := t.cores, regs := t.regs, hbms := t.hbms }
  cores : ∀ e, e ≠ c → t.core e = s.core e
  own : t.core c = { s.core c with disps := (t.core c).disps }
  part : t.rd FABRIC.FAB_ID_PART = s.rd FABRIC.FAB_ID_PART

namespace State.Describes
variable {s t u : State} {c : Nat}

theorem refl (s : State) (c : Nat) : s.Describes s c := ⟨rfl, fun _ _ => rfl, rfl, rfl⟩

theorem trans (h : s.Describes t c) (h' : t.Describes u c) : s.Describes u c where
  rest := by rw [h'.rest, h.rest]
  cores e he := (h'.cores e he).trans (h.cores e he)
  own := by rw [h'.own, h.own]
  part := h'.part.trans h.part

theorem served (s : State) (a n c : Nat) : s.Describes (s.served a n) c := by
  have serves := State.Serves.served s a n
  have apart : FABRIC.FAB_ID_PART.bit 0 0 ∉ servedKeys := by decide
  refine ⟨?_, fun e _ => serves.core e, by rw [serves.core c], serves.regs.rd apart⟩
  unfold State.served
  dsimp only
  split <;> rfl

/-- A dispatch of the core notes the descriptor. -/
theorem noted (s : State) (c : Nat) {f : Core → Core} (h : ∀ k, f k = { k with disps := (f k).disps }) :
    s.Describes (s.modCore c f) c where
  rest := rfl
  cores e he := s.core_modCore_ne he f
  own := by rw [s.core_modCore_self c f]; exact h _
  part := rfl

theorem layer (s : State) (c v : Nat) : s.Describes (s.wr DSA.DSA_LAYER_LAYER_ID v c) c where
  rest := rfl
  cores _ _ := rfl
  own := rfl
  part := s.rd_wr_ne _ _ _ _ _ _ _ (by simp only [Row.bit, DSA.DSA_LAYER_LAYER_ID, FABRIC.FAB_ID_PART]; omega)

end State.Describes

theorem State.fetchDesc_held {s : State} {i : Issue} {a : Nat} {d : List Byte} (held : SMap.find i.d.descs a = some d) (o : Nat) :
    s.fetchDesc i a o = (s, some d) := by
  rw [State.fetchDesc, held]

/-- A core whose dispatch n holds a descriptor it has read. -/
def Core.describe (k : Core) (n a : Nat) (d : List Byte) : Core :=
  match k.disp n with
  | some e => k.setDisp { e with descs := SMap.put e.descs a d }
  | none => k

theorem Core.describe_disps (k : Core) (n a : Nat) (d : List Byte) : k.describe n a d = { k with disps := (k.describe n a d).disps } := by
  unfold Core.describe
  split <;> rfl

/-- A descriptor that is not at hand is read from memory. -/
theorem State.fetchDesc_read {s : State} {i : Issue} {a : Nat} (unheld : SMap.find i.d.descs a = none) (clear : s.memoryClear) (o : Nat) :
    ∃ t, s.fetchDesc i a o = (t, some (s.bytes o 64)) ∧ s.Describes t i.core := by
  have served := State.Describes.served s o 64 i.core
  have noted := State.Describes.noted (s.served o 64) i.core (fun k => k.describe_disps i.g.disp a (s.bytes o 64))
  rw [State.fetchDesc, unheld]
  dsimp only
  rw [State.readMem_of_clear clear]
  refine ⟨_, rfl, (served.trans noted).trans ?_⟩
  split
  · exact .layer ..
  · exact .refl ..

theorem State.Describes.rowsIn {s t : State} {c : Nat} (h : s.Describes t c) : t.rowsIn = s.rowsIn := by
  have part : t.localOf = s.localOf := funext fun a => by rw [State.localOf, State.localOf, h.part]
  have extent : t.inExtent = s.inExtent := by
    have ctx : t.ctx = s.ctx := by
      rw [h.rest]
      rfl
    funext x a n
    rw [State.inExtent, State.inExtent, ctx]
  funext x a rows pitch bytes
  rw [State.rowsIn, State.rowsIn, part, extent]

/-! ### The pass that a PASS issues (R193, R195) -/

theorem Core.setUnit_group (k : Core) (exact : Bool) (u : MUnit) (q : Nat) : (k.setUnit exact u).group q = k.group q := by
  cases exact <;> rfl

theorem Core.setUnit_unit (k : Core) (exact : Bool) (u : MUnit) : (k.setUnit exact u).unit exact = u := by
  cases exact <;> rfl

theorem Core.setUnit_unit_not (k : Core) (exact : Bool) (u : MUnit) : (k.setUnit exact u).unit (!exact) = k.unit (!exact) := by
  cases exact <;> rfl

/-- A core whose dispatch n has one more pass. -/
def Core.countPass (k : Core) (n : Nat) : Core :=
  match k.disp n with
  | some e => k.setDisp { e with passes := e.passes + 1 }
  | none => k

theorem Core.countPass_eq (k : Core) (n : Nat) : k.countPass n = { k with disps := (k.countPass n).disps } := by
  unfold Core.countPass
  split <;> rfl

/-- The pass that an issue's pass record names, with a descriptor (Table 5-1). -/
def Issue.pass (i : Issue) (exact : Bool) (st : Nat) (d : List Byte) : Pass :=
  { disp := i.g.disp, place := i.place, ctx := i.g.ctx, gen := i.g.gen, exact := exact
    desc := d, descAddr := i.recPair 0, out := i.recPair 2 % 2 ^ 52, part := i.recPair 4 % 2 ^ 52
    tile := (i.d.kernel.tileBase + i.record 6) % 2 ^ 32, step := i.d.kernel.step
    pitch := i.record 7 / 256, bank := i.record 7 % 2, store := st, group := i.g.index }

/-- The core of an issue once a pass of its dispatch n stands at the pending place. -/
def Core.takePass (k : Core) (exact : Bool) (ps : Pass) (n : Nat) : Core :=
  (k.setUnit exact { k.unit exact with pending := some ps }).countPass n

/-- The state once an issue has handed its pass to its unit. -/
def State.issuePass (s : State) (i : Issue) (exact : Bool) (ps : Pass) : State :=
  ((s.retire i (fun g => { g with passes := g.passes + 1 })).modUnit i.core exact (fun u => { u with pending := some ps })).modCore
    i.core (fun k => k.countPass i.g.disp)

theorem Core.takePass_spec (k : Core) (exact : Bool) (ps : Pass) (n : Nat) :
    (∀ q, (k.takePass exact ps n).group q = k.group q) ∧
    (k.takePass exact ps n).unit exact = { k.unit exact with pending := some ps } ∧
    (k.takePass exact ps n).unit (!exact) = k.unit (!exact) := by
  have units : (k.takePass exact ps n).unit = (k.setUnit exact { k.unit exact with pending := some ps }).unit := by
    rw [Core.takePass, Core.countPass_eq]
    rfl
  refine ⟨fun q => ?_, ?_, ?_⟩
  · rw [Core.takePass, Core.countPass_eq]
    exact k.setUnit_group ..
  · rw [units]; exact k.setUnit_unit ..
  · rw [units]; exact k.setUnit_unit_not ..

/-- The group counts the pass and moves on, the pass stands at the pending place of its unit, and the other unit is as it was. -/
theorem State.issuePass_spec {s u : State} {i : Issue} (h : s.Describes u i.core) (exact : Bool) (ps : Pass) :
    let t := u.issuePass i exact ps
    t = { s with cores := t.cores, regs := t.regs, hbms := t.hbms } ∧ (∀ e, e ≠ i.core → t.core e = s.core e) ∧
    (t.core i.core).group i.place = some { i.after with passes := i.after.passes + 1 } ∧
    (t.core i.core).unit exact = { (s.core i.core).unit exact with pending := some ps } ∧
    (t.core i.core).unit (!exact) = (s.core i.core).unit (!exact) := by
  intro t
  obtain ⟨rest, ⟨cores, -, own, -⟩, group⟩ := u.retire_spec i (fun g => { g with passes := g.passes + 1 })
  have core : t.core i.core = ((u.retire i (fun g => { g with passes := g.passes + 1 })).core i.core).takePass exact ps i.g.disp :=
    (State.core_modCore_self ..).trans (congrArg (fun k => k.countPass i.g.disp) (State.core_modCore_self ..))
  have others : ∀ e, e ≠ i.core → t.core e = (u.retire i (fun g => { g with passes := g.passes + 1 })).core e :=
    fun e he => (State.core_modCore_ne _ he _).trans (State.core_modCore_ne _ he _)
  have frame : t = { u.retire i (fun g => { g with passes := g.passes + 1 }) with cores := t.cores } := rfl
  generalize u.retire i (fun g => { g with passes := g.passes + 1 }) = v at rest cores own group core others frame
  have units : (v.core i.core).unit = (s.core i.core).unit := by
    rw [own, h.own]
    rfl
  obtain ⟨groups, unit, other⟩ := (v.core i.core).takePass_spec exact ps i.g.disp
  refine ⟨?_, fun e he => (others e he).trans ((cores e he).trans (h.cores e he)), ?_, ?_, ?_⟩
  · have regs : t.regs = v.regs := by rw [frame]
    have hbms : t.hbms = u.hbms := by rw [frame, rest]
    rw [regs, hbms]
    refine frame.trans ?_
    rw [rest, h.rest]
  · rw [core, groups, group]
  · rw [core, unit, units]
  · rw [core, other, units]

/-- A PASS whose record and descriptor pass every check hands its pass to its unit. -/
theorem State.passIns_issues {z u : State} {i : Issue} {op st o : Nat} {exact : Bool} {d : List Byte}
    (issue : z.issuePoint i.core i.place = some i) (inRange : i.inRange = true) (got : i.got = true) (opcode : insOp i.word = op)
    (record : insXA i.word ≤ 56) (store : i.d.kernel.storeBase i.core exact = some st)
    (off : (z.fetched i).descOff i.g.ctx (i.recPair 0) = some o) (free : (((z.fetched i).core i.core).unit exact).pending = none)
    (fetch : (z.fetched i).fetchDesc i (i.recPair 0) o = (u, some d)) (good : ldReason d = 0)
    (allowed : ldV d = true → i.d.kernel.vAllow = true) (mode : decide (ldMode d = mEXACT) = exact)
    (reserved : bits (i.record 7) 7 1 = 0) (pitch : i.record 7 / 256 % 64 = 0)
    (rows : u.rowsIn i.g.ctx (i.recPair 2) (ldM d) (i.record 7 / 256) (rowBytes d) = true)
    (partials : ldAccIn d = true → u.rowsIn i.g.ctx (i.recPair 4) (ldM d) (partialPitch d) (ldN d * partialBytes d) = true) :
    z.passIns i.core i.place op exact = u.issuePass i exact (i.pass exact st d) := by
  have legal : (!runsPast (insXA i.word) 8) = true := by
    rw [runsPast, Bool.not_eq_true', decide_eq_false_iff_not]
    omega
  have vOk : (ldV d && !i.d.kernel.vAllow) = false := by
    cases v : ldV d
    · rfl
    · rw [allowed v]; rfl
  have accOk : (ldAccIn d && !u.rowsIn i.g.ctx (i.recPair 4) (ldM d) (partialPitch d) (ldN d * partialBytes d)) = false := by
    cases acc : ldAccIn d
    · rfl
    · rw [partials acc]; rfl
  have asked : (decide (ldMode d = mEXACT) != exact || bits (i.record 7) 7 1 != 0 || i.record 7 / 256 % 64 != 0) = false := by
    rw [mode, reserved, pitch]
    cases exact <;> rfl
  rw [State.passIns, State.ins_eq _ issue inRange got opcode (fun v => Bool.noConfusion v) legal, if_neg Bool.false_ne_true]
  simp only [store, off, free, fetch, vOk, accOk, asked, good, rows, Option.isSome_none, Bool.false_eq_true, if_false, bne_self_eq_false,
    Bool.not_true]
  rfl

/-- Settles O7: PASS by what its descriptor is fetched from and what handing the pass over leaves, WAITP, FENCE, SIGNAL and WAITS by
what each does when its condition holds and when it does not. -/
theorem passesWaitsAndSignals : Obligations.PassesWaitsAndSignals := by
  unfold Obligations.PassesWaitsAndSignals
  refine ⟨?_, ?_⟩
  · intro z c p i issue exact st store inRange got s o off d record free source good allowed mode reserved pitch rows partials issues
    obtain ⟨rfl, rfl, -, -, -⟩ := State.issuePoint_eq issue
    obtain ⟨u, fetch, describes⟩ : ∃ u, s.fetchDesc i (i.recPair 0) o = (u, some d) ∧ s.Describes u i.core := by
      rcases source with held | ⟨unheld, clear, rfl⟩
      · exact ⟨s, State.fetchDesc_held held o, .refl s i.core⟩
      · exact State.fetchDesc_read unheld clear o
    rw [← describes.rowsIn] at rows partials
    have run {op : Nat} (opcode : insOp i.word = op) : z.passIns i.core i.place op exact = u.issuePass i exact (i.pass exact st d) :=
      State.passIns_issues issue inRange got opcode record store off free fetch good allowed mode reserved pitch rows partials
    have issued : issues (u.issuePass i exact (i.pass exact st d)) := by
      obtain ⟨rest, others, group, unit, other⟩ := State.issuePass_spec describes exact (i.pass exact st d)
      exact ⟨_, _, rest, others, group, rfl, rfl, by rw [unit], by rw [unit], other, rfl, rfl, rfl, rfl, rfl, rfl, rfl, rfl, rfl, rfl⟩
    refine ⟨fun opcode dsa => ?_, fun opcode exu => ?_⟩
    · subst dsa
      exact ⟨_, congrArg Host.Outcome.next (run opcode), issued⟩
    · subst exu
      exact ⟨_, congrArg Host.Outcome.next (run opcode), issued⟩
  · intro z c p i issue inRange got s j goes
    have waitp := waitp_run issue inRange got
    have fence := fence_run issue inRange got
    have signal := signal_run issue inRange got
    have waits := waits_run issue inRange got
    have lanes {v l : Nat} := Issue.waitFor_thread issue (l := l) j v
    obtain ⟨rfl, rfl, -, -, -⟩ := State.issuePoint_eq issue
    have moves {f : Group → Group} (f_id : f i.after = i.after) : goes (s.retire i f) := by
      obtain ⟨rest, others, group⟩ := s.retire_spec i f
      rw [f_id] at group
      exact ⟨_, rest, others, group, Issue.moved_after issue i.after.regs, rfl⟩
    refine ⟨fun opcode idle => ?_, fun opcode busy => ?_, fun opcode done => ?_, fun opcode done => ?_, fun opcode pair reached => ?_,
      fun opcode pair below => ?_⟩
    · exact ⟨_, (waitp opcode).trans (congrArg Host.Outcome.next (if_pos idle)), moves rfl⟩
    · obtain ⟨others, group⟩ := s.otherGroups_setGroup i { i.g with waitp := true }
      exact ⟨_, (waitp opcode).trans (congrArg Host.Outcome.next (if_neg busy)), rfl, others, group⟩
    · exact ⟨_, fence opcode done, moves rfl⟩
    · obtain ⟨rest, ⟨-, -, -, regs⟩, -⟩ := s.retire_spec i id
      rw [List.append_nil] at regs
      have signals := signal opcode done
      change exec _ z = .next ((s.retire i id).syncAdd i.g.ctx j (i.g.reg i.lane (insXB i.word)).toNat) at signals
      generalize s.retire i id = u at rest regs signals
      obtain ⟨others, own, value⟩ := u.syncAdd_ctx i.g.ctx j (i.g.reg i.lane (insXB i.word)).toNat
      have ctx : ∀ x, u.ctx x = s.ctx x := fun x => by rw [rest]; rfl
      simp only [ctx] at others own value
      refine ⟨_, signals, ?_, others, own, value, regs⟩
      rw [u.syncAdd_frame, rest]
    · exact ⟨_, waits opcode pair, moves (if_pos reached)⟩
    · obtain ⟨rest, others, group⟩ := s.retire_spec i (fun g => if i.g.pair i.lane (insXB i.word) ≤ (s.ctx i.g.ctx).syncVal j then g
        else g.waitFor i.lanes j (i.g.pair i.lane (insXB i.word)))
      rw [if_neg (Nat.not_le_of_lt below)] at group
      exact ⟨_, _, waits opcode pair, rest, others, group, rfl, fun l mem => lanes mem⟩

end Sys2Proof.Machine
end

section
/-! RDTIME, RDCYC, RDCORE and FEED (R191, R194, R199, R612). -/
namespace Sys2Proof.Machine

/-! ### Counters (R199, R612) -/

/-- What the front end's count reads between two ticks: a cycle of this tick, above every count it gave before (logs 10, 124). -/
def State.cycleRead (s : State) (c : Nat) : Nat :=
  max ((s.core c).cyc / 4 + s.drawn (s.rd CLKRST.CORE_FREQ_F25 0 c / 4 + 1)) (((s.core c).cycSeen.map (· + 1)).getD 0)

theorem State.cycleRead_spec (s : State) (c : Nat) :
    (s.core c).cyc / 4 ≤ s.cycleRead c ∧ (∀ m, (s.core c).cycSeen = some m → m < s.cycleRead c) ∧
    (s.cycleRead c ≤ (s.core c).cyc / 4 + s.rd CLKRST.CORE_FREQ_F25 0 c / 4 ∨ (s.core c).cycSeen = some (s.cycleRead c - 1)) := by
  have drawn : s.drawn (s.rd CLKRST.CORE_FREQ_F25 0 c / 4 + 1) < s.rd CLKRST.CORE_FREQ_F25 0 c / 4 + 1 :=
    Nat.mod_lt _ (Nat.succ_pos _)
  rw [State.cycleRead]
  have later : (∀ m, (s.core c).cycSeen = some m → m < ((s.core c).cycSeen.map (· + 1)).getD 0) ∧
      (((s.core c).cycSeen.map (· + 1)).getD 0 = 0 ∨ (s.core c).cycSeen = some (((s.core c).cycSeen.map (· + 1)).getD 0 - 1)) := by
    cases (s.core c).cycSeen with
    | none => exact ⟨fun m seen => (Option.some_ne_none m seen.symm).elim, .inl rfl⟩
    | some m => exact ⟨fun m' seen => Option.some.inj seen ▸ Nat.lt_succ_self m, .inr rfl⟩
  generalize s.drawn (s.rd CLKRST.CORE_FREQ_F25 0 c / 4 + 1) = n at drawn ⊢
  generalize ((s.core c).cycSeen.map (· + 1)).getD 0 = next at later ⊢
  obtain ⟨above, made⟩ := later
  refine ⟨by omega, fun m seen => Nat.lt_of_lt_of_le (above m seen) (Nat.le_max_right ..), ?_⟩
  by_cases within : next ≤ (s.core c).cyc / 4 + s.rd CLKRST.CORE_FREQ_F25 0 c / 4
  · exact .inl (by omega)
  · rw [Nat.max_eq_right (by omega)]
    exact .inr (made.resolve_left (by omega))

/-- From s to t the marked context and, of the core of an issue, what its counter gave: where a counter is read. -/
structure State.Counts (s t : State) (i : Issue) : Prop where
  rest : t = { s with cores := t.cores, draws := t.draws, ctxs := (s.marked i.g.ctx true).ctxs }
  cores : ∀ e, e ≠ i.core → t.core e = s.core e
  own : t.core i.core = { s.core i.core with cycSeen := (t.core i.core).cycSeen }

theorem State.Counts.marked (s : State) (i : Issue) : s.Counts (s.marked i.g.ctx true) i := ⟨rfl, fun _ _ => rfl, rfl⟩

/-- The core has given a count. -/
theorem State.Counts.seen (s : State) (i : Issue) (n : Nat) :
    s.Counts ((s.marked i.g.ctx true).drew.modCore i.core (fun k => { k with cycSeen := some n })) i where
  rest := rfl
  cores e he := State.core_modCore_ne _ he _
  own := (State.core_modCore_self ..).trans (by rw [State.core_modCore_self]; rfl)

/-- An issue that retires where a counter was read leaves its group, what the counter gave, the mark and the counts of an issue. -/
theorem State.Counts.retire {s u : State} {i : Issue} (h : s.Counts u i) (f : Group → Group) :
    let t := u.retire i f
    t = { s with cores := t.cores, regs := t.regs, draws := t.draws, ctxs := (s.marked i.g.ctx true).ctxs } ∧
    (∀ e, e ≠ i.core → t.core e = s.core e) ∧ (∀ q, q ≠ i.place → (t.core i.core).group q = (s.core i.core).group q) ∧
    t.core i.core = { s.core i.core with groups := (t.core i.core).groups, cycSeen := (t.core i.core).cycSeen } ∧
    s.regsBut t i.counters ∧ (t.core i.core).group i.place = some (f i.after) ∧
    (t.core i.core).cycSeen = (u.core i.core).cycSeen := by
  obtain ⟨rest, ⟨cores, groups, own, regs⟩, group⟩ := u.retire_spec i f
  rw [List.append_nil] at regs
  generalize u.retire i f = t at rest cores groups own regs group ⊢
  have groupsS (q : Nat) : (u.core i.core).group q = (s.core i.core).group q := by rw [h.own]; rfl
  have regsS : u.regs = s.regs := by rw [h.rest]
  refine ⟨?_, fun e he => (cores e he).trans (h.cores e he), fun q hq => (groups q hq).trans (groupsS q), ?_, fun b hb => ?_, group,
    by rw [own]⟩
  · rw [rest, h.rest]
  · rw [own, h.own]
  · exact (regs b hb).trans (by rw [regsS])

section
variable {z : State} {c p : Nat} {i : Issue} (issue : z.issuePoint c p = some i) (inRange : i.inRange = true) (got : i.got = true)
  (allowed : i.d.kernel.vAllow = true)
include issue inRange got allowed

theorem rdtime_run (opcode : insOp i.word = 0x7C) (pair : insXD i.word < 63) :
    exec (.rdtime c p) z = .next (((z.fetched i).marked i.g.ctx true).retire i
      (i.perLane (fun l g => g.setPair l (insXD i.word) (z.fetched i).ftime))) :=
  congrArg Host.Outcome.next (State.ins_eq _ issue inRange got opcode (fun _ => allowed) (by rw [runsPast_pair pair]; rfl))

theorem rdcore_run (opcode : insOp i.word = 0x7D) :
    exec (.rdcore c p) z = .next (((z.fetched i).marked i.g.ctx true).retire i
      (i.perLane (fun l g => g.setReg l (insXD i.word) (BitVec.ofNat 32 c)))) :=
  congrArg Host.Outcome.next (State.ins_eq _ issue inRange got opcode (fun _ => allowed) rfl)

theorem rdcyc_run (opcode : insOp i.word = 0x7E) (pair : insXD i.word < 63) :
    exec (.rdcyc c p) z = .next ((((z.fetched i).marked i.g.ctx true).drew.modCore c
      (fun k => { k with cycSeen := some ((z.fetched i).cycleRead c) })).retire i
      (i.perLane (fun l g => g.setPair l (insXD i.word) ((z.fetched i).cycleRead c)))) :=
  congrArg Host.Outcome.next (State.ins_eq _ issue inRange got opcode (fun _ => allowed) (by rw [runsPast_pair pair]; rfl))

end

/-! ### Writes of several operands -/

/-- Values written to the addresses of some lanes, one lane after the other, until one is dropped. -/
def State.writeEach (s : State) (n : Nat) (at' v : Nat → Nat) (ls : List Nat) : State × Bool :=
  ls.foldl (fun r l => if r.2 then r.1.writeMem (at' l) (toLE (v l) n) else r) (s, true)

/-- Some operands of n bytes were given their values: each holds its own, no other byte of memory changed, and the memories counted
what they served. -/
structure State.Wrote (s t : State) (n : Nat) (at' v : Nat → Nat) (ls : List Nat) : Prop where
  rest : t = { s with regs := t.regs, mem := t.mem }
  regs : s.regsBut t servedKeys
  load : ∀ l ∈ ls, t.load (at' l) n = v l % 2 ^ (8 * n)
  byte : ∀ j, (∀ l ∈ ls, j < at' l ∨ at' l + n ≤ j) → t.byte j = s.byte j

theorem State.served_rest (s : State) (a n : Nat) : s.served a n = { s with regs := (s.served a n).regs } := by
  unfold State.served
  dsimp only
  split <;> rfl

/-- Operands that lie apart are all written. -/
theorem State.writeEach_of_clear {n : Nat} {at' : Nat → Nat} (v : Nat → Nat) {ls : List Nat} (nodup : ls.Nodup)
    (apart : ∀ l ∈ ls, ∀ m ∈ ls, l ≠ m → at' l + n ≤ at' m ∨ at' m + n ≤ at' l) {s : State} (clear : s.memoryClear) :
    ∃ t, s.writeEach n at' v ls = (t, true) ∧ s.Wrote t n at' v ls := by
  induction ls generalizing s with
  | nil => exact ⟨s, rfl, rfl, s.regsBut_refl _, fun _ h => absurd h List.not_mem_nil, fun _ _ => rfl⟩
  | cons l ls ih =>
    obtain ⟨fresh, nodup⟩ := List.nodup_cons.mp nodup
    have first : s.Accesses ((s.store (at' l) (toLE (v l) n)).served (at' l) n) (at' l) n (some (v l)) :=
      State.write_accesses (.refl s) rfl _ _ _
    have rest : (s.store (at' l) (toLE (v l) n)).served (at' l) n = { s with
        regs := ((s.store (at' l) (toLE (v l) n)).served (at' l) n).regs
        mem := ((s.store (at' l) (toLE (v l) n)).served (at' l) n).mem } := by
      rw [State.served_rest]
      rfl
    have write : s.writeMem (at' l) (toLE (v l) n) = ((s.store (at' l) (toLE (v l) n)).served (at' l) n, true) := by
      rw [State.writeMem_of_clear clear, length_toLE]
    generalize (s.store (at' l) (toLE (v l) n)).served (at' l) n = u at first rest write
    obtain ⟨t, run, others⟩ := ih nodup (fun a ha b hb => apart a (List.mem_cons_of_mem _ ha) b (List.mem_cons_of_mem _ hb))
      (first.toServes.memoryClear clear)
    refine ⟨t, ?_, ?_, first.regs.trans others.regs, fun m hm => ?_, fun j out => ?_⟩
    · rw [State.writeEach, List.foldl_cons, if_pos rfl, write]
      exact run
    · rw [others.rest, rest]
    · rcases List.mem_cons.mp hm with rfl | later
      · have kept : t.load (at' m) n = u.load (at' m) n := State.load_congr (fun j lo hi => others.byte j (fun k hk => by
          have := apart m (List.mem_cons_self ..) k (List.mem_cons_of_mem _ hk) (fun same => fresh (same ▸ hk))
          omega))
        rw [kept, first.load, Option.getD_some]
      · exact others.load m later
    · exact (others.byte j (fun k hk => out k (List.mem_cons_of_mem _ hk))).trans (first.byte (out l (List.mem_cons_self ..)))

/-! ### FEED (R191, R194) -/

/-- The operands of two lanes of a FEED lie in two lines. -/
theorem feedAddr_apart {w : Nat} (store : Nat) {l m : Nat} (fits : feedFits w l = true) (other : l ≠ m) :
    feedAddr store w l + 8 ≤ feedAddr store w m ∨ feedAddr store w m + 8 ≤ feedAddr store w l := by
  have within : feedOff w + 8 ≤ if feedExact w then 0x400 else 0x800 := by
    rw [feedFits, Bool.and_eq_true] at fits
    exact of_decide_eq_true fits.2
  unfold feedAddr lineOff
  split at within <;> simp only [*, if_true, if_false, Bool.false_eq_true] <;> omega

theorem feed_run {z : State} {c p st : Nat} {i : Issue} {t : State} (issue : z.issuePoint c p = some i) (inRange : i.inRange = true)
    (got : i.got = true) (opcode : insOp i.word = 0x60) (pair : insXA i.word < 63)
    (store : i.d.kernel.storeBase c (feedExact i.word) = some st)
    (fits : ∀ l ∈ i.lanes, feedFits i.word l = true)
    (present : ∀ l ∈ i.lanes, (z.fetched i).bankPresent c ((feedAddr st i.word l - sliceBase c) / bankSize) = true)
    (free : (z.fetched i).bankHeld c (feedExact i.word) st (feedBank i.word) = false)
    (written : (z.fetched i).writeEach 8 (feedAddr st i.word) (fun l => i.g.pair l (insXA i.word)) i.lanes = (t, true)) :
    exec (.feed c p) z = .next (t.retire i id) := by
  have within : i.lanes.find? (fun l => !feedFits i.word l) = none :=
    List.find?_eq_none.mpr (fun l mem => by rw [fits l mem]; exact Bool.false_ne_true)
  have there : i.lanes.any (fun l => !(z.fetched i).bankPresent c ((feedAddr st i.word l - sliceBase c) / bankSize)) = false :=
    List.any_eq_false.mpr (fun l mem => by rw [present l mem]; exact Bool.false_ne_true)
  rw [State.writeEach] at written
  refine congrArg Host.Outcome.next ((State.ins_eq _ issue inRange got opcode (fun v => Bool.noConfusion v)
    (by rw [runsPast_pair pair]; rfl)).trans ?_)
  rw [if_neg Bool.false_ne_true]
  simp only [store, within, there, free, written, Bool.false_eq_true, if_false, if_true]

/-- Settles O8: the counters by what a state where one is read retires to, FEED by the writes of operands that lie apart. -/
theorem countersAndFeed : Obligations.CountersAndFeed := by
  unfold Obligations.CountersAndFeed
  refine ⟨?_, ?_⟩
  · intro z c p i issue inRange got s allowed reads
    have rdtime := rdtime_run issue inRange got allowed
    have rdcore := rdcore_run issue inRange got allowed
    have rdcyc := rdcyc_run issue inRange got allowed
    obtain ⟨rfl, rfl, -, -, -⟩ := State.issuePoint_eq issue
    have pairs {u : State} (h : s.Counts u i) (n : Nat) (pair : insXD i.word < 63) :
        reads (u.retire i (i.perLane (fun l g => g.setPair l (insXD i.word) n))) true
          (fun g l => g.pair l (insXD i.word) = n % 2 ^ 64) := by
      obtain ⟨rest, cores, groups, own, regs, group, -⟩ := h.retire (i.perLane (fun l g => g.setPair l (insXD i.word) n))
      obtain ⟨value, kept⟩ := Issue.perLane_pair issue pair (fun _ => n)
      have moved := Issue.moved_after issue (i.perLane (fun l g => g.setPair l (insXD i.word) n) i.after).regs
      refine ⟨_, rest, cores, groups, own, regs, group, i.perLane_pair_fields (fun _ => n) i.after ▸ moved, value, ?_⟩
      exact fun l r hr out => kept l r hr (out.imp id (fun ⟨ne, next⟩ => ⟨ne, next rfl⟩))
    have seen {u : State} (h : s.Counts u i) (f : Group → Group) : ((u.retire i f).core i.core).cycSeen = (u.core i.core).cycSeen := by
      obtain ⟨-, -, -, -, -, -, kept⟩ := h.retire f
      exact kept
    refine ⟨fun opcode pair => ?_, fun opcode => ?_, fun opcode pair => ?_⟩
    · exact ⟨_, rdtime opcode pair, seen (.marked s i) _, pairs (.marked s i) _ pair⟩
    · refine ⟨_, rdcore opcode, seen (.marked s i) _, ?_⟩
      obtain ⟨rest, cores, groups, own, regs, group, -⟩ := (State.Counts.marked s i).retire
        (i.perLane (fun l g => g.setReg l (insXD i.word) (BitVec.ofNat 32 i.core)))
      have value (l r : Nat) := foldl_setReg (insXD i.word) (fun _ => BitVec.ofNat 32 i.core) (insXD_lt _) i.lanes i.after l r
      have moved := Issue.moved_after issue (i.perLane (fun l g => g.setReg l (insXD i.word) (BitVec.ofNat 32 i.core)) i.after).regs
      have fields := i.perLane_fields (fun l g => g.setReg l (insXD i.word) (BitVec.ofNat 32 i.core)) (fun _ _ => rfl) i.after
      refine ⟨_, rest, cores, groups, own, regs, group, fields ▸ moved, fun l mem => ?_, fun l r hr out => ?_⟩
      · exact (value l _ (insXD_lt _)).trans (if_pos ⟨mem, rfl⟩)
      · exact (value l r hr).trans (if_neg (fun ⟨mem, same⟩ => out.elim (fun no => no mem) (fun ⟨ne, _⟩ => ne same)))
    · obtain ⟨least, above, most⟩ := s.cycleRead_spec i.core
      have counts := State.Counts.seen s i (s.cycleRead i.core)
      refine ⟨_, _, rdcyc opcode pair, least, above, most, (seen counts _).trans ?_, pairs counts _ pair⟩
      rw [State.core_modCore_self]
  · intro z c p i issue st store inRange got opcode pair s clear lanes free
    have nodup := Issue.lanes_nodup issue
    obtain ⟨t, written, wrote⟩ := State.writeEach_of_clear (n := 8) (fun l => i.g.pair l (insXA i.word)) nodup
      (fun l hl m _ other => feedAddr_apart st (lanes l hl).1 other) clear
    have run := feed_run issue inRange got opcode pair store (fun l hl => (lanes l hl).1) (fun l hl => (lanes l hl).2) free written
    obtain ⟨rfl, rfl, -, -, -⟩ := State.issuePoint_eq issue
    obtain ⟨rest, others, group⟩ := t.retire_spec i id
    have serves : s.Serves t := ⟨by rw [wrote.rest], wrote.regs⟩
    have mem : (t.retire i id).mem = t.mem := by rw [rest]
    refine ⟨_, _, run, ?_, serves.otherGroups others, group, Issue.moved_after issue i.after.regs, rfl, fun l hl => ?_, fun j out => ?_⟩
    · rw [mem]
      exact rest.trans (by rw [wrote.rest])
    · rw [State.load_of_mem mem, wrote.load l hl, Nat.mod_eq_of_lt (i.g.pair_lt ..)]
    · rw [State.byte, mem]
      exact wrote.byte j out

end Sys2Proof.Machine
end

section
/-! A dispatch is placed, launches its groups and finishes (R173–R175, R277, R287). -/
namespace Sys2Proof.Machine

/-! ### Placement (R277) -/

/-- Counting a placement changes no context, so a kernel descriptor is refused or not as before. -/
theorem State.kdReason_bump (s : State) (r : Row) (k x c : Nat) (d : List Byte) : (s.bump r k).kdReason x c d = s.kdReason x c d := by
  have extent : (s.bump r k).inExtent = s.inExtent := rfl
  have store : (s.bump r k).storeOk = s.storeOk := by
    funext x c off size
    rw [State.storeOk, State.storeOk, extent]
  unfold State.kdReason
  rw [extent, store]

/-- The lines of a program's range leave the cache of a core that takes its dispatch, and no other line (R203). -/
theorem Core.takeDisp_icache (k : Core) (d : Dispatch) (l : Nat) : SMap.find (k.takeDisp d).icache l =
    if d.kernel.progAddr < l * 64 + 64 ∧ l * 64 < d.kernel.progAddr + d.kernel.progLen then none else SMap.find k.icache l := by
  refine (SMap.find_filter (fun l => d.kernel.progAddr + d.kernel.progLen ≤ l * 64 || l * 64 + 64 ≤ d.kernel.progAddr) k.icache l).trans ?_
  simp only [Bool.or_eq_true, decide_eq_true_eq]
  by_cases within : d.kernel.progAddr < l * 64 + 64 ∧ l * 64 < d.kernel.progAddr + d.kernel.progLen
  · rw [if_pos within, if_neg (by omega)]
  · rw [if_neg within, if_pos (by omega)]

/-- A dispatch whose kernel descriptor is good is on its core. -/
def State.placed (s : State) (d : Dispatch) (c : Nat) : State :=
  State.modCore { s.bump HDR.BLK_PROG (pgQUAD (c / 4)) with waiting := s.waiting.filter (fun e => e.id != d.id) } c
    (fun k => k.takeDisp { d with kernel := parseKernel d.kernel.addr d.raw })

theorem State.placeOn_good {s : State} {d : Dispatch} {c : Nat} (good : s.kdReason d.ctx c d.raw = 0) : s.placeOn d c = s.placed d c := by
  unfold State.placeOn
  dsimp only
  rw [State.kdReason_bump, good, bne_self_eq_false, if_neg Bool.false_ne_true]
  rfl

theorem dispatchPlace_run {s : State} {n c : Nat} {d : Dispatch} (waits : s.waiting.find? (fun e => e.id = n) = some d)
    (issues : s.ctxIssues d.ctx d.gen = true) (live : s.liveAffinity d.ctx ≠ [])
    (chosen : s.leastLoaded ((s.soloCores d.ctx (s.liveAffinity d.ctx)).filter (fun e =>
      !s.inSlice e && (s.takesWork (pgFE e) && !s.fencePending e))) = some c) :
    exec (.dispatchPlace n) s = .next (s.placeOn d c) := by
  have nonempty : (s.liveAffinity d.ctx).isEmpty = false := List.isEmpty_eq_false_iff.mpr live
  have order : (s.soloCores d.ctx (s.liveAffinity d.ctx)).filter (fun e => !s.inSlice e && (s.takesWork (pgFE e) && !s.fencePending e)) =
      ((s.soloCores d.ctx (s.liveAffinity d.ctx)).filter (fun e => !s.inSlice e)).filter
        (fun e => s.takesWork (pgFE e) && !s.fencePending e) := by
    rw [List.filter_filter]
    exact List.filter_congr (fun e _ => Bool.and_comm ..)
  rw [order] at chosen
  refine congrArg Host.Outcome.next ?_
  simp only [waits, issues, nonempty, chosen, Bool.not_true, Bool.false_eq_true, if_false]

/-! ### Launch (R173, R174, R176) -/

/-- What register r of lane l of the next group of a dispatch holds. -/
def Dispatch.arg (d : Dispatch) (l r : Nat) : Word :=
  if r = 0 then BitVec.ofNat 32 l else if r = 1 then BitVec.ofNat 32 d.launched
  else if r = 2 then BitVec.ofNat 32 d.kernel.argAddr else if r = 3 then BitVec.ofNat 32 (d.kernel.argAddr / 2 ^ 32) else 0#32

/-- Registers with those of a lane set as a launch sets them. -/
def Dispatch.args (d : Dispatch) (m : List (Nat × Word)) (l : Nat) : List (Nat × Word) :=
  SMap.put (SMap.put (SMap.put (SMap.put m (l * 64) (BitVec.ofNat 32 l)) (l * 64 + 1) (BitVec.ofNat 32 d.launched))
    (l * 64 + 2) (BitVec.ofNat 32 d.kernel.argAddr)) (l * 64 + 3) (BitVec.ofNat 32 (d.kernel.argAddr / 2 ^ 32))

theorem newGroup_regs (d : Dispatch) (slot : Nat) : (newGroup d slot).regs = (List.range d.kernel.width).foldl d.args [] := rfl

theorem Dispatch.get_args (d : Dispatch) (m : List (Nat × Word)) (k l : Nat) {r : Nat} (hr : r < 64) :
    SMap.get (d.args m k) (l * 64 + r) 0#32 = if l = k ∧ r < 4 then d.arg l r else SMap.get m (l * 64 + r) 0#32 := by
  simp only [Dispatch.args, SMap.get_put]
  by_cases own : l = k ∧ r < 4
  · obtain ⟨rfl, low⟩ := own
    rw [if_pos (c := l = l ∧ r < 4) ⟨rfl, low⟩]
    interval_cases r <;> simp [Dispatch.arg]
  · rw [if_neg own, if_neg (by omega), if_neg (by omega), if_neg (by omega), if_neg (by omega)]

theorem Dispatch.get_args_foldl (d : Dispatch) (ls : List Nat) (m : List (Nat × Word)) (l : Nat) {r : Nat} (hr : r < 64) :
    SMap.get (ls.foldl d.args m) (l * 64 + r) 0#32 = if l ∈ ls ∧ r < 4 then d.arg l r else SMap.get m (l * 64 + r) 0#32 := by
  induction ls generalizing m with
  | nil => rw [if_neg (fun h => absurd h.1 List.not_mem_nil)]; rfl
  | cons k ls ih =>
    rw [List.foldl_cons, ih, d.get_args m k l hr]
    simp only [List.mem_cons]
    by_cases later : l ∈ ls ∧ r < 4
    · rw [if_pos later, if_pos ⟨.inr later.1, later.2⟩]
    · rw [if_neg later]
      by_cases here : l = k ∧ r < 4
      · rw [if_pos here, if_pos ⟨.inl here.1, here.2⟩]
      · rw [if_neg here, if_neg (fun ⟨mem, low⟩ => mem.elim (fun same => here ⟨same, low⟩) (fun mem => later ⟨mem, low⟩))]

/-- A new group starts with its arguments in x0 to x3 and 0 in every other register. -/
theorem newGroup_reg (d : Dispatch) (slot : Nat) {l r : Nat} (hl : l < d.kernel.width) (hr : r < 64) :
    (newGroup d slot).reg l r = d.arg l r := by
  rw [Group.reg, newGroup_regs, d.get_args_foldl _ _ _ hr]
  by_cases low : r < 4
  · rw [if_pos ⟨List.mem_range.mpr hl, low⟩]
  · rw [if_neg (fun h => low h.2), Dispatch.arg, if_neg (by omega), if_neg (by omega), if_neg (by omega), if_neg (by omega)]
    rfl

theorem newGroup_threads (d : Dispatch) (slot : Nat) :
    (newGroup d slot).threads = List.replicate d.kernel.width { pc := d.kernel.progAddr } := by
  refine (List.map_const' ..).trans ?_
  rw [List.length_range]

/-! ### The launch arbiter where one dispatch is ready (R287) -/

/-- A share leaves the only owner there is. -/
theorem State.chooseOwner_one (s : State) (q : Nat) (u : List (Nat × Nat × Nat)) (o : Nat) : s.chooseOwner q u [o] = some o := by
  unfold State.chooseOwner
  dsimp only
  by_cases shares : 0 < s.rd QUAD.SHARE q o
  · rw [List.filter_cons_of_pos (by rw [decide_eq_true shares])]
    rfl
  · rw [List.filter_cons_of_neg (by rw [decide_eq_false shares]; exact Bool.false_ne_true)]
    rfl

/-- The rounds due leave a context's deficit at 0 or above. -/
theorem Ctx.deficit_roundsDue (k : Ctx) : 0 ≤ k.deficit + k.roundsDue * k.step := by
  have step : 0 < k.step := by
    unfold Ctx.step
    omega
  unfold Ctx.roundsDue
  split
  · next up => simpa using up
  · next owed =>
    have quotient : -k.deficit ≤ (-k.deficit + k.step - 1) / k.step * k.step := by
      have split := Int.emod_add_mul_ediv (-k.deficit + k.step - 1) k.step
      have small := Int.emod_lt_of_pos (-k.deficit + k.step - 1) step
      rw [Int.mul_comm] at split
      omega
    have whole : (((-k.deficit + k.step - 1) / k.step).toNat : Int) = (-k.deficit + k.step - 1) / k.step :=
      Int.toNat_of_nonneg (Int.ediv_nonneg (by omega) (by omega))
    rw [whole]
    omega

theorem nextUp_one (last x : Nat) : nextUp last [x] = some x := by
  unfold nextUp
  by_cases after : last < x
  · rw [List.filter_cons_of_pos (by rw [decide_eq_true after])]
    rfl
  · rw [List.filter_cons_of_neg (by rw [decide_eq_false after]; exact Bool.false_ne_true)]
    rfl

/-- Context x has been given the rounds it is due. -/
def State.roundsGiven (s : State) (x : Nat) : State :=
  s.modCtx x (fun k => { k with deficit := k.deficit + (s.ctx x).roundsDue * k.step })

theorem State.roundsGiven_deficit (s : State) (x : Nat) : 0 ≤ ((s.roundsGiven x).ctx x).deficit := by
  rw [State.roundsGiven, State.modCtx, State.ctx_setCtx_self]
  exact (s.ctx x).deficit_roundsDue

/-- The state once the arbiter of core c has chosen dispatch d: its context has its rounds and is the last of its owner's. -/
def State.chosen (s : State) (c : Nat) (d : Dispatch) : State :=
  (s.roundsGiven d.ctx).modCore c (fun k => { k with lastCtx := SMap.put k.lastCtx (s.ctx d.ctx).owner d.ctx })

theorem State.chosen_core (s : State) (c : Nat) (d : Dispatch) :
    (s.chosen c d).core c = { s.core c with lastCtx := SMap.put (s.core c).lastCtx (s.ctx d.ctx).owner d.ctx } := State.core_modCore_self ..

theorem groupLaunch_run {s : State} {c : Nat} {d : Dispatch} (issues : s.coreIssues c = true)
    (ready : (s.core c).disps.filter (fun e => (s.core c).launchable e && s.ctxIssues e.ctx e.gen) = [d]) :
    exec (.groupLaunch c) s = .next ((s.chosen c d).launchGroup c d) := by
  have own : (List.filter (fun x => decide ((s.ctx x).owner = (s.ctx d.ctx).owner)) [d.ctx]) = [d.ctx] :=
    List.filter_cons_of_pos (by rw [decide_eq_true rfl])
  have rounds : s.rounds [d.ctx] = (s.ctx d.ctx).roundsDue := rfl
  have given : s.each ([d.ctx] : List Nat).dedup (fun u x => u.modCtx x (fun k =>
      { k with deficit := k.deficit + (s.ctx d.ctx).roundsDue * k.step })) = s.roundsGiven d.ctx := by
    rw [List.Nodup.dedup (List.nodup_singleton _)]
    rfl
  have due : List.filter (fun x => decide (0 ≤ ((s.roundsGiven d.ctx).ctx x).deficit)) [d.ctx] = [d.ctx] :=
    List.filter_cons_of_pos (by rw [decide_eq_true (s.roundsGiven_deficit d.ctx)])
  have found : List.find? (fun e : Dispatch => decide (e.ctx = d.ctx)) [d] = some d :=
    List.find?_cons_of_pos (by rw [decide_eq_true rfl])
  show execGroupLaunch c s = _
  unfold execGroupLaunch
  dsimp only
  rw [ready, issues]
  simp only [List.map_cons, List.map_nil, State.chooseOwner_one, own, rounds, given, due, nextUp_one, found, Bool.not_true,
    Bool.false_eq_true, if_false]
  rfl

/-- A launch puts the dispatch's next group at a free place of its core, in free slots. -/
theorem State.launchGroup_spec {s : State} {c slot p : Nat} {d : Dispatch} (run : (s.core c).freeRun d.kernel.width = some slot)
    (place : (s.core c).freePlace = some p) :
    s.launchGroup c d = { s with cores := (s.launchGroup c d).cores } ∧ (∀ e, e ≠ c → (s.launchGroup c d).core e = s.core e) ∧
    ∀ q, ((s.launchGroup c d).core c).group q = if p = q then some (newGroup d slot) else (s.core c).group q := by
  refine ⟨rfl, fun e he => State.core_modCore_ne _ he _, fun q => ?_⟩
  rw [State.launchGroup, State.core_modCore_self, run, place]
  exact (s.core c).group_setGroup p q _

/-! ### Completion (R175) -/

theorem State.finish_finished (s : State) (x qn ssn status detail : Nat) :
    s.finished (s.finish x qn ssn status detail) x qn ssn status detail := by
  have each : (fun k : Cmd => if k.ssn = ssn ∧ k.over = false then { k with phase := .done status detail s.ftime } else k) =
      fun k => if k.ssn = ssn then
        match k.phase with
        | .done .. => k
        | _ => { k with phase := .done status detail s.ftime } else k := by
    funext k
    by_cases same : k.ssn = ssn
    · cases phase : k.phase <;> simp [same, phase, Cmd.over]
    · rw [if_neg same, if_neg (fun h => same h.1)]
  unfold State.finished
  rw [each]
  exact ⟨fun y hy => (s.ctx_setCtx x y _).trans (if_neg hy.symm), s.ctx_setCtx_self x _⟩

/-- A core that a dispatch has left. -/
def Core.dropDisp (k : Core) (n : Nat) : Core := { k with disps := k.disps.filter (fun e => e.id != n) }

theorem dispatchComplete_run {s : State} {c n : Nat} {d : Dispatch} (disp : (s.core c).disp n = some d) (good : d.fault = none)
    (launched : d.launched = d.kernel.groups) (ended : d.ended = d.kernel.groups) (noPass : (s.core c).hasPass d.id = false)
    (noWrite : s.remoteWrites d.id = 0) (issues : s.ctxIssues d.ctx d.gen = true) :
    exec (.dispatchComplete c n) s = .next ((s.modCore c (fun k => k.dropDisp d.id)).finish d.ctx d.queue d.ssn stOK 0) := by
  refine congrArg Host.Outcome.next ?_
  simp only [disp, good, launched, ended, noPass, noWrite, issues, decide_true, Bool.and_true, Bool.not_false, if_true, Option.getD_none]
  rfl

/-- A filter that keeps what differs, by either of its tests. -/
theorem filter_other (ds : List Dispatch) (n : Nat) : ds.filter (fun e => e.id != n) = ds.filter (fun e => decide (e.id ≠ n)) :=
  List.filter_congr (fun e _ => by rw [bne, decide_not]; rfl)

/-- Settles O10: a placement, a launch and a completion by what each run leaves. -/
theorem dispatchPlaceLaunchComplete : Obligations.DispatchPlaceLaunchComplete := by
  unfold Obligations.DispatchPlaceLaunchComplete
  refine ⟨?_, ?_, ?_⟩
  · intro s n c d waits issues chosen live good
    have run : exec (.dispatchPlace n) s = .next (s.placed d c) := by
      rw [dispatchPlace_run waits issues live chosen, State.placeOn_good good]
    have core : (s.placed d c).core c = (s.core c).takeDisp { d with kernel := parseKernel d.kernel.addr d.raw } :=
      State.core_modCore_self ..
    have others : ∀ e, e ≠ c → (s.placed d c).core e = s.core e := fun e he => State.core_modCore_ne _ he _
    refine ⟨_, run, rfl, filter_other .., by rw [core]; rfl, fun l => by rw [core]; exact Core.takeDisp_icache .., fun e => ?_,
      s.regsBut_wr (List.mem_cons_self ..)⟩
    by_cases here : e = c
    · rw [here, core]; rfl
    · rw [others e here]
  · intro s c slot p d issues ready run place
    have core := s.chosen_core c d
    have others : ∀ e, e ≠ c → (s.chosen c d).core e = s.core e := fun e he => State.core_modCore_ne _ he _
    have launches := groupLaunch_run issues ready
    have frame : s.chosen c d = { s with cores := (s.chosen c d).cores, ctxs := (s.chosen c d).ctxs } := rfl
    generalize s.chosen c d = u at core others launches frame
    have run' : (u.core c).freeRun d.kernel.width = some slot := by rw [core]; exact run
    have place' : (u.core c).freePlace = some p := by rw [core]; exact place
    obtain ⟨rest, kept, groups⟩ := State.launchGroup_spec run' place'
    refine ⟨_, newGroup d slot, launches, ?_, fun e he => (kept e he).trans (others e he), fun q hq => ?_, ?_, rfl, rfl, rfl, rfl, rfl, rfl,
      newGroup_threads d slot, fun l r hl hr => newGroup_reg d slot hl hr⟩
    · rw [rest, frame]
    · rw [groups, if_neg hq.symm, core]
      rfl
    · rw [groups, if_pos rfl]
  · intro s c n d disp good launched ended noPass noWrite issues
    have core := s.core_modCore_self c (fun k => k.dropDisp d.id)
    have finished := (s.modCore c (fun k => k.dropDisp d.id)).finish_finished d.ctx d.queue d.ssn stOK 0
    refine ⟨_, dispatchComplete_run disp good launched ended noPass noWrite issues, rfl, ?_, ?_, finished⟩
    · exact (congrArg Core.disps core).trans (filter_other ..)
    · exact (congrArg Core.groups core).trans rfl

end Sys2Proof.Machine
end

section
/-! Changes of one context. -/
namespace Sys2Proof.Machine

/-- From s to t context x became c, and nothing else changed. -/
def State.ctxOnly (s t : State) (x : Nat) (c : Ctx) : Prop :=
  t = { s with ctxs := t.ctxs } ∧ t.ctx x = c ∧ ∀ y, y ≠ x → t.ctx y = s.ctx y

theorem State.ctx_of_ctxs {s t : State} (h : t.ctxs = s.ctxs) (x : Nat) : t.ctx x = s.ctx x := by rw [State.ctx, State.ctx, h]

theorem State.ctx_setCtx_ne (s : State) {x y : Nat} (c : Ctx) (h : y ≠ x) : (s.setCtx x c).ctx y = s.ctx y := by
  rw [State.ctx_setCtx, if_neg h.symm]

theorem State.ctxOnly_refl (s : State) (x : Nat) : s.ctxOnly s x (s.ctx x) := ⟨rfl, rfl, fun _ _ => rfl⟩

theorem State.ctxOnly_setCtx (s : State) (x : Nat) (c : Ctx) : s.ctxOnly (s.setCtx x c) x c :=
  ⟨rfl, s.ctx_setCtx_self x c, fun _ hy => s.ctx_setCtx_ne c hy⟩

theorem State.ctxOnly_modCtx (s : State) (x : Nat) (f : Ctx → Ctx) : s.ctxOnly (s.modCtx x f) x (f (s.ctx x)) := s.ctxOnly_setCtx x _

theorem State.ctxOnly.own {s t : State} {x : Nat} {c : Ctx} (h : s.ctxOnly t x c) : t.ctx x = c := h.2.1

theorem State.ctxOnly.trans {s t u : State} {x : Nat} {c d : Ctx} (h : s.ctxOnly t x c) (h' : t.ctxOnly u x d) : s.ctxOnly u x d := by
  obtain ⟨rest, -, others⟩ := h
  obtain ⟨rest', own', others'⟩ := h'
  exact ⟨by rw [rest', rest], own', fun y hy => (others' y hy).trans (others y hy)⟩

end Sys2Proof.Machine
end

section
/-! The writes of a context window by its owner (R245–R247, R258, R259, R269, R515). -/
namespace Sys2Proof.Machine

/-! ### What the rings do once the host has read records (R258, R259) -/

/-- Space on the completion ring of a context that is not being reset takes CQ_FULL down, and does nothing else. -/
theorem State.cqSpace_only {s : State} {x : Nat} (noReset : (s.ctx x).reset = none) :
    s.ctxOnly (s.cqSpace x) x { s.ctx x with cqFull := (s.ctx x).cqFull && !(s.ctx x).cq.room } := by
  have after : ∀ t : State, (t.ctx x).reset = none → (if (t.ctx x).reset.isSome = true then t.tryRecords x else t) = t :=
    fun t none => if_neg (by simp [none])
  unfold State.cqSpace
  cases room : (s.ctx x).cq.room with
  | true =>
    have cleared := s.ctxOnly_modCtx x (fun c => { c with cqFull := false })
    rw [if_pos rfl, Bool.not_true, Bool.and_false]
    exact (after _ (congrArg Ctx.reset cleared.own |>.trans noReset)).symm ▸ cleared
  | false =>
    rw [if_neg Bool.false_ne_true, Bool.not_false, Bool.and_true]
    exact (after s noReset).symm ▸ s.ctxOnly_refl x

theorem State.cqSpace_clear {s : State} {x : Nat} (noReset : (s.ctx x).reset = none) (clear : (s.ctx x).cqFull = false) :
    s.ctxOnly (s.cqSpace x) x (s.ctx x) := by
  have space := State.cqSpace_only noReset
  rwa [clear, Bool.false_and, ← clear] at space

/-- While no event was dropped there is no GAP to post. -/
theorem State.flushGap_kept {s : State} {x : Nat} (kept : (s.ctx x).evDrop = false) : s.flushGap x = s := by
  rw [State.flushGap, kept]
  rfl

/-! ### Where a write of a window by the host comes out (Table 3-3, R269) -/

theorem State.barWrite_ok {s : State} {a : Authority} (gate : s.barGate a = .ok) (off len : Nat) (f : State → State) :
    s.barWrite a off len f = f s := by
  rw [State.barWrite, gate]

theorem State.windowWrite_host {s : State} {x : Nat} (hx : x < 8192) (gate : s.barGate .host = .ok) (own : s.ctxVf x = 0)
    {sub len : Nat} (inside : sub < 0x100) (shape : goodShape sub len = true) (v : Nat) :
    s.windowWrite .host x sub len v = s.winBytes .host x x sub len v := by
  have owns : s.ownsWindow .host x = true := decide_eq_true own
  have reach : ¬ (decide (numbered .host ≤ x) || decide (0x100 ≤ sub)) = true := by
    rw [Bool.or_eq_true, decide_eq_true_eq, decide_eq_true_eq]
    exact fun h => h.elim (Nat.not_le.mpr hx) (Nat.not_le.mpr inside)
  unfold State.windowWrite
  rw [if_neg reach, State.barWrite_ok gate]
  show (if (!s.ownsWindow .host x) = true then _ else if (goodShape sub len && true) = true then s.winBytes .host x x sub len v else s) = _
  rw [owns, shape]
  rfl

/-! ### What each write does with a good value -/

section
variable {s : State} {x v : Nat}

/-- CQ_CIDX of a context that is not being reset moves to a value that is not beyond CQ_PIDX (R258). -/
theorem State.cqCidx_only (hv : v < 2 ^ 32) (good : before32 (s.ctx x).cq.pidx v = false) (noReset : (s.ctx x).reset = none) :
    s.ctxOnly (s.cqCidx x v) x { s.ctx x with
      cq := { (s.ctx x).cq with cidx := v }
      cqFull := (s.ctx x).cqFull && !({ (s.ctx x).cq with cidx := v } : Ring).room } := by
  rw [State.cqCidx, good, if_neg Bool.false_ne_true, Nat.mod_eq_of_lt hv]
  have moved := s.ctxOnly_modCtx x (fun c => { c with cq := { c.cq with cidx := v } })
  have space := State.cqSpace_only (congrArg Ctx.reset moved.own |>.trans noReset)
  rw [moved.own] at space
  exact moved.trans space

/-- EQ_CIDX of a context that dropped no event moves likewise (R259). -/
theorem State.eqCidx_only (hv : v < 2 ^ 32) (good : before32 (s.ctx x).eq.pidx v = false) (kept : (s.ctx x).evDrop = false) :
    s.ctxOnly (s.eqCidx x v) x { s.ctx x with eq := { (s.ctx x).eq with cidx := v } } := by
  rw [State.eqCidx, good, if_neg Bool.false_ne_true, Nat.mod_eq_of_lt hv]
  have moved := s.ctxOnly_modCtx x (fun c => { c with eq := { c.eq with cidx := v } })
  rw [State.flushGap_kept (congrArg Ctx.evDrop moved.own |>.trans kept)]
  exact moved

/-- A disabled ring takes an aligned base (R245, R246). -/
theorem State.ringBase_only {isCq : Bool} (off : ((s.ctx x).ring isCq).en = false) (hv : v < 2 ^ 64) (aligned : v % 4096 = 0)
    (a : Authority) (i sub len : Nat) :
    s.ctxOnly (s.ringBase a i x sub len isCq v) x ((s.ctx x).setRing isCq { (s.ctx x).ring isCq with base := v }) := by
  rw [State.ringBase]
  dsimp only
  rw [off, aligned, if_neg (by decide), Nat.mod_eq_of_lt hv]
  exact s.ctxOnly_modCtx x _

/-- A ring of context x with the enable and size of a written word. -/
def State.ringSized (s : State) (x : Nat) (isCq : Bool) (v : Nat) : State :=
  s.modCtx x (fun c => c.setRing isCq { (s.ctx x).ring isCq with en := bit v 31, log2 := bits v 3 0 })

theorem State.ringSized_only (s : State) (x : Nat) (isCq : Bool) (v : Nat) :
    s.ctxOnly (s.ringSized x isCq v) x
      ((s.ctx x).setRing isCq { (s.ctx x).ring isCq with en := bit v 31, log2 := bits v 3 0 }) := s.ctxOnly_modCtx x _

/-- A disabled ring takes its enable and a good size (R246). -/
theorem State.ringCfg_disabled {isCq : Bool} (off : ((s.ctx x).ring isCq).en = false)
    (size : 4 ≤ bits v 3 0) (a : Authority) (i sub : Nat) :
    s.ringCfg a i x sub isCq v = if isCq = true then (s.ringSized x isCq v).cqSpace x else (s.ringSized x isCq v).flushGap x := by
  have small : ¬ bits v 3 0 < 4 := Nat.not_lt.mpr size
  rw [State.ringCfg]
  dsimp only
  rw [off, decide_eq_false small, Bool.or_false, Bool.and_false, if_neg Bool.false_ne_true, if_neg (by simp)]
  rfl

theorem State.cqCfg_only (off : (s.ctx x).cq.en = false) (size : 4 ≤ bits v 3 0) (noReset : (s.ctx x).reset = none)
    (notFull : (s.ctx x).cqFull = false) (a : Authority) (i sub : Nat) :
    s.ctxOnly (s.ringCfg a i x sub true v) x { s.ctx x with cq := { (s.ctx x).cq with en := bit v 31, log2 := bits v 3 0 } } := by
  have sized := s.ringSized_only x true v
  have space := State.cqSpace_clear (congrArg Ctx.reset sized.own |>.trans noReset) (congrArg Ctx.cqFull sized.own |>.trans notFull)
  rw [sized.own] at space
  rw [State.ringCfg_disabled (isCq := true) off size, if_pos rfl]
  exact sized.trans space

theorem State.eqCfg_only (off : (s.ctx x).eq.en = false) (size : 4 ≤ bits v 3 0) (kept : (s.ctx x).evDrop = false)
    (a : Authority) (i sub : Nat) :
    s.ctxOnly (s.ringCfg a i x sub false v) x { s.ctx x with eq := { (s.ctx x).eq with en := bit v 31, log2 := bits v 3 0 } } := by
  have sized := s.ringSized_only x false v
  rw [State.ringCfg_disabled (isCq := false) off size, if_neg Bool.false_ne_true,
    State.flushGap_kept (congrArg Ctx.evDrop sized.own |>.trans kept)]
  exact sized

/-- The selected queue, disabled, takes its enable, urgency and a good size while both rings are enabled and fewer than 65,536 queues
are (R246, R247). -/
theorem State.queueCfg_only (off : ((s.ctx x).queue (s.ctx x).qsel).en = false) (size : 4 ≤ bits v 3 0)
    (cq : (s.ctx x).cq.en = true) (eq : (s.ctx x).eq.en = true) (few : s.queuesEnabled < 65536) (a : Authority) (i : Nat) :
    s.ctxOnly (s.queueCfg a i x v) x ((s.ctx x).setQueue (s.ctx x).qsel { (s.ctx x).queue (s.ctx x).qsel with
      en := bit v 31, urgent := bit v 30, log2 := bits v 3 0 }) := by
  have small : ¬ bits v 3 0 < 4 := Nat.not_lt.mpr size
  have many : ¬ 65536 ≤ s.queuesEnabled := Nat.not_le.mpr few
  rw [State.queueCfg]
  dsimp only
  rw [off, cq, eq, decide_eq_false small, decide_eq_false many, if_neg (by simp), if_neg (by simp), if_neg (by simp)]
  exact s.ctxOnly_setCtx x _

/-- VMARK clears while no command is in progress (R515). -/
theorem State.vmarkClr_only (one : bit v 0 = true) (runs : (s.ctx x).runs = true)
    (idle : (s.ctx x).busy = false) (a : Authority) (i : Nat) :
    s.ctxOnly (s.vmarkClr a i x v) x { s.ctx x with vmark := false } := by
  rw [State.vmarkClr, one, runs, idle, if_neg (by decide), if_pos (by decide)]
  exact s.ctxOnly_modCtx x _

end

/-! ### The commands that write a window -/

section
variable {s : State} {x v : Nat} (hx : x < 8192) (gate : s.barGate .host = .ok) (own : s.ctxVf x = 0)
include hx gate own

/-- A word other than a base is written by 4 bytes. -/
theorem State.windowWrite_word (hv : v < 2 ^ 32) {sub : Nat} (inside : sub < 0x100) (aligned : sub % 4 = 0) {f : Nat → State}
    (word : s.winWord .host x x sub v = f (v % 2 ^ 32)) : s.windowWrite .host x sub 4 v = f v := by
  have shape : goodShape sub 4 = true := by rw [goodShape, aligned]; rfl
  rw [State.windowWrite_host hx gate own inside shape, State.winBytes, if_neg (by decide), word, Nat.mod_eq_of_lt hv]

theorem cqCidxWrite_run (hv : v < 2 ^ 32) : exec (.cqCidxWrite .host x v) s = .next (s.cqCidx x v) :=
  congrArg Host.Outcome.next (State.windowWrite_word hx gate own hv (by decide) rfl (by simp [State.winWord]))

theorem eqCidxWrite_run (hv : v < 2 ^ 32) : exec (.eqCidxWrite .host x v) s = .next (s.eqCidx x v) :=
  congrArg Host.Outcome.next (State.windowWrite_word hx gate own hv (by decide) rfl (by simp [State.winWord]))

theorem cqBaseWrite_run : exec (.ringCfgWrite .host x 0x10 v) s = .next (s.ringBase .host x x 0x10 8 true v) := by
  show execRingCfgWrite .host x 0x10 v s = _
  rw [execRingCfgWrite, if_pos (by decide), State.windowWrite_host hx gate own (by decide) rfl, State.winBytes, if_pos rfl, if_pos rfl]

theorem eqBaseWrite_run : exec (.ringCfgWrite .host x 0x28 v) s = .next (s.ringBase .host x x 0x28 8 false v) := by
  show execRingCfgWrite .host x 0x28 v s = _
  rw [execRingCfgWrite, if_pos (by decide), State.windowWrite_host hx gate own (by decide) rfl, State.winBytes, if_pos rfl,
    if_neg (by decide), if_pos rfl]

theorem cqCfgWrite_run (hv : v < 2 ^ 32) : exec (.ringCfgWrite .host x 0x18 v) s = .next (s.ringCfg .host x x 0x18 true v) :=
  congrArg Host.Outcome.next (State.windowWrite_word hx gate own hv (by decide) rfl (by simp [State.winWord]))

theorem eqCfgWrite_run (hv : v < 2 ^ 32) : exec (.ringCfgWrite .host x 0x24 v) s = .next (s.ringCfg .host x x 0x24 false v) :=
  congrArg Host.Outcome.next (State.windowWrite_word hx gate own hv (by decide) rfl (by simp [State.winWord]))

theorem queueEnableWrite_run (hv : v < 2 ^ 32) : exec (.queueEnableWrite .host x v) s = .next (s.queueCfg .host x x v) :=
  congrArg Host.Outcome.next (State.windowWrite_word hx gate own hv (by decide) rfl (by simp [State.winWord]))

theorem vmarkClr_run (hv : v < 2 ^ 32) : exec (.vmarkClr .host x v) s = .next (s.vmarkClr .host x x v) :=
  congrArg Host.Outcome.next (State.windowWrite_word hx gate own hv (by decide) rfl (by simp [State.winWord]))

end

/-- Settles O16: each write reaches its word of the window, which takes the value. -/
theorem windowWrites : Obligations.WindowWrites := by
  unfold Obligations.WindowWrites
  intro s x v hx hv gate own
  refine ⟨fun good noReset => ⟨_, cqCidxWrite_run hx gate own hv, State.cqCidx_only hv good noReset⟩,
    fun good kept => ⟨_, eqCidxWrite_run hx gate own hv, State.eqCidx_only hv good kept⟩,
    fun w off hw aligned => ⟨_, cqBaseWrite_run hx gate own, State.ringBase_only (isCq := true) off hw aligned ..⟩,
    fun w off hw aligned => ⟨_, eqBaseWrite_run hx gate own, State.ringBase_only (isCq := false) off hw aligned ..⟩,
    fun off size noReset notFull => ⟨_, cqCfgWrite_run hx gate own hv, State.cqCfg_only off size noReset notFull ..⟩,
    fun off size kept => ⟨_, eqCfgWrite_run hx gate own hv, State.eqCfg_only off size kept ..⟩,
    fun off size cq eq few => ⟨_, queueEnableWrite_run hx gate own hv, State.queueCfg_only off size cq eq few ..⟩,
    fun one runs idle => ⟨_, vmarkClr_run hx gate own hv, State.vmarkClr_only one runs idle ..⟩⟩

end Sys2Proof.Machine
end

section
/-! The record of a finished command is posted, and moderation signals a context's vector (R253, R256, R258, R282, R284). -/
namespace Sys2Proof.Machine

/-! ### Signals (R282, R284) -/

theorem State.sendVector_signalled (s : State) (func vec : Nat) : s.signalled (s.sendVector func vec) func vec := by
  unfold State.signalled State.sendVector
  dsimp only
  cases s.msixEnabled func with
  | false => exact ⟨rfl, by simp⟩
  | true =>
    cases masked : (SMap.get s.pci.msix (msiKey func vec) {}).mask || s.msixMasked func with
    | true => exact ⟨rfl, by simp⟩
    | false => exact ⟨rfl, by simp⟩

theorem State.signalNow_ctxOnly (s : State) (x : Nat) :
    (s.sendVector (s.ctx x).owner (s.ctx x).cfg.vector).ctxOnly (s.signalNow x) x { s.ctx x with pending := 0, firstPending := none } :=
  State.ctxOnly_setCtx _ x _

/-- From s to t context x was signalled or one more of its records waits to be: its count moved, and a vector may have gone out. -/
structure State.Signals (s t : State) (x : Nat) : Prop where
  rest : t = { s with ctxs := t.ctxs, pci := t.pci, out := t.out }
  own : t.ctx x = { s.ctx x with pending := (t.ctx x).pending, firstPending := (t.ctx x).firstPending }
  others : ∀ y, y ≠ x → t.ctx y = s.ctx y
  out : s.out <+: t.out

theorem State.ctx_sendVector (s : State) (func vec x : Nat) : (s.sendVector func vec).ctx x = s.ctx x := by
  rw [State.sendVector_rest]
  rfl

theorem State.signalNow_signals (s : State) (x : Nat) : s.Signals (s.signalNow x) x := by
  obtain ⟨rest, own, others⟩ := s.signalNow_ctxOnly x
  refine ⟨?_, by rw [own], fun y hy => (others y hy).trans (s.ctx_sendVector _ _ y), ?_⟩
  · rw [rest, State.sendVector_rest]
  · rw [rest]
    exact s.sendVector_out _ _

theorem State.signal_signals (s : State) (x : Nat) (now : Bool) : s.Signals (s.signal x now) x := by
  unfold State.signal
  dsimp only
  split
  · exact ⟨rfl, rfl, fun _ _ => rfl, List.prefix_rfl⟩
  · split
    · exact s.signalNow_signals x
    · exact ⟨rfl, by rw [s.ctx_setCtx_self], fun y hy => s.ctx_setCtx_ne _ hy, List.prefix_rfl⟩

theorem modTimerExpire_run {s : State} {x t0 : Nat} (first : (s.ctx x).firstPending = some t0) (service : s.inService = true)
    (enabled : (s.ctx x).cfg.intEn = true) (moderated : (s.ctx x).cfg.modUs ≠ 0) (elapsed : t0 + 100 * (s.ctx x).cfg.modUs ≤ s.ftime) :
    exec (.modTimerExpire x) s = .next (s.signalNow x) := by
  show execModTimerExpire x s = _
  rw [execModTimerExpire, first]
  exact congrArg Host.Outcome.next (if_pos (by rw [service, enabled, bne_iff_ne.mpr moderated, decide_eq_true elapsed]; rfl))

/-! ### The record of a finished command (R253, R256, Table 7-5) -/

/-- The record of command k of queue qn of context x: the next CSN, the fields of the command with PHASE, and its USER and time. -/
def State.doneRecord (s : State) (x qn st d tm : Nat) (k : Cmd) : List Byte :=
  toLE (s.ctx x).csn 4 ++
    toLE (0x01 * 2 ^ 24 + k.gen * 2 ^ 16 + st * 2 ^ 8 + qn * 4 + b2n (bit (s.ctx x).cq.pidx (s.ctx x).cq.log2)) 4 ++
    toLE k.ssn 4 ++ toLE (2 ^ 16 + d) 4 ++ toLE (k.words.getD 7 0) 8 ++ toLE tm 8

theorem State.length_doneRecord (s : State) (x qn st d tm : Nat) (k : Cmd) : (s.doneRecord x qn st d tm k).length = 32 := by
  simp only [State.doneRecord, List.length_append, length_toLE]

/-- The context once the command at the head of a queue has its record: the next CSN and slot, and the queue past the command. -/
def Ctx.headDone (c : Ctx) (qn : Nat) (k : Cmd) : Ctx :=
  ({ c with cq := c.cq.advance, csn := (c.csn + 1) % 2 ^ 32 } : Ctx).setQueue qn
    { c.queue qn with done := (k.ssn + 1) % 2 ^ 32, cmds := (c.queue qn).cmds.drop 1 }

section
variable {s : State} {x qn st d tm : Nat} {k : Cmd}

/-- The host link takes the write of a record on the completion ring. -/
theorem State.handRecord_taken (link : s.pci.linkUp = true) (paths : s.lostPaths = []) (bs : List Byte) :
    s.handRecord x true bs = (s.hostStore (s.ctx x).owner false (s.ctx x).cq.slot bs).setCtx x
      { s.ctx x with cq := (s.ctx x).cq.advance, csn := ((s.ctx x).csn + 1) % 2 ^ 32 } := by
  rw [State.handRecord]
  dsimp only
  rw [link, paths]
  rfl

theorem State.postDone_taken (link : s.pci.linkUp = true) (paths : s.lostPaths = []) :
    ∃ u, (s.hostStore (s.ctx x).owner false (s.ctx x).cq.slot (s.doneRecord x qn st d tm k)).ctxOnly u x ((s.ctx x).headDone qn k) ∧
      s.postDone x qn k st d tm = u.signal x ((s.ctx x).queue qn).urgent := by
  have record : s.postCq x 0x01 k.gen st qn k.ssn 1 d (k.words.getD 7 0) tm = s.handRecord x true (s.doneRecord x qn st d tm k) := by
    rw [State.postCq, State.doneRecord, recordBytes, Ring.phase, Nat.one_mul, Nat.one_mul]
  rw [State.handRecord_taken link paths] at record
  have handed := State.ctxOnly_setCtx (s.hostStore (s.ctx x).owner false (s.ctx x).cq.slot (s.doneRecord x qn st d tm k)) x
    { s.ctx x with cq := (s.ctx x).cq.advance, csn := ((s.ctx x).csn + 1) % 2 ^ 32 }
  have off := State.ctxOnly_modCtx (s.postCq x 0x01 k.gen st qn k.ssn 1 d (k.words.getD 7 0) tm) x (fun c => c.setQueue qn
    { c.queue qn with done := (k.ssn + 1) % 2 ^ 32, cmds := ((s.ctx x).queue qn).cmds.drop 1 })
  rw [record, handed.own] at off
  exact ⟨_, handed.trans off, by rw [← record]; rfl⟩

theorem State.postHead_done {rest : List Cmd} (cmds : ((s.ctx x).queue qn).cmds = k :: rest) (phase : k.phase = .done st d tm)
    (head : k.ssn = ((s.ctx x).queue qn).done) (room : (s.ctx x).cq.room = true) :
    s.postHead x qn = s.postDone x qn k st d tm := by
  have due : ((s.ctx x).queue qn).due = some k := by
    rw [Queue.due, cmds]
    dsimp only
    rw [phase]
    exact if_pos head
  rw [State.postHead, due]
  exact (if_pos room).trans (by rw [phase])

theorem completionPost_run (service : s.inService = true) (up : s.boot.qengUp = true) (owned : (s.ctx x).state = .owned) :
    exec (.completionPost x qn) s = .next (s.postHead x qn).urgentTidy := by
  show execCompletionPost x qn s = _
  rw [execCompletionPost, service, up, Ctx.gone, owned]
  rfl

end

/-- Settles O13: a record's write is taken, its command leaves the queue and a signal may follow; a moderation timer signals. -/
theorem completionAndModeration : Obligations.CompletionAndModeration := by
  unfold Obligations.CompletionAndModeration
  refine ⟨?_, ?_⟩
  · intro s x qn st d tm k rest service up owned cmds phase head room link paths
    have run := completionPost_run (qn := qn) service up owned
    obtain ⟨u, ⟨frame, own, others⟩, posted⟩ :=
      State.postDone_taken (x := x) (qn := qn) (st := st) (d := d) (tm := tm) (k := k) link paths
    rw [State.postHead_done cmds phase head room, posted] at run
    obtain ⟨frame', own', others', l, out⟩ := u.signal_signals x ((s.ctx x).queue qn).urgent
    have regs := u.signal_regs x ((s.ctx x).queue qn).urgent
    rw [own] at own'
    have host : (u.signal x ((s.ctx x).queue qn).urgent).host =
        Memory.writeBytes s.host (s.ctx x).cq.slot (s.doneRecord x qn st d tm k) := by rw [frame', frame]; rfl
    refine ⟨_, run, ?_, fun y hy => (others' y hy).trans (others y hy), congrArg Ctx.csn own', congrArg Ctx.cq own', ?_,
      bytes_of_written host (s.length_doneRecord ..), ⟨l, ?_⟩, fun a out => ?_, ?_⟩
    · rw [State.urgentTidy, frame', frame]
      rfl
    · refine (congrArg (Ctx.queue · qn) own').trans ((Ctx.queue_setQueue_self _ qn _).trans ?_)
      rw [cmds]
      rfl
    · refine out.symm.trans ?_
      rw [frame]
      show (s.out ++ [.dmaWrite _ _ (s.doneRecord x qn st d tm k).length _ _ _]) ++ l = _
      rw [s.length_doneRecord, List.append_assoc]
      rfl
    · refine (congrArg (Memory.read · a) host).trans (Memory.read_writeBytes_out _ _ _ _ ?_)
      rwa [s.length_doneRecord]
    · have same : (u.signal x ((s.ctx x).queue qn).urgent).regs =
          (s.hostStore (s.ctx x).owner false (s.ctx x).cq.slot (s.doneRecord x qn st d tm k)).regs := by rw [regs, frame]
      exact fun b hb => (congrArg (SMap.find · b) same).trans (s.hostStore_regsBut _ _ _ _ b hb)
  · intro s x t0 first service enabled moderated elapsed
    obtain ⟨frame, own, others⟩ := s.signalNow_ctxOnly x
    have sent := s.sendVector_signalled (s.ctx x).owner (s.ctx x).cfg.vector
    refine ⟨_, modTimerExpire_run first service enabled moderated elapsed,
      (s.signalNow_signals x).rest, own, (s.signalNow_signals x).others, ?_⟩
    rw [frame]
    exact sent

end Sys2Proof.Machine
end

section
/-! A doorbell that Table 7-2 accepts, and the fetch of the next entry (R249–R251, R254). -/
namespace Sys2Proof.Machine

/-! ### Serial numbers -/

theorem before32_iff (a b : Nat) :
    before32 a b = true ↔ 1 ≤ (b + 2 ^ 32 - a % 2 ^ 32) % 2 ^ 32 ∧ (b + 2 ^ 32 - a % 2 ^ 32) % 2 ^ 32 < 2 ^ 31 := by
  rw [before32, Bool.and_eq_true, decide_eq_true_eq, decide_eq_true_eq]

theorem before32_ne {a b : Nat} (h : before32 a b = true) : b ≠ a := by
  rintro rfl
  obtain ⟨pos, -⟩ := (before32_iff b b).mp h
  omega

theorem before32_asymm {a b : Nat} (h : before32 a b = true) (hb : b < 2 ^ 32) : before32 b a = false := by
  obtain ⟨pos, near⟩ := (before32_iff a b).mp h
  refine Bool.eq_false_iff.mpr (fun back => ?_)
  obtain ⟨pos', near'⟩ := (before32_iff b a).mp back
  omega

/-! ### Requests for entries (R110, R251) -/

/-- A request for an entry changes nothing else. The definition is taken apart as a function: the kernel would otherwise compare the
two sides by running the serial arithmetic of `Queue.fetchNext` on an unknown queue. -/
theorem State.asks_askEntry (s : State) (x qn : Nat) : s.Asks (s.askEntry x qn) := by
  generalize asked : @State.askEntry = ask
  delta State.askEntry at asked
  subst asked
  dsimp only
  split
  · split
    · exact s.asks_askHost ..
    · exact State.Asks.refl s
  · exact State.Asks.refl s

theorem State.Asks.ctx {s t : State} (h : s.Asks t) (y : Nat) : t.ctx y = s.ctx y := by rw [h.eq]; rfl

/-! ### What the acceptance and the fetch of entries touch -/

/-- From s to t contexts changed, the order of urgent entries, and what is asked of the host; nothing else did. -/
structure State.Rings (s t : State) : Prop where
  rest : t = { s with ctxs := t.ctxs, urgent := t.urgent, pci := t.pci, out := t.out }

namespace State.Rings
variable {s t u : State}

theorem trans (h : s.Rings t) (h' : t.Rings u) : s.Rings u := ⟨by rw [h'.rest, h.rest]⟩

theorem ctxOnly {x : Nat} {c : Ctx} (h : s.ctxOnly t x c) : s.Rings t := ⟨by rw [h.1]⟩

theorem asks (h : s.Asks t) : s.Rings t := ⟨by rw [h.eq]⟩

theorem joinUrgent (s : State) (x qn first n : Nat) : s.Rings (s.joinUrgent x qn first n) := ⟨rfl⟩

theorem urgentTidy (s : State) : s.Rings s.urgentTidy := ⟨rfl⟩

theorem regs (h : s.Rings t) : t.regs = s.regs := by rw [h.rest]

theorem after_read (h : t.Rings u) (read : t = { s with regs := t.regs, pci := t.pci }) :
    u = { s with ctxs := u.ctxs, regs := u.regs, urgent := u.urgent, pci := u.pci, out := u.out } := by rw [h.rest, read]

end State.Rings

theorem State.ctx_withUrgent (s : State) (l : List (Nat × Nat × Nat)) (x : Nat) : ({ s with urgent := l } : State).ctx x = s.ctx x := rfl

theorem State.urgentTidy_ctx (s : State) (x : Nat) : s.urgentTidy.ctx x = s.ctx x := s.ctx_withUrgent _ x

/-! ### Doorbells (R77–R79, R249, Table 7-2) -/

theorem doorbellOff_first : doorbellOff .host 0 0 = 0x100_0000 := by decide

theorem numbered_bytes : numbered .host * 0x200 = 0x40_0000 := by decide

/-- The doorbell of queue qn of context x lies among those of the host's function, at a multiple of 8, and its offset gives x and qn. -/
theorem doorbell_place {x qn : Nat} (hx : x < 8192) (hqn : qn < 64) :
    ∃ off, off = 0x100_0000 + x * 0x200 + 8 * qn ∧ ¬ off < doorbellOff .host 0 0 ∧
      ¬ numbered .host * 0x200 ≤ off - doorbellOff .host 0 0 ∧
      (off - doorbellOff .host 0 0) / 0x200 = x ∧ off % 0x200 / 8 = qn ∧ off % 8 = 0 := by
  rw [doorbellOff_first, numbered_bytes]
  exact ⟨_, rfl, by omega, by omega, by omega, by omega, by omega⟩

/-- A doorbell of the host for an owned context of PF0, 8 whole bytes, rings its queue. -/
theorem State.doorbell_host {s : State} {x qn : Nat} (hx : x < 8192) (hqn : qn < 64) (gate : s.barGate .host = .ok)
    (range : s.rangeVf x = 0) (owned : (s.ctx x).owned = true) (awake : s.rd DRONE.PWR_STAT_STATE ≠ 2) (value : Nat) :
    s.doorbell .host (0x100_0000 + x * 0x200 + 8 * qn) 8 value = s.ring .host x qn (0x100_0000 + x * 0x200 + 8 * qn) value := by
  have woken : s.dozeWake 1 = s := by rw [State.dozeWake, if_pos (by simp [awake])]
  obtain ⟨off, place, above, below, number, queue, aligned⟩ := doorbell_place hx hqn
  rw [← place]
  clear place
  rw [State.doorbell]
  dsimp only
  rw [decide_eq_false above, decide_eq_false below, if_neg (by decide), State.barWrite_ok gate, number, queue]
  show (if Authority.host = .debug then _ else if (decide (Authority.host = .host) && s.rangeVf x != 0) = true then _
    else if (!(s.ctx x).owned) = true then _
    else if (8 != 8 || off % 8 != 0 || !true) = true then s else (s.dozeWake 1).ring .host x qn off value) = _
  rw [if_neg (by decide), range, if_neg (by decide), owned, if_neg (by decide), aligned, if_neg (by decide), woken]

/-- Queue qn of context x with the tail that a doorbell of the context's generation gave. -/
def State.rung (s : State) (x qn tail : Nat) : State :=
  s.setCtx x ((s.ctx x).setQueue qn { (s.ctx x).queue qn with expect := tail, dbGen := (s.ctx x).gen })

theorem State.rung_only (s : State) (x qn tail : Nat) : s.ctxOnly (s.rung x qn tail) x
    ((s.ctx x).setQueue qn { (s.ctx x).queue qn with expect := tail, dbGen := (s.ctx x).gen }) := s.ctxOnly_setCtx x _

/-- The same, with the entries accepted on an URGENT queue in the order of doorbells (R290). -/
def State.accepted (s : State) (x qn tail : Nat) : State :=
  if ((s.ctx x).queue qn).urgent = true then
    (s.rung x qn tail).joinUrgent x qn ((s.ctx x).queue qn).expect (dist32 ((s.ctx x).queue qn).expect tail)
  else s.rung x qn tail

theorem State.accepted_rings (s : State) (x qn tail : Nat) : s.Rings (s.accepted x qn tail) := by
  have rung := State.Rings.ctxOnly (s.rung_only x qn tail)
  unfold State.accepted
  split
  · exact rung.trans (.joinUrgent ..)
  · exact rung

theorem State.accepted_urgent {s : State} {x qn : Nat} (plain : ((s.ctx x).queue qn).urgent = false) (tail : Nat) :
    (s.accepted x qn tail).urgent = s.urgent := by
  rw [State.accepted, if_neg (by simp [plain])]
  rfl

theorem State.accepted_ctx (s : State) (x qn tail y : Nat) : (s.accepted x qn tail).ctx y = (s.rung x qn tail).ctx y := by
  refine State.ctx_of_ctxs ?_ y
  unfold State.accepted
  split <;> rfl

/-- An accepted tail, at level C or above: Q_EXPECT takes it, an URGENT queue's entries join the order of doorbells, and the first entry is
asked for. -/
theorem State.ring_accepted {s : State} {x qn value : Nat} (notLost : (s.ctx x).state ≠ .lost)
    (notReset : (s.ctx x).state ≠ .recovering)
    (enabled : ((s.ctx x).queue qn).en = true) (gen : bits value 63 56 = (s.ctx x).gen)
    (ahead : before32 ((s.ctx x).queue qn).expect (bits value 31 0) = true)
    (fits : dist32 ((s.ctx x).queue qn).done (bits value 31 0) ≤ 2 ^ ((s.ctx x).queue qn).log2) (up : s.boot.qengUp = true)
    (level : 3 ≤ s.rd CHIP.SVC_LEVEL_LEVEL) (a : Authority) (off : Nat) :
    s.ring a x qn off value = (s.accepted x qn (bits value 31 0)).askEntry x qn := by
  have behind : before32 (bits value 31 0) ((s.ctx x).queue qn).expect = false := before32_asymm ahead (Nat.mod_lt _ (Nat.two_pow_pos _))
  have other := before32_ne ahead
  rw [State.ring]
  dsimp only
  rw [behind, up, gen, decide_eq_false (Nat.not_lt.mpr level), if_neg (by simp [notLost, notReset]), if_neg (by simp [enabled]),
    if_neg (by simp), if_neg (by simp [other]), if_neg (Nat.not_lt.mpr fits), if_neg (by decide), if_neg Bool.false_ne_true,
    if_neg Bool.false_ne_true]
  rfl

/-! ### The next entry (R250, R251, R254) -/

/-- The command of a fetched entry as its queue takes it: waiting to start, or finished with what its checks gave. -/
def State.entryCmd (s : State) (x qn ssn : Nat) : Cmd :=
  let q := (s.ctx x).queue qn
  let k := commandOf ssn (s.entryAt q ssn)
  match s.entryCheck x q k with
  | some (st, d) => { k with gen := (s.ctx x).gen, phase := .done st d s.ftime }
  | none => k

/-- The read that asked for an entry is over, and HOSTIF and the queue engine have progressed. -/
def State.entryRead (s : State) (x qn ssn : Nat) : State :=
  ({ s with pci := { s.pci with reads := s.pci.reads.filter (fun d =>
    !(d.entry && d.ctx = x && d.queue = qn && d.ssn = ssn && d.gen = (s.ctx x).gen)) } }.hostMoved 64).bump HDR.BLK_PROG pgQENG

theorem State.entryRead_rest (s : State) (x qn ssn : Nat) : s.entryRead x qn ssn =
    { s with regs := (s.entryRead x qn ssn).regs, pci := (s.entryRead x qn ssn).pci } := rfl

theorem State.entryRead_ctx (s : State) (x qn ssn y : Nat) : (s.entryRead x qn ssn).ctx y = s.ctx y := State.ctx_of_ctxs rfl y

theorem State.entryRead_regsBut (s : State) (x qn ssn : Nat) :
    s.regsBut (s.entryRead x qn ssn) [HDR.BLK_PROG.bit pgHOSTIF 0, HDR.BLK_PROG.bit pgQENG 0] :=
  State.regsBut.trans (State.regsBut_wr (s := s) (r := HDR.BLK_PROG) (k := pgHOSTIF) (i := 0) (by simp))
    (State.regsBut_wr (r := HDR.BLK_PROG) (k := pgQENG) (i := 0) _ (by simp))

theorem State.fetchEntry_eq (s : State) (x qn ssn : Nat) : s.fetchEntry x qn ssn =
    ((s.entryRead x qn ssn).setCtx x ((s.ctx x).setQueue qn { (s.ctx x).queue qn with
      cmds := ((s.ctx x).queue qn).cmds ++ [s.entryCmd x qn ssn] })).askEntry x qn := rfl

section
variable (s : State) (x qn ssn : Nat)

theorem State.entryCmd_ssn : (s.entryCmd x qn ssn).ssn = ssn := by
  unfold State.entryCmd
  dsimp only
  split <;> rfl

theorem State.entryCmd_words : (s.entryCmd x qn ssn).words = s.entryAt ((s.ctx x).queue qn) ssn := by
  unfold State.entryCmd
  dsimp only
  split <;> rfl

theorem State.entryCmd_good (good : s.entryCheck x ((s.ctx x).queue qn) (commandOf ssn (s.entryAt ((s.ctx x).queue qn) ssn)) = none) :
    (s.entryCmd x qn ssn).phase = .fetched := by
  rw [State.entryCmd, good]
  rfl

theorem State.entryCmd_bad {st d : Nat}
    (bad : s.entryCheck x ((s.ctx x).queue qn) (commandOf ssn (s.entryAt ((s.ctx x).queue qn) ssn)) = some (st, d)) :
    (s.entryCmd x qn ssn).phase = .done st d s.ftime := by
  rw [State.entryCmd, bad]

end

theorem entryFetch_run {s : State} {x qn ssn : Nat} (runs : s.queueRuns x = true) (enabled : ((s.ctx x).queue qn).en = true)
    (next : ((s.ctx x).queue qn).fetchNext = some ssn) : exec (.entryFetch x qn) s = .next (s.fetchEntry x qn ssn).urgentTidy := by
  show execEntryFetch x qn s = _
  rw [execEntryFetch, runs, enabled, next]
  rfl

/-- Settles O11: what an accepted doorbell sets, the host asked for the first entry (log 106), and what a fetch
appends to its queue. -/
theorem doorbellAndEntryFetch : Obligations.DoorbellAndEntryFetch := by
  unfold Obligations.DoorbellAndEntryFetch
  refine ⟨?_, ?_⟩
  · intro s x qn value hx hqn gate range owned notLost notReset enabled gen ahead fits up level awake
    have run : exec (.doorbellWrite .host (0x100_0000 + x * 0x200 + 8 * qn) value) s = _ :=
      congrArg Host.Outcome.next ((State.doorbell_host hx hqn gate range owned awake value).trans
        (State.ring_accepted notLost notReset enabled gen ahead fits up level ..))
    have rings := s.accepted_rings x qn (bits value 31 0)
    have ctx := s.accepted_ctx x qn (bits value 31 0)
    have plain := fun h => State.accepted_urgent (s := s) (x := x) (qn := qn) h (bits value 31 0)
    obtain ⟨-, own, others⟩ := s.rung_only x qn (bits value 31 0)
    generalize s.accepted x qn (bits value 31 0) = u at run rings ctx plain
    have asks := u.asks_askEntry x qn
    generalize u.askEntry x qn = t at run asks
    refine ⟨t, run, (rings.trans (.asks asks)).rest, fun y hy => ?_, ?_, fun h => ?_⟩
    · rw [asks.ctx, ctx, others y hy]
    · rw [asks.ctx, ctx, own]
    · rw [asks.eq, plain h]
  · intro s x qn ssn runs enabled next
    have run := entryFetch_run runs enabled next
    rw [s.fetchEntry_eq] at run
    have read := s.entryRead_rest x qn ssn
    have kept := s.entryRead_regsBut x qn ssn
    have ctx := s.entryRead_ctx x qn ssn
    generalize s.entryRead x qn ssn = r at run read kept ctx
    have only := r.ctxOnly_setCtx x ((s.ctx x).setQueue qn { (s.ctx x).queue qn with
      cmds := ((s.ctx x).queue qn).cmds ++ [s.entryCmd x qn ssn] })
    generalize r.setCtx x _ = u at run only
    have asks := u.asks_askEntry x qn
    generalize u.askEntry x qn = t at run asks
    have rings := ((State.Rings.ctxOnly only).trans (.asks asks)).trans (.urgentTidy t)
    obtain ⟨-, own, others⟩ := only
    have tidy := t.urgentTidy_ctx
    generalize t.urgentTidy = z at run rings tidy
    refine ⟨z, s.entryCmd x qn ssn, run, ?_, rings.after_read read, fun y hy => ?_, ?_,
      s.entryCmd_ssn .., ?_, fun good => s.entryCmd_good _ _ _ ?_, fun st d bad => s.entryCmd_bad _ _ _ ?_, fun b hb => ?_⟩
    · rw [tidy, asks.ctx, own, Ctx.queue_setQueue_self, List.getLast?_append, List.getLast?_singleton, Option.some_or]
    · rw [tidy, asks.ctx, others y hy, ctx]
    · rw [tidy, asks.ctx, own]
    · rw [s.entryCmd_words, State.entryAt]
    · rwa [s.entryCmd_words] at good
    · rwa [s.entryCmd_words] at bad
    · rw [rings.regs, kept b hb]

end Sys2Proof.Machine
end

section
/-! What the commands of a queue do at their start and at their end (R251, R252, R266, R475, Table 7-4). -/
namespace Sys2Proof.Machine

/-! ### Bytes read and written -/

theorem Memory.readBytes_eq_map (m : List Host.Cell) (a n : Nat) :
    Memory.readBytes m a n = (List.range n).map (fun j => Memory.read m (a + j)) := by
  induction n generalizing a with
  | zero => rfl
  | succ n ih =>
    rw [Memory.readBytes, ih, List.range_succ_eq_map, List.map_cons, List.map_map, Nat.add_zero]
    exact congrArg (Memory.read m a :: ·) <|
      (List.map_congr_left (fun j _ => congrArg (Memory.read m) (by rw [Nat.add_assoc, Nat.add_comm 1])))

theorem Memory.read_writeBytes_map (m : List Host.Cell) (a n : Nat) (f : Nat → Byte) {j : Nat} (hj : j < n) :
    Memory.read (Memory.writeBytes m a ((List.range n).map f)) (a + j) = f j := by
  have inside : a ≤ a + j ∧ a + j < a + ((List.range n).map f).length := by
    rw [List.length_map, List.length_range]
    omega
  rw [Memory.read_writeBytes, dif_pos inside, List.getElem_map, List.getElem_range, Nat.add_sub_cancel_left]

/-- From s to t the memories were accessed, and no lanes were put in an order. -/
structure State.Moves (s t : State) : Prop extends s.Serves t where
  draws : t.draws = s.draws

theorem State.Moves.trans {s t u : State} (h : s.Moves t) (h' : t.Moves u) : s.Moves u :=
  ⟨h.toServes.trans h'.toServes, h'.draws.trans h.draws⟩

theorem State.Moves.frame {s t : State} (h : s.Moves t) : t = { s with regs := t.regs, hbms := t.hbms, mem := t.mem } := by
  have rest := h.rest
  rwa [h.draws] at rest

theorem State.Moves.ctx {s t : State} (h : s.Moves t) (x : Nat) : t.ctx x = s.ctx x := State.ctx_of_ctxs (by rw [h.frame]) x

theorem State.Moves.ftime {s t : State} (h : s.Moves t) : t.ftime = s.ftime := by rw [h.frame]

/-- The bytes of a local range have been read for context x. -/
def State.readOut (s : State) (x a n : Nat) : State := (s.chargeStack x a n).served a n

/-- Bytes have been written to local memory for context x. -/
def State.written (s : State) (x a : Nat) (bs : List Byte) : State := ((s.chargeStack x a bs.length).store a bs).served a bs.length

theorem State.readOut_mem (s : State) (x a n : Nat) : (s.readOut x a n).mem = s.mem := by
  rw [State.readOut, State.served_mem, State.chargeStack_eq]

theorem State.written_mem (s : State) (x a : Nat) (bs : List Byte) : (s.written x a bs).mem = Memory.writeBytes s.mem a bs := by
  rw [State.written, State.served_mem, State.store_mem, State.chargeStack_eq]

theorem State.chargeStack_moves (s : State) (x a n : Nat) : s.Moves (s.chargeStack x a n) :=
  ⟨.chargeStack .., by rw [State.chargeStack_eq]⟩

theorem State.served_moves (s : State) (a n : Nat) : s.Moves (s.served a n) := ⟨.served .., by rw [State.served_rest]⟩

theorem State.store_moves (s : State) (a : Nat) (bs : List Byte) : s.Moves (s.store a bs) := ⟨.store .., rfl⟩

theorem State.readOut_moves (s : State) (x a n : Nat) : s.Moves (s.readOut x a n) :=
  (s.chargeStack_moves x a n).trans (State.served_moves ..)

theorem State.written_moves (s : State) (x a : Nat) (bs : List Byte) : s.Moves (s.written x a bs) :=
  ((s.chargeStack_moves x a bs.length).trans (State.store_moves ..)).trans (State.served_moves ..)

theorem State.readMem_readOut {s : State} (clear : s.memoryClear) (x a n : Nat) :
    (s.chargeStack x a n).readMem a n = (s.readOut x a n, some (s.bytes a n)) := by
  rw [State.readMem_of_clear (State.memoryClear_chargeStack clear ..), State.readOut, State.bytes, State.bytes,
    congrArg State.mem (s.chargeStack_eq x a n)]

/-! ### A command starts -/

/-- Context x changed alone, and the commands of queue qn by f. -/
theorem State.cmdsBy_modCtx (s : State) (x qn : Nat) (f : Cmd → Cmd) :
    s.cmdsBy (s.modCtx x (fun c => c.setQueue qn { c.queue qn with cmds := (c.queue qn).cmds.map f })) x qn f :=
  ⟨fun _ hy => s.ctx_setCtx_ne _ hy, s.ctx_setCtx_self x _⟩

theorem State.cmdsBy.of_ctx {s t u : State} {x qn : Nat} {f : Cmd → Cmd} (h : s.cmdsBy t x qn f) (same : ∀ y, u.ctx y = t.ctx y) :
    s.cmdsBy u x qn f := by
  obtain ⟨others, own⟩ := h
  exact ⟨fun y hy => (same y).trans (others y hy), (same x).trans own⟩

theorem State.setPhase_started (s : State) (x qn ssn : Nat) : s.started (s.setPhase x qn ssn .running) x qn ssn :=
  s.cmdsBy_modCtx x qn _

theorem State.setPhase_rest (s : State) (x qn ssn : Nat) (p : CmdPhase) :
    s.setPhase x qn ssn p = { s with ctxs := (s.setPhase x qn ssn p).ctxs } := rfl

theorem State.finish_rest (s : State) (x qn ssn status detail : Nat) :
    s.finish x qn ssn status detail = { s with ctxs := (s.finish x qn ssn status detail).ctxs } := rfl

/-- The command that may start is of the kind asked for. -/
theorem State.startOf_opc {s : State} {x qn opc : Nat} {k : Cmd} (h : s.startOf x qn opc = some k) : k.opc = opc := by
  unfold State.startOf at h
  split at h
  · cases h
  · split at h
    · next c _ =>
      split at h
      · next goes =>
        obtain rfl := Option.some.inj h
        exact of_decide_eq_true (Bool.and_eq_true_iff.mp goes).1
      · cases h
    · cases h

section
variable {s : State} {x qn : Nat} {k : Cmd}

theorem nop_run (start : s.startOf x qn 0x00 = some k) : exec (.nop x qn) s = .next (s.finish x qn k.ssn stOK 0) := by
  show execNop x qn s = _
  rw [execNop, start]

theorem sigWait_run (start : s.startOf x qn 0x05 = some k) : exec (.sigWait x qn) s = .next (s.setPhase x qn k.ssn .running) := by
  show execSigWait x qn s = _
  rw [execSigWait, start]

theorem sigAdd_run (start : s.startOf x qn 0x04 = some k)
    (first : (((s.ctx x).queue qn).cmds.takeWhile (fun e => e.ssn != k.ssn)).all Cmd.over = true) :
    exec (.sigAdd x qn) s = .next ((s.syncAdd x (bits (k.at 0x10) 3 0) (k.at 0x18)).finish x qn k.ssn stOK 0) := by
  show execSigAdd x qn s = _
  rw [execSigAdd, start]
  exact congrArg Host.Outcome.next (if_pos first)

/-- A COPY or FILL whose ranges are good starts to move its data (R251, R252). -/
theorem State.startMove_good
    (src : k.opc = 0x02 → bit (k.at 0x28) 0 = true ∨ s.rangeStatus x (k.at 0x10) k.length = stOK)
    (dst : bit (k.at 0x28) 1 = true ∨ s.rangeStatus x (if k.opc = 0x02 then k.at 0x18 else k.at 0x10) k.length = stOK) :
    s.startMove x qn k = (s.setPhase x qn k.ssn .running).pumpReads := by
  have source : (if (decide (k.opc = 0x02) && !bit (k.at 0x28) 0) = true then s.rangeStatus x (k.at 0x10) k.length else stOK) = stOK := by
    split
    · next read =>
      obtain ⟨copy, localSrc⟩ := Bool.and_eq_true_iff.mp read
      exact (src (of_decide_eq_true copy)).resolve_left (by simpa using localSrc)
    · rfl
  have target : (if bit (k.at 0x28) 1 = true then stOK
      else s.rangeStatus x (if k.opc = 0x02 then k.at 0x18 else k.at 0x10) k.length) = stOK := by
    split
    · rfl
    · next localDst => exact dst.resolve_left localDst
  rw [State.startMove, source, target, if_neg (by decide), if_neg (by decide)]

theorem State.pumpReads_started (s : State) (x qn ssn : Nat) :
    (s.setPhase x qn ssn .running).pumpReads = { s with
      ctxs := (s.setPhase x qn ssn .running).pumpReads.ctxs, pci := (s.setPhase x qn ssn .running).pumpReads.pci
      out := (s.setPhase x qn ssn .running).pumpReads.out } ∧
    s.started (s.setPhase x qn ssn .running).pumpReads x qn ssn := by
  have started := s.setPhase_started x qn ssn
  have rest := s.setPhase_rest x qn ssn .running
  generalize s.setPhase x qn ssn .running = u at started rest
  have asks := u.asks_pumpReads
  generalize u.pumpReads = t at asks
  exact ⟨by rw [asks.eq, rest], started.of_ctx asks.ctx⟩

theorem copy_run (start : s.startOf x qn 0x02 = some k) : exec (.copy x qn) s = .next (s.startMove x qn k) := by
  show execCopy x qn s = _
  rw [execCopy, start]

theorem fill_run (start : s.startOf x qn 0x03 = some k) : exec (.fill x qn) s = .next (s.startMove x qn k) := by
  show execFill x qn s = _
  rw [execFill, start]

/-! ### DISPATCH (R205, R277) -/

/-- The dispatch that a DISPATCH command makes of its kernel descriptor. -/
def State.dispatchOf (s : State) (x qn : Nat) (k : Cmd) : Dispatch :=
  { id := s.nextDisp, ctx := x, gen := k.gen, queue := qn, ssn := k.ssn
    kernel := parseKernel (k.at 0x10) (s.bytes (k.at 0x10) 64), raw := s.bytes (k.at 0x10) 64 }

theorem State.startDispatch_good (aligned : k.at 0x10 % 64 = 0) (inside : s.inExtent x (k.at 0x10) 64 = true) (clear : s.memoryClear) :
    s.startDispatch x qn k = { (s.setPhase x qn k.ssn .running).readOut x (k.at 0x10) 64 with
      waiting := s.waiting ++ [s.dispatchOf x qn k], nextDisp := s.nextDisp + 1 } := by
  have clear' : (s.setPhase x qn k.ssn .running).memoryClear := clear
  have bytes : (s.setPhase x qn k.ssn .running).bytes (k.at 0x10) 64 = s.bytes (k.at 0x10) 64 := rfl
  rw [State.startDispatch]
  dsimp only
  rw [aligned, inside, if_neg (by decide), State.readMem_readOut clear', bytes]
  have frame := ((s.setPhase x qn k.ssn .running).readOut_moves x (k.at 0x10) 64).frame
  have waits : ((s.setPhase x qn k.ssn .running).readOut x (k.at 0x10) 64).waiting = s.waiting := by rw [frame]; rfl
  have next : ((s.setPhase x qn k.ssn .running).readOut x (k.at 0x10) 64).nextDisp = s.nextDisp := by rw [frame]; rfl
  generalize (s.setPhase x qn k.ssn .running).readOut x (k.at 0x10) 64 = u at waits next
  show { u with waiting := u.waiting ++ [{ s.dispatchOf x qn k with id := u.nextDisp }], nextDisp := u.nextDisp + 1 } = _
  rw [waits, next]
  rfl

theorem dispatch_run (start : s.startOf x qn 0x01 = some k) : exec (.dispatch x qn) s = .next (s.startDispatch x qn k) := by
  show execDispatch x qn s = _
  rw [execDispatch, start]

/-! ### A running command ends (R252, R266) -/

theorem State.runningCmd_ssn {ssn : Nat} (running : s.runningCmd x qn ssn = some k) : k.ssn = ssn := by
  have found := List.find?_some running
  simp only [Bool.and_eq_true, decide_eq_true_eq] at found
  exact found.1.1

theorem commandComplete_run {ssn : Nat} (running : s.runningCmd x qn ssn = some k) (service : s.inService = true) :
    exec (.commandComplete x qn ssn) s = .next (s.complete x qn k) := by
  show execCommandComplete x qn ssn s = _
  rw [execCommandComplete, running]
  exact congrArg Host.Outcome.next (if_pos service)

/-- A local output is written, and the command finishes. -/
theorem State.putOut_local (clear : s.memoryClear) (ssn dst : Nat) (bs : List Byte) :
    s.putOut x qn ssn dst false bs = (s.written x dst bs).finish x qn ssn stOK 0 := by
  rw [State.putOut, if_neg Bool.false_ne_true, State.writeMem_of_clear (State.memoryClear_chargeStack clear ..)]
  rfl

section
variable (serves : s.queueRuns x = true)
include serves

theorem State.complete_fill (clear : s.memoryClear) (fill : k.opc = 0x03) (here : bit (k.at 0x28) 1 = false) :
    s.complete x qn k =
      (s.written x (k.at 0x10) (fillBytes (k.at 0x10) (k.at 0x18) (k.at 0x20))).finish x qn k.ssn stOK 0 := by
  rw [State.complete, fill, serves, if_neg (by decide), if_neg (by decide), if_neg (by decide), if_pos rfl, here, State.putOut_local clear]

theorem State.complete_copy (clear : s.memoryClear) (copy : k.opc = 0x02) (src : bit (k.at 0x28) 0 = false)
    (dst : bit (k.at 0x28) 1 = false) :
    s.complete x qn k = ((s.readOut x (k.at 0x10) (k.at 0x20)).written x (k.at 0x18) (s.bytes (k.at 0x10) (k.at 0x20))).finish
      x qn k.ssn stOK 0 := by
  rw [State.complete, copy, serves, if_neg (by decide), if_neg (by decide), if_pos rfl, State.endCopy, src, if_neg Bool.false_ne_true,
    State.readMem_readOut clear, dst]
  exact State.putOut_local ((s.readOut_moves ..).memoryClear clear) ..

theorem State.complete_sigWait (wait : k.opc = 0x05) (reached : k.at 0x18 ≤ (s.ctx x).syncVal (bits (k.at 0x10) 3 0)) :
    s.complete x qn k = s.finish x qn k.ssn stOK 0 := by
  rw [State.complete, wait, serves, if_neg (by decide), if_neg (by decide), if_neg (by decide), if_neg (by decide), if_pos rfl,
    if_pos reached]

end

end

/-- A command of a queue finishes as it would have before its accesses. -/
theorem State.Moves.finish {s t : State} (h : s.Moves t) (x qn ssn status detail : Nat) :
    s.finished (t.finish x qn ssn status detail) x qn ssn status detail := by
  obtain ⟨others, own⟩ := t.finish_finished x qn ssn status detail
  rw [h.ctx, h.ftime] at own
  exact ⟨fun y hy => (others y hy).trans (h.ctx y), own⟩

theorem State.Moves.finish_frame {s t : State} (h : s.Moves t) (x qn ssn status detail : Nat) :
    let u := t.finish x qn ssn status detail
    u = { s with ctxs := u.ctxs, regs := u.regs, hbms := u.hbms, mem := u.mem } := by
  have rest := t.finish_rest x qn ssn status detail
  generalize t.finish x qn ssn status detail = u at rest
  rw [rest, h.frame]

/-- A command whose output was written finishes: the bytes are in memory, and nothing else of it changed. -/
theorem State.Moves.finish_wrote {s t : State} (h : s.Moves t) {a n : Nat} {f : Nat → Byte}
    (mem : t.mem = Memory.writeBytes s.mem a ((List.range n).map f)) (x qn ssn : Nat) :
    let u := t.finish x qn ssn stOK 0
    u = { s with ctxs := u.ctxs, regs := u.regs, hbms := u.hbms, mem := u.mem } ∧ s.finished u x qn ssn stOK 0 ∧
    s.bytesBut u a n ∧ s.regsBut u servedKeys ∧ ∀ j, j < n → u.byte (a + j) = f j := by
  have frame := h.finish_frame x qn ssn stOK 0
  have finished := h.finish x qn ssn stOK 0
  have rest := t.finish_rest x qn ssn stOK 0
  dsimp only at frame ⊢
  generalize t.finish x qn ssn stOK 0 = u at frame finished rest
  have byte : ∀ j, u.byte j = Memory.read (Memory.writeBytes s.mem a ((List.range n).map f)) j := fun j => by
    rw [State.byte, rest, mem]
  have length : ((List.range n).map f).length = n := by rw [List.length_map, List.length_range]
  refine ⟨frame, finished, fun j out => ?_, fun b hb => ?_, fun j hj => ?_⟩
  · rw [byte, Memory.read_writeBytes_out _ _ _ _ (by rwa [length]), State.byte]
  · rw [rest, h.regs b hb]
  · rw [byte, Memory.read_writeBytes_map _ _ _ _ hj]

/-- SIG_ADD raises its object and finishes (R266). -/
theorem State.syncAdd_finish (s : State) (x qn ssn j a : Nat) :
    let t := (s.syncAdd x j a).finish x qn ssn stOK 0
    t = { s with ctxs := t.ctxs, cores := t.cores } ∧ (∀ y, y ≠ x → t.ctx y = s.ctx y) ∧
    (∀ i, (t.ctx x).syncVal i = if i = j then min (2 ^ 64 - 1) ((s.ctx x).syncVal i + a) else (s.ctx x).syncVal i) ∧
    ((t.ctx x).queue qn).cmds = ((s.ctx x).queue qn).cmds.map (fun e =>
      if e.ssn = ssn ∧ e.over = false then { e with phase := .done stOK 0 s.ftime } else e) := by
  obtain ⟨others, own, values⟩ := s.syncAdd_ctx x j a
  have frame := s.syncAdd_frame x j a
  have time : (s.syncAdd x j a).ftime = s.ftime := rfl
  generalize s.syncAdd x j a = u at others own values frame time
  obtain ⟨others', own'⟩ := u.finish_finished x qn ssn stOK 0
  have rest := u.finish_rest x qn ssn stOK 0
  dsimp only
  generalize u.finish x qn ssn stOK 0 = t at others' own' rest
  refine ⟨by rw [rest, frame], fun y hy => (others' y hy).trans (others y hy), fun i => ?_, ?_⟩
  · have value := values i
    rw [own']
    by_cases same : i = j
    · rwa [← same] at value ⊢
    · rwa [if_neg same] at value ⊢
  · rw [own', Ctx.queue_setQueue_self, own, time]
    rfl

/-- Settles O12: at its start each command is marked running, placed or finished; at its end its bytes are
written and it finishes. All of a COPY's source is read before any of it is written (log 112). -/
theorem queueCommands : Obligations.QueueCommands := by
  unfold Obligations.QueueCommands
  refine ⟨fun s x qn k => ⟨fun start => ?_, fun start aligned inside clear => ?_, fun start src dst => ?_, fun start dst => ?_,
    fun start first => ?_, fun start => ?_⟩, fun s x qn ssn k running service serves clear => ⟨fun fill here => ?_,
    fun copy src dst => ?_, fun wait reached => ?_⟩⟩
  · exact ⟨_, nop_run start, rfl, s.finish_finished ..⟩
  · have run := dispatch_run start
    rw [State.startDispatch_good aligned inside clear] at run
    have started := s.setPhase_started x qn k.ssn
    have rest := s.setPhase_rest x qn k.ssn .running
    generalize s.setPhase x qn k.ssn .running = u at run started rest
    have moves := u.readOut_moves x (k.at 0x10) 64
    have mem := u.readOut_mem x (k.at 0x10) 64
    generalize u.readOut x (k.at 0x10) 64 = v at run moves mem
    refine ⟨_, run, ?_, ⟨s.dispatchOf x qn k, rfl, rfl, rfl, rfl, rfl, rfl, rfl, rfl, rfl, rfl⟩,
      started.of_ctx moves.ctx, fun b hb => ?_⟩
    · rw [moves.frame, mem, rest]
    · exact (moves.regs b hb).trans (by rw [rest])
  · have opc := State.startOf_opc start
    have run := copy_run start
    rw [State.startMove_good (fun _ => by rwa [Cmd.length, if_pos opc]) (by rwa [Cmd.length, if_pos opc, if_pos opc])] at run
    exact ⟨_, run, s.pumpReads_started x qn k.ssn⟩
  · have opc := State.startOf_opc start
    have other : k.opc ≠ 0x02 := by rw [opc]; decide
    have run := fill_run start
    rw [State.startMove_good (fun copy => absurd copy other) (by rwa [Cmd.length, if_neg other, if_neg other])] at run
    exact ⟨_, run, s.pumpReads_started x qn k.ssn⟩
  · exact ⟨_, sigAdd_run start first, s.syncAdd_finish x qn k.ssn _ _⟩
  · exact ⟨_, sigWait_run start, rfl, s.setPhase_started ..⟩
  · have run := commandComplete_run running service
    rw [State.complete_fill serves clear fill here, State.runningCmd_ssn running] at run
    exact ⟨_, run, (s.written_moves ..).finish_wrote (s.written_mem ..) x qn ssn⟩
  · have run := commandComplete_run running service
    rw [State.complete_copy serves clear copy src dst, State.runningCmd_ssn running] at run
    have moves := s.readOut_moves x (k.at 0x10) (k.at 0x20)
    have read := s.readOut_mem x (k.at 0x10) (k.at 0x20)
    generalize s.readOut x (k.at 0x10) (k.at 0x20) = u at run moves read
    refine ⟨_, run, (moves.trans (u.written_moves ..)).finish_wrote ?_ x qn ssn⟩
    rw [State.written_mem, read, State.bytes, Memory.readBytes_eq_map]
    rfl
  · have run := commandComplete_run running service
    rw [State.complete_sigWait serves wait reached, State.runningCmd_ssn running] at run
    exact ⟨_, run, rfl, s.finish_finished ..⟩

end Sys2Proof.Machine
end

section
/-! Ports: where the fields of the NL pages lie, the records of single ports, and what a change of one port's state brings with it
(R308, Table 9-4). -/
namespace Sys2Proof.Machine

/-! ### Places of fields -/

/-- Two fields lie at different bits of their pages. -/
def Row.apart (r r' : Row) : Bool := (r.off * 8 + r.lo) % 0x8000 != (r'.off * 8 + r'.lo) % 0x8000

theorem Row.bit_ne_of_apart {r r' : Row} (h : r.apart r' = true) (k k' : Nat) : r.bit k 0 ≠ r'.bit k' 0 := by
  simp only [Row.apart, bne_iff_ne] at h
  simp only [Row.bit]
  omega

/-- A field of another page than CHIP lies above the registers of the service level. -/
theorem Row.le_bit {r : Row} (h : 1 ≤ r.page) (k i : Nat) : 608 ≤ r.bit k i := by
  simp only [Row.bit]
  omega

theorem blkErr_far (p : Nat) : 608 ≤ HDR.BLK_ERR.bit (pgNL p) 0 := by
  simp only [Row.bit, HDR.BLK_ERR, pgNL]
  omega

theorem State.rd_wr_apart (s : State) {r r' : Row} (h : r.apart r' = true) (v k k' : Nat) : (s.wr r v k).rd r' k' = s.rd r' k' :=
  s.rd_wr_ne _ _ _ _ _ _ _ (Row.bit_ne_of_apart h k k')

theorem State.on_wr_apart (s : State) {r r' : Row} (h : r.apart r' = true) (v k k' : Nat) : (s.wr r v k).on r' k' = s.on r' k' := by
  rw [State.on, State.on, s.rd_wr_apart h]

theorem levelKeys_lt {b : Nat} (h : b ∈ levelKeys) : b < 608 :=
  (by decide : ∀ b ∈ levelKeys, b < 608) b h

/-! ### The record of a port -/

@[simp] theorem State.port_modPort_self (s : State) (p : Nat) (f : NlPort → NlPort) : (s.modPort p f).port p = f (s.port p) :=
  SMap.get_put_self ..

theorem State.port_modPort_ne (s : State) {p q : Nat} (h : q ≠ p) (f : NlPort → NlPort) : (s.modPort p f).port q = s.port q := by
  rw [State.modPort, State.port, SMap.get_put, if_neg h.symm]
  rfl

@[simp] theorem State.port_wr (s : State) (r : Row) (v k i q : Nat) : (s.wr r v k i).port q = s.port q := rfl

@[simp] theorem State.port_sendCtrl_self (s : State) (p type : Nat) (payload : List Byte) :
    (s.sendCtrl p type payload).port p = { s.port p with ctrl := (s.port p).ctrl ++ [(type, payload)] } := s.port_modPort_self ..

theorem State.port_sendCtrl_ne (s : State) {p q : Nat} (h : q ≠ p) (type : Nat) (payload : List Byte) :
    (s.sendCtrl p type payload).port q = s.port q := s.port_modPort_ne h _

@[simp] theorem State.rd_sendCtrl (s : State) (p type : Nat) (payload : List Byte) (r : Row) (k i : Nat) :
    (s.sendCtrl p type payload).rd r k i = s.rd r k i := rfl

@[simp] theorem State.nlState_modPort (s : State) (p : Nat) (f : NlPort → NlPort) (q : Nat) :
    (s.modPort p f).nlState q = s.nlState q := rfl

theorem State.nlState_wr (s : State) {r : Row} (h : r.apart NL.NL_STAT_STATE = true) (v k q : Nat) :
    (s.wr r v k).nlState q = s.nlState q := s.rd_wr_apart h ..

theorem State.nlUp_congr {s t : State} {q : Nat} (h : t.nlState q = s.nlState q) : t.nlUp q = s.nlUp q := by
  rw [State.nlUp, State.nlUp, h]

/-- The same control flits, in order, to one port. -/
theorem State.port_each_sendCtrl (type : Nat) (payload : Nat → List Byte) (p : Nat) (l : List Nat) (s : State) :
    (s.each l (fun s k => s.sendCtrl p type (payload k))).port p =
      { s.port p with ctrl := (s.port p).ctrl ++ l.map (fun k => (type, payload k)) } := by
  induction l generalizing s with
  | nil => simp [State.each]
  | cons x xs ih =>
    refine (ih (s.sendCtrl p type (payload x))).trans ?_
    rw [State.port_sendCtrl_self, List.map_cons, List.append_assoc]
    rfl

/-- One control flit to each port of a list. -/
theorem State.port_each_tell (type : Nat) (payload : State → List Byte)
    (same : ∀ t p, payload (t.sendCtrl p type (payload t)) = payload t)
    {l : List Nat} (nodup : l.Nodup) (s : State) (q : Nat) :
    (s.each l (fun s p => s.sendCtrl p type (payload s))).port q =
      if q ∈ l then { s.port q with ctrl := (s.port q).ctrl ++ [(type, payload s)] } else s.port q := by
  induction l generalizing s with
  | nil => simp [State.each]
  | cons x xs ih =>
    obtain ⟨new, nodup⟩ := List.nodup_cons.mp nodup
    refine (ih nodup (s.sendCtrl x type (payload s))).trans ?_
    rw [same]
    by_cases hq : q = x
    · subst hq
      rw [if_neg new, if_pos (List.mem_cons_self ..), State.port_sendCtrl_self]
    · rw [s.port_sendCtrl_ne hq]
      simp only [List.mem_cons, hq, false_or]

/-! ### The service level follows the ports (R308) -/

/-- The ROUTE_STATE record that tells a partner whether the part is routable. -/
def State.routeRecord (s : State) : Nat × List Byte := (tCTRL, [0x05#8, BitVec.ofNat 8 (b2n s.routable)])

theorem State.tellRoutable_regs (s : State) (before : Bool) : (s.tellRoutable before).regs = s.regs := by
  unfold State.tellRoutable
  split
  · rfl
  · refine State.each_inv (fun t => t.regs = s.regs) (fun t p h => ?_) _ s rfl
    exact h

theorem State.tellRoutable_port (s : State) (before : Bool) (q : Nat) : (s.tellRoutable before).port q =
    if s.routable ≠ before ∧ q < 16 ∧ s.nlUp q = true then { s.port q with ctrl := (s.port q).ctrl ++ [s.routeRecord] }
    else s.port q := by
  unfold State.tellRoutable
  by_cases h : s.routable = before
  · rw [if_pos h, if_neg (fun c => c.1 h)]
  · rw [if_neg h]
    refine (State.port_each_tell tCTRL (fun t => [0x05#8, BitVec.ofNat 8 (b2n t.routable)]) (fun _ _ => rfl)
      (List.nodup_range.filter _) s q).trans ?_
    simp only [List.mem_filter, List.mem_range, h, ne_eq, not_false_eq_true, true_and, State.routeRecord]

theorem State.raise_nl (s : State) (src kind addr detail : Nat) : (s.raise src kind addr detail).nl = s.nl := by
  have marked (t : State) (b : Bool) : (t.errVector b).nl = t.nl := by rw [t.errVector_rest]
  unfold State.raise State.raiseTok
  dsimp only
  split
  · exact marked _ _
  · split
    · split
      · exact marked _ _
      · exact marked _ _
    · rfl

@[simp] theorem State.port_raise (s : State) (src kind addr detail q : Nat) : (s.raise src kind addr detail).port q = s.port q := by
  rw [State.port, State.port, s.raise_nl]

theorem State.raise_regs {s : State} (up : s.boot.fltUp = true) (src kind addr detail : Nat) :
    s.regsBut (s.raise src kind addr detail) [HDR.BLK_ERR.bit src 0] := (State.raiseTok_frame up _).2

theorem State.sendVector_regs (s : State) (func vec : Nat) : (s.sendVector func vec).regs = s.regs := by rw [s.sendVector_rest]

theorem State.sendVector_nl (s : State) (func vec : Nat) : (s.sendVector func vec).nl = s.nl := by rw [s.sendVector_rest]

/-- What setLevel writes, but the level itself: the fields that tell what is lacking, and CQUAD. -/
def lackKeys : List Nat :=
  [CHIP.SVC_LEVEL_LACK_LINK, CHIP.SVC_LEVEL_LACK_CORE, CHIP.SVC_LEVEL_LACK_QENG, CHIP.SVC_LEVEL_LACK_CAL,
    CHIP.SVC_LEVEL_LACK_AVS, CHIP.SVC_LEVEL_LACK_THERM, CHIP.SVC_LEVEL_LACK_MORAINE, CHIP.SVC_LEVEL_LACK_FLT,
    CHIP.SVC_LEVEL_CQUAD].map (fun r => r.bit 0 0)

/-- setLevel writes its fields, then tells the partners, and then raises SVC_LEVEL or nothing. -/
theorem State.setLevel_steps (s : State) (up : s.boot.fltUp = true) : ∃ u v : State, u = { s with regs := u.regs } ∧
    s.regsBut u lackKeys ∧ v = (u.wr CHIP.SVC_LEVEL_LEVEL s.levelNow).tellRoutable s.routable ∧ s.setLevel.nl = v.nl ∧
    v.regsBut s.setLevel [HDR.BLK_ERR.bit pgCHIP 0] := by
  unfold State.setLevel
  extract_lets cq lv changed link core qeng cal avs therm moraine flt was told
  have wrote : ∀ (t : State) (r : Row) (v : Nat), r.bit 0 0 ∈ lackKeys → t.regsBut (t.wr r v) lackKeys :=
    fun t r v h => t.regsBut_wr h
  have lacks : s.regsBut flt lackKeys := (((((((wrote s _ _ (by decide)).trans (wrote link _ _ (by decide))).trans
    (wrote core _ _ (by decide))).trans (wrote qeng _ _ (by decide))).trans (wrote cal _ _ (by decide))).trans
    (wrote avs _ _ (by decide))).trans (wrote therm _ _ (by decide))).trans (wrote moraine _ _ (by decide))
  have same : was = s.routable := congrArg (fun v => decide (v = 4)) (lacks.rd (by decide))
  refine ⟨flt.wr CHIP.SVC_LEVEL_CQUAD cq, told, rfl, lacks.trans (wrote flt _ _ (by decide)), by rw [← same], ?_⟩
  have upTold : told.boot.fltUp = true :=
    (State.Reports.tellRoutable (K := fun _ => True) ((flt.wr CHIP.SVC_LEVEL_CQUAD cq).wr CHIP.SVC_LEVEL_LEVEL lv) was).fltUp.trans up
  split
  · exact ⟨(State.sendVector_nl ..).trans (State.raise_nl ..), fun b hb =>
      (congrArg (fun m => SMap.find m b) (State.sendVector_regs ..)).trans (State.raise_regs upTold _ _ _ _ b hb)⟩
  · exact ⟨rfl, told.regsBut_refl _⟩

/-- setLevel writes the registers that follow the level, but NL_UP. -/
theorem State.setLevel_regs (s : State) (up : s.boot.fltUp = true) :
    s.regsBut s.setLevel (levelKeys.erase (CHIP.SVC_LEVEL_NL_UP.bit 0 0)) := by
  obtain ⟨u, v, -, lacks, rfl, -, told⟩ := s.setLevel_steps up
  intro b hb
  have inKeys : ∀ b ∈ HDR.BLK_ERR.bit pgCHIP 0 :: CHIP.SVC_LEVEL_LEVEL.bit 0 0 :: lackKeys,
      b ∈ levelKeys.erase (CHIP.SVC_LEVEL_NL_UP.bit 0 0) := by decide
  have out : b ∉ HDR.BLK_ERR.bit pgCHIP 0 :: CHIP.SVC_LEVEL_LEVEL.bit 0 0 :: lackKeys := fun h => hb (inKeys b h)
  simp only [List.mem_cons, not_or] at out
  obtain ⟨err, level, lack⟩ := out
  rw [told b (by simpa using err), State.tellRoutable_regs, u.find_wr_ne (Ne.symm level), lacks b lack]

theorem State.setLevel_port (s : State) (up : s.boot.fltUp = true) (q : Nat) : s.setLevel.port q =
    if s.setLevel.routable ≠ s.routable ∧ q < 16 ∧ s.nlUp q = true
    then { s.port q with ctrl := (s.port q).ctrl ++ [s.setLevel.routeRecord] } else s.port q := by
  obtain ⟨u, v, frame, lacks, rfl, nl, told⟩ := s.setLevel_steps up
  have level : s.setLevel.routable = (u.wr CHIP.SVC_LEVEL_LEVEL s.levelNow).routable :=
    congrArg (fun v => decide (v = 4)) ((told.rd (by decide)).trans (State.rd_of_find (by rw [State.tellRoutable_regs])))
  have state : (u.wr CHIP.SVC_LEVEL_LEVEL s.levelNow).nlUp q = s.nlUp q :=
    State.nlUp_congr ((u.nlState_wr (by decide) ..).trans
      (lacks.rd (fun h => absurd ((by decide : ∀ b ∈ lackKeys, b < 608) _ h) (Nat.not_lt.mpr (Row.le_bit (by decide) _ _)))))
  have port : (u.wr CHIP.SVC_LEVEL_LEVEL s.levelNow).port q = s.port q := by rw [State.port_wr, frame]; rfl
  rw [State.port, nl]
  refine (State.tellRoutable_port ..).trans ?_
  rw [state, port, State.routeRecord, State.routeRecord, level]

/-! ### The state of a port (Table 9-4, R308) -/

theorem State.Reports.setNl (s : State) (p v : Nat) : s.Reports (fun _ => True) (s.setNl p v) :=
  ((State.Reports.wr s v trivial).trans (State.Reports.wr _ _ trivial)).trans (State.Reports.setLevel _ (fun _ _ => trivial))

@[simp] theorem State.setNl_fltUp (s : State) (p v : Nat) : (s.setNl p v).boot.fltUp = s.boot.fltUp := (State.Reports.setNl s p v).fltUp

@[simp] theorem State.setNl_fabric (s : State) (p v : Nat) : (s.setNl p v).fabric = s.fabric := by
  rw [(State.Reports.setNl s p v).rest]

@[simp] theorem State.setNl_ftime (s : State) (p v : Nat) : (s.setNl p v).ftime = s.ftime := by
  rw [(State.Reports.setNl s p v).rest]

theorem State.setNl_regs {s : State} (up : s.boot.fltUp = true) (p v : Nat) :
    s.regsBut (s.setNl p v) (levelKeys ++ [NL.NL_STAT_STATE.bit p 0]) := by
  intro b hb
  simp only [List.mem_append, List.mem_singleton, not_or] at hb
  obtain ⟨level, state⟩ := hb
  refine (State.setLevel_regs _ (by exact up) b (fun h => level (List.mem_of_mem_erase h))).trans ?_
  refine (State.find_wr_ne _ (fun e => ?_)).trans (State.find_wr_ne _ (Ne.symm state))
  rw [← e] at level
  exact level (by decide)

theorem State.rd_setNl {s : State} (up : s.boot.fltUp = true) (p v : Nat) {r : Row} (far : 1 ≤ r.page)
    (apart : NL.NL_STAT_STATE.apart r = true) (k : Nat) : (s.setNl p v).rd r k = s.rd r k := by
  refine (State.setNl_regs up p v).rd (fun h => ?_)
  simp only [List.mem_append, List.mem_singleton] at h
  rcases h with level | state
  · exact absurd (levelKeys_lt level) (Nat.not_lt.mpr (Row.le_bit far k 0))
  · exact Row.bit_ne_of_apart apart p k state.symm

theorem State.on_setNl {s : State} (up : s.boot.fltUp = true) (p v : Nat) {r : Row} (far : 1 ≤ r.page)
    (apart : NL.NL_STAT_STATE.apart r = true) (k : Nat) : (s.setNl p v).on r k = s.on r k := by
  rw [State.on, State.on, State.rd_setNl up p v far apart]

/-- What a field outside the level's registers reads after setNl. -/
theorem State.rd_setNl_far {s : State} (up : s.boot.fltUp = true) (p v : Nat) {r : Row} (far : 1 ≤ r.page) (k : Nat) :
    (s.setNl p v).rd r k = (s.wr NL.NL_STAT_STATE v p).rd r k := by
  rw [State.setNl, (State.setLevel_regs _ (by exact up)).rd
    (fun h => absurd (levelKeys_lt (List.mem_of_mem_erase h)) (Nat.not_lt.mpr (Row.le_bit far k 0))), State.rd_wr_ne]
  intro e
  have far := Row.le_bit far k 0
  rw [← e] at far
  exact absurd far (by decide)

theorem State.setNl_nlState {s : State} (up : s.boot.fltUp = true) (p : Nat) {v : Nat} (hv : v < 16) : (s.setNl p v).nlState p = v := by
  rw [State.nlState, State.rd_setNl_far up p v (by decide), State.rd_wr_self]
  exact Nat.mod_eq_of_lt hv

/-- Bit p of NL_UP follows the port. -/
theorem State.setNl_upBit {s : State} (up : s.boot.fltUp = true) {p : Nat} (hp : p < 16) (v : Nat) :
    bit ((s.setNl p v).rd CHIP.SVC_LEVEL_NL_UP) p = (v = nlUP || v = nlRETRAIN) := by
  rw [State.setNl, (State.setLevel_regs _ (by exact up)).rd (by decide), State.rd_wr_self]
  refine (bit_mod_two_pow _ 16 p).trans ?_
  rw [decide_eq_true hp, Bool.true_and]
  cases h : (decide (v = nlUP) || decide (v = nlRETRAIN))
  · exact bit_clearBit_self ..
  · exact bit_setBit_self ..

theorem State.setNl_port {s : State} (up : s.boot.fltUp = true) (p v q : Nat) : (s.setNl p v).port q =
    if (s.setNl p v).routable ≠ s.routable ∧ q < 16 ∧ (s.setNl p v).nlUp q = true
    then { s.port q with ctrl := (s.port q).ctrl ++ [(s.setNl p v).routeRecord] } else s.port q := by
  have state : ((s.wr NL.NL_STAT_STATE v p).wr CHIP.SVC_LEVEL_NL_UP
      (if v = nlUP || v = nlRETRAIN then setBit ((s.wr NL.NL_STAT_STATE v p).rd CHIP.SVC_LEVEL_NL_UP) p
        else clearBit ((s.wr NL.NL_STAT_STATE v p).rd CHIP.SVC_LEVEL_NL_UP) p)).nlUp q = (s.setNl p v).nlUp q := by
    refine State.nlUp_congr ?_
    rw [State.nlState, State.nlState, State.rd_setNl_far up p v (by decide), State.rd_wr_apart _ (by decide)]
  have level : ((s.wr NL.NL_STAT_STATE v p).wr CHIP.SVC_LEVEL_NL_UP
      (if v = nlUP || v = nlRETRAIN then setBit ((s.wr NL.NL_STAT_STATE v p).rd CHIP.SVC_LEVEL_NL_UP) p
        else clearBit ((s.wr NL.NL_STAT_STATE v p).rd CHIP.SVC_LEVEL_NL_UP) p)).routable = s.routable := by
    refine congrArg (fun v => decide (v = 4)) ?_
    rw [State.rd_wr_apart _ (by decide), State.rd_wr_apart _ (by decide)]
  refine (State.setLevel_port _ (by exact up) q).trans ?_
  rw [level, state]
  rfl

theorem State.setNl_port_down {s : State} (up : s.boot.fltUp = true) (p : Nat) {v : Nat} (hv : v < 16) (down : v ≠ nlUP)
    (fit : v ≠ nlRETRAIN) : (s.setNl p v).port p = s.port p := by
  rw [State.setNl_port up, if_neg]
  rintro ⟨-, -, h⟩
  rw [State.nlUp, State.setNl_nlState up p hv] at h
  simp [down, fit] at h

theorem State.setNl_port_same {s : State} (up : s.boot.fltUp = true) (p v q : Nat) (same : (s.setNl p v).routable = s.routable) :
    (s.setNl p v).port q = s.port q := by
  rw [State.setNl_port up, if_neg (fun h => h.1 same)]

/-- A port that comes up or retrains keeps its record, but for a ROUTE_STATE that becomes due. -/
theorem State.setNl_port_eq {s : State} (up : s.boot.fltUp = true) (p v q : Nat) :
    (s.setNl p v).port q = { s.port q with ctrl := ((s.setNl p v).port q).ctrl } := by
  rw [State.setNl_port up]
  split <;> rfl

/-! ### Changes at one port -/

theorem State.Reports.frame {K : Nat → Prop} {s t : State} (h : s.Reports K t) (up : s.boot.fltUp = true) :
    t = { s with nl := t.nl, regs := t.regs, fltIn := t.fltIn, pci := t.pci, out := t.out } := by
  have pci : t.pci = { s.pci with msix := t.pci.msix } := congrArg State.pci h.rest
  conv_lhs => rw [h.rest]
  rw [h.boot up, ← pci]

/-- From s to t the part changed the record of port p and registers of K, and reported; neither routability nor the state of another
port changed. -/
structure State.Tends (p : Nat) (K : List Nat) (s t : State) : Prop where
  reports : s.Reports (· ∈ K) t
  others : ∀ q, q ≠ p → t.port q = s.port q
  level : t.routable = s.routable
  states : ∀ q, q ≠ p → t.nlState q = s.nlState q

namespace State.Tends
variable {p : Nat} {K : List Nat} {s t u : State}

theorem refl (s : State) : s.Tends p K s := ⟨.refl s, fun _ _ => rfl, rfl, fun _ _ => rfl⟩

theorem trans (h : s.Tends p K t) (h' : t.Tends p K u) : s.Tends p K u :=
  ⟨h.reports.trans h'.reports, fun q hq => (h'.others q hq).trans (h.others q hq), h'.level.trans h.level,
    fun q hq => (h'.states q hq).trans (h.states q hq)⟩

theorem modPort (s : State) (f : NlPort → NlPort) : s.Tends p K (s.modPort p f) :=
  ⟨⟨rfl, fun _ _ => rfl, fun _ _ _ => rfl, List.prefix_rfl, List.prefix_rfl, fun _ => rfl⟩,
    fun _ hq => s.port_modPort_ne hq f, rfl, fun _ _ => rfl⟩

theorem sendCtrl (s : State) (type : Nat) (payload : List Byte) : s.Tends p K (s.sendCtrl p type payload) := modPort s _

theorem each {α : Type} {f : State → α → State} (hf : ∀ (t : State) x, t.Tends p K (f t x)) (s : State) (l : List α) :
    s.Tends p K (s.each l f) :=
  State.each_inv (s.Tends p K) (fun t x h => h.trans (hf t x)) l s (refl s)

theorem wr (s : State) {r : Row} {k i : Nat} (v : Nat) (h : r.bit k i ∈ K) (far : 608 ≤ r.bit k i)
    (state : ∀ q, q ≠ p → r.bit k i ≠ NL.NL_STAT_STATE.bit q 0) : s.Tends p K (s.wr r v k i) where
  reports := .wr s v h
  others _ _ := rfl
  level := congrArg (fun v => decide (v = 4)) (s.rd_wr_ne _ _ _ _ _ _ _ (fun e => absurd far (by rw [e]; decide)))
  states q hq := s.rd_wr_ne _ _ _ _ _ _ _ (state q hq)

/-- A field of an NL page or a page above, at another place than the port's state. -/
theorem wrApart (s : State) {r : Row} (k v : Nat) (h : r.bit k 0 ∈ K) (far : 1 ≤ r.page) (apart : r.apart NL.NL_STAT_STATE = true) :
    s.Tends p K (s.wr r v k) :=
  wr s v h (Row.le_bit far k 0) (fun q _ => Row.bit_ne_of_apart apart k q)

theorem raise (up : s.boot.fltUp = true) {kind addr detail : Nat} (h : HDR.BLK_ERR.bit (pgNL p) 0 ∈ K) :
    s.Tends p K (s.raise (pgNL p) kind addr detail) where
  reports := .raise s (.inl up) h
  others _ _ := by rw [s.port_raise]
  level := congrArg (fun v => decide (v = 4)) (State.regsBut.rd (State.raise_regs up _ _ _ _) (fun m => by
    have far := blkErr_far p
    rw [← List.mem_singleton.mp m] at far
    exact absurd far (by decide)))
  states q _ := State.regsBut.rd (State.raise_regs up _ _ _ _) (fun m => Row.bit_ne_of_apart (by decide) _ _ (List.mem_singleton.mp m))

theorem fltUp (h : s.Tends p K t) (up : s.boot.fltUp = true) : t.boot.fltUp = true := h.reports.fltUp.trans up

theorem frame (h : s.Tends p K t) (up : s.boot.fltUp = true) :
    t = { s with nl := t.nl, regs := t.regs, fltIn := t.fltIn, pci := t.pci, out := t.out } := h.reports.frame up

theorem onPort (h : s.Tends p K t) (up : s.boot.fltUp = true) : s.onPort t p K :=
  ⟨h.frame up, fun q hq => .inl (h.others q hq), fun b hb => h.reports.regs b (fun m => hb (List.mem_append_right _ m))⟩

/-- A change at port p, its new state, and a further change at it. -/
theorem onPort_setNl {v : Nat} (h : s.Tends p K u) (h' : (u.setNl p v).Tends p K t) (up : s.boot.fltUp = true)
    (mem : NL.NL_STAT_STATE.bit p 0 ∈ K) : s.onPort t p K := by
  have upU := h.fltUp up
  have reports : s.Reports (fun _ => True) t := ((h.reports.mono (fun _ _ => trivial)).trans (.setNl u p v)).trans
    (h'.reports.mono (fun _ _ => trivial))
  refine ⟨reports.frame up, fun q hq => ?_, fun b hb => ?_⟩
  · have port := State.setNl_port upU p v q
    have nlUp : t.nlUp q = (u.setNl p v).nlUp q := State.nlUp_congr (h'.states q hq)
    rw [State.portKept, h'.others q hq, nlUp, State.routeRecord.eq_def] at *
    rw [port, h.others q hq, h'.level, ← h.level]
    split
    · next told => exact .inr ⟨told.1, told.2.2, rfl⟩
    · exact .inl rfl
  · simp only [List.mem_append, not_or] at hb
    obtain ⟨level, other⟩ := hb
    have own : b ∉ levelKeys ++ [NL.NL_STAT_STATE.bit p 0] := by
      simp only [List.mem_append, List.mem_singleton, not_or]
      exact ⟨level, fun e => other (e ▸ mem)⟩
    exact (h'.reports.regs b other).trans ((State.setNl_regs upU p v b own).trans (h.reports.regs b other))

end State.Tends

/-! ### Tokens told -/

theorem State.raise_fltIn {s : State} (up : s.boot.fltUp = true) (src kind addr detail : Nat) :
    (s.raise src kind addr detail).fltIn = s.fltIn ++ [s.rising (tokOf src kind addr detail)] :=
  State.raiseTok_raised up (tokOf src kind addr detail)

/-- A token raised after other reports, and before others, was told. -/
theorem State.told_raise {K K' : Nat → Prop} {s u t : State} {src kind addr detail : Nat}
    (before : s.Reports K u) (up : s.boot.fltUp = true) (after : (u.raise src kind addr detail).Reports K' t) :
    s.told t (tokOf src kind addr detail) := by
  obtain ⟨l, hl⟩ := before.fltIn
  obtain ⟨l', hl'⟩ := after.fltIn
  refine ⟨l ++ [s.rising (tokOf src kind addr detail)] ++ l', ?_, by simp⟩
  rw [← hl', State.raise_fltIn (before.fltUp.trans up), ← hl, State.rising, State.rising, before.rest]
  simp

end Sys2Proof.Machine
end

section
/-! The steps of a negotiation: CAP and the mode both ends choose, training, IDENT, the probes and the partner's credits
(R301 to R305, R308, R317 and R348; Table 9-4). -/
namespace Sys2Proof.Machine

/-! ### What passes setNl and raise -/

theorem State.rd_raise {s : State} (up : s.boot.fltUp = true) (src kind addr detail : Nat) {r : Row}
    (apart : HDR.BLK_ERR.apart r = true) (k : Nat) : (s.raise src kind addr detail).rd r k = s.rd r k :=
  State.regsBut.rd (State.raise_regs up _ _ _ _) (fun m => Row.bit_ne_of_apart apart _ k (List.mem_singleton.mp m).symm)

/-! ### A negotiation begins (steps 1 and 2) -/

theorem State.negotiate_port {s : State} (up : s.boot.fltUp = true) (p : Nat) : (s.negotiate p).port p =
    { s.port p with ctrl := (s.port p).ctrl ++ [(tCTRL, recCAP (s.port p).cfg.rates (s.usableLanes p) (s.port p).cfg.fec53)] } := by
  have port : (s.setNl p nlNEGOTIATE).port p = s.port p := State.setNl_port_down up p (by decide) (by decide) (by decide)
  rw [State.negotiate, State.port_sendCtrl_self, port]

/-- After step 2 the port is in NEGOTIATE, and its CAP is due. -/
theorem State.negotiate_spec {s u : State} (p : Nat) (hp : p < 16) (up : s.boot.fltUp = true)
    (before : s.Tends p [NL.NL_STAT_STATE.bit p 0] u) :
    s.onPort (u.negotiate p) p [NL.NL_STAT_STATE.bit p 0] ∧ (u.negotiate p).nlState p = nlNEGOTIATE ∧
    bit ((u.negotiate p).rd CHIP.SVC_LEVEL_NL_UP) p = false ∧ (u.negotiate p).usableLanes p = u.usableLanes p := by
  have upU := before.fltUp up
  refine ⟨before.onPort_setNl (v := nlNEGOTIATE) (.sendCtrl _ _ _) up (by simp), State.setNl_nlState upU p (by decide),
    State.setNl_upBit upU hp _, ?_⟩
  rw [State.usableLanes, State.negotiate_port upU]
  rfl

/-- A port's record as a negotiation begins, with NL_CFG, the fenced lanes and the lanes with signal. -/
def NlPort.begins (n : NlPort) (cfg : NlCfg) (fenced signal : Nat) : NlPort :=
  { n with
    cfg := cfg, fenced := fenced, signal := signal, failed := 0, ctrl := [], identSent := false, identDue := false
    keptIdent := none, keptCredit := none, outcome := 0, probes := [], widthOwed := 0 }

/-- Negotiation has begun with signal on the lanes of a mask. -/
def State.negotiates (s : State) (p lanes : Nat) (t : State) : Prop :=
  s.onPort t p [NL.NL_STAT_STATE.bit p 0] ∧ t.nlState p = nlNEGOTIATE ∧
  bit (t.rd CHIP.SVC_LEVEL_NL_UP) p = false ∧ (t.port p).signal = lanes % 16 ∧
  (t.port p).cfg = s.nlCfg p ∧ (t.port p).fenced = s.rd NL.NL_LANE_FENCED p ∧
  (t.port p).ctrl = [(tCTRL, recCAP (s.rd NL.NL_CFG_RATES p) (t.usableLanes p) (s.rd NL.NL_CFG_FEC53 p))]

theorem State.beginNeg_negotiates {s : State} {p : Nat} (hp : p < 16) (up : s.boot.fltUp = true) (lanes : Nat) :
    s.negotiates p lanes (s.beginNeg p lanes) := by
  have run : s.beginNeg p lanes =
    (s.modPort p (fun n => n.begins (s.nlCfg p) (s.rd NL.NL_LANE_FENCED p) (lanes % 16))).negotiate p := rfl
  obtain ⟨moved, state, down, usable⟩ := State.negotiate_spec p hp up
    (.modPort s (fun n => n.begins (s.nlCfg p) (s.rd NL.NL_LANE_FENCED p) (lanes % 16)))
  have port := State.negotiate_port (s := s.modPort p (fun n => n.begins (s.nlCfg p) (s.rd NL.NL_LANE_FENCED p) (lanes % 16))) up p
  rw [State.port_modPort_self, ← usable] at port
  rw [run]
  exact ⟨moved, state, down, by rw [port]; rfl, by rw [port]; rfl, by rw [port]; rfl, congrArg NlPort.ctrl port⟩

section
variable {s : State} {p lanes : Nat} (signal : lanes % 16 ≠ 0) (enabled : s.nlEnabled p = true)
include signal enabled

theorem nlDetect_run (state : s.nlState p ∈ [nlOFF, nlDETECT, nlHOLD]) : exec (.nlDetect p lanes) s = .next (s.beginNeg p lanes) :=
  congrArg Host.Outcome.next (if_pos (by simp [enabled, signal, state]))

theorem nlFailedRetry_run (state : s.nlState p = nlFAILED) : exec (.nlFailedRetry p lanes) s = .next (s.beginNeg p lanes) :=
  congrArg Host.Outcome.next (if_pos (by simp [enabled, signal, state]))

theorem nlForeignRetry_run (state : s.nlState p = nlFOREIGN) : exec (.nlForeignRetry p lanes) s = .next (s.beginNeg p lanes) :=
  congrArg Host.Outcome.next (if_pos (by simp [enabled, signal, state]))

end

/-! ### The mode of a link (R302) -/

theorem bestBy_mem {α : Type} {better : α → α → Bool} {l : List α} {x : α} (h : bestBy better l = some x) : x ∈ l := by
  cases l with
  | nil => exact absurd h (by simp [bestBy])
  | cons y ys =>
    have fold : ∀ (ys : List α) (m : α), ys.foldl (fun m y => if better y m then y else m) m ∈ m :: ys := by
      intro ys
      induction ys with
      | nil => simp
      | cons z zs ih =>
        intro m
        rw [List.foldl_cons]
        rcases List.mem_cons.mp (ih (if better z m then z else m)) with same | later
        · rw [same]
          split <;> simp
        · exact List.mem_cons_of_mem _ (List.mem_cons_of_mem _ later)
    rw [bestBy, Option.some.injEq] at h
    exact h ▸ fold ys y

/-- A mode has a rate code of three, and one, two or four lanes. -/
theorem bestMode_range {rates lanes : Nat} {m : Nat × Nat} (h : bestMode rates lanes = some m) :
    m.1 < 3 ∧ (m.2 = 4 ∨ m.2 = 2 ∨ m.2 = 1) := by
  have mem := (List.mem_filter.mp (bestBy_mem h)).1
  simp only [List.mem_flatMap, List.mem_range, List.mem_map] at mem
  obtain ⟨r, hr, w, hw, rfl⟩ := mem
  exact ⟨hr, by simpa using hw⟩

theorem lowestLanes_lt (mask w : Nat) : lowestLanes mask w < 2 ^ 4 := by
  have fold : ∀ n, (List.range n).foldl (fun m l => if bit mask l && popcount m 4 < w then setBit m l else m) 0 < 2 ^ n := by
    intro n
    induction n with
    | zero => exact Nat.one_pos
    | succ n ih =>
      have wider := ih.trans (Nat.pow_lt_pow_right (by decide) (Nat.lt_succ_self n))
      rw [List.range_succ, List.foldl_concat]
      split
      · exact setBit_lt wider (Nat.lt_succ_self n)
      · exact wider
  exact fold 4

theorem widthCode_lt {w : Nat} (h : w = 4 ∨ w = 2 ∨ w = 1) : widthCode w < 2 ^ 2 := by
  rcases h with rfl | rfl | rfl <;> decide

/-- The partner's CAP c is in: its lanes are noted, and NL_STAT shows the mode m over the common lanes. -/
def State.modeChosen (s : State) (p c lanes : Nat) (m : Nat × Nat) : State :=
  ((((s.modPort p (fun n => { n with partnerLanes := bits c 6 3 })).wr NL.NL_STAT_RATE m.1 p).wr NL.NL_STAT_WIDTH (widthCode m.2) p).wr
    NL.NL_STAT_LANES_USED (lowestLanes lanes m.2) p).wr NL.NL_STAT_FEC_ON
    (b2n (0 < m.1 || bit c 7 || (s.port p).cfg.fec53 = 1)) p

section
variable {s : State} {p : Nat} {f : Flit} {d : List Byte} (got : ctrlOf f 0x01 = some d) (state : s.nlState p = nlNEGOTIATE)
include got state

theorem nlCapReceive_run_some {m : Nat × Nat} (mode : bestMode (Nat.land (s.port p).cfg.rates (bits (leAt d 1 1) 2 0))
      (Nat.land (s.usableLanes p) (bits (leAt d 1 1) 6 3)) = some m) :
    exec (.nlCapReceive p f) s =
      .next ((s.modeChosen p (leAt d 1 1) (Nat.land (s.usableLanes p) (bits (leAt d 1 1) 6 3)) m).setNl p nlTRAIN) := by
  show execNlCapReceive p f s = _
  unfold execNlCapReceive
  rw [got, decide_eq_true state]
  dsimp only
  rw [mode]
  rfl

theorem nlCapReceive_run_none (mode : bestMode (Nat.land (s.port p).cfg.rates (bits (leAt d 1 1) 2 0))
      (Nat.land (s.usableLanes p) (bits (leAt d 1 1) 6 3)) = none) :
    exec (.nlCapReceive p f) s = .next (s.negFail p) := by
  show execNlCapReceive p f s = _
  unfold execNlCapReceive
  rw [got, decide_eq_true state]
  dsimp only
  rw [mode]

end

/-- The mode that CAP fixes is shown, and the port trains. -/
theorem State.modeChosen_trains {s : State} {p : Nat} (up : s.boot.fltUp = true) (c lanes : Nat) {m : Nat × Nat}
    (range : m.1 < 3 ∧ (m.2 = 4 ∨ m.2 = 2 ∨ m.2 = 1)) :
    let t := (s.modeChosen p c lanes m).setNl p nlTRAIN
    s.onPort t p [NL.NL_STAT_STATE.bit p 0, NL.NL_STAT_RATE.bit p 0, NL.NL_STAT_WIDTH.bit p 0, NL.NL_STAT_LANES_USED.bit p 0,
      NL.NL_STAT_FEC_ON.bit p 0] ∧
    t.nlState p = nlTRAIN ∧ t.rd NL.NL_STAT_RATE p = m.1 ∧ t.rd NL.NL_STAT_WIDTH p = widthCode m.2 ∧
    t.rd NL.NL_STAT_LANES_USED p = lowestLanes lanes m.2 ∧
    (t.on NL.NL_STAT_FEC_ON p = true ↔ 0 < m.1 ∨ bit c 7 = true ∨ (s.port p).cfg.fec53 = 1) := by
  obtain ⟨rate, width⟩ := range
  have tends : s.Tends p [NL.NL_STAT_STATE.bit p 0, NL.NL_STAT_RATE.bit p 0, NL.NL_STAT_WIDTH.bit p 0, NL.NL_STAT_LANES_USED.bit p 0,
      NL.NL_STAT_FEC_ON.bit p 0] (s.modeChosen p c lanes m) :=
    ((((State.Tends.modPort s _).trans (.wrApart _ p _ (by simp) (by decide) (by decide))).trans
      (.wrApart _ p _ (by simp) (by decide) (by decide))).trans (.wrApart _ p _ (by simp) (by decide) (by decide))).trans
      (.wrApart _ p _ (by simp) (by decide) (by decide))
  have upT : (s.modeChosen p c lanes m).boot.fltUp = true := up
  refine ⟨tends.onPort_setNl (.refl _) up (by simp), State.setNl_nlState upT p (by decide), ?_, ?_, ?_, ?_⟩
  · rw [State.rd_setNl upT p _ (by decide) (by decide), State.modeChosen, State.rd_wr_apart _ (by decide),
      State.rd_wr_apart _ (by decide), State.rd_wr_apart _ (by decide), State.rd_wr_self]
    exact Nat.mod_eq_of_lt (rate.trans (by decide))
  · rw [State.rd_setNl upT p _ (by decide) (by decide), State.modeChosen, State.rd_wr_apart _ (by decide),
      State.rd_wr_apart _ (by decide), State.rd_wr_self]
    exact Nat.mod_eq_of_lt (widthCode_lt width)
  · rw [State.rd_setNl upT p _ (by decide) (by decide), State.modeChosen, State.rd_wr_apart _ (by decide), State.rd_wr_self]
    exact Nat.mod_eq_of_lt (lowestLanes_lt lanes m.2)
  · rw [State.on, State.rd_setNl upT p _ (by decide) (by decide), State.modeChosen, State.rd_wr_b2n _ rfl]
    simp [or_assoc, Nat.pos_iff_ne_zero]

/-- Where no mode is common and none failed within the last minute, the port fails and says so (R302, R304). -/
theorem State.negFail_spec {s : State} {p : Nat} (up : s.boot.fltUp = true) (first : (s.port p).negFailAt = none) :
    s.onPort (s.negFail p) p [NL.NL_STAT_STATE.bit p 0, HDR.BLK_ERR.bit (pgNL p) 0] ∧ (s.negFail p).nlState p = nlFAILED ∧
    s.told (s.negFail p) (tokOf (pgNL p) kNEG_FAIL 0 0) := by
  have upF : (s.setNl p nlFAILED).boot.fltUp = true := (s.setNl_fltUp p _).trans up
  have port : (s.setNl p nlFAILED).port p = s.port p := State.setNl_port_down up p (by decide) (by decide) (by decide)
  have run : s.negFail p = ((s.setNl p nlFAILED).raise (pgNL p) kNEG_FAIL).modPort p (fun n => { n with negFailAt := some s.ftime }) := by
    rw [State.negFail, port, first, State.setNl_ftime]
    rfl
  have tends {K : List Nat} (h : HDR.BLK_ERR.bit (pgNL p) 0 ∈ K) : (s.setNl p nlFAILED).Tends p K (s.negFail p) :=
    run ▸ (State.Tends.raise upF h).trans (.modPort _ _)
  refine ⟨(State.Tends.refl s).onPort_setNl (tends (by simp)) up (by simp), ?_, ?_⟩
  · rw [run, State.nlState_modPort, State.nlState, State.rd_raise upF _ _ _ _ (by decide)]
    exact State.setNl_nlState up p (by decide)
  · rw [run]
    exact State.told_raise (.setNl s p _) up (State.Tends.modPort (p := p) (K := []) _ _).reports

end Sys2Proof.Machine
end

section
/-! Training: the lanes that have trained, IDENT sent, and a negotiation repeated without the lanes left out (R303, R348; steps 3 and 4
of Table 9-4). -/
namespace Sys2Proof.Machine

/-! ### Lanes that trained and lanes that did not -/

/-- The lanes in use that have not trained, and those that have. -/
def untrained (used lanes : Nat) : List Nat := (List.range 4).filter (fun l => bit used l && !bit lanes l)
def trained (used lanes : Nat) : List Nat := (List.range 4).filter (fun l => bit used l && bit lanes l)

theorem mem_untrained {used lanes l : Nat} : l ∈ untrained used lanes ↔ l < 4 ∧ bit used l = true ∧ bit lanes l = false := by
  simp [untrained]

/-- The record of a port whose lanes in use have trained or failed to. -/
def NlPort.trains (n : NlPort) (used lanes : Nat) : NlPort :=
  { n with
    failed := (untrained used lanes).foldl setBit n.failed
    leftOut := (trained used lanes).foldl (fun m l => SMap.drop m l)
      ((untrained used lanes).foldl (fun m l => addAt m l 1) n.leftOut) }

theorem bit_foldl_setBit (ls : List Nat) (x l : Nat) : bit (ls.foldl setBit x) l = (bit x l || decide (l ∈ ls)) := by
  induction ls generalizing x with
  | nil => simp
  | cons k ks ih =>
    rw [List.foldl_cons, ih, bit_setBit, Bool.or_assoc]
    simp

theorem countAt_foldl_addAt {ls : List Nat} (nodup : ls.Nodup) (m : List (Nat × Nat)) (l : Nat) :
    countAt (ls.foldl (fun m l => addAt m l 1) m) l ≤ countAt m l + 1 := by
  induction ls generalizing m with
  | nil => exact Nat.le_succ _
  | cons k ks ih =>
    obtain ⟨new, nodup⟩ := List.nodup_cons.mp nodup
    have one : countAt (addAt m k 1) l = if k = l then countAt m k + 1 else countAt m l := SMap.get_put ..
    by_cases h : k = l
    · subst h
      have later : ∀ (ks : List Nat) (m : List (Nat × Nat)), k ∉ ks →
          countAt (ks.foldl (fun m l => addAt m l 1) m) k = countAt m k := by
        intro ks
        induction ks with
        | nil => exact fun _ _ => rfl
        | cons j js ih =>
          intro m hk
          obtain ⟨ne, hk⟩ := not_or.mp (fun h => hk (List.mem_cons.mpr h))
          rw [List.foldl_cons, ih _ hk]
          exact (SMap.get_put ..).trans (if_neg (Ne.symm ne))
      rw [List.foldl_cons, later ks _ new, one, if_pos rfl]
    · rw [if_neg h] at one
      exact one ▸ ih nodup (addAt m k 1)

theorem countAt_foldl_drop (ls : List Nat) (m : List (Nat × Nat)) (l : Nat) :
    countAt (ls.foldl (fun m l => SMap.drop m l) m) l ≤ countAt m l := by
  induction ls generalizing m with
  | nil => exact Nat.le_refl _
  | cons k ks ih =>
    refine (ih (SMap.drop m k)).trans ?_
    rw [countAt, SMap.get_drop]
    split
    · exact Nat.zero_le _
    · exact Nat.le_refl _

/-- No lane is left out for the third time where none was left out twice before. -/
theorem NlPort.trains_leftOut_lt {n : NlPort} (used lanes : Nat) {l : Nat} (h : countAt n.leftOut l < 2) :
    countAt (n.trains used lanes).leftOut l < 3 :=
  Nat.lt_of_le_of_lt ((countAt_foldl_drop ..).trans (countAt_foldl_addAt (List.nodup_range.filter _) _ _)) (Nat.succ_lt_succ h)

/-! ### IDENT goes out (step 4) -/

/-- A port's record after its IDENT went out. -/
def NlPort.identified (n : NlPort) : NlPort := { n with identSent := true, identDue := false, keptIdent := none }

/-- Step 4 where FAB_ID is valid and the partner's IDENT has not come yet. -/
theorem State.identify_eq {s : State} {p : Nat} (up : s.boot.fltUp = true) (valid : s.on FABRIC.FAB_ID_VALID = true)
    (none : (s.port p).keptIdent = none) : s.identify p =
    ((s.setNl p nlIDENTIFY).sendCtrl p tCTRL ((s.setNl p nlIDENTIFY).recIDENT p)).modPort p NlPort.identified := by
  have port : (s.setNl p nlIDENTIFY).port p = s.port p := State.setNl_port_down up p (by decide) (by decide) (by decide)
  unfold State.identify
  extract_lets u kept v
  have noKept : kept = Option.none := by rw [← none, ← port]
  rw [if_pos ((State.on_setNl up p _ (by decide) (by decide) 0).trans valid), noKept]
  rfl

theorem State.recIDENT_sent (s : State) (p : Nat) (l : List Byte) :
    ((s.sendCtrl p tCTRL l).modPort p NlPort.identified).recIDENT p = s.recIDENT p := by
  rw [State.recIDENT, State.port_modPort_self, State.port_sendCtrl_self]
  rfl

/-! ### The end of training -/

section
variable {s : State} {p lanes : Nat} (state : s.nlState p = nlTRAIN)
include state

theorem nlTrainDone_run_all (all : untrained (s.rd NL.NL_STAT_LANES_USED p) lanes = []) :
    exec (.nlTrainDone p lanes) s = .next (((s.modPort p (fun n => n.trains (s.rd NL.NL_STAT_LANES_USED p) lanes)).wr NL.NL_LANE_LOCKED
      (s.rd NL.NL_STAT_LANES_USED p) p).identify p) := by
  refine congrArg Host.Outcome.next ((if_neg (by simp [state])).trans ((if_pos ?_).trans rfl))
  exact List.isEmpty_iff.mpr all

theorem nlTrainDone_run_some (some : untrained (s.rd NL.NL_STAT_LANES_USED p) lanes ≠ [])
    (fresh : ∀ l, l < 4 → countAt (s.port p).leftOut l < 2) : exec (.nlTrainDone p lanes) s =
      .next ((s.modPort p (fun n => n.trains (s.rd NL.NL_STAT_LANES_USED p) lanes)).negotiate p) := by
  have noFence : (untrained (s.rd NL.NL_STAT_LANES_USED p) lanes).filter (fun l => 3 ≤ countAt
      ((s.modPort p (fun n => n.trains (s.rd NL.NL_STAT_LANES_USED p) lanes)).port p).leftOut l) = [] := by
    rw [State.port_modPort_self, List.filter_eq_nil_iff]
    intro l mem
    have lt := NlPort.trains_leftOut_lt (s.rd NL.NL_STAT_LANES_USED p) lanes (fresh l (mem_untrained.mp mem).1)
    simpa using lt
  refine congrArg Host.Outcome.next ((if_neg (by simp [state])).trans ((if_neg (fun h => some (List.isEmpty_iff.mp h))).trans ?_))
  exact congrArg (fun l : List Nat => State.negotiate (State.each _ l _) p) noFence

end

/-- Every lane in use has trained: the port identifies itself. -/
theorem nlTrainDone_identifies {s : State} {p lanes : Nat} (up : s.boot.fltUp = true) (state : s.nlState p = nlTRAIN)
    (all : ∀ l, l < 4 → bit (s.rd NL.NL_STAT_LANES_USED p) l = true → bit lanes l = true) (valid : s.on FABRIC.FAB_ID_VALID = true)
    (none : (s.port p).keptIdent = none) :
    ∃ t, exec (.nlTrainDone p lanes) s = .next t ∧ s.onPort t p [NL.NL_STAT_STATE.bit p 0, NL.NL_LANE_LOCKED.bit p 0] ∧
      t.nlState p = nlIDENTIFY ∧ t.rd NL.NL_LANE_LOCKED p = s.rd NL.NL_STAT_LANES_USED p % 16 ∧ (t.port p).identSent = true ∧
      s.ctrlDue t p [(tCTRL, t.recIDENT p)] := by
  have empty : untrained (s.rd NL.NL_STAT_LANES_USED p) lanes = [] := by
    refine List.eq_nil_iff_forall_not_mem.mpr (fun l mem => ?_)
    obtain ⟨lt, used, out⟩ := mem_untrained.mp mem
    exact absurd (all l lt used) (by simp [out])
  refine ⟨_, nlTrainDone_run_all state empty, ?_⟩
  generalize hu : (s.modPort p (fun n => n.trains (s.rd NL.NL_STAT_LANES_USED p) lanes)).wr NL.NL_LANE_LOCKED
    (s.rd NL.NL_STAT_LANES_USED p) p = u
  have tends : s.Tends p [NL.NL_STAT_STATE.bit p 0, NL.NL_LANE_LOCKED.bit p 0] u :=
    hu ▸ (State.Tends.modPort s _).trans (.wrApart _ p _ (by simp) (by decide) (by decide))
  have port : u.port p = (s.port p).trains (s.rd NL.NL_STAT_LANES_USED p) lanes := by
    rw [← hu, State.port_wr, State.port_modPort_self]
  have locked : u.rd NL.NL_LANE_LOCKED p = s.rd NL.NL_STAT_LANES_USED p % 16 := by rw [← hu, State.rd_wr_self]; rfl
  have validU : u.on FABRIC.FAB_ID_VALID = true := by
    rw [← hu, State.on_wr_apart _ (by decide)]
    exact valid
  have upU := tends.fltUp up
  have keep : (u.setNl p nlIDENTIFY).port p = u.port p := State.setNl_port_down upU p (by decide) (by decide) (by decide)
  rw [State.identify_eq upU validU (by rw [port]; exact none)]
  refine ⟨tends.onPort_setNl ((State.Tends.sendCtrl _ _ _).trans (.modPort _ _)) up (by simp), State.setNl_nlState upU p (by decide),
    (State.rd_setNl upU p _ (by decide) (by decide) p).trans locked, by rw [State.port_modPort_self]; rfl, ?_⟩
  rw [State.ctrlDue, State.recIDENT_sent, State.port_modPort_self, State.port_sendCtrl_self, keep, port]
  rfl

/-- A lane in use has not trained, and none for the third time: negotiation repeats without it. -/
theorem nlTrainDone_repeats {s : State} {p lanes : Nat} (hp : p < 16) (up : s.boot.fltUp = true) (state : s.nlState p = nlTRAIN)
    (some : ∃ l, l < 4 ∧ bit (s.rd NL.NL_STAT_LANES_USED p) l = true ∧ bit lanes l = false)
    (fresh : ∀ l, l < 4 → countAt (s.port p).leftOut l < 2) :
    ∃ t, exec (.nlTrainDone p lanes) s = .next t ∧ s.onPort t p [NL.NL_STAT_STATE.bit p 0] ∧ t.nlState p = nlNEGOTIATE ∧
      (∀ l, l < 4 → bit (t.port p).failed l =
        (bit (s.port p).failed l || (bit (s.rd NL.NL_STAT_LANES_USED p) l && !bit lanes l))) ∧
      s.ctrlDue t p [(tCTRL, recCAP (s.port p).cfg.rates (t.usableLanes p) (s.port p).cfg.fec53)] := by
  obtain ⟨l, out⟩ := some
  refine ⟨_, nlTrainDone_run_some state (List.ne_nil_of_mem (mem_untrained.mpr out)) fresh, ?_⟩
  generalize hu : s.modPort p (fun n => n.trains (s.rd NL.NL_STAT_LANES_USED p) lanes) = u
  have tends : s.Tends p [NL.NL_STAT_STATE.bit p 0] u := hu ▸ .modPort s _
  have port : u.port p = (s.port p).trains (s.rd NL.NL_STAT_LANES_USED p) lanes := by rw [← hu, State.port_modPort_self]
  obtain ⟨moved, negotiates, -, usable⟩ := State.negotiate_spec p hp up tends
  have after := State.negotiate_port (tends.fltUp up) p
  refine ⟨moved, negotiates, fun l lt => ?_, ?_⟩
  · rw [after, port]
    refine (bit_foldl_setBit ..).trans (congrArg _ ?_)
    rw [Bool.eq_iff_iff]
    simp [mem_untrained, lt]
  · rw [State.ctrlDue, usable, after, port]
    rfl

end Sys2Proof.Machine
end

section
/-! The partner's IDENT at step 4: LOOPBACK, FOREIGN, a resumed link and a new one (Table 9-5, R305, R306). -/
namespace Sys2Proof.Machine

/-! ### Delay probes become due (R317) -/

/-- The sixteen delay probes of a round. -/
def probeRound : List (Nat × List Byte) := (List.range 16).map (fun k => (tPROBE, toLE k 1))

theorem State.startProbes_tends (s : State) (p : Nat) {K : List Nat} : s.Tends p K (s.startProbes p) :=
  (State.Tends.modPort s _).trans (.each (fun t _ => .sendCtrl t _ _) _ _)

theorem State.startProbes_port (s : State) (p : Nat) :
    (s.startProbes p).port p = { s.port p with probes := [], ctrl := (s.port p).ctrl ++ probeRound } := by
  refine (State.port_each_sendCtrl tPROBE (fun k => toLE k 1) p (List.range 16) _).trans ?_
  rw [State.port_modPort_self]
  rfl

theorem State.startProbes_regs (s : State) (p : Nat) : (s.startProbes p).regs = s.regs := by
  refine State.each_inv (fun t => t.regs = s.regs) (fun t k h => ?_) _ _ rfl
  exact h

/-! ### The new-link steps of R306 where nothing waits -/

/-- The record of a port whose link is new. -/
def NlPort.renewed (n : NlPort) : NlPort :=
  { n with replay := [], again := [], seqTx := 0, rxNext := 0, resumable := false, retryFrom := none, retries := 0, owed := [] }

theorem State.retryStuck_nil {s : State} (h : s.fabric.stuck = []) : s.retryStuck = s := by
  have same : { s with fabric := { s.fabric with stuck := [] } } = s := by rw [← h]
  unfold State.retryStuck
  rw [same, h]
  rfl

theorem State.newLink_eq {s : State} {p : Nat} (replay : (s.port p).replay = []) (stuck : s.fabric.stuck = []) :
    s.newLink p = (s.modPort p NlPort.renewed).bump FABRIC.ROUTE_GEN_GEN := by
  unfold State.newLink
  rw [replay]
  exact State.retryStuck_nil stuck

theorem State.Tends.newLink {s : State} {p : Nat} {K : List Nat} (replay : (s.port p).replay = []) (stuck : s.fabric.stuck = [])
    (mem : FABRIC.ROUTE_GEN_GEN.bit 0 0 ∈ K) : s.Tends p K (s.newLink p) :=
  State.newLink_eq replay stuck ▸ (State.Tends.modPort s _).trans (.wrApart _ 0 _ mem (by decide) (by decide))

theorem State.rd_newLink {s : State} {p : Nat} (replay : (s.port p).replay = []) (stuck : s.fabric.stuck = []) {r : Row}
    (apart : FABRIC.ROUTE_GEN_GEN.apart r = true) (k : Nat) : (s.newLink p).rd r k = s.rd r k := by
  rw [State.newLink_eq replay stuck, State.bump, State.rd_wr_apart _ apart, State.modPort_rd]

theorem State.newLink_gen {s : State} {p : Nat} (replay : (s.port p).replay = []) (stuck : s.fabric.stuck = []) :
    (s.newLink p).rd FABRIC.ROUTE_GEN_GEN = (s.rd FABRIC.ROUTE_GEN_GEN + 1) % 2 ^ 32 := by
  rw [State.newLink_eq replay stuck, State.bump, State.rd_wr_self]
  rfl

theorem State.newLink_port {s : State} {p : Nat} (replay : (s.port p).replay = []) (stuck : s.fabric.stuck = []) :
    (s.newLink p).port p = (s.port p).renewed := by
  rw [State.newLink_eq replay stuck, State.bump, State.port_wr, State.port_modPort_self]

/-! ### The partner's identity is noted -/

/-- The registers that show the partner's identity, from its IDENT record. -/
def State.identNoted (s : State) (p : Nat) (d : List Byte) : State :=
  (((((s.wr NL.NL_PSERIAL_SERIAL (leAt d 1 8) p).wr NL.NL_PNONCE_NONCE (leAt d 9 8) p).wr NL.NL_PFIELD_FIELD_TAG (leAt d 0x11 4) p).wr
    NL.NL_STAT_P_PART (leAt d 0x15 2 % 0x1000) p).wr NL.NL_STAT_P_PORT (leAt d 0x15 2 / 0x1000) p).wr
    NL.NL_STAT_P_ROUTABLE (leAt d 0x17 1) p

/-- What an IDENT may change besides the route generation. -/
def identKeys (p : Nat) : List Nat :=
  [NL.NL_STAT_STATE.bit p 0, NL.NL_PSERIAL_SERIAL.bit p 0, NL.NL_PNONCE_NONCE.bit p 0, NL.NL_PFIELD_FIELD_TAG.bit p 0,
    NL.NL_STAT_P_PART.bit p 0, NL.NL_STAT_P_PORT.bit p 0, NL.NL_STAT_P_ROUTABLE.bit p 0, HDR.BLK_ERR.bit (pgNL p) 0]

/-- The registers of port p show the partner that an IDENT record names. -/
def State.showsPartner (t : State) (p : Nat) (d : List Byte) : Prop :=
  t.rd NL.NL_PSERIAL_SERIAL p = leAt d 1 8 ∧ t.rd NL.NL_PNONCE_NONCE p = leAt d 9 8 ∧
  t.rd NL.NL_PFIELD_FIELD_TAG p = leAt d 0x11 4 ∧ t.rd NL.NL_STAT_P_PART p = leAt d 0x15 2 % 0x1000

/-- The fields that show the partner. -/
def partnerRows : List Row := [NL.NL_PSERIAL_SERIAL, NL.NL_PNONCE_NONCE, NL.NL_PFIELD_FIELD_TAG, NL.NL_STAT_P_PART]

theorem State.showsPartner_congr {u t : State} {p : Nat} {d : List Byte} (h : u.showsPartner p d)
    (same : ∀ r ∈ partnerRows, t.rd r p = u.rd r p) : t.showsPartner p d := by
  obtain ⟨serial, nonce, tag, part⟩ := h
  exact ⟨(same _ (by decide)).trans serial, (same _ (by decide)).trans nonce, (same _ (by decide)).trans tag,
    (same _ (by decide)).trans part⟩

theorem leAt_mod (d : List Byte) (o n : Nat) : leAt d o n % 2 ^ (8 * n) = leAt d o n :=
  Nat.mod_eq_of_lt ((ofLE_lt _).trans_le (Nat.pow_le_pow_right (by decide) (Nat.mul_le_mul_left 8 (List.length_take_le ..))))

theorem State.identNoted_shows (s : State) (p : Nat) (d : List Byte) : (s.identNoted p d).showsPartner p d := by
  unfold State.identNoted
  refine ⟨?_, ?_, ?_, ?_⟩
  · rw [State.rd_wr_apart _ (by decide), State.rd_wr_apart _ (by decide), State.rd_wr_apart _ (by decide),
      State.rd_wr_apart _ (by decide), State.rd_wr_apart _ (by decide), State.rd_wr_self]
    exact leAt_mod d 1 8
  · rw [State.rd_wr_apart _ (by decide), State.rd_wr_apart _ (by decide), State.rd_wr_apart _ (by decide),
      State.rd_wr_apart _ (by decide), State.rd_wr_self]
    exact leAt_mod d 9 8
  · rw [State.rd_wr_apart _ (by decide), State.rd_wr_apart _ (by decide), State.rd_wr_apart _ (by decide), State.rd_wr_self]
    exact leAt_mod d 0x11 4
  · rw [State.rd_wr_apart _ (by decide), State.rd_wr_apart _ (by decide), State.rd_wr_self]
    exact Nat.mod_mod _ _

theorem State.identNoted_tends (s : State) (p : Nat) (d : List Byte) {K : List Nat} (sub : identKeys p ⊆ K) :
    s.Tends p K (s.identNoted p d) := by
  have one : ∀ (t : State) (r : Row) (v : Nat), r.bit p 0 ∈ identKeys p → 1 ≤ r.page → r.apart NL.NL_STAT_STATE = true →
      t.Tends p K (t.wr r v p) := fun t r v mem far apart => .wrApart t p v (sub mem) far apart
  exact (((((one s _ _ (by simp [identKeys]) (by decide) (by decide)).trans
    (one _ _ _ (by simp [identKeys]) (by decide) (by decide))).trans (one _ _ _ (by simp [identKeys]) (by decide) (by decide))).trans
    (one _ _ _ (by simp [identKeys]) (by decide) (by decide))).trans (one _ _ _ (by simp [identKeys]) (by decide) (by decide))).trans
    (one _ _ _ (by simp [identKeys]) (by decide) (by decide))

theorem State.identNoted_port (s : State) (p : Nat) (d : List Byte) (q : Nat) : (s.identNoted p d).port q = s.port q := rfl

/-- Noting the partner leaves the port's own tag and the route generation. -/
theorem State.rd_identNoted (s : State) (p : Nat) (d : List Byte) {r : Row} (h : ∀ r' ∈ [NL.NL_PSERIAL_SERIAL, NL.NL_PNONCE_NONCE,
    NL.NL_PFIELD_FIELD_TAG, NL.NL_STAT_P_PART, NL.NL_STAT_P_PORT, NL.NL_STAT_P_ROUTABLE], r'.apart r = true) (k : Nat) :
    (s.identNoted p d).rd r k = s.rd r k := by
  unfold State.identNoted
  simp only [List.mem_cons, List.not_mem_nil, or_false, forall_eq_or_imp, forall_eq] at h
  obtain ⟨h1, h2, h3, h4, h5, h6⟩ := h
  rw [State.rd_wr_apart _ h6, State.rd_wr_apart _ h5, State.rd_wr_apart _ h4, State.rd_wr_apart _ h3, State.rd_wr_apart _ h2,
    State.rd_wr_apart _ h1]

/-! ### A port in HOLD that meets another serial (R306) -/

/-- Port p is in HOLD and was last UP with another serial. -/
def State.wasOther (s : State) (p serial : Nat) : Prop :=
  (s.port p).retryFrom.isSome = true ∧ ∃ e, (s.port p).recorded = some e ∧ e.1 ≠ serial

/-- The new-link steps are taken where it was, and not else. -/
theorem State.otherSerial_cases (s : State) (p serial : Nat) :
    (s.wasOther p serial ∧ s.otherSerial p serial = s.newLink p) ∨ (¬ s.wasOther p serial ∧ s.otherSerial p serial = s) := by
  have cond : ((s.port p).retryFrom.isSome && ((s.port p).recorded.map (fun r => r.1 != serial)).getD false) = true ↔
      s.wasOther p serial := by
    rw [State.wasOther, Bool.and_eq_true]
    refine and_congr_right (fun _ => ?_)
    cases (s.port p).recorded with
    | none => simp
    | some e => simp
  by_cases h : s.wasOther p serial
  · exact .inl ⟨h, if_pos (cond.mpr h)⟩
  · exact .inr ⟨h, if_neg (fun c => h (cond.mp c))⟩

/-- What meeting another serial changes at the port and in the route generation, and what it leaves. -/
theorem State.otherSerial_spec {s : State} {p serial : Nat} {K : List Nat}
    (quiet : s.wasOther p serial → (s.port p).replay = [] ∧ s.fabric.stuck = []) (mem : FABRIC.ROUTE_GEN_GEN.bit 0 0 ∈ K) :
    s.Tends p K (s.otherSerial p serial) ∧ (∀ r ∈ partnerRows, (s.otherSerial p serial).rd r p = s.rd r p) ∧
    (s.wasOther p serial → ((s.otherSerial p serial).port p).retryFrom = none ∧
      (s.otherSerial p serial).rd FABRIC.ROUTE_GEN_GEN = (s.rd FABRIC.ROUTE_GEN_GEN + 1) % 2 ^ 32) ∧
    (¬ s.wasOther p serial → ((s.otherSerial p serial).port p).retryFrom = (s.port p).retryFrom ∧
      (s.otherSerial p serial).rd FABRIC.ROUTE_GEN_GEN = s.rd FABRIC.ROUTE_GEN_GEN) := by
  rcases s.otherSerial_cases p serial with ⟨was, run⟩ | ⟨not, run⟩
  · obtain ⟨replay, stuck⟩ := quiet was
    have keep : ∀ r ∈ partnerRows, FABRIC.ROUTE_GEN_GEN.apart r = true := by decide
    rw [run, State.newLink_port replay stuck, State.newLink_gen replay stuck]
    exact ⟨.newLink replay stuck mem, fun r hr => State.rd_newLink replay stuck (keep r hr) p, fun _ => ⟨rfl, rfl⟩,
      fun h => absurd was h⟩
  · rw [run]
    exact ⟨.refl s, fun _ _ => rfl, fun h => absurd h not, fun _ => ⟨rfl, rfl⟩⟩

/-! ### The rows of Table 9-5 -/

section
variable {s : State} {p : Nat} {d : List Byte}

/-- The test for this port's own IDENT, as identArrives makes it. -/
theorem ownIdent_iff {a b c e : Nat} : (decide (a = b) && decide (c = e)) = true ↔ a = b ∧ c = e := by simp

theorem State.identArrives_own (own : leAt d 1 8 = s.sec.serial ∧ leAt d 9 8 = s.boot.nonce) : s.identArrives p d =
    (((((s.identNoted p d).otherSerial p (leAt d 1 8)).setNl p nlLOOPBACK).raise (pgNL p) kLOOPBACK).startProbes p) :=
  if_pos (ownIdent_iff.mpr own)

variable (strange : ¬ (leAt d 1 8 = s.sec.serial ∧ leAt d 9 8 = s.boot.nonce))
include strange

theorem State.identArrives_foreign (tag : leAt d 0x11 4 ≠ s.rd NL.NL_FIELD_FIELD_TAG p) : s.identArrives p d =
    (((s.identNoted p d).otherSerial p (leAt d 1 8)).setNl p nlFOREIGN).raise (pgNL p) kPARTNER_FOREIGN (leAt d 0x11 4)
      (leAt d 0x15 2 % 0x1000) := by
  have same := s.rd_identNoted p d (r := NL.NL_FIELD_FIELD_TAG) (by decide) p
  refine (if_neg (fun h => strange (ownIdent_iff.mp h))).trans (if_pos ?_)
  rw [bne_iff_ne]
  exact fun e => tag (e.trans same)

variable (tag : leAt d 0x11 4 = s.rd NL.NL_FIELD_FIELD_TAG p)
include tag

theorem State.identArrives_same : s.identArrives p d =
    if (s.port p).recorded = some (leAt d 1 8, leAt d 9 8) && ((s.port p).resumable && (s.port p).retryFrom.isSome) &&
        bit (leAt d 0x17 1) 1 then
      (((s.identNoted p d).modPort p (fun n => { n with outcome := 1, resumeFrom := leAt d 0x18 2 })).raise (pgNL p) kLINK_RESUMED 0
        (leAt d 0x15 2 % 0x1000)).startProbes p
    else ((((s.identNoted p d).newLink p).modPort p (fun n => { n with outcome := 2 })).raise (pgNL p) kPARTNER_NEW 0
        (leAt d 0x15 2 % 0x1000)).startProbes p := by
  have same := s.rd_identNoted p d (r := NL.NL_FIELD_FIELD_TAG) (by decide) p
  refine (if_neg (fun h => strange (ownIdent_iff.mp h))).trans (if_neg ?_)
  rw [bne_iff_ne, not_not]
  exact tag.trans same.symm

end

/-! ### What each row leaves -/

theorem nlIdentReceive_run {s : State} {p : Nat} {f : Flit} {d : List Byte} (got : ctrlOf f 0x02 = some d)
    (state : s.nlState p = nlIDENTIFY) (sent : (s.port p).identSent = true) (fresh : (s.port p).outcome = 0) :
    exec (.nlIdentReceive p f) s = .next (s.identArrives p d) := by
  show execNlIdentReceive p f s = _
  unfold execNlIdentReceive
  rw [got]
  dsimp only
  rw [if_pos (by simp [state, sent]), if_pos fresh]

/-- The partner of an IDENT record is noted, and no link comes about with it: a port in HOLD that was last UP with another serial takes
the new-link steps. -/
def State.turnsAway (s : State) (p : Nat) (d : List Byte) (t : State) : Prop :=
  s.onPort t p (FABRIC.ROUTE_GEN_GEN.bit 0 0 :: identKeys p) ∧ t.showsPartner p d ∧
  (s.wasOther p (leAt d 1 8) → (t.port p).retryFrom = none ∧ t.rd FABRIC.ROUTE_GEN_GEN = (s.rd FABRIC.ROUTE_GEN_GEN + 1) % 2 ^ 32) ∧
  (¬ s.wasOther p (leAt d 1 8) → (t.port p).retryFrom = (s.port p).retryFrom ∧ t.rd FABRIC.ROUTE_GEN_GEN = s.rd FABRIC.ROUTE_GEN_GEN)

theorem State.turnsAway_of {s : State} {p : Nat} {d : List Byte} (up : s.boot.fltUp = true)
    (quiet : s.wasOther p (leAt d 1 8) → (s.port p).replay = [] ∧ s.fabric.stuck = []) {v kind addr detail : Nat} (hv : v < 16)
    (down : v ≠ nlUP) (fit : v ≠ nlRETRAIN) {t : State}
    (after : ((((s.identNoted p d).otherSerial p (leAt d 1 8)).setNl p v).raise (pgNL p) kind addr detail).Tends p
      (FABRIC.ROUTE_GEN_GEN.bit 0 0 :: identKeys p) t)
    (regs : t.regs = ((((s.identNoted p d).otherSerial p (leAt d 1 8)).setNl p v).raise (pgNL p) kind addr detail).regs)
    (timer : (t.port p).retryFrom =
      (((((s.identNoted p d).otherSerial p (leAt d 1 8)).setNl p v).raise (pgNL p) kind addr detail).port p).retryFrom) :
    s.turnsAway p d t ∧ t.nlState p = v ∧ s.told t (tokOf (pgNL p) kind addr detail) := by
  have noted := s.identNoted_tends p d (List.subset_cons_self (FABRIC.ROUTE_GEN_GEN.bit 0 0) (identKeys p))
  obtain ⟨moved, same, was, wasNot⟩ := State.otherSerial_spec (s := s.identNoted p d) (serial := leAt d 1 8)
    (K := FABRIC.ROUTE_GEN_GEN.bit 0 0 :: identKeys p) quiet (by simp)
  rw [s.rd_identNoted p d (by decide)] at was wasNot
  have shows := State.showsPartner_congr (s.identNoted_shows p d) same
  generalize (s.identNoted p d).otherSerial p (leAt d 1 8) = w at *
  have upW := (noted.trans moved).fltUp up
  have upV : (w.setNl p v).boot.fltUp = true := (w.setNl_fltUp p v).trans upW
  have read {r : Row} (apartS : NL.NL_STAT_STATE.apart r = true) (apartE : HDR.BLK_ERR.apart r = true) (far : 1 ≤ r.page) (k : Nat) :
      t.rd r k = w.rd r k :=
    (State.rd_of_find (by rw [regs])).trans ((State.rd_raise upV _ _ _ _ apartE k).trans (State.rd_setNl upW p v far apartS k))
  have keep : ∀ r ∈ partnerRows, NL.NL_STAT_STATE.apart r = true ∧ HDR.BLK_ERR.apart r = true ∧ 1 ≤ r.page := by decide
  have port : (t.port p).retryFrom = (w.port p).retryFrom := by
    rw [timer, State.port_raise, State.setNl_port_down upW p hv down fit]
  have genT : t.rd FABRIC.ROUTE_GEN_GEN = w.rd FABRIC.ROUTE_GEN_GEN := read (by decide) (by decide) (by decide) 0
  have raised : (w.setNl p v).Tends p (FABRIC.ROUTE_GEN_GEN.bit 0 0 :: identKeys p) _ :=
    .raise (kind := kind) (addr := addr) (detail := detail) upV (by simp [identKeys])
  refine ⟨⟨(noted.trans moved).onPort_setNl (raised.trans after) up (by simp [identKeys]),
    State.showsPartner_congr shows (fun r hr => ?_), ?_, ?_⟩, ?_, ?_⟩
  · obtain ⟨apartS, apartE, far⟩ := keep r hr
    exact read apartS apartE far p
  · rw [port, genT]
    exact was
  · rw [port, genT]
    exact wasNot
  · exact (State.rd_of_find (by rw [regs])).trans ((State.rd_raise upV _ _ _ _ (by decide) p).trans (State.setNl_nlState upW p hv))
  · exact State.told_raise (((noted.trans moved).reports.mono (fun _ _ => trivial)).trans (.setNl w p v)) up after.reports

section
variable {s : State} {p : Nat} {f : Flit} {d : List Byte} (up : s.boot.fltUp = true) (got : ctrlOf f 0x02 = some d)
  (state : s.nlState p = nlIDENTIFY) (sent : (s.port p).identSent = true) (fresh : (s.port p).outcome = 0)
include up got state sent fresh

/-- The part's own IDENT: LOOPBACK. -/
theorem nlIdentReceive_loopback (quiet : s.wasOther p (leAt d 1 8) → (s.port p).replay = [] ∧ s.fabric.stuck = [])
    (own : leAt d 1 8 = s.sec.serial ∧ leAt d 9 8 = s.boot.nonce) : ∃ t, exec (.nlIdentReceive p f) s = .next t ∧
      s.turnsAway p d t ∧ t.nlState p = nlLOOPBACK ∧ s.told t (tokOf (pgNL p) kLOOPBACK 0 0) :=
  ⟨_, (nlIdentReceive_run got state sent fresh).trans (congrArg _ (State.identArrives_own own)),
    State.turnsAway_of up quiet (by decide) (by decide) (by decide) (State.startProbes_tends _ p) (State.startProbes_regs _ p)
      (by rw [State.startProbes_port])⟩

variable (strange : ¬ (leAt d 1 8 = s.sec.serial ∧ leAt d 9 8 = s.boot.nonce))
include strange

/-- A partner with another field tag: FOREIGN. -/
theorem nlIdentReceive_foreign (quiet : s.wasOther p (leAt d 1 8) → (s.port p).replay = [] ∧ s.fabric.stuck = [])
    (tag : leAt d 0x11 4 ≠ s.rd NL.NL_FIELD_FIELD_TAG p) : ∃ t, exec (.nlIdentReceive p f) s = .next t ∧
      s.turnsAway p d t ∧ t.nlState p = nlFOREIGN ∧
      s.told t (tokOf (pgNL p) kPARTNER_FOREIGN (leAt d 0x11 4) (leAt d 0x15 2 % 0x1000)) :=
  ⟨_, (nlIdentReceive_run got state sent fresh).trans (congrArg _ (State.identArrives_foreign strange tag)),
    State.turnsAway_of up quiet (by decide) (by decide) (by decide) (.refl _) rfl rfl⟩

variable (tag : leAt d 0x11 4 = s.rd NL.NL_FIELD_FIELD_TAG p)
include tag

/-- The partner was last UP with this part, and both resume: the link is resumed. -/
theorem nlIdentReceive_resumes (resumes : (s.port p).recorded = some (leAt d 1 8, leAt d 9 8) ∧ (s.port p).resumable = true ∧
      (s.port p).retryFrom.isSome = true ∧ bit (leAt d 0x17 1) 1 = true) : ∃ t, exec (.nlIdentReceive p f) s = .next t ∧
    s.onPort t p (identKeys p) ∧ t.showsPartner p d ∧ (t.port p).outcome = 1 ∧ (t.port p).resumeFrom = leAt d 0x18 2 ∧
    (t.port p).replay = (s.port p).replay ∧ s.ctrlDue t p probeRound ∧
    s.told t (tokOf (pgNL p) kLINK_RESUMED 0 (leAt d 0x15 2 % 0x1000)) := by
  obtain ⟨recorded, resumable, held, partner⟩ := resumes
  refine ⟨_, (nlIdentReceive_run got state sent fresh).trans (congrArg _ ((State.identArrives_same strange tag).trans
    (if_pos (by simp [recorded, resumable, held, partner])))), ?_⟩
  have noted : s.Tends p (identKeys p) ((s.identNoted p d).modPort p (fun n => { n with outcome := 1, resumeFrom := leAt d 0x18 2 })) :=
    (s.identNoted_tends p d (fun _ h => h)).trans (.modPort _ _)
  have upN := noted.fltUp up
  have keep : ∀ r ∈ partnerRows, HDR.BLK_ERR.apart r = true := by decide
  have port : (((((s.identNoted p d).modPort p (fun n => { n with outcome := 1, resumeFrom := leAt d 0x18 2 })).raise (pgNL p)
      kLINK_RESUMED 0 (leAt d 0x15 2 % 0x1000)).startProbes p).port p) =
      { s.port p with outcome := 1, resumeFrom := leAt d 0x18 2, probes := [], ctrl := (s.port p).ctrl ++ probeRound } := by
    rw [State.startProbes_port, State.port_raise, State.port_modPort_self, State.identNoted_port]
  refine ⟨(noted.trans ((State.Tends.raise upN (by simp [identKeys])).trans (State.startProbes_tends _ p))).onPort up,
    State.showsPartner_congr (s.identNoted_shows p d) (fun r hr => ?_), ?_, ?_, ?_, ?_,
    State.told_raise noted.reports up (State.startProbes_tends _ p (K := [])).reports⟩
  · exact (State.rd_of_find (by rw [State.startProbes_regs])).trans (State.rd_raise upN _ _ _ _ (keep r hr) p)
  · rw [port]
  · rw [port]
  · rw [port]
  · rw [State.ctrlDue, port]

/-- Else the link is new. -/
theorem nlIdentReceive_new (not : ¬ ((s.port p).recorded = some (leAt d 1 8, leAt d 9 8) ∧ (s.port p).resumable = true ∧
      (s.port p).retryFrom.isSome = true ∧ bit (leAt d 0x17 1) 1 = true)) (replay : (s.port p).replay = [])
    (stuck : s.fabric.stuck = []) : ∃ t, exec (.nlIdentReceive p f) s = .next t ∧
    s.onPort t p (FABRIC.ROUTE_GEN_GEN.bit 0 0 :: identKeys p) ∧ t.showsPartner p d ∧ (t.port p).outcome = 2 ∧
    (t.port p).seqTx = 0 ∧ (t.port p).rxNext = 0 ∧ t.rd FABRIC.ROUTE_GEN_GEN = (s.rd FABRIC.ROUTE_GEN_GEN + 1) % 2 ^ 32 ∧
    s.ctrlDue t p probeRound ∧ s.told t (tokOf (pgNL p) kPARTNER_NEW 0 (leAt d 0x15 2 % 0x1000)) := by
  refine ⟨_, (nlIdentReceive_run got state sent fresh).trans (congrArg _ ((State.identArrives_same strange tag).trans
    (if_neg (by simpa [and_assoc] using not)))), ?_⟩
  have replayN : ((s.identNoted p d).port p).replay = [] := replay
  have stuckN : (s.identNoted p d).fabric.stuck = [] := stuck
  have noted : s.Tends p (FABRIC.ROUTE_GEN_GEN.bit 0 0 :: identKeys p)
      (((s.identNoted p d).newLink p).modPort p (fun n => { n with outcome := 2 })) :=
    ((s.identNoted_tends p d (List.subset_cons_self _ _)).trans (.newLink replayN stuckN (by simp))).trans (.modPort _ _)
  have upN := noted.fltUp up
  have keep : ∀ r ∈ partnerRows, HDR.BLK_ERR.apart r = true ∧ FABRIC.ROUTE_GEN_GEN.apart r = true := by decide
  have port : ((((((s.identNoted p d).newLink p).modPort p (fun n => { n with outcome := 2 })).raise (pgNL p) kPARTNER_NEW 0
      (leAt d 0x15 2 % 0x1000)).startProbes p).port p) =
      { (s.port p).renewed with outcome := 2, probes := [], ctrl := (s.port p).ctrl ++ probeRound } := by
    rw [State.startProbes_port, State.port_raise, State.port_modPort_self, State.newLink_port replayN stuckN, State.identNoted_port]
    rfl
  have read {r : Row} (apart : HDR.BLK_ERR.apart r = true) (k : Nat) :
      (((((s.identNoted p d).newLink p).modPort p (fun n => { n with outcome := 2 })).raise (pgNL p) kPARTNER_NEW 0
        (leAt d 0x15 2 % 0x1000)).startProbes p).rd r k = ((s.identNoted p d).newLink p).rd r k :=
    (State.rd_of_find (by rw [State.startProbes_regs])).trans (State.rd_raise upN _ _ _ _ apart k)
  refine ⟨(noted.trans ((State.Tends.raise upN (by simp [identKeys])).trans (State.startProbes_tends _ p))).onPort up,
    State.showsPartner_congr (s.identNoted_shows p d) (fun r hr => ?_), ?_, ?_, ?_, ?_, ?_,
    State.told_raise noted.reports up (State.startProbes_tends _ p (K := [])).reports⟩
  · obtain ⟨apartE, apartG⟩ := keep r hr
    exact (read apartE p).trans (State.rd_newLink replayN stuckN apartG p)
  · rw [port]
  · rw [port]
    rfl
  · rw [port]
    rfl
  · rw [read (by decide), State.newLink_gen replayN stuckN, s.rd_identNoted p d (by decide)]
  · rw [State.ctrlDue, port]

end

/-- An IDENT that comes before the port has sent its own is kept (R301, R348). -/
theorem nlIdentReceive_keeps {s : State} {p : Nat} {f : Flit} {d : List Byte} (got : ctrlOf f 0x02 = some d)
    (early : s.nlState p ∈ [nlNEGOTIATE, nlTRAIN] ∨ (s.nlState p = nlIDENTIFY ∧ (s.port p).identSent = false)) :
    exec (.nlIdentReceive p f) s = .next (s.modPort p (fun n => { n with keptIdent := some d })) := by
  show execNlIdentReceive p f s = _
  unfold execNlIdentReceive
  rw [got]
  dsimp only
  simp only [List.mem_cons, List.not_mem_nil, or_false] at early
  rcases early with (state | state) | ⟨state, waits⟩
  · rw [if_neg (by rw [state]; simp [nlNEGOTIATE, nlIDENTIFY]), if_pos (by simp [state])]
  · rw [if_neg (by rw [state]; simp [nlTRAIN, nlIDENTIFY]), if_pos (by simp [state])]
  · rw [if_neg (by simp [waits]), if_pos (by simp [state])]

end Sys2Proof.Machine
end

section
/-! The delay probes of a negotiation and the partner's credits: the port comes UP (R308, R317; steps 5 and 6 of Table 9-4). -/
namespace Sys2Proof.Machine

/-! ### The port comes up (step 6) -/

/-- What a port that comes UP still has to send again: on a resumed link, what the partner has not taken. -/
def NlPort.left (n : NlPort) : List (Nat × DataFlit) :=
  if n.outcome = 1 then n.replay.filter (fun e => !before16 e.1 n.resumeFrom) else []

/-- The record of a port that comes UP with the partner's credits d. -/
def NlPort.linked (n : NlPort) (keep : List (Nat × DataFlit)) (d : List Byte) (partner : Nat × Nat) (ftime : Nat) : NlPort :=
  { n with
    credit := [(clURGENT, leAt d 1 2), (clORDERED, leAt d 3 2), (clBULK, leAt d 5 2)], recorded := some partner, keptCredit := none
    resumable := true, retryFrom := none, retries := 0, replay := keep, again := keep, ackAt := ftime, outcome := 0 }

/-- The barrier forgets the rate that it measured on its parent port. -/
def State.rateLost (s : State) : State :=
  { s with barrier := { s.barrier with ratePrev := none, rate := none } }.wr BARRIER.BAR_STAT_RATE_VALID 0

theorem State.rd_rateLost (s : State) {r : Row} (apart : BARRIER.BAR_STAT_RATE_VALID.apart r = true) (k : Nat) :
    s.rateLost.rd r k = s.rd r k := by
  rw [State.rateLost, State.rd_wr_apart _ apart]
  rfl

/-- The part with the partner's credits in, before its port's state changes. -/
def State.creditIn (s : State) (p : Nat) (d : List Byte) : State :=
  let u := (s.modPort p (fun n => n.linked (s.port p).left d (s.rd NL.NL_PSERIAL_SERIAL p, s.rd NL.NL_PNONCE_NONCE p) s.ftime)).wr
    NL.NL_STAT_RESUMED (b2n ((s.port p).outcome = 1)) p
  if u.isParentPort p then u.rateLost else u

theorem State.creditIn_frame (s : State) (p : Nat) (d : List Byte) :
    s.creditIn p d = { s with nl := (s.creditIn p d).nl, regs := (s.creditIn p d).regs, barrier := (s.creditIn p d).barrier } := by
  unfold State.creditIn
  dsimp only
  split <;> rfl

theorem State.creditIn_regs (s : State) (p : Nat) (d : List Byte) :
    s.regsBut (s.creditIn p d) [NL.NL_STAT_RESUMED.bit p 0, BARRIER.BAR_STAT_RATE_VALID.bit 0 0] := by
  unfold State.creditIn
  extract_lets u
  have shown : s.regsBut u [NL.NL_STAT_RESUMED.bit p 0, BARRIER.BAR_STAT_RATE_VALID.bit 0 0] :=
    State.regsBut_wr (s.modPort p _) (List.mem_cons_self ..)
  split
  · refine shown.trans ?_
    exact State.regsBut_wr { u with barrier := { u.barrier with ratePrev := none, rate := none } } (by simp)
  · exact shown

theorem State.creditIn_port (s : State) (p : Nat) (d : List Byte) : (s.creditIn p d).port p =
    (s.port p).linked (s.port p).left d (s.rd NL.NL_PSERIAL_SERIAL p, s.rd NL.NL_PNONCE_NONCE p) s.ftime := by
  have port : (s.creditIn p d).port p =
      (s.modPort p (fun n => n.linked (s.port p).left d (s.rd NL.NL_PSERIAL_SERIAL p, s.rd NL.NL_PNONCE_NONCE p) s.ftime)).port p := by
    unfold State.creditIn
    dsimp only
    split <;> rfl
  rw [port, State.port_modPort_self]

theorem State.creditIn_resumed (s : State) (p : Nat) (d : List Byte) :
    (s.creditIn p d).rd NL.NL_STAT_RESUMED p = if (s.port p).outcome = 1 then 1 else 0 := by
  unfold State.creditIn
  extract_lets u
  have shown : u.rd NL.NL_STAT_RESUMED p = if (s.port p).outcome = 1 then 1 else 0 := by
    refine (State.rd_wr_b2n (s.modPort p _) rfl _ p 0).trans ?_
    simp only [decide_eq_true_eq]
  split
  · rw [u.rd_rateLost (by decide), shown]
  · exact shown

theorem State.linkUp_eq {s : State} (stuck : s.fabric.stuck = []) (p : Nat) (d : List Byte) :
    s.linkUp p d = (s.creditIn p d).setNl p nlUP := by
  have same : ((s.creditIn p d).setNl p nlUP).fabric.stuck = [] := by
    rw [State.setNl_fabric, s.creditIn_frame]
    exact stuck
  exact State.retryStuck_nil same

/-- The port is UP with the partner's credits d: resumed with what the partner has not taken, or new. -/
def State.comesUp (s : State) (p : Nat) (d : List Byte) (t : State) (keys : List Nat) : Prop :=
  t = { s with nl := t.nl, regs := t.regs, fltIn := t.fltIn, pci := t.pci, out := t.out, barrier := t.barrier } ∧
  s.regsBut t (levelKeys ++ [NL.NL_STAT_STATE.bit p 0, NL.NL_STAT_RESUMED.bit p 0, BARRIER.BAR_STAT_RATE_VALID.bit 0 0] ++ keys) ∧
  t.nlState p = nlUP ∧ bit (t.rd CHIP.SVC_LEVEL_NL_UP) p = true ∧
  t.rd NL.NL_STAT_RESUMED p = (if (s.port p).outcome = 1 then 1 else 0) ∧
  (t.port p).credit = [(clURGENT, leAt d 1 2), (clORDERED, leAt d 3 2), (clBULK, leAt d 5 2)] ∧
  (t.port p).recorded = some (s.rd NL.NL_PSERIAL_SERIAL p, s.rd NL.NL_PNONCE_NONCE p) ∧ (t.port p).retryFrom = none ∧
  (t.port p).replay = (if (s.port p).outcome = 1 then
    (s.port p).replay.filter (fun e => !before16 e.1 (s.port p).resumeFrom) else [])

theorem State.linkUp_comesUp {s : State} {p : Nat} (hp : p < 16) (up : s.boot.fltUp = true) (stuck : s.fabric.stuck = [])
    (d : List Byte) : s.comesUp p d (s.linkUp p d) [] := by
  have shown := s.creditIn_regs p d
  have frame := s.creditIn_frame p d
  have port := s.creditIn_port p d
  have resumed := s.creditIn_resumed p d
  rw [State.linkUp_eq stuck]
  generalize s.creditIn p d = u at *
  have upU : u.boot.fltUp = true := by rw [frame]; exact up
  have moved := (State.Reports.setNl u p nlUP).frame upU
  have portT := State.setNl_port_eq upU p nlUP p
  have regsT := State.setNl_regs upU p nlUP
  have resumedT := (State.rd_setNl upU p nlUP (by decide) (by decide) p).trans resumed
  have stateT := State.setNl_nlState upU p (v := nlUP) (by decide)
  have upBitT := State.setNl_upBit upU hp nlUP
  generalize u.setNl p nlUP = t at *
  refine ⟨?_, fun b hb => ?_, stateT, upBitT, resumedT, ?_, ?_, ?_, ?_⟩
  · rw [moved, frame]
  · simp only [List.append_nil, List.mem_append, List.mem_cons, List.not_mem_nil, or_false, not_or] at hb
    obtain ⟨level, state, resumedKey, rate⟩ := hb
    exact (regsT b (by simp [level, state])).trans (shown b (by simp [resumedKey, rate]))
  all_goals rw [portT, port]; rfl

/-- What comes about before the port comes up, with its outcome and what it owes the partner kept, is part of it. -/
theorem State.comesUp_of {s u t : State} {p : Nat} {d : List Byte} {keys : List Nat} (frame : u = { s with nl := u.nl, regs := u.regs })
    (before : s.regsBut u keys) (outcome : (u.port p).outcome = (s.port p).outcome) (replay : (u.port p).replay = (s.port p).replay)
    (resumeFrom : (u.port p).resumeFrom = (s.port p).resumeFrom) (serial : u.rd NL.NL_PSERIAL_SERIAL p = s.rd NL.NL_PSERIAL_SERIAL p)
    (nonce : u.rd NL.NL_PNONCE_NONCE p = s.rd NL.NL_PNONCE_NONCE p) (h : u.comesUp p d t []) : s.comesUp p d t keys := by
  obtain ⟨moved, regs, state, upBit, resumed, credit, recorded, timer, left⟩ := h
  rw [outcome] at resumed left
  rw [replay, resumeFrom] at left
  rw [serial, nonce] at recorded
  refine ⟨?_, fun b hb => ?_, state, upBit, resumed, credit, recorded, timer, left⟩
  · rw [moved, frame]
  · obtain ⟨own, other⟩ := not_or.mp (fun h => hb (List.mem_append.mpr h))
    exact (regs b (by rwa [List.append_nil])).trans (before b other)

/-! ### The partner's credits (R317) -/

theorem nlCreditInit_comesUp {s : State} {p : Nat} {f : Flit} {d : List Byte} (hp : p < 16) (up : s.boot.fltUp = true)
    (got : ctrlOf f 0x03 = some d) (state : s.nlState p = nlIDENTIFY) (met : (s.port p).outcome ≠ 0)
    (valid : s.on NL.NL_DELAY_VALID p = true) (stuck : s.fabric.stuck = []) :
    ∃ t, exec (.nlCreditInit p f) s = .next t ∧ s.comesUp p d t [] := by
  refine ⟨s.linkUp p d, ?_, State.linkUp_comesUp hp up stuck d⟩
  show execNlCreditInit p f s = _
  unfold execNlCreditInit
  rw [got]
  dsimp only
  rw [if_pos (by simp [state, met, valid])]

/-- Credits that come too early are kept. -/
theorem nlCreditInit_keeps {s : State} {p : Nat} {f : Flit} {d : List Byte} (got : ctrlOf f 0x03 = some d)
    (state : s.nlState p ∈ [nlTRAIN, nlIDENTIFY])
    (early : ¬ (s.nlState p = nlIDENTIFY ∧ (s.port p).outcome ≠ 0 ∧ s.on NL.NL_DELAY_VALID p = true)) :
    exec (.nlCreditInit p f) s = .next (s.modPort p (fun n => { n with keptCredit := some d })) := by
  show execNlCreditInit p f s = _
  unfold execNlCreditInit
  rw [got]
  dsimp only
  rw [if_neg (by simpa [and_assoc] using early), if_pos (by simpa using state)]

/-! ### The sixteen probes are answered (step 5, R317) -/

/-- NL_DELAY shows the mean of the round, and the samples are done with. -/
def State.delayShown (s : State) (p : Nat) : State :=
  ((s.wr NL.NL_DELAY_ONE_WAY (delayMean (s.port p).probes).toNat p).wr NL.NL_DELAY_VALID 1 p).modPort p
    (fun n => { n with probes := [] })

theorem State.delayShown_tends (s : State) (p : Nat) :
    s.Tends p [NL.NL_DELAY_ONE_WAY.bit p 0, NL.NL_DELAY_VALID.bit p 0] (s.delayShown p) :=
  ((State.Tends.wrApart _ p _ (by simp) (by decide) (by decide)).trans (.wrApart _ p _ (by simp) (by decide) (by decide))).trans
    (.modPort _ _)

theorem State.delayShown_port (s : State) (p : Nat) : (s.delayShown p).port p = { s.port p with probes := [] } := by
  rw [State.delayShown, State.port_modPort_self]
  rfl

theorem State.delayShown_shows (s : State) (p : Nat) : (s.delayShown p).rd NL.NL_DELAY_ONE_WAY p =
    (delayMean (s.port p).probes).toNat % 2 ^ 16 ∧ (s.delayShown p).rd NL.NL_DELAY_VALID p = 1 := by
  rw [State.delayShown, State.modPort_rd, State.modPort_rd, State.rd_wr_apart _ (by decide), State.rd_wr_self, State.rd_wr_self]
  exact ⟨rfl, rfl⟩

theorem State.rd_delayShown (s : State) (p : Nat) {r : Row} (apartO : NL.NL_DELAY_ONE_WAY.apart r = true)
    (apartV : NL.NL_DELAY_VALID.apart r = true) (k : Nat) : (s.delayShown p).rd r k = s.rd r k := by
  rw [State.delayShown, State.modPort_rd, State.rd_wr_apart _ apartV, State.rd_wr_apart _ apartO]

/-- Where the partner of port p is identified, its credits that came before are taken. -/
def State.takeKept (s : State) (p : Nat) (kept : Option (List Byte)) (outcome : Nat) : State :=
  match kept, outcome with
  | some d, _ + 1 => s.linkUp p d
  | _, _ => s

theorem State.takeKept_none (s : State) (p outcome : Nat) : s.takeKept p none outcome = s := by
  cases outcome <;> rfl

section
variable {s : State} {p : Nat} (full : 16 ≤ (s.port p).probes.length) (child : s.isParentPort p = false)
include full child

theorem nlProbesDone_run : exec (.nlProbesDone p) s = .next (if s.nlState p = nlIDENTIFY then
    ((s.delayShown p).sendCtrl p tCTRL recCREDIT).takeKept p (s.port p).keptCredit (s.port p).outcome else s.delayShown p) := by
  have childU : ((s.wr NL.NL_DELAY_ONE_WAY (delayMean (s.port p).probes).toNat p).wr NL.NL_DELAY_VALID 1 p).isParentPort p = false := by
    rw [← child, State.isParentPort, State.isParentPort, State.on_wr_apart _ (by decide), State.on_wr_apart _ (by decide),
      State.rd_wr_apart _ (by decide), State.rd_wr_apart _ (by decide)]
  have state : (s.delayShown p).nlState p = s.nlState p := s.rd_delayShown p (by decide) (by decide) p
  rw [← state]
  show execNlProbesDone p s = _
  unfold execNlProbesDone
  dsimp only
  rw [if_neg (Nat.not_lt.mpr full), childU, if_neg Bool.false_ne_true]
  rfl

theorem nlProbesDone_measures (kept : (s.port p).keptCredit = none) (up : s.boot.fltUp = true) :
    ∃ t, exec (.nlProbesDone p) s = .next t ∧ s.onPort t p [NL.NL_DELAY_ONE_WAY.bit p 0, NL.NL_DELAY_VALID.bit p 0] ∧
      t.rd NL.NL_DELAY_ONE_WAY p = (delayMean (s.port p).probes).toNat % 2 ^ 16 ∧ t.rd NL.NL_DELAY_VALID p = 1 ∧
      (t.port p).probes = [] ∧ s.ctrlDue t p (if s.nlState p = nlIDENTIFY then [(tCTRL, recCREDIT)] else []) := by
  obtain ⟨delay, valid⟩ := s.delayShown_shows p
  have tends := s.delayShown_tends p
  have port := s.delayShown_port p
  refine ⟨_, nlProbesDone_run full child, ?_⟩
  rw [kept, State.takeKept_none]
  by_cases state : s.nlState p = nlIDENTIFY
  · rw [if_pos state, if_pos state]
    refine ⟨(tends.trans (.sendCtrl _ _ _)).onPort up, delay, valid, ?_, ?_⟩
    · rw [State.port_sendCtrl_self, port]
    · rw [State.ctrlDue, State.port_sendCtrl_self, port]
  · rw [if_neg state, if_neg state]
    refine ⟨tends.onPort up, delay, valid, by rw [port], ?_⟩
    rw [State.ctrlDue, port, List.append_nil]

theorem nlProbesDone_comesUp {d : List Byte} (kept : (s.port p).keptCredit = some d) (hp : p < 16) (up : s.boot.fltUp = true)
    (state : s.nlState p = nlIDENTIFY) (met : (s.port p).outcome ≠ 0) (stuck : s.fabric.stuck = []) :
    ∃ t, exec (.nlProbesDone p) s = .next t ∧
      s.comesUp p d t [NL.NL_DELAY_ONE_WAY.bit p 0, NL.NL_DELAY_VALID.bit p 0] ∧
      t.rd NL.NL_DELAY_ONE_WAY p = (delayMean (s.port p).probes).toNat % 2 ^ 16 ∧ t.rd NL.NL_DELAY_VALID p = 1 := by
  obtain ⟨delay, valid⟩ := s.delayShown_shows p
  obtain ⟨n, outcome⟩ := Nat.exists_eq_succ_of_ne_zero met
  have port : ((s.delayShown p).sendCtrl p tCTRL recCREDIT).port p =
      { s.port p with probes := [], ctrl := (s.port p).ctrl ++ [(tCTRL, recCREDIT)] } := by
    rw [State.port_sendCtrl_self, s.delayShown_port p]
  have run : exec (.nlProbesDone p) s = .next (((s.delayShown p).sendCtrl p tCTRL recCREDIT).linkUp p d) := by
    rw [nlProbesDone_run full child, if_pos state, kept, outcome, State.takeKept]
  have upU : ((s.delayShown p).sendCtrl p tCTRL recCREDIT).boot.fltUp = true := up
  have stuckU : ((s.delayShown p).sendCtrl p tCTRL recCREDIT).fabric.stuck = [] := stuck
  have comes := State.linkUp_comesUp hp upU stuckU d
  have shown (r : Row) (apartR : NL.NL_STAT_RESUMED.apart r = true) (apartV : BARRIER.BAR_STAT_RATE_VALID.apart r = true)
      (apartS : NL.NL_STAT_STATE.apart r = true) (far : 1 ≤ r.page) :
      (((s.delayShown p).sendCtrl p tCTRL recCREDIT).linkUp p d).rd r p = (s.delayShown p).rd r p := by
    rw [State.linkUp_eq stuckU, State.rd_setNl (by rw [State.creditIn_frame]; exact up) p _ far apartS]
    refine (State.creditIn_regs _ p d).rd (fun h => ?_)
    simp only [List.mem_cons, List.not_mem_nil, or_false] at h
    exact h.elim (fun e => Row.bit_ne_of_apart apartR _ _ e.symm) (fun e => Row.bit_ne_of_apart apartV _ _ e.symm)
  refine ⟨_, run, State.comesUp_of (u := (s.delayShown p).sendCtrl p tCTRL recCREDIT) rfl (s.delayShown_tends p).reports.regs
    (by rw [port]) (by rw [port]) (by rw [port])
    (s.rd_delayShown p (by decide) (by decide) p) (s.rd_delayShown p (by decide) (by decide) p) comes, ?_, ?_⟩
  · exact (shown _ (by decide) (by decide) (by decide) (by decide)).trans delay
  · exact (shown _ (by decide) (by decide) (by decide) (by decide)).trans valid

end

/-! ### The obligation -/

/-- Settles O24: each step of Table 9-4 by the lemma about its command. -/
theorem portsNegotiate : Obligations.PortsNegotiate := by
  unfold Obligations.PortsNegotiate
  intro s p lanes f hp up
  refine ⟨fun enabled signal => ⟨fun state => ?_, fun state => ?_, fun state => ?_⟩,
    fun d got state => ⟨fun m mode => ?_, fun mode first => ?_⟩,
    fun state => ⟨fun all valid none => nlTrainDone_identifies up state all valid none,
      fun some fresh => nlTrainDone_repeats hp up state some fresh⟩,
    fun d got state sent fresh => ⟨fun quiet own => ?_, fun quiet strange tag => ?_, fun strange tag resumes => ?_,
      fun strange tag not replay stuck => ?_⟩,
    fun d got early => ?_, fun full child kept => nlProbesDone_measures full child kept up,
    fun d got state met valid stuck => nlCreditInit_comesUp hp up got state met valid stuck,
    fun d kept full child state met stuck => nlProbesDone_comesUp full child kept hp up state met stuck,
    fun d got state early => ?_⟩
  · exact ⟨_, nlDetect_run signal enabled state, State.beginNeg_negotiates hp up lanes⟩
  · exact ⟨_, nlFailedRetry_run signal enabled state, State.beginNeg_negotiates hp up lanes⟩
  · exact ⟨_, nlForeignRetry_run signal enabled state, State.beginNeg_negotiates hp up lanes⟩
  · exact ⟨_, nlCapReceive_run_some got state mode, State.modeChosen_trains up _ _ (bestMode_range mode)⟩
  · exact ⟨_, nlCapReceive_run_none got state mode, State.negFail_spec up first⟩
  · obtain ⟨t, run, ⟨moved, shows, was, wasNot⟩, loopback, told⟩ := nlIdentReceive_loopback up got state sent fresh quiet own
    exact ⟨t, run, ⟨moved, shows, was, wasNot⟩, loopback, told⟩
  · obtain ⟨t, run, ⟨moved, shows, was, wasNot⟩, foreign, told⟩ := nlIdentReceive_foreign up got state sent fresh strange quiet tag
    exact ⟨t, run, ⟨moved, shows, was, wasNot⟩, foreign, told⟩
  · exact nlIdentReceive_resumes up got state sent fresh strange tag resumes
  · exact nlIdentReceive_new up got state sent fresh strange tag not replay stuck
  · exact ⟨_, nlIdentReceive_keeps got early, rfl, s.port_modPort_self .., fun q hq => s.port_modPort_ne hq _⟩
  · exact ⟨_, nlCreditInit_keeps got state early, rfl, s.port_modPort_self .., fun q hq => s.port_modPort_ne hq _⟩

end Sys2Proof.Machine
end

section
/-! A full replay buffer is retransmitted (R311), and the token that says so is the part's first error: PF0's vector 2 goes out before the
flit (R116, R284). -/
namespace Sys2Proof.Machine

theorem State.emitFlit_out (s : State) (p seq type cls : Nat) (payload : List Byte) :
    ∃ f, (s.emitFlit p seq type cls payload).out = s.out ++ [.flit p f] := ⟨_, rfl⟩

/-- A port that is UP in a routable part sends the first of the flits that wait to go out again. -/
theorem State.emitUp_again {s : State} {p q : Nat} {g : DataFlit} {rest : List (Nat × DataFlit)} (state : s.nlState p = nlUP)
    (routable : s.routable = true) (again : (s.port p).again = (q, g) :: rest) :
    s.emitUp p = (s.modPort p (fun n => { n with again := rest })).emitFlit p q tDATA g.cls g.data := by
  unfold State.emitUp
  dsimp only
  rw [if_neg (by simp [state]), if_neg (by simp [routable]), again]

/-- Port p sends again what the partner has not acknowledged. -/
def State.resent (s : State) (p : Nat) : State :=
  ((s.modPort p (fun n => { n with again := (s.port p).replay, ackAt := s.ftime, retries := (s.port p).retries + 1 })).count
    NL.NL_CNT_REPLAY p).raise (pgNL p) kREPLAY 0 1

theorem State.retransmit_eq {s : State} {p : Nat} (some : (s.port p).replay ≠ [])
    (few : (s.port p).retries < max 1 (s.port p).cfg.replayMax) : s.retransmit p = s.resent p := by
  unfold State.retransmit
  dsimp only
  rw [if_neg (by simpa using some), if_neg (Nat.not_le.mpr few)]
  rfl

theorem State.fullReplay_eq {s : State} {p : Nat} (again : (s.port p).again = []) (full : 4096 ≤ (s.port p).replay.length)
    (few : (s.port p).retries < max 1 (s.port p).cfg.replayMax) : s.fullReplay p = s.resent p := by
  refine (if_pos ?_).trans (State.retransmit_eq (List.ne_nil_of_length_pos (Nat.lt_of_lt_of_le (by decide) full)) few)
  simp [again, full]

/-- Port 0 is UP in a part in service at level F, its replay buffer full; no error is pending, and PF0's vector 2 is not masked. -/
def crowded : State :=
  { boot := { mainUp := true, fltUp := true }, pins := { perst := false }
    pci := { cfg := [(cfgKey 0 cfgMsix, 2 ^ 31)], msix := [(msiKey 0 2, { mask := false })] }
    regs := [(CHIP.BOOT_STAGE.bit 0 0, 6), (CHIP.SVC_LEVEL_LEVEL.bit 0 0, 4), (CHIP.SVC_LEVEL_NL_UP.bit 0 0, 1),
      (NL.NL_STAT_STATE.bit 0 0, nlUP)]
    nl := [(0, { replay := List.replicate 4096 (0, ⟨clBULK, []⟩) })] }

theorem crowded_port : crowded.port 0 = { replay := List.replicate 4096 (0, ⟨clBULK, []⟩) } := rfl

theorem crowded_full : 4096 ≤ (crowded.port 0).replay.length := by
  rw [crowded_port]
  exact (List.length_replicate ..).ge

/-- The token REPLAY sends vector 2. -/
theorem crowded_resent_out : (crowded.resent 0).out = [.msix 0 2 0 0] := by decide +kernel

theorem crowded_flitTransmit : ∃ t f, exec (.flitTransmit 0) crowded = .next t ∧ t.out = [.msix 0 2 0 0, .flit 0 f] := by
  have again : ((crowded.resent 0).port 0).again = (0, ⟨clBULK, []⟩) :: List.replicate 4095 (0, ⟨clBULK, []⟩) := by
    rw [State.resent, State.port_raise, State.count, State.port_wr, State.port_modPort_self]
    rfl
  have run : exec (.flitTransmit 0) crowded = .next ((crowded.resent 0).emitUp 0) := by
    refine congrArg Host.Outcome.next ((if_pos (by decide +kernel)).trans ?_)
    rw [State.fullReplay_eq rfl crowded_full (by decide +kernel)]
  rw [State.emitUp_again (by decide +kernel) (by decide +kernel) again] at run
  obtain ⟨f, sent⟩ := State.emitFlit_out
    ((crowded.resent 0).modPort 0 (fun n => { n with again := List.replicate 4095 (0, ⟨clBULK, []⟩) })) 0 0 tDATA clBULK []
  exact ⟨_, f, run, by rw [sent, State.modPort_out, crowded_resent_out]; rfl⟩

/-- Refutes O25: where a full replay buffer is retransmitted, what leaves the part is not the flit alone. The token REPLAY makes
HOSTIF.ERR_SUM leave 0, so that PF0's vector 2 goes out before the flit (Table 8-2), while the statement has the flit alone
follow what went out before. -/
theorem not_flitsInAndOut : ¬ Obligations.FlitsInAndOut := by
  unfold Obligations.FlitsInAndOut
  intro h
  obtain ⟨-, -, -, -, -, active, -⟩ := h crowded 0 ⟨[]⟩ (by decide) rfl
  obtain ⟨-, full, -⟩ := active rfl (by decide +kernel) (by decide +kernel)
  obtain ⟨t, run, -, -, -, -, out, -⟩ := full rfl 0 ⟨clBULK, []⟩ (List.replicate 4095 _) rfl crowded_full (by decide +kernel)
  obtain ⟨t', f, run', out'⟩ := crowded_flitTransmit
  rw [run'] at run
  have none : crowded.out = [] := rfl
  rw [← Host.Outcome.next.inj run, out', none] at out
  exact absurd (congrArg List.length out) (by simp)

end Sys2Proof.Machine
end

section
/-! Lanes and width (R312 to R314): a lane is fenced, a WIDTH record narrows the link, RETRAIN ends, and HOST unfences lanes. -/
namespace Sys2Proof.Machine

/-! ### The lanes a port can use -/

theorem bit_usableLanes (s : State) (p : Nat) {m : Nat} (h : m < 4) : bit (s.usableLanes p) m =
    (bit (s.port p).cfg.lanes m && !bit (s.port p).fenced m && bit (s.port p).signal m && !bit (s.port p).failed m) := by
  have zero : bit 0 m = false := by simp [bit]
  rw [State.usableLanes, ← List.foldl_filter, bit_foldl_setBit, zero, Bool.false_or, Bool.eq_iff_iff, decide_eq_true_eq, List.mem_filter]
  simp [h]

/-! ### A lane is fenced while others are usable (R312) -/

theorem fecCount_ne {l : Nat} (hl : l < 4) (p : Nat) {r : Row} (low : (r.off * 8 + r.lo) % 0x8000 < 1024) (k : Nat) :
    NL.NL_FEC_CE_COUNT.bit p l ≠ r.bit k 0 := by
  simp only [Row.bit, NL.NL_FEC_CE_COUNT]
  omega

/-- A lane's fence bit is set, with its count of corrected symbols, before the token goes out. -/
def State.fenceMarked (s : State) (p l n : Nat) : State :=
  ((s.addSat NL.NL_FEC_CE_COUNT n p l).wr NL.NL_LANE_FENCED (setBit (s.rd NL.NL_LANE_FENCED p) l) p).modPort p
    (fun n => { n with fenced := setBit n.fenced l })

section
variable {s : State} {p l n : Nat} (hl : l < 4)

theorem State.fenceMarked_port (s : State) (p l n : Nat) :
    (s.fenceMarked p l n).port p = { s.port p with fenced := setBit (s.port p).fenced l } := by
  rw [State.fenceMarked, State.port_modPort_self]
  rfl

include hl

theorem State.fenceMarked_tends : s.Tends p [NL.NL_LANE_FENCED.bit p 0, NL.NL_FEC_CE_COUNT.bit p l, HDR.BLK_ERR.bit (pgNL p) 0]
    (s.fenceMarked p l n) :=
  ((State.Tends.wr s _ (by simp) (Row.le_bit (by decide) p l) (fun q _ => fecCount_ne hl p (by decide) q)).trans
    (.wrApart _ p _ (by simp) (by decide) (by decide))).trans (.modPort _ _)

theorem State.fenceLane_eq : (s.addSat NL.NL_FEC_CE_COUNT n p l).fenceLane p l =
    (s.fenceMarked p l n).raise (pgNL p) kLANE_FENCED 0 l := by
  have same : (s.addSat NL.NL_FEC_CE_COUNT n p l).rd NL.NL_LANE_FENCED p = s.rd NL.NL_LANE_FENCED p :=
    s.rd_wr_ne _ _ _ _ _ _ _ (fecCount_ne hl p (by decide) p)
  rw [State.fenceLane, same]
  rfl

theorem State.rd_fenceMarked {r : Row} (low : (r.off * 8 + r.lo) % 0x8000 < 1024) (apart : NL.NL_LANE_FENCED.apart r = true) :
    (s.fenceMarked p l n).rd r p = s.rd r p := by
  rw [State.fenceMarked, State.modPort_rd, State.rd_wr_apart _ apart]
  exact s.rd_wr_ne _ _ _ _ _ _ _ (fecCount_ne hl p low p)

theorem laneFence_run (up : s.boot.fltUp = true) (link : s.nlUp p = true) (clear : bit (s.rd NL.NL_LANE_FENCED p) l = false)
    (used : bit (s.rd NL.NL_STAT_LANES_USED p) l = true) (left : (s.fenceMarked p l n).usableLanes p ≠ 0) :
    exec (.laneFence p l n) s = .next ((((s.fenceMarked p l n).raise (pgNL p) kLANE_FENCED 0 l).sendWidth p).modPort p
      (fun n => { n with widthOwed := n.widthOwed + 1 })) := by
  have upM : (s.fenceMarked p l n).boot.fltUp = true := up
  have usedM : ((s.fenceMarked p l n).raise (pgNL p) kLANE_FENCED 0 l).rd NL.NL_STAT_LANES_USED p = s.rd NL.NL_STAT_LANES_USED p :=
    (State.rd_raise upM _ _ _ _ (by decide) p).trans (State.rd_fenceMarked hl (by decide) (by decide))
  have leftM : ((s.fenceMarked p l n).raise (pgNL p) kLANE_FENCED 0 l).usableLanes p ≠ 0 := by
    rwa [State.usableLanes, State.port_raise]
  refine congrArg Host.Outcome.next ((if_neg (by simp [link, hl, clear])).trans ?_)
  dsimp only
  rw [State.fenceLane_eq hl, usedM, if_neg (by simp [used]), if_neg leftM]

theorem laneFence_sendsWidth (up : s.boot.fltUp = true) (link : s.nlUp p = true) (clear : bit (s.rd NL.NL_LANE_FENCED p) l = false)
    (used : bit (s.rd NL.NL_STAT_LANES_USED p) l = true) (other : ∃ m, m < 4 ∧ m ≠ l ∧ bit (s.usableLanes p) m = true) :
    ∃ t, exec (.laneFence p l n) s = .next t ∧
      s.onPort t p [NL.NL_LANE_FENCED.bit p 0, NL.NL_FEC_CE_COUNT.bit p l, HDR.BLK_ERR.bit (pgNL p) 0] ∧
      (∀ m, m < 4 → bit (t.rd NL.NL_LANE_FENCED p) m = (decide (m = l) || bit (s.rd NL.NL_LANE_FENCED p) m)) ∧
      (t.port p).widthOwed = (s.port p).widthOwed + 1 ∧ s.ctrlDue t p [(tCTRL, recWIDTH (t.usableLanes p))] ∧
      s.told t (tokOf (pgNL p) kLANE_FENCED 0 l) := by
  obtain ⟨m, hm, ne, usable⟩ := other
  have port := s.fenceMarked_port p l n
  have left : (s.fenceMarked p l n).usableLanes p ≠ 0 := by
    intro none
    have still : bit ((s.fenceMarked p l n).usableLanes p) m = bit (s.usableLanes p) m := by
      rw [bit_usableLanes _ p hm, bit_usableLanes _ p hm, port]
      exact congrArg (fun b => _ && !b && _ && _) (bit_setBit_ne _ ne.symm)
    rw [none, usable] at still
    exact absurd still (by simp [bit])
  have tends := State.fenceMarked_tends (s := s) (p := p) (n := n) hl
  have upM := tends.fltUp up
  have after : ((s.fenceMarked p l n).raise (pgNL p) kLANE_FENCED 0 l).Tends p
      [NL.NL_LANE_FENCED.bit p 0, NL.NL_FEC_CE_COUNT.bit p l, HDR.BLK_ERR.bit (pgNL p) 0]
      ((((s.fenceMarked p l n).raise (pgNL p) kLANE_FENCED 0 l).sendWidth p).modPort p
        (fun n => { n with widthOwed := n.widthOwed + 1 })) := (State.Tends.sendCtrl _ _ _).trans (.modPort _ _)
  refine ⟨_, laneFence_run hl up link clear used left, ((tends.trans (.raise upM (by simp))).trans after).onPort up, fun m hm => ?_,
    ?_, ?_, State.told_raise tends.reports up after.reports⟩
  · have shown : (s.fenceMarked p l n).rd NL.NL_LANE_FENCED p = setBit (s.rd NL.NL_LANE_FENCED p) l % 2 ^ 4 := by
      rw [State.fenceMarked, State.modPort_rd, State.rd_wr_self]
      rfl
    rw [State.modPort_rd, State.sendWidth, State.rd_sendCtrl, State.rd_raise upM _ _ _ _ (by decide), shown, bit_mod_two_pow,
      decide_eq_true hm, Bool.true_and, bit_setBit, Bool.or_comm]
  · rw [State.port_modPort_self, State.sendWidth, State.port_sendCtrl_self, State.port_raise, port]
  · rw [State.ctrlDue, State.usableLanes, State.port_modPort_self, State.sendWidth, State.port_sendCtrl_self, State.usableLanes,
      State.port_raise, port]

end

/-! ### A WIDTH record (R313) -/

/-- What a header's ACK and credits change is the record of its port. -/
theorem State.linkHeader_tends (s : State) (p : Nat) (f : List Byte) {K : List Nat} : s.Tends p K (s.linkHeader p f) := .modPort s _

/-- The partner's WIDTH record is in, with the lanes it can use: the port's own goes out where none of it waited for an answer. -/
def State.widthIn (s : State) (p : Nat) (f : Flit) (d : List Byte) : State :=
  let u := (s.linkHeader p f.bytes).modPort p (fun n => { n with
    partnerLanes := leAt d 1 1 % 16, widthOwed := (s.port p).widthOwed - 1 })
  if (s.port p).widthOwed = 0 then u.sendWidth p else u

section
variable (s : State) (p : Nat) (f : Flit) (d : List Byte)

theorem State.widthIn_tends {K : List Nat} : s.Tends p K (s.widthIn p f d) := by
  have noted : s.Tends p K ((s.linkHeader p f.bytes).modPort p (fun n => { n with
      partnerLanes := leAt d 1 1 % 16, widthOwed := (s.port p).widthOwed - 1 })) := (s.linkHeader_tends p f.bytes).trans (.modPort _ _)
  unfold State.widthIn
  dsimp only
  split
  · exact noted.trans (.sendCtrl _ _ _)
  · exact noted

theorem State.widthIn_rd (r : Row) (k : Nat) : (s.widthIn p f d).rd r k = s.rd r k := by
  unfold State.widthIn
  dsimp only
  split <;> rfl

theorem State.widthIn_usable : (s.widthIn p f d).usableLanes p = s.usableLanes p := by
  unfold State.widthIn State.sendWidth
  dsimp only
  split <;> simp only [State.usableLanes, State.port_sendCtrl_self, State.port_modPort_self, State.linkHeader]

theorem State.widthIn_lanes : ((s.widthIn p f d).port p).partnerLanes = leAt d 1 1 % 16 := by
  unfold State.widthIn State.sendWidth
  dsimp only
  split <;> simp only [State.port_sendCtrl_self, State.port_modPort_self]

theorem State.widthIn_owed : ((s.widthIn p f d).port p).widthOwed = (s.port p).widthOwed - 1 := by
  unfold State.widthIn State.sendWidth
  dsimp only
  split <;> simp only [State.port_sendCtrl_self, State.port_modPort_self]

theorem State.widthIn_ctrl : ((s.widthIn p f d).port p).ctrl =
    (s.port p).ctrl ++ if (s.port p).widthOwed = 0 then [(tCTRL, recWIDTH (s.usableLanes p))] else [] := by
  unfold State.widthIn State.sendWidth
  dsimp only
  split
  · simp only [State.usableLanes, State.port_sendCtrl_self, State.port_modPort_self, State.linkHeader]
  · simp only [State.port_modPort_self, State.linkHeader, List.append_nil]

end

theorem widthReceive_run {s : State} {p : Nat} {f : Flit} {d : List Byte} (got : ctrlOf f 0x04 = some d) (link : s.nlUp p = true) :
    exec (.widthReceive p f) s = .next ((s.widthIn p f d).narrowLink p) := by
  show execWidthReceive p f s = _
  unfold execWidthReceive
  rw [got, link]
  rfl

/-- NL_STAT shows a link narrowed to w lanes of a mask. -/
def State.widthShown (s : State) (p mask w : Nat) : State :=
  (s.wr NL.NL_STAT_WIDTH (widthCode w) p).wr NL.NL_STAT_LANES_USED mask p

theorem State.narrowLink_eq {s : State} {p : Nat} {m : Nat × Nat}
    (mode : bestMode (2 ^ s.rd NL.NL_STAT_RATE p) (Nat.land (s.usableLanes p) (s.port p).partnerLanes) = some m) :
    s.narrowLink p = (((s.widthShown p (lowestLanes (Nat.land (s.usableLanes p) (s.port p).partnerLanes) m.2) m.2).setNl p nlRETRAIN).raise
      (pgNL p) kWIDTH_DEGRADED 0 (lowestLanes (Nat.land (s.usableLanes p) (s.port p).partnerLanes) m.2)) := by
  unfold State.narrowLink
  dsimp only
  rw [mode]
  rfl

theorem widthReceive_narrows {s : State} {p : Nat} {f : Flit} {d : List Byte} (up : s.boot.fltUp = true)
    (got : ctrlOf f 0x04 = some d) (link : s.nlUp p = true) {m : Nat × Nat}
    (mode : bestMode (2 ^ s.rd NL.NL_STAT_RATE p) (Nat.land (s.usableLanes p) (leAt d 1 1 % 16)) = some m) :
    ∃ t, exec (.widthReceive p f) s = .next t ∧
      s.onPort t p [NL.NL_STAT_STATE.bit p 0, NL.NL_STAT_WIDTH.bit p 0, NL.NL_STAT_LANES_USED.bit p 0, HDR.BLK_ERR.bit (pgNL p) 0] ∧
      t.nlState p = nlRETRAIN ∧ t.rd NL.NL_STAT_WIDTH p = widthCode m.2 ∧
      t.rd NL.NL_STAT_LANES_USED p = lowestLanes (Nat.land (s.usableLanes p) (leAt d 1 1 % 16)) m.2 ∧
      (t.port p).widthOwed = (s.port p).widthOwed - 1 ∧
      (t.routable = s.routable → s.ctrlDue t p (if (s.port p).widthOwed = 0 then [(tCTRL, recWIDTH (s.usableLanes p))] else [])) ∧
      s.told t (tokOf (pgNL p) kWIDTH_DEGRADED 0 (lowestLanes (Nat.land (s.usableLanes p) (leAt d 1 1 % 16)) m.2)) := by
  have modeIn : bestMode (2 ^ (s.widthIn p f d).rd NL.NL_STAT_RATE p)
      (Nat.land ((s.widthIn p f d).usableLanes p) ((s.widthIn p f d).port p).partnerLanes) = some m := by
    rw [State.widthIn_rd, State.widthIn_usable, State.widthIn_lanes, mode]
  have run := (widthReceive_run got link).trans (congrArg Host.Outcome.next (State.narrowLink_eq modeIn))
  rw [State.widthIn_usable, State.widthIn_lanes] at run
  generalize hw : lowestLanes (Nat.land (s.usableLanes p) (leAt d 1 1 % 16)) m.2 = mask at *
  have maskLt : mask < 2 ^ 4 := hw ▸ lowestLanes_lt _ _
  have noted : s.Tends p [NL.NL_STAT_STATE.bit p 0, NL.NL_STAT_WIDTH.bit p 0, NL.NL_STAT_LANES_USED.bit p 0,
      HDR.BLK_ERR.bit (pgNL p) 0] ((s.widthIn p f d).widthShown p mask m.2) :=
    ((s.widthIn_tends p f d).trans (.wrApart _ p _ (by simp) (by decide) (by decide))).trans
      (.wrApart _ p _ (by simp) (by decide) (by decide))
  have port : ((s.widthIn p f d).widthShown p mask m.2).port p = (s.widthIn p f d).port p := rfl
  have width : ((s.widthIn p f d).widthShown p mask m.2).rd NL.NL_STAT_WIDTH p = widthCode m.2 := by
    rw [State.widthShown, State.rd_wr_apart _ (by decide), State.rd_wr_self]
    exact Nat.mod_eq_of_lt (widthCode_lt (bestMode_range mode).2)
  have lanes : ((s.widthIn p f d).widthShown p mask m.2).rd NL.NL_STAT_LANES_USED p = mask := by
    rw [State.widthShown, State.rd_wr_self]
    exact Nat.mod_eq_of_lt maskLt
  generalize (s.widthIn p f d).widthShown p mask m.2 = u at *
  have upU := noted.fltUp up
  have upR : (u.setNl p nlRETRAIN).boot.fltUp = true := (u.setNl_fltUp p _).trans upU
  have raised : (u.setNl p nlRETRAIN).Tends p [NL.NL_STAT_STATE.bit p 0, NL.NL_STAT_WIDTH.bit p 0, NL.NL_STAT_LANES_USED.bit p 0,
      HDR.BLK_ERR.bit (pgNL p) 0] ((u.setNl p nlRETRAIN).raise (pgNL p) kWIDTH_DEGRADED 0 mask) := .raise upR (by simp)
  refine ⟨_, run, noted.onPort_setNl raised up (by simp), ?_, ?_, ?_, ?_, fun same => ?_, ?_⟩
  · exact (State.rd_raise upR _ _ _ _ (by decide) p).trans (State.setNl_nlState upU p (by decide))
  · rw [State.rd_raise upR _ _ _ _ (by decide), State.rd_setNl upU p _ (by decide) (by decide), width]
  · rw [State.rd_raise upR _ _ _ _ (by decide), State.rd_setNl upU p _ (by decide) (by decide), lanes]
  · rw [State.port_raise, State.setNl_port_eq upU, port, ← s.widthIn_owed p f d]
  · have level : (u.setNl p nlRETRAIN).routable = u.routable := raised.level.symm.trans (same.trans noted.level.symm)
    rw [State.ctrlDue, State.port_raise, State.setNl_port_same upU _ _ _ level, port, State.widthIn_ctrl]
  · exact State.told_raise ((noted.reports.mono (fun _ _ => trivial)).trans (.setNl u p _)) up (.refl (K := fun _ => True) _)

/-! ### RETRAIN ends (R313, R317) -/

theorem retrainDone_ends {s : State} {p : Nat} (up : s.boot.fltUp = true) (state : s.nlState p = nlRETRAIN) :
    ∃ t, exec (.retrainDone p) s = .next t ∧ s.onPort t p [NL.NL_STAT_STATE.bit p 0] ∧
      t.nlState p = nlUP ∧ (t.port p).replay = (s.port p).replay ∧ (t.port p).credit = (s.port p).credit ∧
      (t.routable = s.routable → s.ctrlDue t p probeRound) := by
  have probes := (s.setNl p nlUP).startProbes_tends p (K := [NL.NL_STAT_STATE.bit p 0])
  refine ⟨_, congrArg Host.Outcome.next (if_pos state), (State.Tends.refl s).onPort_setNl probes up (by simp), ?_, ?_, ?_,
    fun same => ?_⟩
  · exact (State.rd_of_find (by rw [State.startProbes_regs])).trans (State.setNl_nlState up p (by decide))
  · rw [State.startProbes_port, State.setNl_port_eq up]
  · rw [State.startProbes_port, State.setNl_port_eq up]
  · rw [State.ctrlDue, State.startProbes_port, State.setNl_port_same up _ _ _ (probes.level.symm.trans same)]

/-! ### HOST unfences lanes (R314) -/

/-- The fields that the word of NL_LANE covers. -/
theorem covered_nlLane {p : Nat} (hp : p < 16) :
    covered (pgNL p) 0x68 4 = [⟨NL.NL_LANE_FENCED, p, 0, 836⟩, ⟨NL.NL_LANE_LOCKED, p, 0, 832⟩] :=
  (by decide : ∀ p < 16, covered (pgNL p) 0x68 4 = [⟨NL.NL_LANE_FENCED, p, 0, 836⟩, ⟨NL.NL_LANE_LOCKED, p, 0, 832⟩]) p hp

theorem State.mayWrite_locked (s : State) (a : Authority) : s.mayWrite a NL.NL_LANE_LOCKED = false := by
  cases a <;> rfl

/-- Writing 1 to fence bits clears them. -/
theorem newFenced_bit {old lanes l : Nat} (hold : old < 16) (hl : l < 4) :
    bit (newFieldValue .rw1c false old (lanes % 16) 15 % 2 ^ 4) l = (bit old l && !bit lanes l) := by
  have low : bit lanes l = bit (lanes % 2 ^ 4) l := by rw [bit_mod_two_pow, decide_eq_true hl, Bool.true_and]
  have small : ∀ x < 16, ∀ y < 16, ∀ l < 4, bit (newFieldValue .rw1c false x y 15 % 2 ^ 4) l = (bit x l && !bit y l) := by
    decide +kernel
  rw [low]
  exact small old hold (lanes % 16) (Nat.mod_lt _ (by decide)) l hl

theorem State.writeFields_nlLane {s : State} {a : Authority} {p : Nat} (hp : p < 16) (may : s.mayWrite a NL.NL_LANE_FENCED = true)
    (lanes : Nat) : s.writeFields a (offNl p 0x68) 4 (lanes % 16 * 16) =
      s.wr NL.NL_LANE_FENCED (newFieldValue .rw1c false (s.rd NL.NL_LANE_FENCED p) (lanes % 16) 15) p := by
  have page : offNl p 0x68 / 4096 = pgNL p := by simp only [offNl]; omega
  have off : offNl p 0x68 % 4096 = 0x68 := by simp only [offNl]; omega
  have wide : lanes % 16 * 16 % 2 ^ (8 * 4) * 2 ^ (0x68 * 8) / 2 ^ 836 % 2 ^ 4 = lanes % 16 := by
    omega
  have mask : (2 ^ (8 * 4) - 1) * 2 ^ (0x68 * 8) / 2 ^ 836 % 2 ^ 4 = 15 := by omega
  rw [State.writeFields, page, off, covered_nlLane hp]
  show ((s.writeField a (pgNL p) 0x68 4 (lanes % 16 * 16) ⟨NL.NL_LANE_FENCED, p, 0, 836⟩).writeField a (pgNL p) 0x68 4
    (lanes % 16 * 16) ⟨NL.NL_LANE_LOCKED, p, 0, 832⟩) = _
  rw [State.writeField, if_pos (by rw [State.mayWrite_locked]; rfl), State.writeField, if_neg (by simp [may])]
  dsimp only
  have width : NL.NL_LANE_FENCED.width = 4 := rfl
  rw [width, wide, mask]
  rfl

theorem nlLaneUnfence_clears {s : State} {a : Authority} {p : Nat} (hp : p < 16) (lanes : Nat)
    (lets : s.lets a (offNl p 0x68) 4 NL.NL_LANE_FENCED) (small : s.rd NL.NL_LANE_FENCED p < 16) :
    ∃ t, exec (.nlLaneUnfence a p lanes) s = .next t ∧ t = { s with regs := t.regs } ∧
      (∀ l, l < 4 → bit (t.rd NL.NL_LANE_FENCED p) l = (bit (s.rd NL.NL_LANE_FENCED p) l && !bit lanes l)) ∧
      s.regsBut t [NL.NL_LANE_FENCED.bit p 0] := by
  refine ⟨_, congrArg Host.Outcome.next ((State.gated_eq_of_lets lets _).trans (State.writeFields_nlLane hp lets.2.1 lanes)), rfl,
    fun l hl => ?_, State.regsBut_wr s (by simp)⟩
  rw [State.rd_wr_self]
  exact newFenced_bit small hl

end Sys2Proof.Machine
end

section
/-! HOLD and its retry timer (R306, R315), ROUTE_STATE (R308), and the delay probes with their replies (R317, R340). -/
namespace Sys2Proof.Machine

/-! ### HOLD (R315) -/

/-- The record of a port that loses its link, or its negotiation. -/
def NlPort.held (n : NlPort) (wasUp : Bool) (ftime : Nat) : NlPort :=
  { n with
    retryFrom := some (n.retryFrom.getD ftime), resumable := n.resumable || wasUp, again := [], failed := 0, identSent := false
    identDue := false, keptIdent := none, keptCredit := none, retries := 0, outcome := 0, widthOwed := 0, probes := [] }

/-- The part after port p came into HOLD, before the token goes out. -/
def State.holdMarked (s : State) (p : Nat) : State :=
  ((s.setNl p nlHOLD).wr NL.NL_DELAY_VALID 0 p).modPort p (fun n => n.held (s.nlUp p) s.ftime)

theorem State.enterHold_eq {s : State} {p : Nat} (on : s.nlState p ≠ nlOFF) (out : s.nlState p ≠ nlHOLD) :
    s.enterHold p = (s.holdMarked p).raise (pgNL p) kLINK_HOLD 0 ((s.holdMarked p).rd NL.NL_STAT_P_PART p) := by
  have time : ((s.setNl p nlHOLD).wr NL.NL_DELAY_VALID 0 p).ftime = s.ftime := s.setNl_ftime p _
  unfold State.enterHold
  rw [if_neg (by simp [on, out])]
  dsimp only
  rw [time]
  rfl

/-- A port at work loses its link after registers of its own changed. -/
theorem State.enterHold_linkHeld {s u : State} {p : Nat} {keys : List Nat} (hp : p < 16) (up : s.boot.fltUp = true)
    (before : s.Tends p ([NL.NL_STAT_STATE.bit p 0, NL.NL_DELAY_VALID.bit p 0, HDR.BLK_ERR.bit (pgNL p) 0] ++ keys) u)
    (port : u.port p = s.port p) (state : u.nlState p = s.nlState p) (part : u.rd NL.NL_STAT_P_PART p = s.rd NL.NL_STAT_P_PART p)
    (on : s.nlState p ≠ nlOFF) (out : s.nlState p ≠ nlHOLD) : s.linkHeld (u.enterHold p) p keys := by
  have upU := before.fltUp up
  have time : u.ftime = s.ftime := by rw [before.frame up]
  have marked : (u.setNl p nlHOLD).Tends p ([NL.NL_STAT_STATE.bit p 0, NL.NL_DELAY_VALID.bit p 0, HDR.BLK_ERR.bit (pgNL p) 0] ++ keys)
      (u.holdMarked p) := (State.Tends.wrApart _ p _ (by simp) (by decide) (by decide)).trans (.modPort _ _)
  have upM : (u.holdMarked p).boot.fltUp = true := marked.fltUp ((u.setNl_fltUp p _).trans upU)
  have portM : (u.holdMarked p).port p = (s.port p).held (u.nlUp p) s.ftime := by
    rw [State.holdMarked, State.port_modPort_self, State.port_wr,
      State.setNl_port_down upU p (by decide) (by decide) (by decide), port, time]
  have partM : (u.holdMarked p).rd NL.NL_STAT_P_PART p = s.rd NL.NL_STAT_P_PART p := by
    rw [State.holdMarked, State.modPort_rd, State.rd_wr_apart _ (by decide), State.rd_setNl upU p _ (by decide) (by decide), part]
  have reports : s.Reports (fun _ => True) (u.holdMarked p) := ((before.reports.mono (fun _ _ => trivial)).trans (.setNl u p _)).trans
    (marked.reports.mono (fun _ _ => trivial))
  rw [State.enterHold_eq (by rwa [state]) (by rwa [state]), partM]
  refine ⟨before.onPort_setNl (marked.trans (.raise upM (by simp))) up (by simp), ?_, ?_, ?_, ?_, ?_,
    State.told_raise reports up (.refl (K := fun _ => True) _)⟩
  · refine (State.rd_raise upM _ _ _ _ (by decide) p).trans ((State.rd_wr_apart _ (by decide) ..).trans ?_)
    exact State.setNl_nlState upU p (by decide)
  · rw [State.rd_raise upM _ _ _ _ (by decide), State.holdMarked, State.modPort_rd, State.rd_wr_apart _ (by decide)]
    exact State.setNl_upBit upU hp _
  · rw [State.rd_raise upM _ _ _ _ (by decide), State.holdMarked, State.modPort_rd, State.rd_wr_self]
    rfl
  · rw [State.port_raise, portM]
    rfl
  · rw [State.port_raise, portM]
    rfl

section
variable {s : State} {p : Nat} (hp : p < 16) (up : s.boot.fltUp = true) (on : s.nlState p ≠ nlOFF) (out : s.nlState p ≠ nlHOLD)
include hp up on out

theorem pmaLockLoss_holds : ∃ t, exec (.pmaLockLoss p) s = .next t ∧ s.linkHeld t p [NL.NL_LANE_LOCKED.bit p 0] :=
  ⟨_, congrArg Host.Outcome.next (if_neg on), State.enterHold_linkHeld hp up (.wrApart _ p _ (by simp) (by decide) (by decide)) rfl
    (s.nlState_wr (by decide) ..) (s.rd_wr_apart (by decide) ..) on out⟩

theorem fecAlignLoss_holds : ∃ t, exec (.fecAlignLoss p) s = .next t ∧ s.linkHeld t p [] :=
  ⟨_, rfl, State.enterHold_linkHeld hp up (.refl s) rfl rfl rfl on out⟩

theorem nlReneg_holds {a : Authority} (lets : s.lets a (offNl p 0x40) 4 NL.NL_CFG_RENEG) :
    ∃ t, exec (.nlReneg a p) s = .next t ∧ s.linkHeld t p [] :=
  ⟨_, congrArg Host.Outcome.next (State.gated_of_lets lets _), State.enterHold_linkHeld hp up (.refl s) rfl rfl rfl on out⟩

end

/-! ### The retry timer ends (R306) -/

theorem retryTimerExpire_loses {s : State} {p t0 : Nat} (up : s.boot.fltUp = true) (held : (s.port p).retryFrom = some t0)
    (due : t0 + (s.port p).retryTicks ≤ s.ftime) (fresh : (s.port p).outcome ≠ 1) (replay : (s.port p).replay = [])
    (stuck : s.fabric.stuck = []) : ∃ t, exec (.retryTimerExpire p) s = .next t ∧
      s.onPort t p [FABRIC.ROUTE_GEN_GEN.bit 0 0, HDR.BLK_ERR.bit (pgNL p) 0] ∧ (t.port p).retryFrom = none ∧
      (t.port p).resumable = false ∧ t.rd FABRIC.ROUTE_GEN_GEN = (s.rd FABRIC.ROUTE_GEN_GEN + 1) % 2 ^ 32 ∧
      s.told t (tokOf (pgNL p) kLINK_LOST 0 (s.rd NL.NL_STAT_P_PART p)) := by
  have run : exec (.retryTimerExpire p) s =
      .next ((s.newLink p).raise (pgNL p) kLINK_LOST 0 (s.rd NL.NL_STAT_P_PART p)) := by
    show execRetryTimerExpire p s = _
    unfold execRetryTimerExpire
    dsimp only
    rw [held]
    dsimp only
    rw [if_neg (by simp [Nat.not_lt.mpr due, fresh])]
  have new : s.Tends p [FABRIC.ROUTE_GEN_GEN.bit 0 0, HDR.BLK_ERR.bit (pgNL p) 0] (s.newLink p) := .newLink replay stuck (by simp)
  have upN := new.fltUp up
  refine ⟨_, run, (new.trans (.raise upN (by simp))).onPort up, ?_, ?_, ?_,
    State.told_raise new.reports up (.refl (K := fun _ => True) _)⟩
  · rw [State.port_raise, State.newLink_port replay stuck]
    rfl
  · rw [State.port_raise, State.newLink_port replay stuck]
    rfl
  · rw [State.rd_raise upN _ _ _ _ (by decide), State.newLink_gen replay stuck]

/-! ### ROUTE_STATE (R308) -/

theorem routeStateReceive_notes {s : State} {p : Nat} {f : Flit} {d : List Byte} (up : s.boot.fltUp = true)
    (got : ctrlOf f 0x05 = some d) (link : s.nlUp p = true) (stuck : s.fabric.stuck = []) :
    ∃ t, exec (.routeStateReceive p f) s = .next t ∧ s.onPort t p [NL.NL_STAT_P_ROUTABLE.bit p 0] ∧
      t.rd NL.NL_STAT_P_ROUTABLE p = leAt d 1 1 % 2 := by
  have run : exec (.routeStateReceive p f) s = .next ((s.linkHeader p f.bytes).wr NL.NL_STAT_P_ROUTABLE (leAt d 1 1) p) := by
    show execRouteStateReceive p f s = _
    unfold execRouteStateReceive
    rw [got, link]
    exact congrArg Host.Outcome.next (State.retryStuck_nil stuck)
  exact ⟨_, run, ((s.linkHeader_tends p f.bytes).trans (.wrApart _ p _ (by simp) (by decide) (by decide))).onPort up,
    State.rd_wr_self ..⟩

/-! ### Probes and replies (R317, R340) -/

theorem State.headerUp_frame (s : State) (p : Nat) (f : List Byte) : s.headerUp p f = { s with nl := (s.headerUp p f).nl } := by
  unfold State.headerUp
  split <;> rfl

theorem State.headerUp_port_ne (s : State) {p q : Nat} (h : q ≠ p) (f : List Byte) : (s.headerUp p f).port q = s.port q := by
  unfold State.headerUp
  split
  · exact s.port_modPort_ne h _
  · rfl

theorem State.headerUp_ctrl (s : State) (p : Nat) (f : List Byte) : ((s.headerUp p f).port p).ctrl = (s.port p).ctrl := by
  unfold State.headerUp
  split
  · rw [State.linkHeader, State.port_modPort_self]
  · rfl

theorem State.headerUp_probes (s : State) (p : Nat) (f : List Byte) : ((s.headerUp p f).port p).probes = (s.port p).probes := by
  unfold State.headerUp
  split
  · rw [State.linkHeader, State.port_modPort_self]
  · rfl

theorem probeReceive_replies {s : State} {p : Nat} {f : Flit} (good : flitOk f.bytes = true) (type : flitType f.bytes = tPROBE)
    (on : s.nlState p ≠ nlOFF) (t2 t3 : Nat) :
    ∃ t, exec (.probeReceive p f t2 t3) s = .next t ∧ t = { s with nl := t.nl, draws := s.draws + 1 } ∧
      (∀ q, q ≠ p → t.port q = s.port q) ∧ s.ctrlDue t p [(tPROBE_REPLY, toLE t2 8 ++ toLE t3 8 ++
        toLE ((s.ftime * 128 + Config.free s.draws % 128 + s.rd BARRIER.FT_OFFSET_OFFSET) % 2 ^ 64) 8)] := by
  have frame := s.headerUp_frame p f.bytes
  have others := fun q (hq : q ≠ p) => s.headerUp_port_ne hq f.bytes
  have ctrl := s.headerUp_ctrl p f.bytes
  refine ⟨_, congrArg Host.Outcome.next (if_pos (by simp [good, type, on])), ?_, fun q hq => ?_, ?_⟩
  · generalize s.headerUp p f.bytes = u at *
    rw [frame]
    rfl
  · exact (State.port_sendCtrl_ne _ hq _ _).trans (others q hq)
  · rw [State.ctrlDue, State.port_sendCtrl_self]
    exact congrArg (· ++ _) ctrl

/-- One sample of a round is in, with the moment it came at and the sender's aligned time. -/
def State.sampled (s : State) (p : Nat) (f : List Byte) (e : Int × Nat × Int) : State :=
  (s.headerUp p f).drew.modPort p (fun n => { n with probes := n.probes ++ [e] })

section
variable (s : State) (p : Nat) (f : List Byte) (e : Int × Nat × Int)

theorem State.sampled_frame : s.sampled p f e = { s with nl := (s.sampled p f e).nl, draws := s.draws + 1 } := by
  have frame := s.headerUp_frame p f
  unfold State.sampled
  generalize s.headerUp p f = u at *
  rw [frame]
  rfl

theorem State.sampled_port_ne {q : Nat} (h : q ≠ p) : (s.sampled p f e).port q = s.port q :=
  (State.port_modPort_ne _ h _).trans (s.headerUp_port_ne h f)

theorem State.sampled_probes : ((s.sampled p f e).port p).probes = (s.port p).probes ++ [e] := by
  rw [State.sampled, State.port_modPort_self]
  exact congrArg (· ++ _) (s.headerUp_probes p f)

end

theorem probeReplyReceive_run {s : State} {p : Nat} {f : Flit} (good : flitOk f.bytes = true)
    (type : flitType f.bytes = tPROBE_REPLY) (few : (s.port p).probes.length < 16) (t1 t4 : Nat) :
    let d := flitPayload f.bytes
    let trip : Int := ((t4 : Int) - t1) - ((leAt d 8 8 : Int) - leAt d 0 8)
    let u := s.sampled p f.bytes (trip, s.unitTime, (leAt d 0x10 8 : Int))
    exec (.probeReplyReceive p f t1 t4) s = .next (if s.isParentPort p then
      u.wr BARRIER.FT_OFFSET_OFFSET (ofInt 64 ((leAt d 0x10 8 : Int) + trip / 2 - s.unitTime)) else u) := by
  intro d trip u
  have time : (s.headerUp p f.bytes).unitTime = s.unitTime := by rw [s.headerUp_frame]; rfl
  have parent : u.isParentPort p = s.isParentPort p := by
    have regs : u.regs = s.regs := by rw [show u = _ from s.sampled_frame ..]
    rw [State.isParentPort, State.isParentPort, State.on, State.on, State.rd_of_regs regs, State.rd_of_regs regs]
  rw [← parent]
  refine congrArg Host.Outcome.next ((if_pos (by simp [good, type, few])).trans ?_)
  dsimp only
  rw [time]
  rfl

theorem ofInt_mod (w : Nat) (z : Int) : ofInt w z % 2 ^ w = ofInt w z := by
  refine Nat.mod_eq_of_lt ((Int.toNat_lt' (Nat.two_pow_pos w)).mpr ?_)
  exact Int.emod_lt_of_pos z (by exact_mod_cast Nat.two_pow_pos w)

theorem probeReplyReceive_samples {s : State} {p : Nat} {f : Flit} (good : flitOk f.bytes = true)
    (type : flitType f.bytes = tPROBE_REPLY) (few : (s.port p).probes.length < 16) (t1 t4 : Nat) :
    let d := flitPayload f.bytes
    let trip : Int := ((t4 : Int) - t1) - ((leAt d 8 8 : Int) - leAt d 0 8)
    let own := s.ftime * 128 + Config.free s.draws % 128
    ∃ t, exec (.probeReplyReceive p f t1 t4) s = .next t ∧
      t = { s with nl := t.nl, regs := t.regs, draws := s.draws + 1 } ∧ (∀ q, q ≠ p → t.port q = s.port q) ∧
      (t.port p).probes = (s.port p).probes ++ [(trip, own, (leAt d 0x10 8 : Int))] ∧
      s.regsBut t [BARRIER.FT_OFFSET_OFFSET.bit 0 0] ∧
      (s.isParentPort p = true → t.rd BARRIER.FT_OFFSET_OFFSET = ofInt 64 ((leAt d 0x10 8 : Int) + trip / 2 - own)) ∧
      (s.isParentPort p = false → t.regs = s.regs) := by
  intro d trip own
  refine ⟨_, probeReplyReceive_run good type few t1 t4, ?_⟩
  have frame := s.sampled_frame p f.bytes (trip, s.unitTime, (leAt d 0x10 8 : Int))
  have others := fun q (hq : q ≠ p) => s.sampled_port_ne p f.bytes (trip, s.unitTime, (leAt d 0x10 8 : Int)) hq
  have probes := s.sampled_probes p f.bytes (trip, s.unitTime, (leAt d 0x10 8 : Int))
  generalize s.sampled p f.bytes (trip, s.unitTime, (leAt d 0x10 8 : Int)) = u at *
  have regs : u.regs = s.regs := by rw [frame]
  cases parent : s.isParentPort p with
  | true =>
    rw [if_pos rfl]
    refine ⟨?_, others, probes, fun b hb => ?_, fun _ => ?_, fun h => absurd h (by decide)⟩
    · rw [frame]
      rfl
    · rw [State.find_wr_ne _ (fun e => hb (by simp [e])), regs]
    · rw [State.rd_wr_self]
      exact ofInt_mod 64 _
  | false =>
    rw [if_neg (by decide)]
    exact ⟨by rw [← regs] at frame; exact frame, others, probes, fun b _ => by rw [regs],
      fun h => absurd h (by decide), fun _ => regs⟩

theorem nlProbeTimer_starts {s : State} {p : Nat} (up : s.boot.fltUp = true) (state : s.nlState p = nlUP) :
    ∃ t, exec (.nlProbeTimer p) s = .next t ∧ s.onPort t p [] ∧ (t.port p).probes = [] ∧ s.ctrlDue t p probeRound :=
  ⟨_, congrArg Host.Outcome.next (if_pos state), (s.startProbes_tends p).onPort up, by rw [State.startProbes_port],
    by rw [State.ctrlDue, State.startProbes_port]⟩

/-! ### The obligation -/

/-- Settles O26: each command by the lemma about it. The bytes of a PROBE_REPLY are log 45's, what the retry timer does where a new
negotiation is under way is log 177's, and that LANE_FENCE counts corrected symbols is log 178's. -/
theorem lanesHoldAndProbes : Obligations.LanesHoldAndProbes := by
  unfold Obligations.LanesHoldAndProbes
  intro s p f hp up
  exact ⟨fun l n hl link clear _ used other => laneFence_sendsWidth hl up link clear used other,
    fun d got link m mode => widthReceive_narrows up got link mode,
    fun state => retrainDone_ends up state,
    fun on out => ⟨pmaLockLoss_holds hp up on out, fecAlignLoss_holds hp up on out, fun a lets => nlReneg_holds hp up on out lets⟩,
    fun t0 held due fresh replay stuck => retryTimerExpire_loses up held due fresh replay stuck,
    fun a lanes lets small => nlLaneUnfence_clears hp lanes lets small,
    fun d got link stuck => routeStateReceive_notes up got link stuck,
    fun t2 t3 good type on => probeReceive_replies good type on t2 t3,
    fun t1 t4 good type few => probeReplyReceive_samples good type few t1 t4,
    fun state => nlProbeTimer_starts up state⟩

end Sys2Proof.Machine
end
